-- ==== Sys2Proof/Word.lean ====
section
/-! DEFINITION. The word types of the model: 16-bit core words (R12), octets, and EUI-64s. -/
namespace Sys2Proof

/-- A *word* is 16 bits (00_scope, Notation). -/
abbrev Word := BitVec 16

/-- One octet. -/
abbrev Octet := BitVec 8

/-- A string of octets, in order. -/
abbrev Octets := List Octet

/-- An EUI-64 read as a number, its first octet most significant (R199, R264). -/
abbrev Eui := BitVec 64

/-- The number of a wing, 0 to 7. -/
abbrev WingId := Fin 8

/-- The number of a core register, W0 to W15 (R399). -/
abbrev Reg := Fin 16

end Sys2Proof
end

