-- ==== Sys2Proof/Machine/Types.lean ====
section
/-! DEFINITION. The small closed types of the machine: the names the spec gives to states, modes,
roles and results, and the two containers every block uses. -/
namespace Sys2Proof.Machine

/-- A finite map in canonical form: keys strictly rising, no entry equal to the value an unlisted
key reads as. The operations are in `Machine/Tab.lean`. -/
abbrev Tab (α : Type) := List (Nat × α)

/-- One value for each of the eight wings. -/
structure Oct (α : Type) where
  (a0 a1 a2 a3 a4 a5 a6 a7 : α)
  deriving DecidableEq, Repr

/-- Power modes (R54). -/
inductive PowerMode | line | watch | keep | dark
  deriving DecidableEq, Repr

/-- The line switch of R40: off, waiting out the debounce, ramping GATE, held on, or pulled low by
an overvoltage. -/
inductive LinePhase | off | debounce | ramp | on | overV
  deriving DecidableEq, Repr

/-- Wing states (R15). -/
inductive WingState | reset | boot | stopped | running | faulted
  deriving DecidableEq, Repr

/-- Radio states (R106). -/
inductive RadioState | off | standby | listen | cal | tx
  deriving DecidableEq, Repr

/-- Why the radio is in CAL (R106). -/
inductive CalUse | receiver | synth
  deriving DecidableEq, Repr

/-- Lane states (R83). -/
inductive LaneState | free | seeking | receiving | delivering
  deriving DecidableEq, Repr

/-- Channel classes (R82). -/
inductive ChClass | expected | search | opened | closed
  deriving DecidableEq, Repr

/-- The reset sources of R60, in the bit order of CPU_RESET_CAUSE (R62). -/
inductive ResetSource | domePor | brownout | pin | host | self | watchdog | lockup | thermal | watchEnd
  deriving DecidableEq, Repr

/-- Results of a transmission, in the code order of R126. -/
inductive TxResult | sent | aborted | refusedProfile | refusedChannel | refusedHold | refusedDwell
  | refusedDuty | late | overlap | busyRx | synthFail | cut
  deriving DecidableEq, Repr

/-- What a transmission carries: a frame of the pending table (its place), the beacon, the
acknowledgement of a received frame (its number), or a test. -/
inductive TxWhat | data (id : Nat) | beacon | ack (id : Nat)
  deriving DecidableEq, Repr

/-- Where a transmission stands between its decision point and its return (R113). -/
inductive TxPhase | decided | synthCal | locked | ramping | rampDown
  deriving DecidableEq, Repr

/-- Sync states (R146, R202): the codes of `n:2301.03`. -/
inductive Sync | searching | synced | root | orphaned
  deriving DecidableEq, Repr

/-- The purpose of a slot (R152). -/
inductive Purpose | transmit | listen | idle
  deriving DecidableEq, Repr

/-- Timing states of a neighbour (R177). -/
inductive Timing | normal | adrift | acquire
  deriving DecidableEq, Repr

/-- Twin roles (R34) as ACC_STATUS.ROLE codes them. -/
inductive Role | single | active | standby
  deriving DecidableEq, Repr

/-- Pair states (R255). -/
inductive PairState | none | seeding | dual | degraded
  deriving DecidableEq, Repr

/-- Feran session roles (R266). -/
inductive SRole | observer | operator | keeper | owner
  deriving DecidableEq, Repr

/-- Mailbox states (R456). -/
inductive MbxState | free | locked | full
  deriving DecidableEq, Repr

/-- A party that can hold or send on a mailbox: the wing's core, the port for a session, or the
port relaying for a wing (R456). -/
inductive Party | core | session (s : Nat) | relay (w : Nat)
  deriving DecidableEq, Repr

/-- Line status in flash (R369), with the line whose erase was cut, which reads with any status
(R384): `cut k` carries the draw that its readings depend on. -/
inductive LineStatus | erased | sealed | corrected | torn | uncorrectable | cut (k : Nat)
  deriving DecidableEq, Repr

/-- Cipher results (R492). -/
inductive CphResult | ok | authFail | badJob | access | pageDenied | pageEmpty | usage | aborted | fault | noRoot
  deriving DecidableEq, Repr

/-- States of the core: running, asleep (R425), in debug halt (R432) or locked up (R423). -/
inductive CoreRun | running | asleep | halted | lockup
  deriving DecidableEq, Repr

/-- Applet states (R439). -/
inductive AppletState | none | installed | running | terminated | faulted
  deriving DecidableEq, Repr

/-- The outcome class of the Sequence check (R188). -/
inductive SeqClass | new | duplicate
  deriving DecidableEq, Repr

/-- STATUS codes of Feran (R295). -/
inductive Status | ok | noEntry | readOnly | role | notStopped | locked | busy | badLength | range
  | refused | wingUnavailable | ringFull | intakeClosed | badMessage | noSession | sessionLimit
  | credential | lockout | timeout | notFound | outstanding | notReady | notBlank
  | badFrame | neighbourInvalid | unretiredLimit | journalFull | accessionExhausted
  | epochExhausted | notActive
  deriving DecidableEq, Repr

/-- A realm (R259): a wing's Catalogue, the Dome's or the port's. -/
inductive Realm | wing (w : WingId) | dome | port
  deriving DecidableEq, Repr

/-- A detection as a watcher reports it (R79): its channel and its power in dBm. -/
structure Det where
  ch : Nat
  rssi : Int
  deriving DecidableEq, Repr

/-- The header of a Feran request as it reaches the port (R292, R296): its session, its SEQ, whether its
tag verifies (check 5), and where it came from: source MAC address, IPv6 address and UDP port, and the port's own address and
UDP port (42 octets; empty on SPI). -/
structure Req where
  session : Fin 8
  seq : Nat
  auth : Bool
  peer : Octets
  deriving DecidableEq, Repr

/-- The body of SUBMIT (R304). -/
structure SubmitBody where
  ring : Octet
  neighbour : Word
  maxTries : Octet
  attempts : Octet
  power : Octet
  lanePolicy : Octet
  deadline : Word
  tag : BitVec 32
  frame : Octets
  deriving DecidableEq, Repr

end Sys2Proof.Machine
end

