-- ==== Sys2Proof/Machine/BlocksCore.lean ====
section
/-! DEFINITION. The state of one wing's core, watchdog, pins and applet (13), of its reset logic (02), of
its Docent, rings and mailboxes (14), of its flash (12) and of its cipher engine (15). Each field's
docstring opens with [width; rule @chapter; reset value]. -/
namespace Sys2Proof.Machine

/-- The wing's state and reset logic (R15, R60 to R62). -/
structure WSys where
  /-- [enum; R15 @01; RESET] Wing state. -/
  state : WingState := .reset
  /-- [1; R16 @01; 0] The stop request. -/
  stopReq : Bool := false
  /-- [9; R60 @02; DOME_POR] Asserted reset sources, in the bit order of CPU_RESET_CAUSE. -/
  asserted : BitVec 9 := 1
  /-- [9; R62 @02; DOME_POR] CPU_RESET_CAUSE. -/
  cause : BitVec 9 := 1
  /-- [9; R66 @02; DOME_POR] n:2001.01, CPU_RESET_CAUSE as at the end of the last reset. -/
  causeEnd : BitVec 9 := 1
  /-- [16; R62 @02; 0] CPU_RESET_COUNT. -/
  count : Nat := 0
  /-- [32; R66 @02; 0] n:2001.02 RESET_COUNT, JOURNALED. -/
  lifeResets : Nat := 0
  /-- [32; R277 @08; 0] RESET_COUNT as it was last journaled. -/
  lifeBase : Nat := 0
  /-- [32; R66 @02; 0] n:2002.02 THERMAL_TRIPS, JOURNALED. -/
  trips : Nat := 0
  /-- [32; R277 @08; 0] THERMAL_TRIPS as it was last journaled. -/
  tripBase : Nat := 0
  /-- [32; R66 @02; DESIGN CHOICE 0, log 3] n:2003 BOOT_TIME in us. -/
  bootTime : Nat := 0
  /-- [1; R26 @01; 1: no align has been made] ALIGN_LOST. -/
  alignLost : Bool := true
  /-- [1; R57, R62 @02; 0] WATCH: this wing runs on VBAK. -/
  watch : Bool := false
  deriving DecidableEq, Repr

/-- The core (R399 to R432). -/
structure Core where
  /-- [16 x 16; R399 @13; 0x0000] W0 to W14, and the unused place of W15. -/
  w : Tab Word := []
  /-- [16; R400 @13; 0x0000] The Keeper copy of W15. -/
  kSp : Word := 0
  /-- [16; R400 @13; 0x0000] The applet copy of W15, ASP. -/
  aSp : Word := 0
  /-- [16; R401 @13; 0x0000] ST. -/
  st : Word := 0
  /-- [24; R399, R419 @13; from ROM words 0 and 1] PC. -/
  pc : BitVec 24 := 0
  /-- [10; R33 @01; 0x000] B0.BASE. -/
  b0 : BitVec 10 := 0x000
  /-- [10; R33 @01; 0x040] B1.BASE. -/
  b1 : BitVec 10 := 0x040
  /-- [10; R33 @01; 0x041] B2.BASE. -/
  b2 : BitVec 10 := 0x041
  /-- [10; R33 @01; 0x3FC] B3.BASE. -/
  b3 : BitVec 10 := 0x3FC
  /-- [16; R414, R419 @13; 0x0000] VBASE. -/
  vbase : Word := 0
  /-- [16; R414 @13; DESIGN CHOICE 0, log 3] FADDR. -/
  faddr : Word := 0
  /-- [16; R414 @13; DESIGN CHOICE 0, log 3] FINFO. -/
  finfo : Word := 0
  /-- [16; R414 @13; DESIGN CHOICE 0, log 3] TRAPNUM. -/
  trapnum : Word := 0
  /-- [16; R414 @13; DESIGN CHOICE 0, log 3] SPARE. -/
  spare : Word := 0
  /-- [enum; R423, R425, R432 @13; running] Running, asleep, in debug halt or locked up. -/
  run : CoreRun := .running
  /-- [1; R432 @13; 0] The core slept when it was halted. -/
  wasAsleep : Bool := false
  /-- [24; R438 @13; kept, 0 at Dome power-on] CPU_LOCKUP_PC. -/
  lockupPc : BitVec 24 := 0
  deriving DecidableEq, Repr

/-- The watchdog (R431). -/
structure Wdt where
  /-- [1; R438 @13; 0] EN. -/
  en : Bool := false
  /-- [5; R438 @13; 14] PERIOD. -/
  period : Nat := 14
  /-- [1; R438 @13; 0] SLEEP_RUN. -/
  sleepRun : Bool := false
  /-- [22; R431 @13; 0] LF periods counted since the enable or the last kick. -/
  count : Nat := 0
  /-- [1; R431 @13; 0] The warning of this period has been raised. -/
  warned : Bool := false
  deriving DecidableEq, Repr

/-- The GPIO pins (R437, R438). -/
structure Gpio where
  /-- [6; R437 @13; DESIGN CHOICE 0, log 3] Levels that the outside puts on the pins. -/
  ext : BitVec 6 := 0
  /-- [6; R438 @13; 0] OUT. -/
  out : BitVec 6 := 0
  /-- [6; R438 @13; 0] DIR. -/
  dir : BitVec 6 := 0
  /-- [6; R438 @13; 0] FUNC. -/
  func : BitVec 6 := 0
  /-- [12; R438 @13; 0] PULL. -/
  pull : BitVec 12 := 0
  deriving DecidableEq, Repr

/-- The applet and its windows (R433 to R439). -/
structure Applet where
  /-- [enum; R439 @13; NONE] APPLET_STATE. -/
  state : AppletState := .none
  /-- [24; R438 @13; 0] CPU_APL_CODE_LO. -/
  codeLo : Nat := 0
  /-- [24; R438 @13; 0] CPU_APL_CODE_HI. -/
  codeHi : Nat := 0
  /-- [24; R438 @13; 0] CPU_APL_DATA_LO. -/
  dataLo : Nat := 0
  /-- [24; R438 @13; 0] CPU_APL_DATA_HI. -/
  dataHi : Nat := 0
  /-- [6; R438 @13; 0] CPU_APL_GPIO. -/
  pins : BitVec 6 := 0
  /-- [16; R439 @13; 0] EXIT_CODE. -/
  exitCode : Word := 0
  /-- [8; R439 @13; 0] FAULT_CAUSE. -/
  cause : Nat := 0
  /-- [32; R439 @13; 0] APPLET_VERSION of the installed header. -/
  version : Nat := 0
  /-- [32; R439 @13; 0] CODE_WORDS of the installed header. -/
  codeWords : Nat := 0
  /-- [16; R439 @13; 0] DATA_WORDS of the installed header. -/
  dataWords : Nat := 0
  /-- [32; R433 @13; 0] ENTRY of the installed header. -/
  entry : Nat := 0
  /-- [1; R435 @13; 0] The wing has entered RUNNING with RUN set and the applet has not been started since. -/
  due : Bool := false
  /-- [64; R436 @13; 0] The 64-bit time of the last start. -/
  startAt : Nat := 0
  /-- [64; R435 @13; none] The applet waits in WAIT until this 64-bit time. -/
  waitUntil : Option Nat := none
  /-- [R435 @13; none] The core's registers of an applet that waits: those that its return restores. -/
  saved : Option Core := none
  /-- [1; R436 @13; 0] A fault that RESTART acts on has ended the applet. -/
  restartDue : Bool := false
  /-- [1; R436 @13; 0] A WATCHDOG or LOCKUP reset ended it: no start until RUN is written. -/
  barred : Bool := false
  deriving DecidableEq, Repr

/-- The Docent (R441 to R451, R462). -/
structure Docent where
  /-- [128; R443 @14; 0] Pending bits. -/
  pend : BitVec 128 := 0
  /-- [128; R462 @14; all 1] Mask bits. -/
  mask : BitVec 128 := BitVec.allOnes 128
  /-- [128; R462 @14; all 1] TO_CORE. -/
  toCore : BitVec 128 := BitVec.allOnes 128
  /-- [128; R462 @14; 0] TO_HOST. -/
  toHost : BitVec 128 := 0
  /-- [128; R462 @14; 0] IN_SERVICE. -/
  service : BitVec 128 := 0
  /-- [128; R449 @14; 0] DOC_HOST_PEND. -/
  hostPend : BitVec 128 := 0
  /-- [128 x 8; R443 @14; 0] Arrival counts. -/
  arrivals : Tab Nat := []
  /-- [128 x 3; R462 @14; 0] Priorities. -/
  prio : Tab Nat := []
  deriving DecidableEq, Repr

/-- One ring (R452, R463). -/
structure Ring where
  /-- [24; R455 @14; per ring] BASE. -/
  base : Nat := 0
  /-- [13; R455 @14; per ring] DEPTH. -/
  depth : Nat := 64
  /-- [24; R455 @14; per ring] IBUF, rings 0 to 3. -/
  ibuf : Nat := 0
  /-- [16; R463 @14; 0] PUT. -/
  put : Word := 0
  /-- [16; R463 @14; 0] TAKE. -/
  take : Word := 0
  /-- [16; R463 @14; 0] PASS. -/
  pass : Word := 0
  /-- [1; R463 @14; 0] REFUSED. -/
  refused : Bool := false
  /-- [7 x 16; R452 @14; 0] DOC_RING_IN0 to IN6 as written. -/
  stage : Tab Word := []
  deriving DecidableEq, Repr

/-- One mailbox (R456 to R460, R464). -/
structure Mbx where
  /-- [2; R464 @14; FREE] STATE. -/
  state : MbxState := .free
  /-- [enum; R456 @14; none] The party that holds or sent the message. -/
  party : Option Party := none
  /-- [16 x 16; R464 @14; 0] The payload words. -/
  data : Tab Word := []
  /-- [8; R464 @14; 0x00] MBX_SENDER. -/
  sender : Octet := 0
  /-- [1; R464 @14; 0] ACKED. -/
  acked : Bool := false
  /-- [8; R464 @14; 0x00] ACK_CODE. -/
  code : Octet := 0
  /-- [1; R464 @14; 0] MBX_EVENT.ACK of this mailbox. -/
  ackEvent : Bool := false
  deriving DecidableEq, Repr

/-- One line of flash or of the option area (R369), or of the Tally partition (R378). -/
structure Line where
  /-- [128; R369 @12; all 1] The data, word 0 lowest. -/
  data : BitVec 128 := BitVec.allOnes 128
  /-- [code and tags; R369 @12; ERASED] What the line reads as. -/
  status : LineStatus := .erased
  /-- [4; R378 @12; 0] Program count of a Tally line. -/
  tally : Nat := 0
  deriving DecidableEq, Repr

/-- A flash descriptor (R372). -/
structure FlsDesc where
  /-- [12; R372 @12] OP and word 0 [15:4]. -/
  op : Nat
  /-- [16; R372 @12] TAG. -/
  tag : Word
  /-- [24; R372 @12] FLASH_ADDR. -/
  addr : Nat
  /-- [24; R372 @12] BUF_ADDR. -/
  buf : Nat
  /-- [9; R372 @12] LINES. -/
  lines : Nat
  /-- [model's own, log 42; none] The job of the Curator that it belongs to (R303, R395, R397): the Curator takes its completion itself. -/
  own : Option Nat := none
  /-- [model's own, log 42; empty] The octets of the Curator's buffer that it programs, where they do not stand at BUF_ADDR. -/
  data : Octets := []
  deriving DecidableEq, Repr

/-- Which pulse of a line or sector is in progress (R376, R379). -/
inductive Pulse | intent | data (n : Nat) | seal | erase (n : Nat)
  deriving DecidableEq, Repr

/-- The descriptor in progress (R376, R379). -/
structure FlsRun where
  /-- [R373 @12] The descriptor. -/
  desc : FlsDesc
  /-- [9; R374 @12; 0] LINES_DONE. -/
  done : Nat := 0
  /-- [5; R374 @12; 0] MAX_PULSES. -/
  maxPulses : Nat := 0
  /-- [5; R376 @12] The pulse in progress. -/
  pulse : Pulse := .intent
  deriving DecidableEq, Repr

/-- Descriptors of the Curator whose end answers a request: a STAGE command (R303), or a write of the option area (R395, R397). -/
structure FlsJob where
  /-- [model's own, log 42] Its number. -/
  job : Nat
  /-- [R303 @09; none] Who waits for it, as in `Work.waiting`. -/
  who : Option Nat
  /-- [R303 @09; OK] The first status other than OK. -/
  status : Status := .ok
  deriving DecidableEq, Repr

/-- Where an Archive gap move stands (R386, R387). -/
inductive Move | idle | due | erasing (n : Nat) | copying (line : Nat) | clearing (n : Nat)
  deriving DecidableEq, Repr

/-- The flash controller, the flash and the option area (R368 to R397). -/
structure Flash where
  /-- [1,024 x 256 lines; R368 @12; every line ERASED] Lines by sector x 256 + line. -/
  lines : Tab Line := []
  /-- [1,024 sectors; R384 @12; none] Sectors whose erase was cut, with the number of the cut plus 1. -/
  cut : Tab Nat := []
  /-- [1,024 x 4; R390 @12; none] Signs of wear already told, by sector. -/
  signs : Tab Nat := []
  /-- [512 lines; R391 @12; every line ERASED, as shipped] The option area as stored. -/
  opt : Tab Line := []
  /-- [4,096 x 16; R392 @12; 0xFFFF] The option window as loaded. -/
  window : Tab Word := []
  /-- [1; R394 @12; as loaded: 0] LOCKED. -/
  locked : Bool := false
  /-- [8; R392 @12; as loaded: 0] ERROR_LINES. -/
  optErrors : Nat := 0
  /-- [1,026 x 32; R379 @12; 0] Erase counters; 1,024 and 1,025 are OPT0 and OPT1. -/
  erases : Tab Nat := []
  /-- [1,024 x 1; R379 @12; none] Retired sectors. -/
  retired : List Nat := []
  /-- [492 x 10; R385 @12; position p is sector 528 + p] Archive ring positions by sector. -/
  ring : Tab Nat := []
  /-- [4 x 10; R385 @12; 1,020 to 1,023] Unused spares. -/
  spares : List Nat := [1020, 1021, 1022, 1023]
  /-- [9; R385 @12; 491] GAP. -/
  gap : Nat := 491
  /-- [9; R385 @12; 0] START. -/
  start : Nat := 0
  /-- [32; R386 @12; 0] Archive erase count. -/
  archErases : Nat := 0
  /-- [R386, R387 @12; idle] The gap move. -/
  move : Move := .idle
  /-- [1; R388 @12; 0] Rotation has stopped: the gap failed with no spare left. -/
  noRotation : Bool := false
  /-- [32; R397 @12; 0] ARCHIVE_MOVES. -/
  moves : Nat := 0
  /-- [32 x 128; R372 @12; empty] Descriptors submitted and not yet started. -/
  queue : List FlsDesc := []
  /-- [R303 @09; empty] The Curator's own descriptors that wait for room in the queue. -/
  mine : List FlsDesc := []
  /-- [R303, R395, R397 @12; none] Jobs of the Curator whose answer waits for their descriptors. -/
  jobs : List FlsJob := []
  /-- [model's own, log 42; 0] The number of the next job. -/
  jobNo : Nat := 0
  /-- [R373 @12; none] The descriptor in progress. -/
  run : Option FlsRun := none
  /-- [8 x 16; R374 @12; none] A completion held because ring 13 is full. -/
  held : List (List Word) := []
  /-- [7; R371 @12; 0] FLS_PROTECT. -/
  protect : BitVec 7 := 0
  /-- [1; R396 @12; 0] REFUSED. -/
  refused : Bool := false
  /-- [16; R396 @12; 0] FLS_SUBMIT_LO. -/
  submitLo : Word := 0
  /-- [1; R396 @12; 0] READ_STATUS.CORRECTED. -/
  rdCorrected : Bool := false
  /-- [1; R396 @12; 0] READ_STATUS.TORN. -/
  rdTorn : Bool := false
  /-- [1; R396 @12; 0] READ_STATUS.UNCORRECTABLE. -/
  rdUncorrectable : Bool := false
  /-- [24; R396 @12; 0] FLS_READ_ADDR. -/
  readAddr : Nat := 0
  /-- [10; R396 @12; 0] FLS_SECTOR_SEL. -/
  sel : Nat := 0
  /-- [1; R384 @12; 0] Pulses are blocked by a brown-out or WATCH. -/
  blocked : Bool := false
  deriving DecidableEq, Repr

/-- One page of the cipher engine (R477 to R479). -/
structure Page where
  /-- [256; R477 @15; zeroed] The key. -/
  key : Octets := []
  /-- [3; R492 @15; 0 FREE, pages 0 to 15: 4 LINK] OWNER. -/
  owner : Nat := 0
  /-- [3; R492 @15; 0] SESSION. -/
  session : Nat := 0
  /-- [1; R492 @15; 0] LEN32. -/
  len32 : Bool := false
  /-- [6; R492 @15; 0] USAGE. -/
  usage : BitVec 6 := 0
  /-- [2; R492 @15; EMPTY] STATE. -/
  state : Nat := 0
  /-- [40 octets; R474 @15; none] The label a cache page came from. -/
  label : Octets := []
  deriving DecidableEq, Repr

/-- A job block (R469). -/
structure CphJob where
  /-- [6; R469 @15] OP. -/
  op : Nat := 0
  /-- [2; R469 @15] ON_BEHALF. -/
  behalf : Nat := 0
  /-- [8; R469 @15] PAGE. -/
  page : Nat := 0
  /-- [8; R469 @15] Word 1 [7:0]: TAG_LEN, or OUT_LEN [7:0]. -/
  tagLen : Nat := 0
  /-- [8; R469 @15] NONCE_LEN. -/
  nonceLen : Nat := 0
  /-- [24; R469 @15] IN. -/
  inA : Nat := 0
  /-- [24; R469 @15] OUT. -/
  outA : Nat := 0
  /-- [16; R469 @15] LENGTH. -/
  length : Nat := 0
  /-- [16; R469 @15] AAD_LEN. -/
  aadLen : Nat := 0
  /-- [24; R469 @15] NONCE. -/
  nonceA : Nat := 0
  /-- [24; R469 @15] AUX. -/
  auxA : Nat := 0
  /-- [16; R469 @15] Word 12: DEST_PAGE, START and STEPS, or OUT_LEN [12:8]. -/
  w12 : Nat := 0
  /-- [3; R469 @15] SESSION. -/
  session : Nat := 0
  /-- [1; R469 @15] Word 13 [15:3] and words 14 and 15 are 0. -/
  zeros : Bool := true
  deriving DecidableEq, Repr

/-- A Keeper job that runs, with the key it copied (R480, R482). -/
structure CphRun where
  /-- [R482 @15] The copied block. -/
  job : CphJob
  /-- [256; R480 @15] The copied key. -/
  key : Octets
  deriving DecidableEq, Repr

/-- The cipher engine (15_cipher_engine.md). -/
structure Cipher where
  /-- [64 pages; R477 @15; EMPTY] Pages. -/
  pages : Tab Page := []
  /-- [16 x 6; R474 @15; 0 to 15] Cache pages, least recently used first. -/
  lru : List Nat := List.range 16
  /-- [256; R470 @15; none] The root slot. -/
  root : Option Octets := none
  /-- [32; R470 @15; 0] CPH_ROOT_KCV. -/
  kcv : Octets := [0, 0, 0, 0]
  /-- [16 x 16; R479 @15; 0] Staging. -/
  staging : Tab Word := []
  /-- [6; R492 @15; 0] CPH_PAGE_SEL. -/
  sel : Nat := 0
  /-- [16; R492 @15; 0] CPH_JOB_LO. -/
  jobLo : Word := 0
  /-- [R482 @15; none] The Keeper job that runs (BUSY). -/
  run : Option CphRun := none
  /-- [1; R492 @15; 0] REFUSED. -/
  refused : Bool := false
  /-- [4; R492 @15; 0] CPH_RESULT. -/
  result : CphResult := .ok
  /-- [1; R489 @15; 0] RANDOM_READY. -/
  randReady : Bool := false
  /-- [1; R489 @15; 0] RANDOM_FAIL. -/
  randFail : Bool := false
  deriving DecidableEq, Repr

end Sys2Proof.Machine
end

