-- ==== Sys2Proof/Syntax.lean ====
section
/-! DEFINITION. The commands of the block: one constructor for each row of the table of operations and
events. The table gives no operands and no bits; the operands are what the outside world, the core or
the sender supplies with the step (DESIGN CHOICE, log 1). -/
namespace Sys2Proof
open Sys2Proof.Machine (Req Realm CphJob SubmitBody Party Det)

/-- The commands of the block. -/
inductive Instr
  /-- `PODL_CLASSIFICATION` (R38). The power sourcing equipment's SCCP classification exchange is answered, requesting class 12. -/
  | podlClassification (granted : Octet)
  /-- `LINE_RISE` (R40). The line rises through the start threshold, which starts the 0.5 ms debounce. -/
  | lineRise (mv : Nat)
  /-- `LINE_DEBOUNCE_EXPIRY` (R40). The line has stayed above the start threshold for 0.5 ms, so the GATE ramp begins. -/
  | lineDebounceExpiry
  /-- `GATE_RAMP_COMPLETE` (R41). The GATE ramp completes, GATE is held at the line plus 10 V and the buck soft-starts VINT. -/
  | gateRampComplete
  /-- `LINE_FALL` (R40). The line falls below the stop threshold, GATE is pulled low and any ramp stops. -/
  | lineFall (mv : Nat)
  /-- `LINE_OVERVOLTAGE` (R40). The line rises above 64.0 V and GATE is pulled low within 2 us. -/
  | lineOvervoltage (mv : Nat)
  /-- `OVERVOLTAGE_RELEASE_EXPIRY` (R40). The line has stayed below 62.0 V for 0.5 ms after an overvoltage, so GATE ramps again. -/
  | overvoltageReleaseExpiry (mv : Nat)
  /-- `BOOTSEL_CHANGE` (R520). BOOTSEL[1] changes at its ball while the line is present, and the line-switch thresholds change at once. -/
  | bootselChange (level : BitVec 2)
  /-- `MAIN_GOOD_REPORTED` (R45). VINT has stayed at or above 4.50 V for 1.0 ms, so main good is reported and start-up proceeds. -/
  | mainGoodReported (vbak : Nat)
  /-- `BROWNOUT_BEGIN` (R46). VINT falls below 4.40 V, main good is withdrawn, and the port, radios and flash pulses are shut down. -/
  | brownoutBegin (vbak : Nat) (wild : Bool)
  /-- `BROWNOUT_RESET` (R46). At 300 us after T_B, or when VINT falls below 3.60 V, the port and every wing except a Watch wing enter RESET with cause BROWNOUT. -/
  | brownoutReset (byVint : Bool)
  /-- `RAIL_FAULT` (R43). VIO, VRF or VCORE stays outside its tolerance for more than 10 us and is treated as a brown-out. -/
  | railFault (vbak : Nat) (wild : Bool)
  /-- `VCORE_ADAPT` (R44). In ADAPTIVE mode the Dome moves VCORE to the band that the wings' activity and delay monitors require. -/
  | vcoreAdapt (step : Nat)
  /-- `BACKUP_POR` (R52). The backup POR asserts on VBD and resets the calendar, backup RAM and backup registers, setting OSF. -/
  | backupPor
  /-- `BACKUP_POR_RELEASE` (R52). VBD rises through the POR release and the backup domain starts counting from 2000-01-01. -/
  | backupPorRelease
  /-- `WRITE_FREEZE` (R51). VBD falls below the write-freeze threshold and the backup domain starts refusing writes. -/
  | writeFreeze
  /-- `WRITE_FREEZE_RELEASE` (R51). VBD rises above the write-freeze release and writes are accepted again. -/
  | writeFreezeRelease
  /-- `VBAK_SAMPLE` (R50). The once-per-second sample of the VBAK comparators when main good is not reported. -/
  | vbakSample (mv : Nat)
  /-- `CELL_LOW_CROSSING` (R50). A continuously running VBAK comparator crosses the CELL_LOW or CELL_EMPTY threshold. -/
  | cellLowCrossing (mv : Nat)
  /-- `WATCH_END` (R58). VBAK falls below 2.90 V in WATCH, the Watch wing resets with cause WATCH_END and the device enters KEEP. -/
  | watchEnd
  /-- `RESET_N_ASSERT` (R60). RESET_N held low for 1 us or longer resets every wing, a Watch wing included, and the port. -/
  | resetNAssert
  /-- `RESET_N_RELEASE` (R65). RESET_N is released, letting start-up step 8 proceed. -/
  | resetNRelease
  /-- `RESET_REQUEST` (R60). A Keeper or Owner write of 0xA5C3 to n:2001.03 resets wing n with cause HOST. -/
  | resetRequest (rq : Req) (w : WingId) (value : Word)
  /-- `CPU_SELF_RESET` (R60). A Keeper-mode write of 0xA5C3 to CPU_SELF_RESET resets the wing with cause SELF. -/
  | cpuSelfReset (w : WingId) (value : Word)
  /-- `WING_RESET_RELEASE` (R16). The last asserted reset source of a wing is released after its minimum time, and the wing leaves RESET for BOOT. -/
  | wingResetRelease (w : WingId)
  /-- `BOOT_COMPLETE` (R16). The Curator finishes BOOT and the wing enters RUNNING, or STOPPED if its stop request is set. -/
  | bootComplete (w : WingId) (us : BitVec 32)
  /-- `THERMAL_TRIP` (R61). The junction reading stays at or above 145 C for 100 us; the radio goes OFF and the wing enters FAULTED. -/
  | thermalTrip (w : WingId) (temp : BitVec 16)
  /-- `THERMAL_RECOVERY` (R61). The reading falls below 130 C and the thermal reset source asserts for 10 us. -/
  | thermalRecovery (w : WingId) (temp : BitVec 16)
  /-- `PLL_LOCK` (R319). A wing's PLL locks, starting or re-phasing the timebase and running the VCO band calibration. -/
  | pllLock (w : WingId)
  /-- `PLL_UNLOCK` (R22). A wing's PLL loses lock; the radio goes OFF, the timebase continues from LF and ALIGN_LOST is set. -/
  | pllUnlock (w : WingId)
  /-- `REF_LOST` (R527). No REF_IN edge arrives for 1 us, REF_LOST is set and every wing behaves as for loss of PLL lock. -/
  | refLost
  /-- `STOP_REQUEST` (R283). A write of STOP_REQUEST stops a wing from resolving transmit slots, or returns it from STOPPED to RUNNING. -/
  | stopRequest (rq : Req) (w : WingId) (value : Bool)
  /-- `WING_ENTER_STOPPED` (R283). The transmissions already resolved end and the wing enters STOPPED with its radio in STANDBY. -/
  | wingEnterStopped (w : WingId)
  /-- `PREAMBLE_DETECTION` (R79). A channel watcher reports a detection when its preamble correlation exceeds the noise floor by the margin. -/
  | preambleDetection (w : WingId) (dt : Nat) (ds : List Det)
  /-- `SFD_DETECTED` (R83). A SEEKING lane finds the SFD, or the end of the LTF for OFDM, and passes to RECEIVING. -/
  | sfdDetected (w : WingId) (lane : Fin 16) (coded : Bool) (dt : Nat)
  /-- `SFD_TIMEOUT` (R83). A SEEKING lane's SFD timeout expires and the lane returns to FREE, counted as a false detection. -/
  | sfdTimeout (w : WingId) (lane : Fin 16)
  /-- `PHR_END` (R86). At the end of the PHR a lane checks it and takes a receive buffer, or returns to FREE. -/
  | phrEnd (w : WingId) (lane : Fin 16) (ok : Bool) (modeSwitch : Bool) (length : Nat)
  /-- `FRAME_END` (R88). The last PSDU symbol ends; the lane hands the receive descriptor to the link engine, which makes its header checks. -/
  | frameEnd (w : WingId) (lane : Fin 16) (psdu : Octets) (fcsOk : Bool) (fcs4 : Bool) (mcs : BitVec 3) (freq : Octet) (snr : Octet) (dt : Nat)
  /-- `OVERLOAD_START` (R91). A sub-ADC produces a full-scale code and an overload interval begins. -/
  | overloadStart (w : WingId) (dt : Nat)
  /-- `OVERLOAD_END` (R91). 2 us pass after the last full-scale sample and the overload interval ends. -/
  | overloadEnd (w : WingId)
  /-- `RX_BUF_FREE` (R87). Software returns a receive buffer to the pool by writing its index. -/
  | rxBufFree (w : WingId) (v : Word)
  /-- `RX_CAL_REQ` (R96). A write to RX_CAL_REQ requests a foreground calibration run. -/
  | rxCalReq (w : WingId) (v : Word)
  /-- `CAL_TEMP_TRIGGER` (R96). CPU_TEMP changes by the calibration's temperature trigger and a foreground calibration falls due. -/
  | calTempTrigger (w : WingId) (filter : Bool)
  /-- `CALIBRATION_START` (R98). A due foreground calibration starts in the first gap long enough, with the radio in CAL. -/
  | calibrationStart (w : WingId) (kind : Fin 4)
  /-- `CALIBRATION_COMPLETE` (R99). A calibration ends and its result is applied, or kept and flagged as CAL_FAIL if outside its limit. -/
  | calibrationComplete (w : WingId) (kind : Fin 4) (ok : Bool) (value : Octet)
  /-- `CAL_DEFER_TIMEOUT` (R98). A foreground calibration has waited 60 s; CAL_DEFERRED is set and it takes the next suitable slot. -/
  | calDeferTimeout (w : WingId)
  /-- `CAL_BACKGROUND_UPDATE` (R96). The background image-rejection or offset calibration updates its setting on live signal. -/
  | calBackgroundUpdate (w : WingId) (offs : Bool) (value : Octet)
  /-- `LF_CAL_MEASUREMENT` (R96). The 1 s LF error measurement against REF ends and RX_CAL_LF is updated. -/
  | lfCalMeasurement (w : WingId) (err : Word)
  /-- `RC_COUNTER_READ` (R103). A read of a read-to-clear counter register returns its value and clears it. -/
  | rcCounterRead (w : WingId) (addr : BitVec 24)
  /-- `LOW_WORD_LATCH_READ` (R103). A read of the low word of a multi-word register latches the other words for the same reader. -/
  | lowWordLatchRead (w : WingId) (applet : Bool) (addr : BitVec 24)
  /-- `REGISTER_WRITE` (R31). A write to a register that has no row of its own. -/
  | registerWrite (w : WingId) (applet : Bool) (addr : BitVec 24) (v : Word)
  /-- `RADIO_TRANSITION_DONE` (R107). A radio state transition completes and the new state is in force. -/
  | radioTransitionDone (w : WingId)
  /-- `TX_DECISION_POINT` (R125). At the decision point the request's checks are made in order and, if all pass, the airtime is charged. -/
  | txDecisionPoint (w : WingId)
  /-- `TX_DEPARTURE` (R113). At -T_LEAD the radio leaves LISTEN or STANDBY for CAL, TXPREP is applied and lanes are handled. -/
  | txDeparture (w : WingId)
  /-- `SYNTH_CAL_DONE` (R115). The synthesiser calibration ends; on lock the TX pattern is applied and the radio enters TX, otherwise SYNTH_FAIL. -/
  | synthCalDone (w : WingId) (ok : Bool)
  /-- `TX_RAMP_UP` (R113). The PA ramp-up begins so that the first preamble symbol starts at S. -/
  | txRampUp (w : WingId)
  /-- `TX_LAST_SYMBOL` (R113). The last symbol of the frame ends at E and the ramp-down begins. -/
  | txLastSymbol (w : WingId)
  /-- `TX_RAMP_DOWN_END` (R108). The ramp-down ends, the result is reported and the return transition to the RETURN state begins. -/
  | txRampDownEnd (w : WingId)
  /-- `TX_ABORT` (R116). An abort of the transmission in progress, honoured up to S + ABORT_LIMIT. -/
  | txAbort (w : WingId) (v : Word) (dt : Nat)
  /-- `TX_TEST` (R131). A Keeper write of MODE to TX_TEST starts or stops a CW or PN9 test transmission. -/
  | txTest (w : WingId) (mode : BitVec 2)
  /-- `TEST_BLOCK` (R131). Each 1 ms block of a test transmission is checked against duty and charged before it is sent. -/
  | testBlock (w : WingId)
  /-- `BUCKET_CLOSE` (R128). A one-minute airtime bucket closes, OPEN is added to PENDING and TX_BUCKET is raised. -/
  | bucketClose (w : WingId)
  /-- `BUCKET_JOURNAL` (R130). The Curator journals a closed bucket and writes the amount to TX_LIM_ACK. -/
  | bucketJournal (w : WingId) (sub : Fin 8)
  /-- `TX_LIM_ACK` (R130). A write to TX_LIM_ACK subtracts the journaled amount from PENDING. -/
  | txLimAck (w : WingId) (amount : BitVec 32)
  /-- `DWELL_SUBWINDOW_CLOSE` (R129). A dwell sub-window of a channel closes and the oldest ages out. -/
  | dwellSubwindowClose (w : WingId) (ch : BitVec 9) (sub : Fin 8)
  /-- `BOOT_HOLD_END` (R130). DWELL_WINDOW_S after the first entry to RUNNING, the sub-band's boot hold ends. -/
  | bootHoldEnd (w : WingId) (sub : Fin 8)
  /-- `WATCH_WING_WRITE` (R130). A write of D:1202.01 is passed to the wings concerned, which journal Watch markers before it takes effect. -/
  | watchWingWrite (w : WingId)
  /-- `SLOT_RESOLVE` (R152). At T_S - 2,000 us the link engine resolves the slot into transmit, listen or idle. -/
  | slotResolve (w : WingId)
  /-- `SLOT_BOUNDARY` (R137). A slot boundary is reached; anchor moves, ASN jumps and other pending changes take effect. -/
  | slotBoundary (w : WingId)
  /-- `RADIO_WAKE_LEAD` (R153). The link engine starts the OFF to STANDBY transition 50 us or 52 us ahead of a radio action. -/
  | radioWakeLead (w : WingId)
  /-- `LISTEN_WINDOW_START` (R153). The radio enters LISTEN 10 us before the earliest window of the slot opens. -/
  | listenWindowStart (w : WingId) (dt : Nat)
  /-- `LISTEN_WINDOW_END` (R153). Every window of the slot has closed and no lane is busy, so the radio leaves LISTEN. -/
  | listenWindowEnd (w : WingId) (dt : Nat)
  /-- `TX_DESCRIPTOR_TAKE` (R155). The link engine reads a descriptor from rings 10 to 12 into its pending table when there is room. -/
  | txDescriptorTake (w : WingId) (r : Fin 3)
  /-- `ACK_EVALUATION` (R162). At T0 + ACK_GAP - T_LEAD - 3 us the link engine decides whether to commit the run-ahead acknowledgement. -/
  | ackEvaluation (w : WingId) (id : Word)
  /-- `MIC_CHECK_DONE` (R164). The MIC check of a received frame completes and the frame is committed or rolled back. -/
  | micCheckDone (w : WingId) (id : Word)
  /-- `JOURNAL_CHECK_DONE` (R235). The PARTNER record of a partner frame is journaled, and SEALED received for a DUAL pair. -/
  | journalCheckDone (w : WingId) (id : Word)
  /-- `ACK_CHECK_DEADLINE` (R164). At S + ABORT_LIMIT an acknowledgement whose checks still run is withheld by abort. -/
  | ackCheckDeadline (w : WingId) (id : Word)
  /-- `ACK_RECEIVED` (R158). A valid acknowledgement arrives in the window for the wing's own frame. -/
  | ackReceived (w : WingId)
  /-- `ACK_WINDOW_EXPIRY` (R156). The acknowledgement window closes without a valid acknowledgement; a try is used and the frame retried or NO_ACK. -/
  | ackWindowExpiry (w : WingId)
  /-- `WINDOW_MISS` (R167). An RX_EXPECT window closes without a contact; MISSES rises and the neighbour may become ADRIFT. -/
  | windowMiss (w : WingId) (cell : Fin 4097)
  /-- `RECOVER` (R173). A Keeper write of a neighbour index to RECOVER puts that neighbour into ACQUIRE. -/
  | recover (w : WingId) (nb : BitVec 10)
  /-- `HOP_SEED` (R148). A write of HOP_SEED makes the Curator generate the hop table from the seed. -/
  | hopSeed (rq : Req) (w : WingId) (value : Word)
  /-- `ADMISSION` (R180). The Curator handles an admission candidate in MEMBERS mode and writes a new neighbour record. -/
  | admission (w : WingId)
  /-- `FLOOD_LIMIT_RAISE` (R193). MSH_FLOOD_SEQ comes within 64 of its limit and the Curator journals and raises the limit by 256. -/
  | floodLimitRaise (w : WingId)
  /-- `SEARCH_TIMEOUT` (R203). No beacon is accepted within 8 + 2(p - 1) superframes and an ELIGIBLE or CONFIGURED wing becomes root. -/
  | searchTimeout (w : WingId)
  /-- `ORDER_EXECUTE` (R209). A held order executes at the boundary of its ORDER_ASN, or late at the next boundary. -/
  | orderExecute (w : WingId)
  /-- `BARRIER_CONFIRM` (R213). Once its conditions hold, a wing sends the barrier confirmation to its time parent. -/
  | barrierConfirm (w : WingId)
  /-- `AUTO_STORE` (R184). Every 64 superframes the Curator stores the wing realm's RETAINED entries. -/
  | autoStore (w : WingId)
  /-- `INTAKE_DESCRIPTOR` (R234). The Curator takes an intake descriptor, checks it and accepts or refuses the host item. -/
  | intakeDescriptor (w : WingId)
  /-- `ITEM_COMPLETION` (R237). The Curator acts on a completion of a host item: DONE record, new attempt or failure. -/
  | itemCompletion (w : WingId)
  /-- `JOURNAL_CARRY` (R231). The head comes within 4 sectors of the tail, so live records are carried and the tail sector erased. -/
  | journalCarry (w : WingId)
  /-- `TWIN_BIND` (R246). A BIND relay message makes the standby build, journal and seal the identical ITEM record. -/
  | twinBind (w : WingId)
  /-- `TWIN_RECORD` (R246). A RECORD relay message makes the standby journal a copy of the active's record. -/
  | twinRecord (w : WingId)
  /-- `TWIN_SEALED` (R246). A SEALED relay message tells the active that the standby has journaled the record. -/
  | twinSealed (w : WingId)
  /-- `TWIN_STATE` (R245). A STATE relay message updates a neighbour record in the standby. -/
  | twinState (w : WingId)
  /-- `SEED_BEGIN` (R253). The SEED_BEGIN message starts the seeding of a standby's journal. -/
  | seedBegin (w : WingId)
  /-- `SEED_END` (R253). The SEED_END message ends seeding; the standby returns SEALED and the pair becomes DUAL. -/
  | seedEnd (w : WingId)
  /-- `SEALED_TIMEOUT` (R253). A SEALED message is missing for 20 ms; the pair becomes DEGRADED and the standby is reset. -/
  | sealedTimeout (p : Fin 4)
  /-- `PAIR_FORM` (R243). An Owner write of WING_A and WING_B forms a twin pair. -/
  | pairForm (rq : Req) (p : Fin 4) (a : Octet) (b : Octet)
  /-- `PAIR_DISSOLVE` (R243). Writing 0xFF to both pair fields dissolves the pair while both wings are STOPPED. -/
  | pairDissolve (rq : Req) (p : Fin 4)
  /-- `TWIN_BEAT` (R250). A write of ACC_TWIN_BEAT restarts the beat timeout of a paired wing. -/
  | twinBeat (w : WingId)
  /-- `BEAT_TIMEOUT` (R250). No beat arrives within BEAT_TIMEOUT and the port detects failure of the wing. -/
  | beatTimeout (p : Fin 4) (standby : Bool)
  /-- `TAKEOVER` (R250). The port clears the failed active's token line and sets the standby's, which becomes ACTIVE. -/
  | takeover (p : Fin 4)
  /-- `TOKEN_POWER_ON_CHOICE` (R251). After both wings leave BOOT or 250 ms, the port gives the token by PAIR_GEN. -/
  | tokenPowerOnChoice (p : Fin 4)
  /-- `SWITCH` (R252). A write of SWITCH asks for a planned switch of the active wing. -/
  | switch (rq : Req) (p : Fin 4) (value : Octet)
  /-- `RELEASE_TOKEN` (R252). The active sets RELEASE_TOKEN and the port resets it and proceeds with the takeover. -/
  | releaseToken (w : WingId)
  /-- `SWITCH_TIMEOUT` (R252). No release arrives within 2 superframes of a planned switch, which then proceeds. -/
  | switchTimeout (p : Fin 4)
  /-- `HELLO` (R298). HELLO reserves a session number and returns a device nonce, the credential kind and salt. -/
  | hello (seq : BitVec 32) (cred : Octet) (nonce : Octets) (peer : Octets)
  /-- `OPEN` (R298). OPEN verifies the proof and opens the session under a new session key. -/
  | open_ (rq : Req) (proof : Octets)
  /-- `CLOSE` (R302). CLOSE closes the session, abandoning its transfers and events. -/
  | close (rq : Req)
  /-- `PING` (R294). PING is answered with an empty response. -/
  | ping (rq : Req)
  /-- `READ` (R267). READ returns the value of one Catalogue entry after the checks. -/
  | read (rq : Req) (realm : Realm) (index : Word) (sub : Octet)
  /-- `WRITE` (R268). WRITE stores a value into one Catalogue entry after the checks. -/
  | write (rq : Req) (realm : Realm) (index : Word) (sub : Octet) (value : Octets)
  /-- `READ_RECORD` (R270). READ_RECORD returns the subindices of a record in order. -/
  | readRecord (rq : Req) (realm : Realm) (index : Word)
  /-- `WRITE_RECORD` (R271). WRITE_RECORD writes several subindices of one index atomically. -/
  | writeRecord (rq : Req) (realm : Realm) (index : Word) (value : Octets)
  /-- `DOMAIN_BEGIN` (R274). DOMAIN_BEGIN opens a DOMAIN write or read transfer. -/
  | domainBegin (rq : Req) (realm : Realm) (index : Word) (sub : Octet) (wr : Bool) (length : Nat)
  /-- `DOMAIN_BLOCK` (R274). DOMAIN_BLOCK writes or reads one block of an open transfer. -/
  | domainBlock (rq : Req) (realm : Realm) (index : Word) (sub : Octet) (offset : Nat) (count : Nat) (value : Octets)
  /-- `DOMAIN_END` (R274). DOMAIN_END commits the transfer if every octet has been written. -/
  | domainEnd (rq : Req) (realm : Realm) (index : Word) (sub : Octet)
  /-- `DOMAIN_TRANSFER_TIMEOUT` (R303). No block of a transfer arrives for the transfer time-out and it is abandoned. -/
  | domainTransferTimeout (session : Fin 8) (realm : Realm) (index : Word) (sub : Octet)
  /-- `SUBMIT` (R304). SUBMIT writes a frame and descriptor to an intake ring and answers from the wing's report. -/
  | submit (rq : Req) (w : WingId) (item : SubmitBody)
  /-- `RETIRE` (R240). RETIRE journals a RETIRE record for reported items in the range. -/
  | retire (rq : Req) (w : WingId) (first : BitVec 48) (last : BitVec 48)
  /-- `ITEM_QUERY` (R242). ITEM_QUERY searches unretired items by tag or accession number. -/
  | itemQuery (rq : Req) (w : WingId) (mode : Octet) (key : BitVec 48)
  /-- `PARTNER_FETCH` (R305). PARTNER_FETCH returns payload octets of an unretired partner item. -/
  | partnerFetch (rq : Req) (w : WingId) (acc : BitVec 48) (offset : Word) (count : Word)
  /-- `WING_RESET` (R60). The Feran wing-reset command resets the wing with cause HOST. -/
  | wingReset (rq : Req) (w : WingId)
  /-- `CENSUS` (R308). CENSUS issues the census strobe latching all masked timebases. -/
  | census (rq : Req) (mask : BitVec 8)
  /-- `ALIGN` (R309). ALIGN issues the align strobe, loading VALUE into every masked STOPPED wing. -/
  | align (rq : Req) (mask : BitVec 8) (value : BitVec 64)
  /-- `ORDER` (R313). ORDER makes the wing originate an authenticated order flood. -/
  | order (rq : Req) (w : WingId) (cls : Octet) (asn : BitVec 40) (oid : Word) (action : Octet) (param : Octet) (ttl : Octet)
  /-- `FORWARD` (R312). FORWARD carries one mesh Feran request to a neighbour. -/
  | forward (rq : Req) (w : WingId) (nb : Word) (opcode : Octet) (realm : Octet) (index : Word) (sub : Octet) (value : Octets)
  /-- `FORWARD_RESPONSE` (R312). The neighbour's mesh RESPONSE arrives and FORWARD is answered with it. -/
  | forwardResponse (w : WingId) (tn : Word)
  /-- `FORWARD_TIMEOUT` (R312). No mesh RESPONSE arrives within the timeout and FORWARD is answered with TIMEOUT. -/
  | forwardTimeout (session : Fin 8) (seq : BitVec 32)
  /-- `STAGE_ERASE` (R303). STAGE_ERASE erases the Staging partition and clears UPDATE_PENDING. -/
  | stageErase (rq : Req) (w : WingId)
  /-- `STAGE_WRITE` (R303). STAGE_WRITE programs data into Staging and clears UPDATE_PENDING. -/
  | stageWrite (rq : Req) (w : WingId) (offset : BitVec 32) (value : Octets)
  /-- `STAGE_READ` (R303). STAGE_READ returns data from the Staging partition. -/
  | stageRead (rq : Req) (w : WingId) (offset : BitVec 32) (count : Word)
  /-- `SUBSCRIBE` (R307). SUBSCRIBE sets the session's event classes and wing mask. -/
  | subscribe (rq : Req) (classes : Word) (wings : BitVec 8)
  /-- `STORE` (R279). A write of 1 to STORE requests a store of the realm's RETAINED entries. -/
  | store (rq : Req) (realm : Realm) (value : Octet)
  /-- `STORE_COMPLETE` (R279). A store seals its generation or fails, answers its requests and starts any queued store. -/
  | storeComplete (realm : Realm) (good : Bool) (ms : Word)
  /-- `RESTORE` (R280). A write of RESTORE returns settings, and optionally tables, to defaults and then stores. -/
  | restore (rq : Req) (realm : Realm) (code : Word)
  /-- `PORT_IMAGE_FINAL` (R278). The port image becomes final when every wing has left BOOT or 250 ms have passed. -/
  | portImageFinal
  /-- `HELLO_RESERVATION_EXPIRY` (R298). A session number reserved by HELLO expires after 2.0 s without OPEN. -/
  | helloReservationExpiry (session : Fin 8)
  /-- `LOCKOUT_EXPIRY` (R300). The 60 s lockout of a credential after four failed opens ends. -/
  | lockoutExpiry (cred : Fin 32)
  /-- `SESSION_IDLE_TIMEOUT` (R302). No authenticated message arrives for IDLE_S and the session closes. -/
  | sessionIdleTimeout (session : Fin 8)
  /-- `LINK_UP` (R288). The 10BASE-T1L link comes up and duplicate-address detection starts. -/
  | linkUp
  /-- `LINK_DOWN` (R288). The T1L link goes down; sessions stay open. -/
  | linkDown
  /-- `DAD_COMPLETE` (R288). 1.0 s after its solicitation an uncontradicted address becomes the port's own. -/
  | dadComplete (n : Fin 3)
  /-- `DAD_CONTRADICTED` (R288). An advertisement contradicts an address, which is never used and sets DUPLICATE. -/
  | dadContradicted (n : Fin 3)
  /-- `ETH_FRAME_RECEIVED` (R289). An Ethernet frame arrives and is filtered, UDP-checked and passed to Feran or dropped. -/
  | ethFrameReceived (frame : Octets)
  /-- `ICMP_ECHO` (R289). An ICMPv6 echo request to an own address is answered. -/
  | icmpEcho (frame : Octets)
  /-- `NEIGHBOUR_SOLICITATION` (R5). IPv6 neighbour discovery is answered only for the port's own addresses. -/
  | neighbourSolicitation (frame : Octets)
  /-- `SPI_STATUS` (R290). An SPI STATUS transfer returns STAT0 and WAIT and clears OVERRUN. -/
  | spiStatus (held : Fin 3)
  /-- `SPI_WRITE` (R291). An SPI WRITE transfer delivers one message, or discards it and sets OVERRUN. -/
  | spiWrite (held : Fin 3) (len : Nat) (data : Octets)
  /-- `SPI_READ` (R291). An SPI READ transfer sends the waiting message if LEN is large enough. -/
  | spiRead (held : Fin 3) (len : Nat) (clocked : Nat)
  /-- `ITEM_REPORT_DELIVERY` (R306). The port reads a report from ITEM_RING and delivers it as ITEM or PARTNER events. -/
  | itemReportDelivery (w : WingId) (r : Fin 2)
  /-- `DOCENT_HOST_POLL` (R449). At most once per 1 ms the port reads and clears DOC_HOST_PEND and sends it as a WING event. -/
  | docentHostPoll (w : WingId)
  /-- `WING_RESPONSE` (R461). The port takes a Curator's response notice from mailbox 4 or 5 and sends the Feran response. -/
  | wingResponse (w : WingId) (m : Fin 2)
  /-- `MESH_FERAN_EXECUTE` (R311). A mesh Feran message is executed when its PARTNER report is released, then retired. -/
  | meshFeranExecute (w : WingId) (acc : BitVec 48)
  /-- `RELAY_FORWARD` (R310). The port forwards a message in mailbox 6 or 7 to the twin's mailbox when it is free. -/
  | relayForward (w : WingId) (m : Fin 2)
  /-- `RELAY_HOLD_TIMEOUT` (R310). A relay hold outlasts 20 ms and resolves as a missing SEALED message. -/
  | relayHoldTimeout (pair : Fin 4)
  /-- `PORT_RESET` (R23). A fault in the host port logic resets the port and closes its sessions. -/
  | portReset
  /-- `TIMEBASE_WRAP` (R321). The timebase wraps to 0, the lap increases and WRAP, and possibly LAPWRAP, are set. -/
  | timebaseWrap (w : WingId)
  /-- `CAR_TB_LAP_READ` (R323). A read of CAR_TB_LAP opens the reader's shadow of the 64-bit time. -/
  | carTbLapRead (w : WingId) (applet : Bool) (dt : Nat)
  /-- `BELL_CFG_WRITE` (R326). A write of CAR_BELL_CFG that changes MODE or SOURCE clears the bell's value and arming. -/
  | bellCfgWrite (w : WingId) (b : Fin 32) (v : Word)
  /-- `BELL_COMPARE_COMMIT` (R327). The write of VAL2 commits V, computes the distance and LATE and arms the bell. -/
  | bellCompareCommit (w : WingId) (b : Fin 32) (v2 : Word) (dt : Nat)
  /-- `BELL_MATCH` (R328). A compare bell's count reaches V; MATCH is set, the output acts and auto-add applies. -/
  | bellMatch (w : WingId) (b : Fin 32)
  /-- `BELL_CAPTURE` (R330). An event of the bell's source stores the timebase in its capture register. -/
  | bellCapture (w : WingId) (b : Fin 32) (dt : Nat)
  /-- `BELL_CAPTURE_READ` (R331). A read of capture word 0 latches the other words and clears CAPFULL. -/
  | bellCaptureRead (w : WingId) (b : Fin 32)
  /-- `BELL_TALLY_EVENT` (R332). An event of the bell's source raises its tally count, which may wrap. -/
  | bellTallyEvent (w : WingId) (b : Fin 32)
  /-- `LF_RUNNING_ENTRY` (R336). At an LF edge the Carillon enters LF running for sleep, debug halt or PLL hold. -/
  | lfRunningEntry (w : WingId) (dt : Nat)
  /-- `LF_EDGE` (R337). In LF running each LF edge adds its step to the timebase, with trim and bell checks. -/
  | lfEdge
  /-- `REPHASE` (R340). At the re-phasing edge the timebase returns to fine running. -/
  | rephase (w : WingId)
  /-- `SECONDS_CARRY` (R346). The calendar divider wraps and the seconds carry advances the time fields. -/
  | secondsCarry
  /-- `PWRON_WINDOW_END` (R365). PWRON_WINDOW seconds after the match, the alarm's PWRON drive ends. -/
  | pwronWindowEnd
  /-- `LF_STOP_DETECTED` (R350). No LF edge for 1.0 ms sets OSF and counting stops. -/
  | lfStopDetected
  /-- `LF_RESTART` (R350). The first LF edge after the crystal restarts resumes counting. -/
  | lfRestart
  /-- `CAL_SHADOW_FREEZE` (R352). A read of a calendar register through an unfrozen port freezes its shadow. -/
  | calShadowFreeze (p : Fin 9) (r : Fin 8)
  /-- `CAL_YEAR_READ` (R353). A read of CAL_YEAR returns the shadow's year and releases the shadow. -/
  | calYearRead (p : Fin 9)
  /-- `CAL_RELEASE` (R353). A write to CAL_RELEASE releases the port's shadow. -/
  | calRelease (p : Fin 9)
  /-- `SHADOW_TIMEOUT` (R353). 500 ms after a freeze the shadow is released and SHADOW_TIMEOUT set. -/
  | shadowTimeout (p : Fin 9)
  /-- `CAL_HALT` (R355). A write of HALT = 1 asks for the calendar halt if no port holds it. -/
  | calHalt (p : Fin 9)
  /-- `HALT_EDGE` (R355). The halt takes effect at the next LF edge, ordered against a carry. -/
  | haltEdge
  /-- `HALT_RELEASE` (R358). The holding port writes HALT = 0, optionally with DIV_ZERO. -/
  | haltRelease (p : Fin 9) (divZero : Bool)
  /-- `RELEASE_EDGE` (R358). At the next LF edge the halt ends, a pending carry is applied or discarded and the date checked. -/
  | releaseEdge
  /-- `CAL_FIELD_WRITE` (R356). A write of a calendar time field is stored only if the port holds the halt and the value is valid. -/
  | calFieldWrite (p : Fin 9) (r : Fin 8) (v : Word)
  /-- `HALT_LOST` (R357). A halt lasts 1 s and HALT_LOST is set. -/
  | haltLost
  /-- `TIME_WRITE` (R360). A host write of D:1210.01 halts, sets and releases the calendar in one request. -/
  | timeWrite (rq : Req) (value : Octets)
  /-- `FLASH_SUBMIT` (R372). A write of FLS_SUBMIT_HI queues a flash descriptor, or refuses it with the queue full. -/
  | flashSubmit (w : WingId) (addr : BitVec 24)
  /-- `FLASH_PROGRAM` (R376). A PROGRAM descriptor programs lines with INTENT, data and SEAL in ascending order. -/
  | flashProgram (w : WingId)
  /-- `FLASH_ERASE` (R379). An ERASE descriptor counts and erases one sector by sub-pulses. -/
  | flashErase (w : WingId)
  /-- `FLASH_TALLY` (R378). A TALLY descriptor raises each Tally line's count and clears bits. -/
  | flashTally (w : WingId)
  /-- `FLASH_READ` (R381). A READ descriptor copies lines and their status words to the buffer. -/
  | flashRead (w : WingId)
  /-- `OPT_PROGRAM` (R394). OPT_PROGRAM programs option-area lines where permitted. -/
  | optProgram (w : WingId)
  /-- `OPT_ERASE` (R394). OPT_ERASE erases OPT0 or OPT1 while the option area is unlocked. -/
  | optErase (w : WingId)
  /-- `OPT_LOCK` (R394). OPT_LOCK programs the lock line and locks the option area. -/
  | optLock (w : WingId)
  /-- `PROGRAM_PULSE_DONE` (R376). A program pulse ends and the controller checks the threshold sense and continues or fails. -/
  | programPulseDone (w : WingId) (sensed : Bool)
  /-- `ERASE_SUBPULSE_DONE` (R379). An erase sub-pulse ends and the controller senses whether the sector is erased. -/
  | eraseSubpulseDone (w : WingId) (sensed : Bool)
  /-- `FLASH_DIRECT_READ` (R380). A direct read of flash returns corrected data and flags CORRECTED, TORN or UNCORRECTABLE lines. -/
  | flashDirectRead (w : WingId) (addr : BitVec 24)
  /-- `GAP_MOVE_PIECE` (R387). One piece of an Archive gap move runs between descriptors. -/
  | gapMovePiece (w : WingId) (sensed : Bool)
  /-- `WL_ENTRY_WRITE` (R395). A write of a WL entry makes the Curator rewrite the option sector that holds the field. -/
  | wlEntryWrite (rq : Req) (w : WingId) (index : Word) (sub : Octet) (value : Octets)
  /-- `OPTION_LOCK_WRITE` (R397). A write of 0x4C4B to n:2702 runs OPT_LOCK and answers with its status. -/
  | optionLockWrite (rq : Req) (w : WingId) (value : Word)
  /-- `NOP` (R408). The core does nothing. -/
  | nop (w : WingId)
  /-- `RET` (R408). PC[15:0] takes W14. -/
  | ret (w : WingId)
  /-- `RETF` (R408). The segment is popped and PC[15:0] takes W14. -/
  | retf (w : WingId)
  /-- `RETI` (R422). ST, PC and segment are popped, possibly entering applet mode. -/
  | reti (w : WingId)
  /-- `SLEEP` (R425). The core commits its stores, stops and requests sleep until a Docent request. -/
  | sleep (w : WingId)
  /-- `BRK` (R432). BRK enters debug halt, or raises the BRK trap with debug disabled. -/
  | brk (w : WingId)
  /-- `EI` (R408). IE is set. -/
  | ei (w : WingId)
  /-- `DI` (R408). IE is cleared. -/
  | di (w : WingId)
  /-- `FENCE` (R427). FENCE completes when every older store has committed and completed its handshake. -/
  | fence (w : WingId)
  /-- `CLC` (R408). C is cleared. -/
  | clc (w : WingId)
  /-- `SEC` (R408). C is set. -/
  | sec (w : WingId)
  /-- `SVC` (R419). SVC raises the SVC trap with its number. -/
  | svc (w : WingId) (n : Octet)
  /-- `NEG` (R408). Wd takes 0 - Wd. -/
  | neg (w : WingId) (d : Reg)
  /-- `NOT` (R408). Wd takes its ones' complement. -/
  | not (w : WingId) (d : Reg)
  /-- `INC` (R408). Wd is incremented. -/
  | inc (w : WingId) (d : Reg)
  /-- `DEC` (R408). Wd is decremented. -/
  | dec (w : WingId) (d : Reg)
  /-- `SWAB` (R408). The bytes of Wd are exchanged. -/
  | swab (w : WingId) (d : Reg)
  /-- `SXT` (R408). Wd takes its low byte sign-extended. -/
  | sxt (w : WingId) (d : Reg)
  /-- `ZXT` (R408). Wd takes its low byte zero-extended. -/
  | zxt (w : WingId) (d : Reg)
  /-- `CLR` (R408). Wd is cleared. -/
  | clr (w : WingId) (d : Reg)
  /-- `ADD` (R408). Wd takes Wd + Ws. -/
  | add (w : WingId) (d : Reg) (r : Reg)
  /-- `ADDC` (R408). Wd takes Wd + Ws + C. -/
  | addc (w : WingId) (d : Reg) (r : Reg)
  /-- `SUB` (R408). Wd takes Wd - Ws. -/
  | sub (w : WingId) (d : Reg) (r : Reg)
  /-- `SUBB` (R408). Wd takes Wd - Ws - C. -/
  | subb (w : WingId) (d : Reg) (r : Reg)
  /-- `AND` (R408). Wd takes Wd AND Ws. -/
  | and (w : WingId) (d : Reg) (r : Reg)
  /-- `OR` (R408). Wd takes Wd OR Ws. -/
  | or (w : WingId) (d : Reg) (r : Reg)
  /-- `XOR` (R408). Wd takes Wd XOR Ws. -/
  | xor (w : WingId) (d : Reg) (r : Reg)
  /-- `MOV` (R408). Wd takes Ws. -/
  | mov (w : WingId) (d : Reg) (r : Reg)
  /-- `CMP` (R408). The flags of Wd - Ws are set. -/
  | cmp (w : WingId) (d : Reg) (r : Reg)
  /-- `TST` (R408). The flags of Wd AND Ws are set. -/
  | tst (w : WingId) (d : Reg) (r : Reg)
  /-- `MOVI` (R408). Wd takes a sign-extended 8-bit constant. -/
  | movi (w : WingId) (d : Reg) (k : Octet)
  /-- `ADDI` (R408). Wd takes Wd plus a sign-extended 8-bit constant. -/
  | addi (w : WingId) (d : Reg) (k : Octet)
  /-- `CMPI` (R408). The flags of Wd minus a sign-extended constant are set. -/
  | cmpi (w : WingId) (d : Reg) (k : Octet)
  /-- `LDW_DISP` (R408). Wd is loaded from base plus displacement. -/
  | ldwDisp (w : WingId) (d : Reg) (b : Reg) (k : BitVec 4)
  /-- `STW_DISP` (R408). Ws is stored at base plus displacement. -/
  | stwDisp (w : WingId) (r : Reg) (b : Reg) (k : BitVec 4)
  /-- `LDW_POSTINC` (R409). Wd is loaded from [Wb] and Wb incremented. -/
  | ldwPostinc (w : WingId) (d : Reg) (b : Reg)
  /-- `LDW_PREDEC` (R409). Wb is decremented and Wd loaded from [Wb]. -/
  | ldwPredec (w : WingId) (d : Reg) (b : Reg)
  /-- `STW_POSTINC` (R409). Ws is stored at [Wb] and Wb incremented. -/
  | stwPostinc (w : WingId) (r : Reg) (b : Reg)
  /-- `STW_PREDEC` (R409). Wb is decremented and Ws stored at [Wb]. -/
  | stwPredec (w : WingId) (r : Reg) (b : Reg)
  /-- `XCH` (R409). Wd and [Wb] are exchanged, atomically on SRAM. -/
  | xch (w : WingId) (d : Reg) (b : Reg)
  /-- `BCC` (R410). The conditional branch is taken if its condition holds. -/
  | bcc (w : WingId) (c : BitVec 4) (k : Octet)
  /-- `BRA` (R410). An unconditional relative branch. -/
  | bra (w : WingId) (k : BitVec 12)
  /-- `CALL` (R410). W14 takes the return address and control branches relatively. -/
  | call (w : WingId) (k : BitVec 12)
  /-- `DBNZ` (R411). Wd is decremented and the branch taken if it is not zero. -/
  | dbnz (w : WingId) (d : Reg) (k : Octet)
  /-- `CALLF` (R410). The return segment is pushed, W14 set and PC takes a 24-bit address. -/
  | callf (w : WingId) (a : BitVec 24)
  /-- `JMPF` (R410). PC takes a 24-bit address. -/
  | jmpf (w : WingId) (a : BitVec 24)
  /-- `JMP_REG` (R410). PC[15:0] takes Wd. -/
  | jmpReg (w : WingId) (d : Reg)
  /-- `CALL_REG` (R410). W14 takes the return address and PC[15:0] takes Wd. -/
  | callReg (w : WingId) (d : Reg)
  /-- `SHZ_L` (R412). Wd is shifted left with zero fill. -/
  | shzL (w : WingId) (d : Reg) (byReg : Bool) (c : Reg)
  /-- `SHZ_R` (R412). Wd is shifted right with zero fill. -/
  | shzR (w : WingId) (d : Reg) (byReg : Bool) (c : Reg)
  /-- `SHS_R` (R412). Wd is shifted right with sign fill. -/
  | shsR (w : WingId) (d : Reg) (byReg : Bool) (c : Reg)
  /-- `ROT_L` (R412). Wd is rotated left within the word. -/
  | rotL (w : WingId) (d : Reg) (byReg : Bool) (c : Reg)
  /-- `ROT_R` (R412). Wd is rotated right within the word. -/
  | rotR (w : WingId) (d : Reg) (byReg : Bool) (c : Reg)
  /-- `RTC_L` (R412). Wd is rotated left through C. -/
  | rtcL (w : WingId) (d : Reg) (byReg : Bool) (c : Reg)
  /-- `RTC_R` (R412). Wd is rotated right through C. -/
  | rtcR (w : WingId) (d : Reg) (byReg : Bool) (c : Reg)
  /-- `BIT_S` (R412). One bit of Wd is set, C taking its old value. -/
  | bitS (w : WingId) (d : Reg) (byReg : Bool) (c : Reg)
  /-- `BIT_C` (R412). One bit of Wd is cleared, C taking its old value. -/
  | bitC (w : WingId) (d : Reg) (byReg : Bool) (c : Reg)
  /-- `BIT_I` (R412). One bit of Wd is inverted, C taking its old value. -/
  | bitI (w : WingId) (d : Reg) (byReg : Bool) (c : Reg)
  /-- `BIT_T` (R412). One bit of Wd is tested into C. -/
  | bitT (w : WingId) (d : Reg) (byReg : Bool) (c : Reg)
  /-- `MULU` (R413). An unsigned 16 by 16 multiply into a register pair. -/
  | mulu (w : WingId) (d : Reg) (r : Reg)
  /-- `MULS` (R413). A signed 16 by 16 multiply into a register pair. -/
  | muls (w : WingId) (d : Reg) (r : Reg)
  /-- `DIVU` (R413). An unsigned 32 by 16 divide, or the DIVIDE trap for a zero divisor. -/
  | divu (w : WingId) (d : Reg) (r : Reg)
  /-- `ADDD` (R415). A packed decimal addition with carry. -/
  | addd (w : WingId) (d : Reg) (r : Reg)
  /-- `SUBD` (R415). A packed decimal subtraction with borrow. -/
  | subd (w : WingId) (d : Reg) (r : Reg)
  /-- `DSHL` (R415). Wd is shifted left by one decimal digit from Ws. -/
  | dshl (w : WingId) (d : Reg) (r : Reg)
  /-- `DSHR` (R415). Wd is shifted right by one decimal digit from Ws. -/
  | dshr (w : WingId) (d : Reg) (r : Reg)
  /-- `DAA` (R415). The decimal adjustment after an addition. -/
  | daa (w : WingId) (d : Reg)
  /-- `DAS` (R415). The decimal adjustment after a subtraction. -/
  | das (w : WingId) (d : Reg)
  /-- `MFS` (R414). Wd takes a system register. -/
  | mfs (w : WingId) (d : Reg) (n : Fin 16)
  /-- `MTS` (R414). A system register takes Ws. -/
  | mts (w : WingId) (n : Fin 16) (r : Reg)
  /-- `RPT_MOVS` (R416). A block of words is copied from [W12] to [W13], W11 times. -/
  | rptMovs (w : WingId) (n : Word)
  /-- `RPT_FILLS` (R416). A block at [W13] is filled with W0, W11 times. -/
  | rptFills (w : WingId) (n : Word)
  /-- `RPT_CMPS` (R416). Two blocks are compared until words differ. -/
  | rptCmps (w : WingId) (n : Word)
  /-- `RPT_SCANS` (R416). A block is scanned for W0. -/
  | rptScans (w : WingId) (n : Word)
  /-- `MOVL` (R413). Wd takes a 16-bit constant. -/
  | movl (w : WingId) (d : Reg) (k : Word)
  /-- `ADDL` (R413). Wd takes Wd plus a 16-bit constant. -/
  | addl (w : WingId) (d : Reg) (k : Word)
  /-- `SUBL` (R413). Wd takes Wd minus a 16-bit constant. -/
  | subl (w : WingId) (d : Reg) (k : Word)
  /-- `ANDL` (R413). Wd takes Wd AND a 16-bit constant. -/
  | andl (w : WingId) (d : Reg) (k : Word)
  /-- `ORL` (R413). Wd takes Wd OR a 16-bit constant. -/
  | orl (w : WingId) (d : Reg) (k : Word)
  /-- `XORL` (R413). Wd takes Wd XOR a 16-bit constant. -/
  | xorl (w : WingId) (d : Reg) (k : Word)
  /-- `CMPL` (R413). The flags of Wd minus a 16-bit constant are set. -/
  | cmpl (w : WingId) (d : Reg) (k : Word)
  /-- `LDA` (R413). Wd is loaded from an absolute effective address. -/
  | lda (w : WingId) (d : Reg) (k : Word)
  /-- `STA` (R413). Wd is stored at an absolute effective address. -/
  | sta (w : WingId) (r : Reg) (k : Word)
  /-- `INTERRUPT_ENTRY` (R424). The core takes the Docent's request at an instruction boundary and vectors to INTERRUPT. -/
  | interruptEntry (w : WingId)
  /-- `CORE_WAKE` (R425). A Docent request wakes the sleeping core. -/
  | coreWake (w : WingId)
  /-- `WATCHDOG_ENABLE` (R431). Setting CPU_WDT_CTRL.EN starts the watchdog and fixes its settings. -/
  | watchdogEnable (w : WingId) (v : Word)
  /-- `WATCHDOG_KICK` (R431). A write to CPU_WDT_KICK restarts the count, or expires it at once for a wrong value. -/
  | watchdogKick (w : WingId) (v : Word)
  /-- `WATCHDOG_WARN` (R431). At half the period the watchdog raises CPU_WDT_WARN. -/
  | watchdogWarn (w : WingId)
  /-- `WATCHDOG_EXPIRY` (R431). The watchdog expires and the wing resets with cause WATCHDOG. -/
  | watchdogExpiry (w : WingId)
  /-- `DEBUG_HALT` (R432). A write of TRUE to HALT puts the core into debug halt. -/
  | debugHalt (rq : Req) (w : WingId)
  /-- `DEBUG_RESUME` (R432). A write of FALSE to HALT resumes the core at the held PC. -/
  | debugResume (rq : Req) (w : WingId)
  /-- `APPLET_INSTALL` (R434). INSTALL = 1 verifies and copies the staged applet image to the Applet partition. -/
  | appletInstall (rq : Req) (w : WingId)
  /-- `APPLET_REMOVE` (R434). INSTALL = 2 erases the Applet partition. -/
  | appletRemove (rq : Req) (w : WingId)
  /-- `APPLET_START` (R435). On entry to RUNNING with RUN set, the Curator checks the window and starts the applet. -/
  | appletStart (w : WingId)
  /-- `APPLET_YIELD` (R435). SVC 0 lets the Curator run its pending work and resume the applet. -/
  | appletYield (w : WingId)
  /-- `APPLET_EXIT` (R435). SVC 1 ends the applet with its exit code. -/
  | appletExit (w : WingId)
  /-- `APPLET_PUT` (R435). SVC 2 puts 8 words on ring 15. -/
  | appletPut (w : WingId)
  /-- `APPLET_GET` (R435). SVC 3 takes the oldest descriptor of ring 14. -/
  | appletGet (w : WingId)
  /-- `APPLET_WAIT` (R435). SVC 4 suspends the applet for W0 ms or until ring 14 receives a descriptor. -/
  | appletWait (w : WingId)
  /-- `APPLET_WAIT_EXPIRY` (R435). The applet's wait time passes and it resumes. -/
  | appletWaitExpiry (w : WingId)
  /-- `APPLET_RESTART` (R436). With RESTART set, a faulted applet is started again no sooner than 1 s after its previous start. -/
  | appletRestart (w : WingId)
  /-- `DOORBELL` (R442). A write of DOC_DOORBELL raises a message source, or is counted as bad. -/
  | doorbell (w : WingId) (applet : Bool) (v : Word)
  /-- `DOCENT_CLAIM` (R447). A read of DOC_CLAIM returns the winner, clears its pending bit and puts it in service. -/
  | docentClaim (w : WingId)
  /-- `DOCENT_COMPLETE` (R448). A write to DOC_COMPLETE ends a source's service, or counts a stray completion. -/
  | docentComplete (w : WingId) (v : Word)
  /-- `PEND_SET` (R444). A write of DOC_PEND_SET raises message sources. -/
  | pendSet (w : WingId) (g : Fin 8) (v : Word)
  /-- `PEND_CLR` (R444). A write of DOC_PEND_CLR clears pending bits and arrival counts. -/
  | pendClr (w : WingId) (g : Fin 8) (v : Word)
  /-- `MASK_SET` (R444). A write of DOC_MASK_SET masks sources. -/
  | maskSet (w : WingId) (g : Fin 8) (v : Word)
  /-- `MASK_CLR` (R444). A write of DOC_MASK_CLR unmasks sources. -/
  | maskClr (w : WingId) (g : Fin 8) (v : Word)
  /-- `RING_PUBLISH` (R452). The write of DOC_RING_IN7 publishes a descriptor to a ring, or is refused when full. -/
  | ringPublish (w : WingId) (r : Fin 16) (v : Word)
  /-- `RING_TAKE` (R452). A write of DOC_RING_ADV.TAKE advances the ring's TAKE index. -/
  | ringTake (w : WingId) (r : Fin 16)
  /-- `RING_PASS` (R452). A write of DOC_RING_ADV.PASS advances PASS on ring 4 or 5. -/
  | ringPass (w : WingId) (r : Fin 16)
  /-- `MBX_LOCK` (R457). A read of MBX_LOCK is a lock attempt on the mailbox. -/
  | mbxLock (w : WingId) (m : Fin 8)
  /-- `MBX_POST` (R458). A write to MBX_POST by the holder makes the mailbox FULL for its receiver. -/
  | mbxPost (w : WingId) (m : Fin 8)
  /-- `MBX_ACK` (R459). A write to MBX_ACK by the receiver frees the mailbox with a return code. -/
  | mbxAck (w : WingId) (m : Fin 8) (code : Octet)
  /-- `MBX_RELEASE` (R457). A write to MBX_RELEASE by the holder frees the mailbox without a post. -/
  | mbxRelease (w : WingId) (m : Fin 8)
  /-- `APPLET_IN` (R453). A write of APPLET_IN is placed on ring 14. -/
  | appletIn (rq : Req) (w : WingId) (value : Octets)
  /-- `ECB_ENC` (R468). AES ECB encryption job. -/
  | ecbEnc (w : WingId) (j : CphJob)
  /-- `ECB_DEC` (R468). AES ECB decryption job. -/
  | ecbDec (w : WingId) (j : CphJob)
  /-- `CTR` (R468). AES counter-mode job. -/
  | ctr (w : WingId) (j : CphJob)
  /-- `CCM_ENC` (R468). CCM or CCM* encryption job. -/
  | ccmEnc (w : WingId) (j : CphJob)
  /-- `CCM_DEC` (R486). CCM or CCM* decryption job with fenced output. -/
  | ccmDec (w : WingId) (j : CphJob)
  /-- `GCM_ENC` (R468). AES-GCM encryption job. -/
  | gcmEnc (w : WingId) (j : CphJob)
  /-- `GCM_DEC` (R486). AES-GCM decryption job with fenced output. -/
  | gcmDec (w : WingId) (j : CphJob)
  /-- `CMAC_GEN` (R468). CMAC generation job. -/
  | cmacGen (w : WingId) (j : CphJob)
  /-- `CMAC_VERIFY` (R468). CMAC verification job. -/
  | cmacVerify (w : WingId) (j : CphJob)
  /-- `SHAKE256` (R468). SHAKE256 hashing job. -/
  | shake256 (w : WingId) (j : CphJob)
  /-- `KMAC_GEN` (R468). KMAC256 generation job. -/
  | kmacGen (w : WingId) (j : CphJob)
  /-- `KMAC_VERIFY` (R468). KMAC256 verification job. -/
  | kmacVerify (w : WingId) (j : CphJob)
  /-- `DERIVE` (R472). A key is derived by KMAC256 from the root slot or a page into DEST_PAGE. -/
  | derive (w : WingId) (j : CphJob)
  /-- `WRAP` (R471). A page key or the root is encrypted under a key from the wing device key. -/
  | wrap (w : WingId) (j : CphJob)
  /-- `UNWRAP` (R471). A wrapped key is decrypted into DEST_PAGE or the root slot if its tag verifies. -/
  | unwrap (w : WingId) (j : CphJob)
  /-- `XMSS_F` (R468). The XMSS F function job. -/
  | xmssF (w : WingId) (j : CphJob)
  /-- `XMSS_H` (R468). The XMSS H function job. -/
  | xmssH (w : WingId) (j : CphJob)
  /-- `XMSS_PRF` (R468). The XMSS PRF job with a page key. -/
  | xmssPrf (w : WingId) (j : CphJob)
  /-- `XMSS_CHAIN` (R468). STEPS XMSS chain steps from START. -/
  | xmssChain (w : WingId) (j : CphJob)
  /-- `XMSS_HMSG` (R468). The XMSS message hash job. -/
  | xmssHmsg (w : WingId) (j : CphJob)
  /-- `CIPHER_JOB_COMPLETE` (R487). A cipher job ends, its result is set and failed output is zeroed before BUSY clears. -/
  | cipherJobComplete (w : WingId) (mismatch : Bool)
  /-- `CIPHER_ABORT` (R482). A write of 0x5A5A to CPH_ABORT ends the Keeper job at its next block boundary. -/
  | cipherAbort (w : WingId) (v : Word)
  /-- `KEY_COMMIT_PAGE` (R479). A write of 0x4B45 to CPH_KEY_COMMIT loads the staged key into the selected page. -/
  | keyCommitPage (w : WingId)
  /-- `KEY_COMMIT_ROOT` (R470). A write of 0x524F to CPH_KEY_COMMIT loads the staged key into the root slot while STOPPED. -/
  | keyCommitRoot (w : WingId)
  /-- `PAGE_CLEAR` (R479). A write to CPH_PAGE_CLR zeroes a page and sets it EMPTY. -/
  | pageClear (w : WingId) (v : Word)
  /-- `PAGE_CFG_WRITE` (R478). A write of a page's OWNER or SESSION zeroes its key. -/
  | pageCfgWrite (w : WingId) (v : Word)
  /-- `RANDOM_READ` (R489). A read of CPH_RANDOM returns 16 random bits. -/
  | randomRead (w : WingId)
  /-- `RANDOM_READY` (R489). Within 1 ms of leaving RESET the random source becomes ready. -/
  | randomReady (w : WingId)
  /-- `RANDOM_HEALTH_FAIL` (R489). A health test of the noise source fails and RANDOM_FAIL is set. -/
  | randomHealthFail (w : WingId)
  /-- `NETWORK_ROOT_WRITE` (R514). A write of NETWORK_ROOT sets or removes the root and restarts epochs and counters. -/
  | networkRootWrite (rq : Req) (w : WingId) (value : Octets)
  /-- `SESSION_KEY` (R481). A write of SESSION_KEY loads the session's page. -/
  | sessionKey (rq : Req) (w : WingId) (value : Octets)
  /-- `TRIAL_END` (R502). The wing stays RUNNING for TRIAL_S and the annex trial ends. -/
  | trialEnd (w : WingId)
  /-- `UPDATE_PENDING` (R505). A write of UPDATE_PENDING arms or disarms the staged delta. -/
  | updatePending (rq : Req) (w : WingId) (value : Octet)
  /-- `OWNER_ROOT_WRITE` (R496). A write of OWNER_ROOT_HASH or OWNER_POLICY programs the trust area. -/
  | ownerRootWrite (rq : Req) (w : WingId) (sub : Octet) (value : Octets)
  /-- `REGENERATE` (R511). An Owner write of 0x4745 sets REGENERATE_PENDING for a new attestation key. -/
  | regenerate (rq : Req) (w : WingId) (value : Word)
  /-- `SUCCESSOR_GENERATE` (R512). LEAF_NEXT reaches 61,440 and generation of a successor key begins. -/
  | successorGenerate (w : WingId)
  /-- `SUCCESSOR_READY` (R512). The successor key is ready, sealed, certified and made the present key. -/
  | successorReady (w : WingId)
  /-- `CHALLENGE` (R513). A write of CHALLENGE makes the wing sign a provenance record. -/
  | challenge (rq : Req) (w : WingId) (value : Octets)
  /-- `VINT_RISE` (R45). VINT rises through 4.50 V and starts the 1.0 ms main-good qualification, which a fall below 4.50 V before its end restarts. -/
  | vintRise
  /-- `REF_IN_RETURN` (R62). REF_IN edges return after REF_LOST, so the Dome clears REF_LOST and the wing PLLs can relock. -/
  | refInReturn
  /-- `PORT_RANDOM_HEALTH_FAIL` (R490). The port's own random source fails a health test, and HELLO is then answered with NOT_READY. -/
  | portRandomHealthFail
  /-- `RESERVED_ENCODING` (R406). The core executes a reserved encoding, which raises the RESERVED_OP trap, or in applet mode ends the applet or starts RPT emulation. -/
  | reservedEncoding (w : WingId) (e : Word)
  /-- `FETCH_ACCESS_FAULT` (R421). An instruction fetch from an address that R30 or R405 forbids raises the ACCESS_FAULT trap before any instruction is decoded. -/
  | fetchAccessFault (w : WingId)
  deriving DecidableEq, Repr

end Sys2Proof
end

