-- ==== Sys2Proof/Decode.lean ====
section
/-! DEFINITION. The command that a word spells: none, since the table of operations and events gives its rows no bits. -/
namespace Sys2Proof

/-- No row of the table gives bits, so no word spells a command. -/
def decodeTableWord (_nbits _w : Nat) : Option Instr := none

end Sys2Proof
end

