-- ==== Sys2Proof/Machine/Bits.lean ====
section
/-! DEFINITION. Bit fields, octet strings and the packing of octets into words (R12, R87). -/
namespace Sys2Proof.Machine
open Sys2Proof

/-- Bits [hi:lo] of a number. -/
def bits (n hi lo : Nat) : Nat := n / 2 ^ lo % 2 ^ (hi + 1 - lo)

/-- Bit `i` of a number. -/
def bit (n i : Nat) : Bool := n / 2 ^ i % 2 == 1

/-- 1 for true. -/
def b2n (b : Bool) : Nat := if b then 1 else 0

/-- A number as a word. -/
def w16 (n : Nat) : Word := BitVec.ofNat 16 n

/-- A number as an octet. -/
def o8 (n : Nat) : Octet := BitVec.ofNat 8 n

/-- `k` octets of `n`, least significant first. -/
def natLe : Nat → Nat → Octets
  | 0, _ => []
  | k + 1, n => o8 n :: natLe k (n / 256)

/-- The number whose octets are given least significant first. -/
def leNat : Octets → Nat
  | [] => 0
  | o :: os => o.toNat + 256 * leNat os

/-- `k` octets of `n`, most significant first. -/
def natBe (k n : Nat) : Octets := (natLe k n).reverse

/-- The number whose octets are given most significant first. -/
def beNat (os : Octets) : Nat := leNat os.reverse

/-- Octets packed two to a word, the first in the low half (R87, R469); an odd last octet stands alone. -/
def packW : Octets → List Word
  | [] => []
  | [a] => [w16 a.toNat]
  | a :: b :: t => w16 (a.toNat + 256 * b.toNat) :: packW t

/-- The octets of words, low half first. -/
def unpackW : List Word → Octets
  | [] => []
  | w :: t => o8 w.toNat :: o8 (w.toNat / 256) :: unpackW t

/-- `k` octets of `os` from offset `n`. -/
def slice (os : Octets) (n k : Nat) : Octets := (os.drop n).take k

/-- `os` with `v` in place of the octets from offset `n`. -/
def splice (os : Octets) (n : Nat) (v : Octets) : Octets := os.take n ++ v ++ os.drop (n + v.length)

/-- `k` octets of zero. -/
def zeros (k : Nat) : Octets := List.replicate k 0

/-- Octet-wise exclusive or, as long as the shorter. -/
def xorO (a b : Octets) : Octets := List.zipWith (fun x y => x ^^^ y) a b

/-- Octets in pieces of `k`, with fuel. -/
def chunks (k : Nat) : Nat → Octets → List Octets
  | 0, _ => []
  | f + 1, os => if os.isEmpty then [] else os.take k :: chunks k f (os.drop k)

/-- A signed number of `k` bits from its two's complement. -/
def toSigned (k n : Nat) : Int := if n % 2 ^ k < 2 ^ (k - 1) then (n % 2 ^ k : Nat) else (n % 2 ^ k : Nat) - (2 ^ k : Nat)

/-- The two's complement of a signed number in `k` bits. -/
def ofSigned (k : Nat) (i : Int) : Nat := (i % (2 ^ k : Nat)).toNat

/-- The octets of a string of ASCII characters. -/
def ascii (s : String) : Octets := s.toList.map (fun c => o8 c.toNat)

/-- The number of bits set in the low `k` bits. -/
def popcount (k n : Nat) : Nat := ((List.range k).filter (bit n)).length

/-- A range of words: base and length. -/
abbrev Area := Nat × Nat

/-- Two areas share a word. -/
def areaMeets (a b : Area) : Bool := decide (0 < a.2) && decide (0 < b.2) && decide (a.1 < b.1 + b.2) && decide (b.1 < a.1 + a.2)

/-- Whether `v` is a power of two from 16 to 4,096. -/
def pow2Depth (v : Nat) : Bool := [16, 32, 64, 128, 256, 512, 1024, 2048, 4096].contains v

end Sys2Proof.Machine
end

