-- ==== Sys2Proof/Machine/Keccak.lean ====
section
/-! DEFINITION. Keccak-f[1600], SHAKE256 (FIPS 202) and KMAC256 (SP 800-185) (R467, R468). -/
namespace Sys2Proof.Machine
open Sys2Proof

/-- A lane of the state. -/
abbrev Lane := BitVec 64

/-- Rotation offsets by x + 5y. -/
def rhoOff : List Nat := [0, 1, 62, 28, 27, 36, 44, 6, 55, 20, 3, 10, 43, 25, 39, 41, 45, 15, 21, 8, 18, 2, 61, 56, 14]

/-- Round constants. -/
def keccakRc : List Lane :=
  [0x0000000000000001, 0x0000000000008082, 0x800000000000808a, 0x8000000080008000, 0x000000000000808b, 0x0000000080000001] ++
  [0x8000000080008081, 0x8000000000008009, 0x000000000000008a, 0x0000000000000088, 0x0000000080008009, 0x000000008000000a] ++
  [0x000000008000808b, 0x800000000000008b, 0x8000000000008089, 0x8000000000008003, 0x8000000000008002, 0x8000000000000080] ++
  [0x000000000000800a, 0x800000008000000a, 0x8000000080008081, 0x8000000000008080, 0x0000000080000001, 0x8000000080008008]

/-- Lane x + 5y of a state. -/
def lane (a : List Lane) (i : Nat) : Lane := a.getD i 0

/-- The column parities. -/
def keccakC (a : List Lane) : List Lane :=
  (List.range 5).map (fun x => lane a x ^^^ lane a (x + 5) ^^^ lane a (x + 10) ^^^ lane a (x + 15) ^^^ lane a (x + 20))

/-- Theta. -/
def keccakTheta (a : List Lane) : List Lane :=
  let c := keccakC a
  let d := (List.range 5).map (fun x => lane c ((x + 4) % 5) ^^^ (lane c ((x + 1) % 5)).rotateLeft 1)
  (List.range 25).map (fun i => lane a i ^^^ lane d (i % 5))

/-- Rho and pi: lane (x, y) takes the rotated lane (x + 3y, x). -/
def keccakRhoPi (a : List Lane) : List Lane :=
  (List.range 25).map (fun i =>
    let x := i % 5
    let j := (x + 3 * (i / 5)) % 5 + 5 * x
    (lane a j).rotateLeft (rhoOff.getD j 0))

/-- Chi. -/
def keccakChi (a : List Lane) : List Lane :=
  (List.range 25).map (fun i =>
    let y := i / 5 * 5
    lane a i ^^^ (~~~ lane a (y + (i + 1 - y) % 5) &&& lane a (y + (i + 2 - y) % 5)))

/-- One round. -/
def keccakRound (rc : Lane) (a : List Lane) : List Lane :=
  match keccakChi (keccakRhoPi (keccakTheta a)) with
  | [] => []
  | l :: t => (l ^^^ rc) :: t

/-- The permutation. -/
def keccakF (a : List Lane) : List Lane := keccakRc.foldl (fun s rc => keccakRound rc s) a

/-- The lanes of a block of octets. -/
def toLanes (os : Octets) : List Lane := (chunks 8 25 os).map (fun c => BitVec.ofNat 64 (leNat c))

/-- Absorb blocks of 136 octets. -/
def absorb : List Octets → List Lane → List Lane
  | [], s => s
  | b :: bs, s => absorb bs (keccakF (List.zipWith (fun x y => x ^^^ y) s (toLanes b ++ List.replicate 8 0)))

/-- Squeeze `n` further blocks of 136 octets. -/
def squeeze : Nat → List Lane → Octets
  | 0, _ => []
  | n + 1, s => ((s.take 17).flatMap (fun l => natLe 8 l.toNat)) ++ squeeze n (keccakF s)

/-- Pad a message to whole blocks, with the suffix `d`. -/
def keccakPad (d : Octet) (m : Octets) : Octets :=
  let r := 136 - m.length % 136
  if r = 1 then m ++ [d ^^^ 0x80] else m ++ [d] ++ zeros (r - 2) ++ [0x80]

/-- The sponge with suffix `d` and `n` octets of output. -/
def sponge (d : Octet) (m : Octets) (n : Nat) : Octets :=
  let p := keccakPad d m
  (squeeze ((n + 135) / 136) (absorb (chunks 136 (p.length / 136) p) (List.replicate 25 0))).take n

/-- SHAKE256. -/
def shake256 (m : Octets) (n : Nat) : Octets := sponge 0x1F m n

/-- The octets of a number without leading zeros, at least one. -/
def minBe (n : Nat) : Octets :=
  if n < 256 then natBe 1 n else if n < 65536 then natBe 2 n else if n < 16777216 then natBe 3 n else natBe 4 n

/-- left_encode of SP 800-185. -/
def leftEncode (n : Nat) : Octets := o8 (minBe n).length :: minBe n

/-- right_encode of SP 800-185. -/
def rightEncode (n : Nat) : Octets := minBe n ++ [o8 (minBe n).length]

/-- encode_string of SP 800-185. -/
def encodeString (s : Octets) : Octets := leftEncode (8 * s.length) ++ s

/-- bytepad to 136 octets. -/
def bytepad (x : Octets) : Octets :=
  let p := leftEncode 136 ++ x
  p ++ zeros ((136 - p.length % 136) % 136)

/-- KMAC256 with `n` octets of output and customisation string `cust`. -/
def kmac256 (key m : Octets) (n : Nat) (cust : Octets) : Octets :=
  sponge 0x04 (bytepad (encodeString (ascii "KMAC") ++ encodeString cust) ++ bytepad (encodeString key) ++ m ++
    rightEncode (8 * n)) n

end Sys2Proof.Machine
end

