-- ==== Sys2Proof/Machine/Modes.lean ====
section
/-! DEFINITION. The AES modes of R468: ECB, CTR (SP 800-38A), CCM and CCM* (SP 800-38C), GCM (SP 800-38D) and
CMAC (SP 800-38B); and the XMSS functions of RFC 8391 for SHAKE256 with n = 32. -/
namespace Sys2Proof.Machine
open Sys2Proof

/-- A counter block `k` further on, the whole block as one number. -/
def ctrAt (b : Octets) (k : Nat) : Octets := natBe 16 ((beNat b + k) % 2 ^ 128)

/-- The key stream of CTR from the counter blocks of `blk`. -/
def ctrXor (rk : List Octets) (blk : Nat → Octets) (d : Octets) : Octets :=
  (((chunks 16 ((d.length + 15) / 16) d).zipIdx).map (fun c => xorO c.1 (aesBlock rk (blk c.2)))).flatten

/-- CTR with the initial counter block `b`. -/
def aesCtr (key b d : Octets) : Octets := ctrXor (roundKeys key) (ctrAt b) d

/-- ECB, forwards or backwards. -/
def aesEcb (dec : Bool) (key d : Octets) : Octets :=
  let rk := roundKeys key
  ((chunks 16 (d.length / 16) d).map (if dec then aesBlockInv rk else aesBlock rk)).flatten

/-- Zeros up to a whole block. -/
def pad16 (d : Octets) : Octets := d ++ zeros ((16 - d.length % 16) % 16)

/-- CBC-MAC of whole blocks. -/
def cbcMac (rk : List Octets) (d : Octets) : Octets :=
  (chunks 16 (d.length / 16) d).foldl (fun x b => aesBlock rk (xorO x b)) (zeros 16)

/-- The length prefix of CCM's additional data. -/
def ccmAad (a : Octets) : Octets :=
  if a.isEmpty then [] else if a.length < 0xFF00 then pad16 (natBe 2 a.length ++ a)
  else pad16 ([0xFF, 0xFE] ++ natBe 4 a.length ++ a)

/-- The tag of CCM before it is masked. -/
def ccmMac (rk : List Octets) (nonce aad p : Octets) (t : Nat) : Octets :=
  let q := 15 - nonce.length
  let flags := (if aad.isEmpty then 0 else 64) + 8 * ((t - 2) / 2) + (q - 1)
  cbcMac rk ([o8 flags] ++ nonce ++ natBe q p.length ++ ccmAad aad ++ pad16 p)

/-- Counter block `i` of CCM. -/
def ccmCtr (nonce : Octets) (i : Nat) : Octets := [o8 (14 - nonce.length)] ++ nonce ++ natBe (15 - nonce.length) i

/-- CCM encryption: the ciphertext, and the tag of `t` octets (CCM*: `t` may be 0). -/
def ccmEnc (key nonce aad p : Octets) (t : Nat) : Octets × Octets :=
  let rk := roundKeys key
  (ctrXor rk (fun i => ccmCtr nonce (i + 1)) p,
   (xorO (ccmMac rk nonce aad p t) (aesBlock rk (ccmCtr nonce 0))).take t)

/-- CCM decryption: the plaintext, or none when the tag does not verify. -/
def ccmDec (key nonce aad c tag : Octets) : Option Octets :=
  let rk := roundKeys key
  let p := ctrXor rk (fun i => ccmCtr nonce (i + 1)) c
  if tag = (xorO (ccmMac rk nonce aad p tag.length) (aesBlock rk (ccmCtr nonce 0))).take tag.length then some p else none

/-- Multiplication in the field of GCM, on numbers whose most significant bit of 128 comes first. -/
def gcmMul (x y : Nat) : Nat :=
  ((List.range 128).foldl (fun (zv : Nat × Nat) i =>
    ((if bit x (127 - i) then Nat.xor zv.1 zv.2 else zv.1),
     (if zv.2 % 2 = 1 then Nat.xor (zv.2 / 2) (0xe1 * 2 ^ 120) else zv.2 / 2))) (0, y)).1

/-- GHASH of whole blocks. -/
def ghash (h : Nat) (d : Octets) : Nat :=
  (chunks 16 (d.length / 16) d).foldl (fun y b => gcmMul (Nat.xor y (beNat b)) h) 0

/-- The full tag of GCM with a 12-octet IV. -/
def gcmTag (rk : List Octets) (iv aad c : Octets) : Octets :=
  let h := beNat (aesBlock rk (zeros 16))
  xorO (natBe 16 (ghash h (pad16 aad ++ pad16 c ++ natBe 8 (8 * aad.length) ++ natBe 8 (8 * c.length))))
    (aesBlock rk (iv ++ natBe 4 1))

/-- GCM's counter mode. -/
def gcmCtr (rk : List Octets) (iv d : Octets) : Octets := ctrXor rk (fun i => iv ++ natBe 4 (i + 2)) d

/-- GCM encryption: ciphertext and tag of `t` octets. -/
def gcmEnc (key iv aad p : Octets) (t : Nat) : Octets × Octets :=
  let rk := roundKeys key
  let c := gcmCtr rk iv p
  (c, (gcmTag rk iv aad c).take t)

/-- GCM decryption: the plaintext, or none when the tag does not verify. -/
def gcmDec (key iv aad c tag : Octets) : Option Octets :=
  let rk := roundKeys key
  if tag = (gcmTag rk iv aad c).take tag.length then some (gcmCtr rk iv c) else none

/-- Doubling in the field of CMAC. -/
def cmacDbl (b : Octets) : Octets :=
  let n := beNat b
  natBe 16 (if bit n 127 then Nat.xor (n * 2 % 2 ^ 128) 0x87 else n * 2)

/-- CMAC with a tag of `t` octets. -/
def cmac (key m : Octets) (t : Nat) : Octets :=
  let rk := roundKeys key
  let k1 := cmacDbl (aesBlock rk (zeros 16))
  let full := decide (m.length % 16 = 0) && !m.isEmpty
  let n := if full then m.length - 16 else m.length / 16 * 16
  let last := m.drop n
  let l := if full then xorO last k1 else xorO (pad16 (last ++ [0x80])) (cmacDbl k1)
  (cbcMac rk (m.take n ++ l)).take t

/-- The keyed functions of RFC 8391 for SHAKE256, n = 32: `pad` 0 F, 1 H, 2 H_msg, 3 PRF. -/
def xmssHash (pad : Nat) (key m : Octets) : Octets := shake256 (natBe 32 pad ++ key ++ m) 32

/-- PRF (RFC 8391, 5.1). -/
def xmssPrf (key m : Octets) : Octets := xmssHash 3 key m

/-- A hash-function address with word `i` (4 octets) replaced. -/
def adrsSet (a : Octets) (i v : Nat) : Octets := splice a (4 * i) (natBe 4 v)

/-- F with its key and mask drawn from the seed (RFC 8391, algorithm 2 step). -/
def xmssF (seed adrs m : Octets) : Octets :=
  xmssHash 0 (xmssPrf seed (adrsSet adrs 7 0)) (xorO m (xmssPrf seed (adrsSet adrs 7 1)))

/-- RAND_HASH (RFC 8391, algorithm 7). -/
def xmssH (seed adrs l r : Octets) : Octets :=
  xmssHash 1 (xmssPrf seed (adrsSet adrs 7 0))
    (xorO l (xmssPrf seed (adrsSet adrs 7 1)) ++ xorO r (xmssPrf seed (adrsSet adrs 7 2)))

/-- The chaining function from `start`, `steps` steps (RFC 8391, algorithm 2). -/
def xmssChain (seed adrs : Octets) : Nat → Nat → Octets → Octets
  | 0, _, m => m
  | n + 1, i, m => xmssChain seed adrs n (i + 1) (xmssF seed (adrsSet adrs 6 i) m)

end Sys2Proof.Machine
end

