-- ==== Sys2Proof/Config.lean ====
section
/-! DEFINITION. What an implementation or the outside world fixes and the spec does not state: opaque
constants, which nothing in Lean can evaluate. A claim about one holds whatever it is. -/
namespace Sys2Proof

/-- The free value number `n` of the run, 64 bits (log 2): noise, live analogue readings, and the readings
of cut lines. -/
opaque Config.freeValue : Nat → BitVec 64

/-- What a line whose programming or erasing was cut holds (R48, R376, R384), for the cut numbered `k` and the
line `li`: [127:0] data, [130:128] chooses the status, [131] a further bit. -/
opaque Config.cutReading (k li : Nat) : BitVec 132

/-- The word of ROM at a word address (R29; the Curator's contents are not given). -/
opaque Config.romWord : Nat → Word

/-- The EUI-64 of wing `w` (R199). -/
opaque Config.wingEui : Nat → Eui

/-- The wing device key of wing `w`, 32 octets as one number (R470). -/
opaque Config.wingDeviceKey : Nat → BitVec 256

/-- The die key of the Dome (R490). -/
opaque Config.dieKey : BitVec 256

/-- The MAC address of the port as shipped. -/
opaque Config.macAddress : BitVec 48

/-- The vendor root public key as fused: root and seed, 64 octets (R495). -/
opaque Config.vendorRoot : BitVec 512

/-- The die identity (R258). -/
opaque Config.dieId : BitVec 128

/-- The ROM version of the Curator. -/
opaque Config.romVersion : BitVec 32

/-- The die stepping (R282). -/
opaque Config.siliconStep : BitVec 8

/-- The version of the port engine (R282). -/
opaque Config.portVersion : BitVec 32

/-- The grade: 0 for VY-H800-IA, 1 for VY-H800-IH (R1). -/
opaque Config.grade : Nat

/-- The short address of wing `w`, 0xFFFE or 0xFFFF for none: the spec names no place for it (R141). -/
opaque Config.wingShort : Nat → BitVec 16

/-- The PAN ID that the wings use (R144 gives it a place and no value). -/
opaque Config.panId : BitVec 16

/-- The duration in ticks of the preamble of a frame whose PHY the spec leaves to the standard (4-FSK), and of the STF of
SUN-OFDM: profile word 0, preamble octets (R113, R161). -/
opaque Config.preambleTicks : Nat → Nat → Nat

/-- The duration in ticks of the SFD of such a frame, for SUN-OFDM of the LTF: profile word 0 (R83). -/
opaque Config.sfdTicks : Nat → Nat

/-- The duration in ticks of the PHR and PSDU of such a frame, and of one that FEC codes: profile word 0, coded, MCS, PSDU octets (R90, R113). -/
opaque Config.bodyTicks : Nat → Bool → Nat → Nat → Nat

/-- The path delay in ticks from the SFD at RFI_n to its detection, by band and profile word 0 (R90). -/
opaque Config.pathDelay : Nat → Nat → Nat

end Sys2Proof
end

