-- ==== Sys2Proof/Machine/BlocksDome.lean ====
section
/-! DEFINITION. The state of the Dome (02), of the shared calendar and backup domain (11), and of one
wing's Carillon (10). Each field's docstring opens with [width; rule @chapter; reset value]; a field's
default is its value in `State.reset`. -/
namespace Sys2Proof.Machine

/-- The Dome: line, rails, brown-out, power modes (02_dome_power_startup.md). -/
structure Dome where
  /-- [64; R308 @09; 0] REF periods since Dome power-on, as of the last strobe. -/
  refCount : BitVec 64 := 0
  /-- [enum; R40 @02; off: no line yet] Line switch: debounce, GATE ramp, hold, overvoltage. -/
  line : LinePhase := .off
  /-- [16; R40 @02; 0: no line yet] The line in mV as it last crossed a threshold. -/
  lineMv : Nat := 0
  /-- [1; R41 @02; 0] The buck runs: the GATE ramp is complete and GATE stands at the line plus 10 V. -/
  buck : Bool := false
  /-- [1; R45 @02; 0] VINT is at or above 4.50 V and the 1.0 ms qualification runs. -/
  vintQual : Bool := false
  /-- [2; R37 @02; DESIGN CHOICE 0b00, log 3] Level at the balls BOOTSEL[1:0]. -/
  bootselPins : BitVec 2 := 0
  /-- [2; R37 @02; DESIGN CHOICE 0b00, log 3] BOOTSEL[1:0] as sampled. -/
  bootsel : BitVec 2 := 0
  /-- [1; R37 @02; 0] BOOTSEL has been sampled since the Dome power-on. -/
  bootselTaken : Bool := false
  /-- [8; R38 @02; DESIGN CHOICE 0, log 3] Class granted by the classification exchange. -/
  podlClass : Octet := 0
  /-- [8; R38 @02; none] The class that the device requested in the last classification exchange. -/
  podlAsked : Option Nat := none
  /-- [1; R45 @02; 0] Main good is reported. -/
  mainGood : Bool := false
  /-- [1; R46 @02; 0] A brown-out sequence is running. -/
  brownout : Bool := false
  /-- [1; R56 @02; 0] WATCH was armed at T_B of the running brown-out. -/
  watchArmed : Bool := false
  /-- [1; R48 @02; 0] HOLDUP_SHORT: the last brown-out broke the hold-up requirement. -/
  holdupShort : Bool := false
  /-- [enum; R54 @02; KEEP: the backup domain alone runs] Power mode. -/
  mode : PowerMode := .keep
  /-- [1; R60 @02; 1] VINT has not yet reported main good since the Dome started. -/
  domePor : Bool := true
  /-- [1; R60 @02; DESIGN CHOICE 0, log 3] RESET_N is held low. -/
  resetLow : Bool := false
  /-- [1; R527 @17; 0] REF_LOST: no REF_IN edge for 1 us. -/
  refLost : Bool := false
  /-- [12; R44 @02; 900] VCORE setpoint in mV. -/
  vcore : Nat := 900
  /-- [1; R44 @02; 0] The first monitor reading since main good has been taken. -/
  vcoreRead : Bool := false
  /-- [8; R56, R130 @02; 0xFF] The Watch wing in effect in the Dome (8 or more: none). -/
  watchWing : Nat := 0xFF
  /-- [8; R130 @04; 0xFF] WATCH_WING as last written, passed to the wings concerned. -/
  watchReq : Nat := 0xFF
  /-- [8; R130 @04; none] Wings whose Watch marker for `watchReq` is not yet journaled. -/
  watchWait : List Nat := []
  /-- [32; R66 @02; 0] D:1203.01 BROWNOUT_COUNT, in the Dome reserve. -/
  brownouts : Nat := 0
  /-- [16; R66 @02; 0] D:1203.02 HOLDUP_SHORT_COUNT, in the Dome reserve. -/
  holdupShorts : Nat := 0
  /-- [16; R66 @02; 0] D:1203.03 RAIL_FAULT_COUNT, in the Dome reserve. -/
  railFaults : Nat := 0
  /-- [16; R66 @02; DESIGN CHOICE 0, log 3] D:1204.01 VBAK_MV at the last comparator sample. -/
  vbak : Nat := 0
  /-- [1; R50 @02; DESIGN CHOICE 0, log 3] CELL_LOW. -/
  cellLow : Bool := false
  /-- [1; R50 @02; DESIGN CHOICE 0, log 3] CELL_EMPTY, sticky. -/
  cellEmpty : Bool := false
  /-- [1; R51 @02; 0] VBD is below the write-freeze threshold. -/
  writeFrozen : Bool := false
  /-- [1; R52 @02; 0] The backup POR is asserted. -/
  bpor : Bool := false
  /-- [16; R51 @02; 0] D:1204.05 FROZEN_WRITES. -/
  frozenWrites : Nat := 0
  deriving DecidableEq, Repr

/-- The seven fields of a calendar time, as BCD numbers (R346). -/
structure CalTime where
  /-- [7; R346 @11; 0x00] -/
  sec : Nat := 0x00
  /-- [7; R346 @11; 0x00] -/
  min : Nat := 0x00
  /-- [6; R346 @11; 0x00] -/
  hour : Nat := 0x00
  /-- [6; R346 @11; 0x01] -/
  day : Nat := 0x01
  /-- [5; R346 @11; 0x01] -/
  month : Nat := 0x01
  /-- [16; R346 @11; 0x2000] -/
  year : Nat := 0x2000
  /-- [3; R349, R350 @11; 6] -/
  wday : Nat := 6
  deriving DecidableEq, Repr

/-- One of the nine reader ports (R352, R366). -/
structure CalPort where
  /-- [94; R352 @11; released] The frozen shadow, divider and fields, or none. -/
  shadow : Option (Nat × CalTime) := none
  /-- [1; R353 @11; 0] SHADOW_TIMEOUT. -/
  timeout : Bool := false
  /-- [16; R366 @11; 0] CAL_CNT_IGNORED. -/
  ignored : Nat := 0
  deriving DecidableEq, Repr

/-- The alarm (R364, R365). -/
structure CalAlarm where
  /-- [8; R366 @11; 0x00] CAL_ALARM_SEC: [6:0] BCD, [7] EN. -/
  sec : BitVec 8 := 0
  /-- [8; R366 @11; 0x00] CAL_ALARM_MIN. -/
  min : BitVec 8 := 0
  /-- [8; R366 @11; 0x00] CAL_ALARM_HOUR. -/
  hour : BitVec 8 := 0
  /-- [8; R366 @11; 0x00] CAL_ALARM_DAY. -/
  day : BitVec 8 := 0
  /-- [8; R366 @11; 0x00] CAL_ALARM_WEEKDAY. -/
  wday : BitVec 8 := 0
  /-- [8; R366 @11; 0x00] CAL_ALARM_MONTH. -/
  month : BitVec 8 := 0
  /-- [16; R367 @11; 0] Octets 5 and 6 of D:1213.01, stored as written. -/
  year : BitVec 16 := 0
  /-- [1; R366 @11; 0] CAL_ALARM_CTRL.PWRON. -/
  pwron : Bool := false
  /-- [8; R366 @11; 60] CAL_ALARM_CTRL.WINDOW_S. -/
  window : BitVec 8 := 60
  deriving DecidableEq, Repr

/-- The calendar and the rest of the backup domain (11_calendar.md). -/
structure Calendar where
  /-- [15; R346 @11; 0] The divider. -/
  divider : Nat := 0
  /-- [53; R346 @11; 2000-01-01 00:00:00, weekday 6] The live time. -/
  time : CalTime := {}
  /-- [1; R350, R528 @11; 0] The LF crystal has run since the backup POR released. -/
  lfRunning : Bool := false
  /-- [1; R366 @11; 0] LF_STOPPED. -/
  lfStopped : Bool := false
  /-- [1; R350 @11; 1] OSF. -/
  osf : Bool := true
  /-- [1; R357 @11; 0] HALT_LOST. -/
  haltLost : Bool := false
  /-- [1; R348 @11; 0] ROLLOVER. -/
  rollover : Bool := false
  /-- [1; R359 @11; 0] BAD_DATE. -/
  badDate : Bool := false
  /-- [1; R365 @11; 0] ALARM. -/
  alarmFlag : Bool := false
  /-- [8; R355 @11; 0xFF none] The port that holds the halt, 0 to 7 a wing, 8 the host. -/
  owner : Option Nat := none
  /-- [1; R355 @11; 0] The halt has taken effect at an LF edge. -/
  halted : Bool := false
  /-- [2; R358 @11; none] A release written and waiting for its LF edge, with its DIV_ZERO. -/
  releasing : Option Bool := none
  /-- [1; R357 @11; 0] CARRY_PENDING. -/
  carryPending : Bool := false
  /-- [16; R362 @11; 0] TRIM in force, in 0.01 ppm. -/
  trim : Int := 0
  /-- [31; R363 @11; 0] Trim accumulator. -/
  acc : Nat := 0
  /-- [4; R363 @11; 0] Corrections still to make in this second. -/
  corrections : Nat := 0
  /-- [8; R362, R367 @11; 2] TRIM_MODE as the port wrote it to the backup domain. -/
  trimMode : Nat := 2
  /-- [16; R362, R367 @11; 0] TRIM_MANUAL as written to the backup domain. -/
  trimManual : Int := 0
  /-- [8; R362, R367 @11; 0] TRIM_WING as written to the backup domain. -/
  trimWing : Nat := 0
  /-- [R364 @11; all 0, window 60] The alarm. -/
  alarm : CalAlarm := {}
  /-- [1; R365, R59 @11; 0] The alarm drives PWRON high. -/
  drive : Bool := false
  /-- [16; R367 @11; 0] UNHALTED_WRITES. -/
  unhalted : Nat := 0
  /-- [16; R367 @11; 0] INVALID_WRITES. -/
  invalid : Nat := 0
  /-- [16; R367 @11; 0] CARRIES_DISCARDED. -/
  discarded : Nat := 0
  /-- [16; R367 @11; 0] LF_STOPS. -/
  lfStops : Nat := 0
  /-- [R352, R366 @11; released] The nine reader ports: the wings'. -/
  ports : Oct CalPort := ⟨{}, {}, {}, {}, {}, {}, {}, {}⟩
  /-- [R352, R366 @11; released] The host's reader port. -/
  hostPort : CalPort := {}
  /-- [1,024 x 8; R21, R52 @01; 0] Backup RAM by byte offset. -/
  bram : Tab Nat := []
  /-- [8; R365, R451 @11; none] Wings for which an alarm match is still latched. -/
  alarmLatch : List Nat := []
  /-- [8; R451 @14; none] Wings for which an OSF event is still latched. -/
  osfLatch : List Nat := []
  deriving DecidableEq, Repr

/-- Bell modes (R326). -/
inductive BellMode | off | compare | capture | tally
  deriving DecidableEq, Repr

/-- One bell (R326 to R335, R343). -/
structure Bell where
  /-- [16; R343 @10; 0] CAR_BELL_CFG. -/
  cfg : Word := 0
  /-- [1; R343 @10; 0] ARMED. -/
  armed : Bool := false
  /-- [1; R343 @10; 0] MATCH. -/
  matched : Bool := false
  /-- [1; R343 @10; 0] LATE. -/
  late : Bool := false
  /-- [1; R343 @10; 0] COARSE. -/
  coarse : Bool := false
  /-- [1; R343 @10; 0] CAPFULL. -/
  capfull : Bool := false
  /-- [1; R343 @10; 0] OVERRUN. -/
  overrun : Bool := false
  /-- [1; R343 @10; 0] TALLYWRAP. -/
  tallyWrap : Bool := false
  /-- [16; R327 @10; 0] Staged V[15:0]. -/
  st0 : Word := 0
  /-- [16; R327 @10; 0] Staged V[31:16]. -/
  st1 : Word := 0
  /-- [48; R327 @10; 0] V. -/
  v : Nat := 0
  /-- [48; R327 @10; 0] C. -/
  c : Nat := 0
  /-- [49; R327, R329 @10; 0] Ticks from C to the fire. -/
  d : Nat := 0
  /-- [48; R330 @10; 0] The capture register. -/
  capture : Nat := 0
  /-- [32; R332 @10; 0] The tally. -/
  tally : Nat := 0
  /-- [32; R328 @10; 0] INTERVAL. -/
  interval : Nat := 0
  deriving DecidableEq, Repr

/-- One wing's Carillon (10_carillon_timers.md). -/
structure Carillon where
  /-- [48; R318, R319 @10; 0] The timebase. -/
  tb : Nat := 0
  /-- [16; R318, R319 @10; 0] The lap. -/
  lap : Nat := 0
  /-- [1; R319 @10; 0] The time has started since the last reset. -/
  started : Bool := false
  /-- [1; R336 @10; 0] FINE. -/
  fine : Bool := false
  /-- [1; R25 @01; 0] The wing's PLL is locked. -/
  pllLocked : Bool := false
  /-- [1; R542 @09; 0] PLL_LOST has been sent and PLL_LOCKED has not. -/
  lostTold : Bool := false
  /-- [5; R337 @10; 0] The LF phase counter. -/
  phase : Nat := 0
  /-- [27; R338 @10; 0] LF trim accumulator, in ticks x 0.01 ppm. -/
  trimAcc : Nat := 0
  /-- [16; R338 @10; 0] The LF error read at the last entry to LF running. -/
  lfError : Int := 0
  /-- [1; R340 @10; 0] A wake request stands. -/
  wakeReq : Bool := false
  /-- [1; R343 @10; 1] LF_TRIM. -/
  lfTrim : Bool := true
  /-- [4; R343 @10; 4] WAKE_LEAD. -/
  wakeLead : Nat := 4
  /-- [1; R321 @10; 0] WRAP. -/
  wrap : Bool := false
  /-- [1; R321 @10; 0] LAPWRAP. -/
  lapwrap : Bool := false
  /-- [1; R320 @10; 0] ALIGNED. -/
  aligned : Bool := false
  /-- [64; R323 @10; 0] The Keeper reader's shadow. -/
  shadowK : Nat := 0
  /-- [64; R323 @10; 0] The applet reader's shadow. -/
  shadowA : Nat := 0
  /-- [32; R342 @10; 0] CAR_APPLET_MASK. -/
  appletMask : BitVec 32 := 0
  /-- [32 bells; R343 @10; OFF] Bells whose state is not the reset one, by number. -/
  bells : Tab Bell := []
  deriving DecidableEq, Repr

end Sys2Proof.Machine
end

