-- ==== Sys2Proof/Machine/BlocksPort.lean ====
section
/-! DEFINITION. The state of the host port (09), of the twin pairs held in it (07), and of its relay.
Each field's docstring opens with [width; rule @chapter; reset value]. -/
namespace Sys2Proof.Machine

/-- A DOMAIN transfer of a session (R274, R303). -/
structure Transfer where
  /-- [4; R274 @08] Realm code. -/
  realm : Nat
  /-- [16; R274 @08] INDEX. -/
  index : Nat
  /-- [8; R274 @08] SUB. -/
  sub : Nat
  /-- [1; R274 @08] DIRECTION: a write. -/
  write : Bool
  /-- [32; R274 @08] LENGTH. -/
  length : Nat
  /-- [R275 @08; empty] Octets received by offset, or the value being read. -/
  data : Tab Nat := []
  /-- [1; R275 @08; 0] The value being read has been copied. -/
  taken : Bool := false
  /-- [1; R303 @09; 0] Abandoned by time-out. -/
  timedOut : Bool := false
  deriving DecidableEq, Repr

/-- One of the eight Feran sessions (R298 to R307). -/
structure Session where
  /-- [1; R298 @09; 0] Reserved by HELLO. -/
  reserved : Bool := false
  /-- [1; R298 @09; 0] Open. -/
  isOpen : Bool := false
  /-- [1; R298 @09; 0] The OPEN response has not left yet: it opens the session. -/
  opening : Bool := false
  /-- [1; R301 @09; 0] A provisioning session. -/
  prov : Bool := false
  /-- [8; R316 @09; 0xFF] Credential. -/
  cred : Nat := 0xFF
  /-- [2; R298 @09; Observer] Role. -/
  role : SRole := .observer
  /-- [256; R490 @15; zeroed] Session key. -/
  key : Octets := []
  /-- [128; R298 @09; none] DEVICE_NONCE of the reservation. -/
  devNonce : Octets := []
  /-- [128; R298 @09; none] CLIENT_NONCE of the reservation. -/
  cliNonce : Octets := []
  /-- [42 octets; R296, R288 @09; none] Where the session was opened from: source MAC address, IPv6 address and UDP port, and
  the port's own address and UDP port used. -/
  peer : Octets := []
  /-- [32; R296 @09; none] Highest SEQ received. -/
  highest : Option Nat := none
  /-- [64 x 32; R296 @09; none] SEQs received within 64 of the highest. -/
  seen : List Nat := []
  /-- [3; R296 @09; 0] SEQs of the requests not yet answered. -/
  waiting : List Nat := []
  /-- [R296 @09; none] The last 8 responses with their SEQ, newest first. -/
  cache : List (Nat × Octets) := []
  /-- [32; R292 @09; 0] Events sent. -/
  events : Nat := 0
  /-- [8; R307 @09; ITEM only] Event classes. -/
  classes : BitVec 16 := 1
  /-- [8; R307 @09; all] Wing mask. -/
  wings : BitVec 8 := 0xFF
  /-- [32; R307 @09; empty] Queued events: MORE flag and body. -/
  queue : List (Bool × Octets) := []
  /-- [1; R307 @09; 0] The next event carries LOST. -/
  lost : Bool := false
  /-- [1; R542 @09; 0] BROWNOUT has been queued since the port's reset. -/
  brownoutTold : Bool := false
  /-- [2; R303 @09; none] DOMAIN transfers. -/
  transfers : List Transfer := []
  deriving DecidableEq, Repr

/-- A message for the host: its session (0xFF none), and its octets, header to tag (R292). -/
structure OutMsg where
  /-- [8; R292 @09] SESSION. -/
  session : Nat
  /-- [R292 @09] The message's octets. -/
  data : Octets
  deriving DecidableEq, Repr

/-- A Feran request handed to a wing and not yet answered (R297, R461). -/
structure WaitReq where
  /-- [3; R297 @09] Session. -/
  session : Nat
  /-- [32; R292 @09] SEQ. -/
  seq : Nat
  /-- [8; R292 @09] OPCODE. -/
  opcode : Nat
  /-- [4; R292 @09] REALM. -/
  realm : Nat
  /-- [4; R461, R281 @14] Where it was delivered: a wing, or the code of realm D or P. -/
  wing : Nat
  /-- [2; R304 @09; 0] The intake ring of a SUBMIT. -/
  ring : Nat := 0
  /-- [16; R304 @09; 0] RING_INDEX of a SUBMIT. -/
  index : Nat := 0
  /-- [32; R304 @09; 0] SUBMIT_TAG. -/
  tag : Nat := 0
  deriving DecidableEq, Repr

/-- A store of realm D or P (R279), the running one or the queued one. -/
structure PortStore where
  /-- [4; R279 @08] Realm code. -/
  realm : Nat
  /-- [R279 @08; none] Who waits for it, as in `Work.waiting`. -/
  waits : List Nat := []
  /-- [R280 @08; none] Codes of the restores that end with it. -/
  codes : List Nat := []
  /-- [R279 @08; empty] What it captured when it began. -/
  image : Tab Octets := []
  deriving DecidableEq, Repr

/-- A FORWARD that waits for its mesh RESPONSE (R312). -/
structure Fwd where
  /-- [3; R297 @09] Session. -/
  session : Nat
  /-- [32; R292 @09] SEQ. -/
  seq : Nat
  /-- [3; R312 @09] Wing. -/
  wing : Nat
  /-- [16; R312 @09] Neighbour. -/
  nb : Nat
  /-- [16; R312 @09] TRANSACTION. -/
  trans : Nat
  deriving DecidableEq, Repr

/-- A wing's window into the port (R315). -/
structure PortWin where
  /-- [64; R315 @09; 0] PORT_CENSUS_TS. -/
  ts : Nat := 0
  /-- [40; R315 @09; 0] PORT_CENSUS_ASN. -/
  asn : Nat := 0
  /-- [16; R315 @09; 0] PORT_CENSUS_COUNT. -/
  count : Nat := 0
  deriving DecidableEq, Repr

/-- A twin pair (R243 to R253, R310). -/
structure Pair where
  /-- [8; R243 @07; 0xFF] WING_A. -/
  a : Nat := 0xFF
  /-- [8; R243 @07; 0xFF] WING_B. -/
  b : Nat := 0xFF
  /-- [8; R249 @07; none] The wing whose token line is set. -/
  token : Option Nat := none
  /-- [1; R251 @07; 0] The token has been given since the port started. -/
  chosen : Bool := false
  /-- [enum; R255 @07; none] Pair state. -/
  state : PairState := .none
  /-- [64; R250 @07; none] The last beat of the ACTIVE wing, on its 64-bit time. -/
  beat : Option Nat := none
  /-- [64; R250, R253 @07; none] The last beat of the STANDBY wing, on its 64-bit time. -/
  standbyBeat : Option Nat := none
  /-- [1; R252 @07; 0] A planned switch waits for its release. -/
  switching : Bool := false
  /-- [2; R250 @07; none] The cause of a failure of the active that the port has detected and not yet acted on. -/
  failed : Option Nat := none
  /-- [64; R310 @09; empty] Messages held on the way to the wing of role A, oldest first. -/
  holdA : List (Nat × List Word) := []
  /-- [64; R310 @09; empty] Messages held on the way to wing B. -/
  holdB : List (Nat × List Word) := []
  deriving DecidableEq, Repr

/-- The host port (09_host_port_feran_sessions.md). -/
structure Port where
  /-- [1; R288 @09; 0] T1L link up. -/
  linkUp : Bool := false
  /-- [32; R316 @09; 0] LINK_LOSSES. -/
  linkLosses : Nat := 0
  /-- [3 x 2; R288 @09; not own] Addresses that are the port's own: link-local, ADDRESS_1, ADDRESS_2. -/
  own : BitVec 3 := 0
  /-- [3; R288 @09; 0] Addresses whose solicitation has been sent and waits. -/
  tentative : BitVec 3 := 0
  /-- [3; R316 @09; 0] DUPLICATE. -/
  duplicate : BitVec 3 := 0
  /-- [1; R278 @08; 0] The port image is final. -/
  imageFinal : Bool := false
  /-- [8 sessions; R298 @09; closed] Sessions. -/
  sessions : Oct Session := ⟨{}, {}, {}, {}, {}, {}, {}, {}⟩
  /-- [R297, R291 @09; empty] Messages that wait for the host, oldest first. -/
  out : List OutMsg := []
  /-- [2; R290 @09; 0] Messages in the two-message receive buffer at the last SPI transfer. -/
  rxHeld : Nat := 0
  /-- [3; R297 @09; 0] The session from which the rotation goes on. -/
  turn : Nat := 0
  /-- [1; R290 @09; 0] OVERRUN. -/
  overrun : Bool := false
  /-- [model's own, log 28; empty] What has left the part for the host, oldest first: Feran messages on SPI, Ethernet frames
  without their FCS on T1L. -/
  sent : List Octets := []
  /-- [1; R290, R291 @09; 0] POWER_FAIL: a brown-out has begun. -/
  powerFail : Bool := false
  /-- [R297, R461 @09; none] Requests handed to wings and not yet answered. -/
  waits : List WaitReq := []
  /-- [R461 @14; empty] Requests that wait for their session's previous request to the same wing, with their bodies. -/
  queue : List (WaitReq × Octets) := []
  /-- [R312 @09; none] FORWARDs that wait. -/
  fwds : List Fwd := []
  /-- [16; R312 @09; 0] The last TRANSACTION given. -/
  trans : Nat := 0
  /-- [32; R316 @09; 0] OPEN_FAILURES. -/
  openFailures : Nat := 0
  /-- [32; R316 @09; 0] DROPPED. -/
  dropped : Nat := 0
  /-- [32 x 16; R316 @09; 0] FAILURES of each credential. -/
  failures : Tab Nat := []
  /-- [32 x 32; R316 @09; 0] OPENS of each credential. -/
  opens : Tab Nat := []
  /-- [32 x 1; R300 @09; none] Credentials locked out. -/
  lockout : List Nat := []
  /-- [120 octets; R316 @09; empty] LAST_CENSUS. -/
  lastCensus : Octets := []
  /-- [32; R316 @09; 0] ALIGNS. -/
  aligns : Nat := 0
  /-- [32; R316 @09; 0] RELAYED. -/
  relayed : Nat := 0
  /-- [32; R316 @09; 0] RELAY_HOLDS. -/
  relayHolds : Nat := 0
  /-- [8 x 32; R316 @09; 0] EVENTS_LOST. -/
  eventsLost : Tab Nat := []
  /-- [32; R316 @09; 0] REPORTS_UNDELIVERED. -/
  undelivered : Nat := 0
  /-- [1; R542 @09; 0] The last start followed a brown-out. -/
  afterBrownout : Bool := false
  /-- [1; R490 @15; 0] The port's random source has failed a health test. -/
  randFail : Bool := false
  /-- [4 pairs; R34 @01; none] Twin pairs. -/
  pairs : Tab Pair := []
  /-- [R278 @08; defaults] Catalogue values of realms D and P that differ from their defaults. -/
  cat : Tab Octets := []
  /-- [R278 @08; none] Stored RETAINED values of realms D and P: the port image. -/
  stored : Tab Octets := []
  /-- [32; R278 @08; 0] Generation of the stored port image. -/
  gen : Nat := 0
  /-- [R278 @08; none] Copies of the port image read so far: wing, generation. -/
  copies : List (Nat × Nat) := []
  /-- [R279, R285 @08; none] Stores of realms D and P, a realm's running one before its queued one. -/
  storing : List PortStore := []
  deriving DecidableEq, Repr

end Sys2Proof.Machine
end

