-- ==== Sys2Proof/Machine/BlocksRadio.lean ====
section
/-! DEFINITION. The state of one wing's receiver (03), transmitter and limiter (04), link engine (05) and
mesh tables (06). Each field's docstring opens with [width; rule @chapter; reset value]. The configuration
registers of these four blocks are held in `Wing.regs`. -/
namespace Sys2Proof.Machine

/-- A channel plan with its profiles (R74 to R77), as written or in force (R76). -/
structure Plan where
  /-- [22; R74 @03; 0] F0 in kHz. -/
  f0 : Nat := 0
  /-- [10; R74 @03; 0] N. -/
  n : Nat := 0
  /-- [12; R74 @03; 200] The raster in kHz. -/
  raster : Nat := 200
  /-- [512 x 4; R75 @03; 0] Channel entries: [0] WATCH, [3:1] PROFILE. -/
  chans : Tab Nat := []
  /-- [8 x 52; R77, R103 @03; as R103] RX_PROF_W0 to W3 of profile p at 4p to 4p + 3. -/
  profs : Tab Word := []
  deriving DecidableEq, Repr

/-- One demodulator lane (R83). -/
structure RLane where
  /-- [2; R83 @03; FREE] State. -/
  state : LaneState := .free
  /-- [9; R83 @03; 0] Channel. -/
  ch : Nat := 0
  /-- [3; R83 @03; 0] Profile. -/
  prof : Nat := 0
  /-- [2; R82 @03; 0] Priority: 2 EXPECTED, 1 SEARCH, 0 OPEN. -/
  prio : Nat := 0
  /-- [8; R84 @03; 0] RSSI in dBm. -/
  rssi : Int := 0
  /-- [64; R84 @03; 0] Time of detection. -/
  det : Nat := 0
  /-- [64; R90 @03; 0] The SFD detection tick, for OFDM the tick at which the LTF ends, on the wing's 64-bit time. -/
  sfd : Nat := 0
  /-- [1; R81 @03; 0] MERGED. -/
  merged : Bool := false
  /-- [1; R84 @03; 0] PREEMPTED_OTHER. -/
  preempted : Bool := false
  /-- [1; R88 @03; 0] CODED. -/
  coded : Bool := false
  /-- [1; R92 @03; 0] An overload interval has overlapped the reception. -/
  ovl : Bool := false
  /-- [12; R86 @03; none] The buffer taken at the end of the PHR. -/
  buf : Option Nat := none
  /-- [11; R86 @03; 0] PSDU length of the PHR. -/
  len : Nat := 0
  /-- [1; R158 @05; 0] Detected in the acknowledgement window of the wing's own frame, on its channel. -/
  ackWin : Bool := false
  deriving DecidableEq, Repr

/-- The receiver and the radio states (R106). -/
structure Receiver where
  /-- [3; R106 @04; OFF] Radio state in force. -/
  radio : RadioState := .off
  /-- [3; R107 @04; none] The state whose transition is under way. -/
  going : Option RadioState := none
  /-- [64; R114 @04; 0] The tick at which the receiver calibration that runs ends. -/
  calEnd : Nat := 0
  /-- [3; R107 @04; OFF] The state that a receiver calibration was entered from. -/
  calFrom : RadioState := .off
  /-- [2; R96 @03; none] The foreground calibration that runs: 0 image, 1 filter, 3 offset. -/
  calRun : Option Nat := none
  /-- [4; R119 @04; 0b0000] The front-end pattern of the phase; while FEM_RAMP is 1 its bit 3 drives no line (R120). -/
  fem : BitVec 4 := 0
  /-- [R74 @03; N 0] The plan and the profiles as written. -/
  plan : Plan := {}
  /-- [R76 @03; N 0] The plan and the profiles in force. -/
  live : Plan := {}
  /-- [16 lanes; R83 @03; FREE] Lanes. -/
  lanes : Tab RLane := []
  /-- [R81 @03; empty] Detections reported in this LISTEN period that a further one may still be merged with: channel, power in dBm and 64-bit
  time, newest first. -/
  recent : List (Nat × Int × Nat) := []
  /-- [4,096 x 1; R87 @03; none] Receive buffers that are held. -/
  held : List Nat := []
  /-- [3; R73 @03; 0] PRESENT_STEP. -/
  step : Nat := 0
  /-- [2; R73 @03; 0] Quiet LISTEN periods at the present setting. -/
  quiet : Nat := 0
  /-- [1; R73 @03; 0] OVERLOAD occurred during the last LISTEN period. -/
  ovlPeriod : Bool := false
  /-- [1; R91 @03; 0] An overload interval is in progress. -/
  ovl : Bool := false
  /-- [1; R103 @03; 0] OVL_SEEN. -/
  ovlSeen : Bool := false
  /-- [48; R103 @03; 0] RX_OVL_FIRST. -/
  ovlFirst : Nat := 0
  /-- [512 x 8; R79, R103 @03; none: at RSSI_FLOOR] Noise floor estimates last held, by channel, plus 1; 0 where the channel has had no LISTEN
  since BOOT or the band change. -/
  noise : Tab Nat := []
  /-- [4; R103 @03; 0] RX_CAL_REQ. -/
  calReq : BitVec 4 := 0
  /-- [4; R96 @03; 0] Foreground calibrations that fall due: bits 0 image, 1 filter, 3 offset. -/
  calDue : BitVec 4 := 0
  /-- [1; R96 @03; 1] The calibrations of BOOT or of a band change are to run before the next LISTEN. -/
  calFirst : Bool := true
  /-- [2 x 16; R96 @03; none] CPU_TEMP at the last foreground run of the image-rejection and of the filter calibration, plus 1. -/
  calTemp : Tab Nat := []
  /-- [1; R98 @03; 0] CAL_DEFERRED. -/
  calDeferred : Bool := false
  /-- [3; R103 @03; 0] CAL_FAIL: image, filter, offset. -/
  calFail : BitVec 3 := 0
  /-- [8; R103 @03; 0] RX_CAL_IR. -/
  calIr : Nat := 0
  /-- [8; R103 @03; 0] RX_CAL_FILT. -/
  calFilt : Nat := 0
  /-- [6; R103 @03; 0] RX_CAL_VCO.BAND. -/
  calVco : Nat := 0
  /-- [1; R103 @03; 0] RX_CAL_VCO.FAIL. -/
  vcoFail : Bool := false
  /-- [16; R103 @03; 0] RX_CAL_LF. -/
  calLf : Int := 0
  /-- [1; R96 @03; 0] An LF error measurement has ended since the reset. -/
  lfDone : Bool := false
  /-- [16; R103 @03; 0] RX_CAL_REF. -/
  calRef : Int := 0
  /-- [16 x 8; R96 @03; none] FREQ_OFFSET of the last beacons of the time parent, newest first. -/
  refLast : List Int := []
  /-- [8; R103 @03; 0] RX_CAL_OFFS. -/
  calOffs : Nat := 0
  deriving DecidableEq, Repr

/-- A transmit request (R111). -/
structure TxReq where
  /-- [R111 @04] What it carries. -/
  what : TxWhat
  /-- [64; R111 @04] S on the wing's 64-bit time. -/
  start : Nat
  /-- [9; R111 @04] CHANNEL. -/
  ch : Nat
  /-- [3; R111 @04] PROFILE. -/
  prof : Nat
  /-- [1; R111 @04] CODED. -/
  coded : Bool := false
  /-- [3; R111 @04] MCS. -/
  mcs : Nat := 0
  /-- [8; R111 @04] POWER in 0.5 dBm. -/
  power : Int := 0
  /-- [2; R108 @04] RETURN: 0 LISTEN, 1 STANDBY, 2 OFF, 3 AUTO. -/
  ret : Nat := 3
  /-- [1; R110 @04] LANE_POLICY YIELD. -/
  yield : Bool := false
  /-- [16; R116 @04] ABORT_LIMIT in ticks from S; none honours an abort until the last symbol. -/
  abortTo : Option Nat := none
  /-- [1; R108 @04] The frame has AR set. -/
  ar : Bool := false
  /-- [1; R111 @04] FCS4. -/
  fcs4 : Bool := false
  /-- [1; R111 @04] WHITEN: on, as R161 has it for acknowledgements (DESIGN CHOICE for other frames, log 15). -/
  whiten : Bool := true
  /-- [24; R111 @04; none] BUF_ADDR; none of a frame that the link engine forms itself. -/
  buf : Option Nat := none
  /-- [11; R111 @04] LENGTH: octets of the PSDU, its FCS included. -/
  len : Nat := 0
  /-- [R111 @04] The PSDU, without its FCS, as the decision point finds it. -/
  psdu : Octets := []
  deriving DecidableEq, Repr

/-- The transmission in progress (R113). -/
structure TxRun where
  /-- [R113 @04] The request. -/
  req : TxReq
  /-- [enum; R113 @04] Where it stands. -/
  phase : TxPhase := .decided
  /-- [32; R125 @04] D in ticks. -/
  dur : Nat := 0
  /-- [32; R125 @04] Airtime charged, in us. -/
  airtime : Nat := 0
  /-- [3; R124 @04] The sub-band charged. -/
  sub : Nat := 0
  /-- [8; R118 @04] Power used. -/
  power : Int := 0
  /-- [3; R118 @04] LIMIT_CLAMP, PHY_CLAMP, WATCH_CLAMP. -/
  clamps : BitVec 3 := 0
  /-- [16; R97 @04; 0] The shift of the carrier, in 0.01 ppm of the channel centre. -/
  shift : Int := 0
  /-- [2,047 octets; R111 @04] The PSDU on air, with the FCS that the transmitter fills in. -/
  air : Octets := []
  /-- [1; R116 @04; 0] An honoured abort has stopped the modulator. -/
  aborted : Bool := false
  /-- [64; R116 @04; 0] The tick at which the return transition begins after that abort. -/
  backAt : Nat := 0
  /-- [32; R116 @04; 0] The airtime used, in us, once an abort has cut it short. -/
  used : Nat := 0
  /-- [1; R128 @04; 0] Its bucket has closed while it was on air, so the whole charge stands. -/
  kept : Bool := false
  /-- [1; R128 @04; 0] Its bucket has closed before it was on air: the charge lies in the newest closed bucket. -/
  aged : Bool := false
  /-- [5; R129 @04; 0] Sub-windows of its dwell account that have closed since it was charged. -/
  dwAge : Nat := 0
  deriving DecidableEq, Repr

/-- A test transmission (R131). -/
structure TestRun where
  /-- [R131 @04] Its present block of 1 ms, as a transmission of which that block is the whole. -/
  blk : TxRun
  /-- [64; R133 @04] S: the start of its first block. -/
  first : Nat
  /-- [32; R133 @04; 0] Airtime charged to the blocks before, in us. -/
  past : Nat := 0
  deriving DecidableEq, Repr

/-- The transmitter and the limiter's accounts (04). -/
structure Transmitter where
  /-- [R113 @04; none] The transmission in progress. -/
  run : Option TxRun := none
  /-- [R114 @04; none] A following transmission, decided while the first still ramps down. -/
  next : Option TxRun := none
  /-- [R111 @04; empty] Requests committed and not yet decided. -/
  reqs : List TxReq := []
  /-- [1; R133 @04; 0] SYNTH_LOCK. -/
  lock : Bool := false
  /-- [1; R133 @04; 0] PA_ON. -/
  pa : Bool := false
  /-- [R131 @04; none] The test transmission that runs: TEST_ACTIVE. -/
  testRun : Option TestRun := none
  /-- [4; R133 @04; 0] TX_LAST_RESULT. -/
  result : TxResult := .sent
  /-- [3; R133 @04; 0] LIMIT_CLAMP, PHY_CLAMP, WATCH_CLAMP. -/
  clamps : BitVec 3 := 0
  /-- [8; R133 @04; 0] TX_LAST_POWER. -/
  power : Int := 0
  /-- [48; R133 @04; 0] TX_LAST_START. -/
  start : Nat := 0
  /-- [32; R133 @04; 0] TX_LAST_AIRTIME. -/
  airtime : Nat := 0
  /-- [8 x 60 x 32; R128 @04; 0] Closed buckets in us, sub-band x 64 + age. -/
  closed : Tab Nat := []
  /-- [512 x 8 x 17 x 32; R129 @04; 0] Dwell sub-windows in us, (channel x 8 + sub-band) x 32 + age. -/
  dwell : Tab Nat := []
  /-- [8; R130 @04; 0] Sub-bands under the boot hold. -/
  hold : BitVec 8 := 0
  /-- [1; R130 @04; 0] The first entry to RUNNING since the reset has been made. -/
  ran : Bool := false
  /-- [8 x 32; R130 @04; none] Restored open buckets that wait for backup RAM, in us plus 1. -/
  heldOpen : Tab Nat := []
  /-- [1; R130 @04; 0] The validity mark waits for backup RAM. -/
  markDue : Bool := false
  /-- [16; R133 @04; 0] The low word of TX_LIM_ACK as written. -/
  ackLo : Word := 0
  deriving DecidableEq, Repr

/-- TEST_ACTIVE (R131). -/
def Transmitter.test (t : Transmitter) : Bool := t.testRun.isSome

/-- One neighbour record (R177) with the contact that its prediction rests on. -/
structure Nb where
  /-- [64; R177 @06; 0] EUI. -/
  eui : Eui := 0
  /-- [16; R177 @06; 0] SHORT. -/
  short : Word := 0
  /-- [1; R177 @06; 0] VALID. -/
  valid : Bool := false
  /-- [1; R177 @06; 0] PINNED. -/
  pinned : Bool := false
  /-- [1; R177 @06; 0] BEACONS. -/
  beacons : Bool := false
  /-- [1; R177 @06; 0] DRIFT_VALID. -/
  driftValid : Bool := false
  /-- [2; R177 @06; NORMAL] TIMING_STATE. -/
  timing : Timing := .normal
  /-- [4; R177 @06; 0] MISSES. -/
  misses : Nat := 0
  /-- [32; R165, R177 @06; none] PENDING and PENDING_FC. -/
  pend : Option Nat := none
  /-- [1; R177 @06; 0] RX_EMPTY. -/
  rxEmpty : Bool := false
  /-- [1; R177 @06; 0] BC_EMPTY. -/
  bcEmpty : Bool := false
  /-- [32; R177 @06; 0] RX_FC. -/
  rxFc : Nat := 0
  /-- [32; R177 @06; 0] BC_FC. -/
  bcFc : Nat := 0
  /-- [16; R177 @06; 0] NB_EPOCH. -/
  epoch : Nat := 0
  /-- [16; R177 @06; 0] BC_EPOCH. -/
  bcEpoch : Nat := 0
  /-- [40; R177 @06; 0] LAST_CONTACT_ASN. -/
  lastAsn : Nat := 0
  /-- [32; R177 @06; 0] LAST_OFFSET in ticks. -/
  offset : Int := 0
  /-- [32; R177 @06; 0] DRIFT in 0.01 ppm. -/
  drift : Int := 0
  /-- [8; R177 @06; 0] RSSI_AVG. -/
  rssi : Int := 0
  /-- [8; R177 @06; 0] PRR. -/
  prr : Nat := 0
  /-- [16; R177 @06; 0] RANK. -/
  rank : Nat := 0
  /-- [1; R177 @06; 0] LINEAGE_MATCH. -/
  lineage : Bool := false
  /-- [15; R177 @06; 0] BEACON_AGE. -/
  age : Nat := 0
  /-- [8; R177 @06; 0] KEY_FAILS. -/
  keyFails : Nat := 0
  /-- [8; R190 @06; 0] The key index of the failures counted. -/
  failIndex : Nat := 0
  /-- [64; R166 @05; none] Start of the last contact on the wing's 64-bit time. -/
  lastTime : Option Nat := none
  /-- [2; R170 @05; 0] Recovery contacts since the record left NORMAL: none, one, or enough for a DRIFT. -/
  recov : Nat := 0
  /-- [R143, R145 @05; none] Position and channel offset of its last beacon. -/
  beaconAt : Option (Nat × Nat) := none
  deriving DecidableEq, Repr

/-- One schedule cell (R150). -/
structure Cell where
  /-- [16; R150 @05; 0] SLOT_OFFSET. -/
  slot : Nat := 0
  /-- [16; R150 @05; 0] CHANNEL_OFFSET. -/
  ch : Nat := 0
  /-- [8; R150 @05; 0] KIND. -/
  kind : Nat := 0
  /-- [16; R150 @05; 0] NEIGHBOUR. -/
  nb : Nat := 0
  /-- [8; R150 @05; 0] PROFILE. -/
  prof : Nat := 0
  /-- [8; R150 @05; 0] PERIOD_EXP. -/
  period : Nat := 0
  /-- [16; R150 @05; 0] PHASE. -/
  phase : Nat := 0
  deriving DecidableEq, Repr

/-- A frame of the pending table (R155). -/
structure PendTx where
  /-- [16; R155 @05] Its place in the order of taking. -/
  id : Nat
  /-- [2; R157 @05] 0 ring 10, 1 ring 11, 2 ring 12. -/
  ring : Nat
  /-- [16; R213 @06] Its index on that ring. -/
  pos : Word := 0
  /-- [10; R154 @05] NEIGHBOUR. -/
  nb : Nat
  /-- [1; R154 @05] BROADCAST. -/
  bcast : Bool
  /-- [1; R154 @05] AR. -/
  ar : Bool
  /-- [4; R154 @05] MAX_TRIES. -/
  maxTries : Nat
  /-- [8; R154 @05] POWER. -/
  power : Int
  /-- [24; R154 @05] BUF_ADDR. -/
  buf : Nat
  /-- [11; R154 @05] LENGTH. -/
  len : Nat
  /-- [1; R154 @05] FC_GIVEN. -/
  given : Bool
  /-- [1; R154 @05] LANE_POLICY. -/
  yield : Bool
  /-- [40; R154 @05; none] The target ASN of a timed frame. -/
  at_ : Option Nat
  /-- [16; R154 @05] TAG. -/
  tag : Word
  /-- [16; R226 @07; none] Epoch and counter that the frame is sent under. -/
  fc : Option (Nat × Nat) := none
  /-- [R226 @07; empty] The secured octets, the same on every try. -/
  sent : Octets := []
  /-- [4; R156 @05; 0] Tries used. -/
  tries : Nat := 0
  /-- [4; R157 @05; SENT] Result of the last attempt. -/
  last : TxResult := .sent
  /-- [48; R157 @05; 0] S of the last attempt. -/
  start : Nat := 0
  /-- [8; R195 @06; 0] Opportunities that a relay lets pass. -/
  skip : Nat := 0
  /-- [12 octets; R195 @06; none] Key of a relayed flood: originator and number. -/
  key : Option (Nat × Nat) := none
  /-- [4; R195 @06; 0] Copies of the flood that have arrived. -/
  copies : Nat := 0
  /-- [2,047 octets; R195 @06; empty] A relay's frame in clear; any other's stands in its buffer. -/
  clear : Octets := []
  deriving DecidableEq, Repr

/-- A relay on ring 12 that has not been taken yet (R195). -/
structure Relay where
  /-- [16; R195 @06] Its index on ring 12. -/
  pos : Word
  /-- [12 octets; R196 @06] Originator and number of the flood. -/
  key : Nat × Nat
  /-- [4; R195 @06] Opportunities to let pass. -/
  skip : Nat
  /-- [4; R195 @06] Copies that have arrived. -/
  copies : Nat := 0
  /-- [1; R195 @06] Cancelled. -/
  gone : Bool := false
  /-- [2,047 octets; R195 @06] The frame in clear. -/
  clear : Octets
  deriving DecidableEq, Repr

/-- A received frame whose checks run (R159 to R165). -/
structure RxFrame where
  /-- [16; R164 @05] Its number. -/
  id : Nat
  /-- [7 x 16; R88 @03] The descriptor without LINK_STATUS. -/
  desc : List Word
  /-- [2,047 octets; R88 @03] The PSDU. -/
  psdu : Octets
  /-- [2; R160 @05] KIND: 0 unicast, 1 broadcast, 2 beacon, 3 admission. -/
  kind : Nat
  /-- [10; R159 @05] The sender's record. -/
  nb : Nat
  /-- [1; R188 @06] NEW or DUPLICATE. -/
  cls : SeqClass
  /-- [16; R188 @06] The epoch of the frame's key. -/
  epoch : Nat
  /-- [32; R188 @06] The frame counter. -/
  fc : Nat
  /-- [1; R159 @05] AR. -/
  ar : Bool
  /-- [64; R90 @03] END_TS on the wing's 64-bit time. -/
  endT : Nat
  /-- [32; R145 @05] D in ticks. -/
  dur : Nat
  /-- [9; R88 @03] Channel. -/
  ch : Nat
  /-- [3; R88 @03] Profile. -/
  prof : Nat
  /-- [1; R88 @03] CODED. -/
  coded : Bool
  /-- [12; R149 @05; none] The cell whose window it started in. -/
  cell : Option Nat := none
  /-- [1; R454 @14] Its ring had no slot to reserve: a beacon that is not delivered. -/
  noRoom : Bool := false
  /-- [1; R160 @05] IN_WINDOW. -/
  inWin : Bool := false
  /-- [1; R160 @05] RECOVERY. -/
  recovery : Bool := false
  /-- [1; R171 @05] The contact lies in a window that a learned DRIFT opened. -/
  predicted : Bool := false
  /-- [40; R145 @05] The slot in which it started. -/
  slot : Nat := 0
  /-- [32; R149 @05] Slip. -/
  slip : Int := 0
  /-- [2; R164 @05; none] The acknowledgement: none asked or requested, some false requested, some true sent in full. -/
  ack : Option Bool := none
  /-- [1; R164 @05; 0] The acknowledgement was asked for and will not be sent. -/
  noAck : Bool := false
  /-- [1; R164 @05; none] The outcome of the MIC check. -/
  mic : Option Bool := none
  /-- [1; R235 @07; none] The outcome of the Journal check. -/
  jrn : Option Bool := none
  /-- [48; R235 @07; 0] The accession number of its PARTNER record. -/
  acc : Nat := 0
  deriving DecidableEq, Repr

/-- A window of the present slot (R153, R158, R169, R170). -/
structure Win where
  /-- [9; R153 @05] Channel. -/
  ch : Nat
  /-- [64; R153 @05] First tick. -/
  lo : Nat
  /-- [64; R153 @05] Last tick, for the frame's start. -/
  hi : Nat
  /-- [32; R153 @05] Ticks that the detection adds. -/
  ext : Nat
  /-- [1; R153 @05] SEARCH, else EXPECTED. -/
  search : Bool
  /-- [10; R166 @05; none] Neighbour. -/
  nb : Option Nat
  /-- [12; R150 @05] The cell that opened it. -/
  cell : Nat
  /-- [1; R170 @05; 0] Opened from a learned DRIFT while the neighbour is not NORMAL. -/
  predicted : Bool := false
  /-- [1; R167 @05; 0] It is an RX_EXPECT window of a NORMAL neighbour, and no contact has started in it. -/
  owed : Bool := false
  deriving DecidableEq, Repr

/-- The acknowledgement that the wing awaits for its own frame (R158). -/
structure OwnAck where
  /-- [16; R158 @05] The frame. -/
  id : Nat
  /-- [9; R158 @05] Channel. -/
  ch : Nat
  /-- [64; R158 @05] Nominal first symbol. -/
  nominal : Nat
  deriving DecidableEq, Repr

/-- A grid anchor that takes effect at a slot boundary (R137, R145, R204, R205). -/
structure Anchor where
  /-- [40; R137 @05] ASN_REF. -/
  asnRef : Nat
  /-- [64; R137 @05] TICK_REF. -/
  tickRef : Int
  /-- [40; R204 @05] The first ASN under it. -/
  first : Nat
  /-- [1; R204 @05] Slots already resolved still run on the old grid. -/
  adopt : Bool := false
  deriving DecidableEq, Repr

/-- A slot that has been resolved (R152). -/
structure Slot where
  /-- [40; R152 @05] ASN. -/
  asn : Nat
  /-- [2; R152 @05] Purpose. -/
  purpose : Purpose
  /-- [R153 @05] Its windows. -/
  wins : List Win
  deriving DecidableEq, Repr

/-- The link engine (05). -/
structure Link where
  /-- [2; R146, R174 @05; SEARCHING] Sync state. -/
  sync : Sync := .searching
  /-- [40; R136 @05; 0] ASN. -/
  asn : Nat := 0
  /-- [64; R174 @05; 0] LNK_SLOT_START. -/
  slotStart : Nat := 0
  /-- [40; R137 @05; 0] ASN_REF. -/
  asnRef : Nat := 0
  /-- [64; R137 @05; 0] TICK_REF. -/
  tickRef : Int := 0
  /-- [R137, R204 @05; none] The anchor that takes effect at the next slot boundary. -/
  move : Option Anchor := none
  /-- [1; R174 @05; 0] TX_SLOT. -/
  txSlot : Bool := false
  /-- [R152 @05; none] The slot resolved and not yet begun. -/
  next : Option Slot := none
  /-- [R153 @05; none] The windows of the present slot, and the search windows that last into it. -/
  wins : List Win := []
  /-- [10; R145 @05; none] The time parent. -/
  parent : Option Nat := none
  /-- [1; R146 @05; 1: no entry since BOOT] The next entry to RUNNING is fresh. -/
  fresh : Bool := true
  /-- [64; R155 @05; empty] The pending table, oldest first. -/
  table : List PendTx := []
  /-- [16; R155 @05; 0] The number of the next frame taken or received. -/
  seq : Nat := 0
  /-- [64; R195 @06; empty] Relays on ring 12. -/
  relays : List Relay := []
  /-- [R158 @05; none] The acknowledgement awaited. -/
  own : Option OwnAck := none
  /-- [R164 @05; empty] Frames whose checks run. -/
  rx : List RxFrame := []
  /-- [R158 @05; none] A frame of acknowledgement kind that arrived in the window, not yet checked. -/
  ackIn : Option RxFrame := none
  /-- [R454 @14; empty] Completions held because the completion ring is full. -/
  heldCompl : List (List Word) := []
  /-- [R236 @07; empty] Completions that the Curator has not yet passed: ring and PUT. -/
  complAt : List (Nat × Word) := []
  /-- [4,096 cells; R150 @05; all 0] Cells. -/
  cells : Tab Cell := []
  /-- [512 x 16; R147 @05; 0] The hop table. -/
  hop : Tab Nat := []
  deriving DecidableEq, Repr

/-- One order (R208). -/
structure Order where
  /-- [64; R208 @06] ORIGINATOR. -/
  orig : Nat
  /-- [32; R208 @06] FLOOD_SEQ. -/
  seq : Nat
  /-- [8; R208 @06] CLASS. -/
  cls : Nat
  /-- [40; R208 @06] ORDER_ASN. -/
  asn : Nat
  /-- [16; R208 @06] ORDER_ID. -/
  oid : Nat
  /-- [8; R208 @06] ACTION. -/
  action : Nat
  /-- [8; R208 @06] PARAM. -/
  param : Nat
  /-- [1; R206, R209 @06; 0] LATE. -/
  late : Bool := false
  deriving DecidableEq, Repr

/-- A barrier that waits for its conditions (R213). -/
structure Barrier where
  /-- [16; R213 @06] ORDER_ID. -/
  oid : Nat
  /-- [40; R213 @06] B. -/
  asn : Nat
  /-- [8; R213 @06] PARAM. -/
  param : Nat
  /-- [2 x 16; R213 @06] PUT of rings 10 and 11 at T_S(B). -/
  puts : Word × Word
  /-- [R213 @06; none] Children that have confirmed, with CONFIRMED and MISSING. -/
  heard : List (Nat × Nat × Nat) := []
  deriving DecidableEq, Repr

/-- The mesh tables (06). -/
structure Mesh where
  /-- [1,024 x 32 words; R177 @06; all 0] Neighbour records. -/
  nbs : Tab Nb := []
  /-- [10; R216 @06; 0] MSH_NB_SEL. -/
  sel : Nat := 0
  /-- [32; R185 @06; from the journal, 0] TX_FC. -/
  txFc : Nat := 0
  /-- [16; R185 @06; from the journal, 0] KEY_EPOCH. -/
  keyEpoch : Nat := 0
  /-- [32; R225 @07; from the journal, 0] LIMIT of the newest sealed reservation. -/
  limit : Nat := 0
  /-- [R225, R248 @07; none] The next reservation: its epoch, its LIMIT, and whether it may be used. -/
  res : Option (Nat × Nat × Bool) := none
  /-- [32; R193 @06; from the journal, 0] MSH_FLOOD_SEQ. -/
  floodSeq : Nat := 0
  /-- [32; R193 @06; from the journal, 0] MSH_FLOOD_LIMIT. -/
  floodLimit : Nat := 0
  /-- [4,096 entries; R196 @06; empty] Seen-message cache: originator, number, ORIGIN_ASN. -/
  cache : List (Nat × Nat × Nat) := []
  /-- [40; R197 @06; none] The quiet limit. -/
  quiet : Option Nat := none
  /-- [32; R199 @06; from the journal, 0] LINEAGE_EPOCH. -/
  epoch : Nat := 0
  /-- [64; R199 @06; from the journal, 0] LINEAGE_ROOT. -/
  root : Nat := 0
  /-- [16; R200 @06; 0xFFFF] RANK. -/
  rank : Nat := 0xFFFF
  /-- [1; R202 @06; 0] The wing is an interim root. -/
  interim : Bool := false
  /-- [8; R202 @06; 0] Superframe boundaries without a candidate. -/
  lost : Nat := 0
  /-- [8; R202 @06; 0] Superframe boundaries in ORPHANED. -/
  orphan : Nat := 0
  /-- [16; R216 @06; 0] MSH_ORPHAN_SF. -/
  noTime : Nat := 0
  /-- [40; R203 @06; from the journal, 0] ASN_HWM. -/
  hwm : Nat := 0
  /-- [2,048 entries; R181 @06; empty] Departed list, oldest first: EUI, epoch, counter. -/
  departed : List (Nat × Nat × Nat) := []
  /-- [16; R209 @06; empty] Held orders. -/
  orders : List Order := []
  /-- [R213 @06; empty] Barriers that wait. -/
  barriers : List Barrier := []
  /-- [1,024; R213 @06; empty] Confirmations of children for barriers that this wing has not begun: ORDER_ID, child, CONFIRMED, MISSING. -/
  early : List (Nat × Nat × Nat × Nat) := []
  /-- [4 x 320 octets; R211 @06; empty] Census records, newest first. -/
  census : List Octets := []
  deriving DecidableEq, Repr

/-- One record of the journal (R228). -/
structure JRec where
  /-- [8; R228 @07] TYPE. -/
  typ : Nat
  /-- [48; R228 @07] JSEQ. -/
  seq : Nat
  /-- [13; R227 @07] Line offset of its header in each copy. -/
  at_ : Nat
  /-- [R229 @07] The body. -/
  body : Octets
  deriving DecidableEq, Repr

/-- What the Curator holds of an unretired item (R219, R236 to R241). -/
structure Item where
  /-- [48; R224 @07] ACCESSION. -/
  acc : Nat
  /-- [1; R219 @07] A partner item. -/
  partner : Bool
  /-- [10; R239 @07] NEIGHBOUR. -/
  nb : Nat
  /-- [32; R239 @07] SUBMIT_TAG, or the frame counter. -/
  tag : Nat
  /-- [3; R221 @07] SESSION. -/
  session : Nat := 0
  /-- [5; R221 @07] CREDENTIAL. -/
  cred : Nat := 0
  /-- [2; R221 @07] Intake ring. -/
  ring : Nat := 0
  /-- [16; R237 @07] Epoch. -/
  epoch : Nat := 0
  /-- [32; R226 @07] Counter. -/
  fc : Nat := 0
  /-- [64; R229 @07; 0] NB_EUI. -/
  eui : Eui := 0
  /-- [8; R237 @07] Attempts that remain. -/
  left : Nat := 0
  /-- [64; R237 @07; none] The 64-bit time after which no new attempt starts. -/
  deadline : Option Nat := none
  /-- [8; R239 @07; 0] Attempts used. -/
  used : Nat := 0
  /-- [8; R239 @07; 0] Total tries. -/
  tries : Nat := 0
  /-- [1; R237 @07; 0] A try has radiated. -/
  radiated : Bool := false
  /-- [2; R237 @07; none] The outcome in its DONE record. -/
  outcome : Option Nat := none
  /-- [1; R239 @07; 0] DUPLICATE. -/
  dup : Bool := false
  /-- [1; R239 @07; 0] SINGLE. -/
  single : Bool := false
  /-- [1; R239 @07; 0] REPLAYED. -/
  replayed : Bool := false
  /-- [10; R236 @07; none] The handle under which it stands on ring 10. -/
  handle : Option Nat := none
  /-- [1; R220 @07; 0] A partner item that has been accepted: acknowledged in full. -/
  acked : Bool := false
  /-- [1; R238 @07; 0] Its final report has been released. -/
  released : Bool := false
  /-- [1; R253 @07; 0] Its record waits for SEALED, so it is not yet placed. -/
  waits : Bool := false
  deriving DecidableEq, Repr

/-- An ITEM_QUERY that waits (R242). -/
structure Query where
  /-- [3; R242 @07] The querying session. -/
  session : Nat
  /-- [1; R305 @09] MODE: 0 by SUBMIT_TAG, 1 by accession number. -/
  mode : Nat
  /-- [48; R305 @09] The tag or number sought. -/
  key : Nat
  /-- [5; R242 @07] The querying session's CREDENTIAL. -/
  cred : Nat
  /-- [16 x 4; R242 @07] PUT of the intake rings as the query arrived. -/
  puts : List Word
  deriving DecidableEq, Repr

/-- A wing's store image (R276): what a store captures and a start restores. -/
structure Image where
  /-- [R276 @08; none] Catalogue values by INDEX x 256 + SUB. -/
  cat : Tab Octets := []
  /-- [R276 @08; none] Neighbour records. -/
  nbs : Tab Nb := []
  /-- [R276 @08; none] Cells. -/
  cells : Tab Cell := []
  deriving DecidableEq, Repr

/-- Accepted work (07). -/
structure Work where
  /-- [8,192 lines x 2; R227 @07; empty] The journal's records from tail to head. -/
  jrn : List JRec := []
  /-- [48; R228 @07; 0] The last JSEQ given. -/
  jseq : Nat := 0
  /-- [13; R227 @07; 0] The head. -/
  head : Nat := 0
  /-- [5; R231 @07; 0] The tail sector. -/
  tail : Nat := 0
  /-- [48; R224 @07; 1] NEXT_ACCESSION. -/
  next : Nat := 1
  /-- [1,024; R219 @07; empty] Unretired items in accession order. -/
  items : List Item := []
  /-- [R8, R241 @07; empty] What the wing keeps over a reset of its unretired items besides their records: reports released, attempts and time
  that remain, tries, and whether one has radiated (log 16). -/
  memo : List Item := []
  /-- [48 x 61; R231 @07; empty] JSEQ as each of the last 61 minutes ended, newest first. -/
  marks : List Nat := []
  /-- [R242 @07; empty] ITEM_QUERY requests that wait for the descriptors that stood in the intake rings before them. -/
  queries : List Query := []
  /-- [1; R255 @07; 0] INTAKE_OPEN. -/
  open_ : Bool := false
  /-- [1; R255 @07; 0] RELEASE_TOKEN. -/
  release : Bool := false
  /-- [16; R255 @07; 0] ACC_PAIR_GEN. -/
  pairGen : Nat := 0
  /-- [R253 @07; empty] Records sent to the standby whose SEALED is awaited: type, accession. -/
  sealWait : List (Nat × Nat) := []
  /-- [1; R241, R251 @07; 0] Replay's steps 4 to 6 wait until the port's image tells whether the wing is paired. -/
  deferred : Bool := false
  /-- [48; R253 @07; none] The JSEQ up to which a seeding has sent its records. -/
  seeding : Option Nat := none
  /-- [R247 @07; empty] Parts of a RECORD message received so far. -/
  parts : Octets := []
  /-- [R247 @07; empty] Relay messages that wait for the wing's own mailbox 6 or 7, oldest first. -/
  outbox : List (List Word) := []
  /-- [R206, R542 @06; empty] The data of the events on ring 5, oldest first: code and class data (log 22). -/
  events : List (Nat × Octets) := []
  /-- [R238, R454 @07; empty] Reports that wait for room on ITEM_RING, oldest first. -/
  reports : List (List Word) := []
  /-- [R276 @08; none] The wing's store image in force. -/
  stored : Image := {}
  /-- [32; R276 @08; 0] STORE_GEN. -/
  gen : Nat := 0
  /-- [R279 @08; none] A store that runs, with the image it captured. -/
  storing : Option Image := none
  /-- [1; R279 @08; 0] A store is queued. -/
  queued : Bool := false
  /-- [R279 @08; none] Who waits for the running store: a session, or 8 + neighbour + 1024 x TRANSACTION +
  2^26 x wing of a mesh request. -/
  waiting : List Nat := []
  /-- [R279 @08; none] Who waits for the queued store. -/
  waitNext : List Nat := []
  /-- [R280 @08; none] Codes of the restores that end with the running store. -/
  restores : List Nat := []
  /-- [R280 @08; none] Codes of the restores that end with the queued store. -/
  restoreNext : List Nat := []
  /-- [R276 @08; none] The generation before the one in force, which lies in the Archive until the next store. -/
  older : Option (Nat × Image) := none
  /-- [R281 @08; none] STORE (0) and RESTORE (its code) asked of both wings of the pair, that go to the standby once the running store has sealed. -/
  pairAsk : List Nat := []
  /-- [R281 @08; none] Those that belong to the queued store. -/
  pairAskNext : List Nat := []
  /-- [1; R281 @08; 0] The running store was asked of both wings, and this wing is the standby. -/
  share : Bool := false
  /-- [1; R281 @08; 0] The queued one was. -/
  shareNext : Bool := false
  /-- [R278 @08; none] The wing's copy of the port image, in its Archive: generation and values. -/
  portCopy : Option (Nat × Tab Octets) := none
  /-- [R278 @08; none] The generation before it. -/
  portOlder : Option (Nat × Tab Octets) := none
  /-- [R461 @14; empty] Sessions whose response stands in their exchange buffer and waits for its notice, oldest first. -/
  replies : List Nat := []
  /-- [1; R285 @08; 0] The last store failed. -/
  failed : Bool := false
  /-- [16; R285 @08; 0] LAST_STORE_MS. -/
  storeMs : Nat := 0
  /-- [1; R285 @08; 0] IMAGE_MISSING. -/
  missing : Bool := false
  deriving DecidableEq, Repr

/-- Trust, update and attestation of one wing (16). -/
structure Trust where
  /-- [2; R516 @16; 0] SLOT_A_STATE. -/
  slotA : Nat := 0
  /-- [2; R516 @16; 0] SLOT_B_STATE. -/
  slotB : Nat := 0
  /-- [32; R516 @16; 0] SLOT_A_VERSION. -/
  verA : Nat := 0
  /-- [32; R516 @16; 0] SLOT_B_VERSION. -/
  verB : Nat := 0
  /-- [2; R501, R506 @16; none] Slots A and B judged INVALID until they are written again. -/
  judged : BitVec 2 := 0
  /-- [64; R499 @16; from the journal, 0] BOOT_STATE. -/
  boot : Nat := 0
  /-- [32; R507 @16; 0] LAST_APPLY_MS. -/
  applyMs : Nat := 0
  /-- [64; R509 @16; from the journal, 0] POSITION. -/
  position : Nat := 0
  /-- [16; R514 @16; from the journal, 0] ROOT_GEN. -/
  rootGen : Nat := 0
  /-- [3; R516 @16; 0] ATTEST_STATE. -/
  attest : Nat := 0
  /-- [R508 @16; none] The attestation file: generation and seed (SK_SEED, SK_PRF, public seed), with the root. -/
  file : Option (Nat × Octets × Octets) := none
  /-- [R512 @16; none] The sealed successor file. -/
  successor : Option (Nat × Octets × Octets) := none
  /-- [16; R512 @16; empty] Certificates, oldest first, with their NEW_GEN. -/
  certs : List (Nat × Octets) := []
  /-- [2,920 octets; R513 @16; empty] PROVENANCE. -/
  prov : Octets := []
  /-- [64; R513 @16; none] Time of the last record. -/
  provAt : Option Nat := none
  deriving DecidableEq, Repr

end Sys2Proof.Machine
end

