-- ==== Sys2Proof/Machine/State.lean ====
section
/-! DEFINITION. The state of the block: plain data, every piece of state the spec gives the machine. -/
namespace Sys2Proof.Machine
open Sys2Proof

/-- One wing. -/
structure Wing where
  /-- [R15, R60 @02; in RESET] State and reset logic. -/
  sys : WSys := {}
  /-- [R399 @13] Core. -/
  core : Core := {}
  /-- [R431 @13] Watchdog. -/
  wdt : Wdt := {}
  /-- [R437 @13] Pins. -/
  gpio : Gpio := {}
  /-- [R433 @13] Applet. -/
  apl : Applet := {}
  /-- [196,608 x 16; R29 @01; DESIGN CHOICE 0, log 4] SRAM by physical word address. -/
  sram : Tab Word := []
  /-- [R441 @14] Docent. -/
  doc : Docent := {}
  /-- [16 rings; R452 @14; R455] Rings that differ from their reset layout. -/
  rings : Tab Ring := []
  /-- [8 mailboxes; R456 @14; FREE] Mailboxes. -/
  mbx : Tab Mbx := []
  /-- [R318 @10] Carillon. -/
  car : Carillon := {}
  /-- [R368 @12] Flash. -/
  fls : Flash := {}
  /-- [R467 @15] Cipher engine. -/
  cph : Cipher := {}
  /-- [R68 @03] Receiver. -/
  rx : Receiver := {}
  /-- [16 bits each; R31, R103, R133, R174 @01; as its register map] Plain configuration registers of the
  receiver, transmitter, link and mesh blocks that differ from their reset, by register address. -/
  regs : Tab Word := []
  /-- [R111 @04] Transmitter and limiter. -/
  tx : Transmitter := {}
  /-- [R136 @05] Link engine. -/
  lnk : Link := {}
  /-- [R177 @06] Mesh tables. -/
  msh : Mesh := {}
  /-- [R219 @07] Accepted work. -/
  wrk : Work := {}
  /-- [R315 @09] The window into the port. -/
  win : PortWin := {}
  /-- [R494 @16] Trust and update. -/
  tru : Trust := {}
  /-- [R259 @08; defaults] Catalogue values of the realm that differ from their defaults, by INDEX x 256 + SUB. -/
  cat : Tab Octets := []
  /-- [16 bits each; R31 @01; 0] 16-bit counter registers by register address. -/
  cnt16 : Tab Nat := []
  /-- [32 bits each; R344 @10; 0] Catalogue counters by INDEX x 256 + SUB. -/
  cnt32 : Tab Nat := []
  /-- [16 bits each; R103 @03; none] Latched high words by reader and register address. -/
  latch : Tab (Option Word) := []
  /-- [16; model's own, log 5] The word that the last register read returned. -/
  rdata : Word := 0
  deriving DecidableEq, Repr

/-- Why the machine stops with a fault. No command does: every command of the table has its effect, or
none, as the spec gives it. The constructor is kept for a reader of `core`; raised by nobody; safe. -/
inductive Fault
  /-- Raised by no command; safe. -/
  | unused
  deriving DecidableEq, Repr

/-- Why a command has no meaning. -/
inductive Refusal
  /-- A command whose meaning is not written; raised by the dispatch only; safe. -/
  | notModelled (mnemonic : String)
  deriving DecidableEq, Repr

/-- The whole device. -/
structure State where
  /-- [R40 @02] The Dome. -/
  dome : Dome := {}
  /-- [R346 @11] The calendar and backup domain. -/
  cal : Calendar := {}
  /-- [R287 @09] The host port. -/
  port : Port := {}
  /-- [8 wings; R36 @01] The wings. -/
  wings : Oct Wing := ⟨{}, {}, {}, {}, {}, {}, {}, {}⟩
  /-- [model's own, log 2; DESIGN CHOICE 0] How many free values have been drawn. -/
  free : Nat := 0
  /-- [block model; empty] Commands that wait, first in, first out. -/
  pending : List Instr := []
  deriving DecidableEq, Repr

/-- The machine right after reset: the Dome and the backup domain have just started, and every wing is
in RESET with the Dome power-on source asserted (R60, R63). -/
def State.reset : State := {}

end Sys2Proof.Machine
end

