-- ==== Sys2Proof/Machine/Tab.lean ====
section
/-! DEFINITION. The operations over the two containers of the state: the finite map `Tab` in its one
canonical form, and `Oct`, one value for each wing; and the saturating and wrapping counts. -/
namespace Sys2Proof.Machine

/-- What key `n` holds: its entry, or the default `d` of that key. -/
def tget {α : Type} (d : α) : Tab α → Nat → α
  | [], _ => d
  | (k, v) :: t, n => if k = n then v else tget d t n

/-- `n` holds `v` afterwards; an entry equal to the key's default `d` is not listed. -/
def tset {α : Type} [DecidableEq α] (d : α) (n : Nat) (v : α) : Tab α → Tab α
  | [] => if v = d then [] else [(n, v)]
  | (k, x) :: t =>
    if n < k then (if v = d then (k, x) :: t else (n, v) :: (k, x) :: t)
    else if n = k then (if v = d then t else (n, v) :: t)
    else (k, x) :: tset d n v t

/-- Keys strictly rise. -/
def trising {α : Type} : Tab α → Bool
  | [] => true
  | [_] => true
  | a :: b :: t => decide (a.1 < b.1) && trising (b :: t)

/-- The canonical form: keys strictly rising, no entry equal to the default of its key. -/
def twf {α : Type} [DecidableEq α] (d : Nat → α) (t : Tab α) : Bool :=
  trising t && t.all (fun e => decide (e.2 ≠ d e.1))

/-- Apply `f` to what key `n` holds. -/
def tmod {α : Type} [DecidableEq α] (d : α) (n : Nat) (f : α → α) (t : Tab α) : Tab α :=
  tset d n (f (tget d t n)) t

/-- Remove every entry whose key satisfies `p`. -/
def tdrop {α : Type} (p : Nat → Bool) (t : Tab α) : Tab α := t.filter (fun e => !p e.1)

/-- Write `vs` at consecutive keys from `n`. -/
def tputs {α : Type} [DecidableEq α] (d : α) (n : Nat) : List α → Tab α → Tab α
  | [], t => t
  | v :: vs, t => tputs d (n + 1) vs (tset d n v t)

/-- Read `k` consecutive keys from `n`. -/
def tgets {α : Type} (d : α) (t : Tab α) (n k : Nat) : List α :=
  (List.range k).map (fun i => tget d t (n + i))

/-- The value of wing `w`. -/
def Oct.get {α : Type} (o : Oct α) (w : Nat) : α :=
  match w with
  | 0 => o.a0 | 1 => o.a1 | 2 => o.a2 | 3 => o.a3 | 4 => o.a4 | 5 => o.a5 | 6 => o.a6 | _ => o.a7

/-- Give wing `w` the value `v`. -/
def Oct.set {α : Type} (o : Oct α) (w : Nat) (v : α) : Oct α :=
  match w with
  | 0 => { o with a0 := v } | 1 => { o with a1 := v } | 2 => { o with a2 := v }
  | 3 => { o with a3 := v } | 4 => { o with a4 := v } | 5 => { o with a5 := v }
  | 6 => { o with a6 := v } | _ => { o with a7 := v }

/-- Apply `f`, which may see the wing's number, to every wing's value. -/
def Oct.map {α β : Type} (f : Nat → α → β) (o : Oct α) : Oct β :=
  ⟨f 0 o.a0, f 1 o.a1, f 2 o.a2, f 3 o.a3, f 4 o.a4, f 5 o.a5, f 6 o.a6, f 7 o.a7⟩

/-- A counter register one higher, saturating at 0xFFFF. -/
def sat16 (n : Nat) : Nat := min (n + 1) 0xFFFF

/-- A 32-bit counter one higher, wrapping at 0xFFFF_FFFF. -/
def wrap32 (n : Nat) : Nat := (n + 1) % 2 ^ 32

/-- Apply `f` `n` times. -/
def iter {α : Type} (n : Nat) (f : α → α) (a : α) : α :=
  match n with
  | 0 => a
  | k + 1 => iter k f (f a)

end Sys2Proof.Machine
end

