-- ==== Sys2Proof/Machine/OpsBase.lean ====
section
/-! DEFINITION. The named operations every family uses: access to a wing, counters, settings, free values,
raising a Docent source, and sending an event to the host. -/
namespace Sys2Proof.Machine
open Sys2Proof

/-- Wing `w`. -/
def State.wing (s : State) (w : Nat) : Wing := s.wings.get w

/-- Give wing `w` the value `x`. -/
def State.setWing (s : State) (w : Nat) (x : Wing) : State := { s with wings := s.wings.set w x }

/-- Apply `f` to wing `w`. -/
def State.modWing (s : State) (w : Nat) (f : Wing → Wing) : State := s.setWing w (f (s.wing w))

/-- The outcome of a command that has its effect. -/
abbrev Out : Type := Host.Outcome State Fault Refusal

/-- A free value (log 2), and the state in which it has been drawn. -/
def State.draw (s : State) : BitVec 64 × State :=
  (Config.freeValue s.free, { s with free := s.free + 1 })

/-- `k` free octets. -/
def State.drawOctets (s : State) : Nat → Octets × State
  | 0 => ([], s)
  | k + 1 =>
    let (os, s') := State.drawOctets s k
    let (v, s'') := s'.draw
    (o8 v.toNat :: os, s'')

/-- The value of a numeric Catalogue entry of a wing: as written, or its default `d` (R264). -/
def Wing.num (x : Wing) (key d : Nat) : Nat :=
  match tget [] x.cat key with | [] => d | os => leNat os

/-- The value of a BOOL entry. -/
def Wing.flag (x : Wing) (key : Nat) (d : Bool) : Bool := x.num key (b2n d) != 0

/-- The value of an entry of realm D or P, keyed by INDEX x 256 + SUB with 2^24 added for realm P. -/
def Port.num (p : Port) (key d : Nat) : Nat :=
  match tget [] p.cat key with | [] => d | os => leNat os

/-- The 16-bit counter register at `reg`. -/
def Wing.cnt (x : Wing) (reg : Nat) : Nat := tget 0 x.cnt16 reg

/-- An event counted in the register at `reg` (saturating) and in the Catalogue entry `idx` (wrapping); 0
names no register or no entry (log 6). -/
def Wing.bump (reg idx : Nat) (x : Wing) : Wing :=
  { x with
    cnt16 := if reg = 0 then x.cnt16 else tmod 0 reg sat16 x.cnt16
    cnt32 := if idx = 0 then x.cnt32 else tmod 0 idx wrap32 x.cnt32 }

/-- `bump` when the condition holds. -/
def Wing.bumpIf (c : Bool) (reg idx : Nat) (x : Wing) : Wing := if c then x.bump reg idx else x

/-- The 32-bit Catalogue counter `idx`. -/
def Wing.total (x : Wing) (idx : Nat) : Nat := tget 0 x.cnt32 idx

/-- Set source `n` pending and raise its arrival count; a TO_HOST source also sets DOC_HOST_PEND (R443, R449). -/
def Docent.raise (n : Nat) (d : Docent) : Docent :=
  { d with
    pend := d.pend ||| BitVec.twoPow 128 n
    hostPend := if d.toHost.getLsbD n then d.hostPend ||| BitVec.twoPow 128 n else d.hostPend
    arrivals := tmod 0 n (fun a => min (a + 1) 255) d.arrivals }

/-- Raise source `n` of a wing (R443). -/
def Wing.raise (n : Nat) (x : Wing) : Wing := { x with doc := x.doc.raise n }

/-- `raise` when the condition holds. -/
def Wing.raiseIf (c : Bool) (n : Nat) (x : Wing) : Wing := if c then x.raise n else x

/-- Raise source `n` of wing `w`. -/
def State.raise (w n : Nat) (s : State) : State := s.modWing w (Wing.raise n)

/-- Apply `f` to the sessions, numbered. -/
def State.modSessions (s : State) (f : Nat → Session → Session) : State :=
  { s with port := { s.port with sessions := s.port.sessions.map f } }

/-- Apply `f` to session `n`. -/
def State.modSession (s : State) (n : Nat) (f : Session → Session) : State :=
  { s with port := { s.port with sessions := s.port.sessions.set n (f (s.port.sessions.get n)) } }

/-- Queue one event body for a session, or lose it when 32 wait (R307). -/
def Session.push (more : Bool) (body : Octets) (x : Session) : Session :=
  if x.queue.length < 32 then { x with queue := x.queue ++ [(more, body)] } else { x with lost := true }

/-- Queue an event of a class for each session of `p` (R307, R542): CLASS, WING, CODE and the class data. -/
def State.eventTo (p : Nat → Session → Bool) (more : Bool) (cls wing code : Nat) (data : Octets) (s : State) : State :=
  let body := o8 cls :: o8 wing :: natLe 2 code ++ data
  let lose := fun n (x : Session) => x.isOpen && p n x && decide (32 ≤ x.queue.length)
  let lost := (List.range 8).foldl
    (fun t n => if lose n (s.port.sessions.get n) then tmod 0 n wrap32 t else t) s.port.eventsLost
  let s := { s with port := { s.port with eventsLost := lost } }
  s.modSessions (fun n x => if x.isOpen && p n x then x.push more body else x)

/-- Send an event to every open session subscribed to its class and wing (R307). -/
def State.event (cls wing code : Nat) (data : Octets) (s : State) : State :=
  s.eventTo (fun _ x => x.classes.getLsbD cls && (wing == 0xFF || x.wings.getLsbD wing)) false cls wing code data

/-- The code of a wing state in `n:2000.01` and the STATE event (R61, R284). -/
def WingState.code : WingState → Nat
  | .reset => 0 | .boot => 1 | .stopped => 2 | .running => 3 | .faulted => 4

/-- Put wing `w` in a state; the port sees the change and sends STATE (R542). -/
def State.toState (w : Nat) (st : WingState) (cause : Nat) (s : State) : State :=
  if (s.wing w).sys.state = st then s else
  (s.modWing w (fun x => { x with sys := { x.sys with state := st } })).event 2 w 1
    ([o8 st.code, 0] ++ natLe 2 cause)

/-- Whether the core of a wing can run: the wing is out of RESET and not FAULTED. -/
def Wing.awake (x : Wing) : Bool :=
  match x.sys.state with | .boot => true | .stopped => true | .running => true | _ => false

/-- Whether the port delivers to the wing's rings: R15. -/
def Wing.live (x : Wing) : Bool :=
  match x.sys.state with | .stopped => true | .running => true | _ => false

/-- A register access by the core of wing `w`: `t` when the core can run, and nothing happens while the
wing is in RESET or FAULTED (log 10). -/
def byCore (w : Nat) (s t : State) : Out := .next (if (s.wing w).awake then t else s)

end Sys2Proof.Machine
end

