-- ==== Sys2Proof/Machine/Reply.lean ====
section
/-! DEFINITION. What leaves the host port: Feran messages under their session's key (R292, R293), on SPI or in UDP datagrams over
IPv6 (R287 to R289), and events. -/
namespace Sys2Proof.Machine
open Sys2Proof

/-- A key of the Catalogue tables: INDEX x 256 + SUB. -/
abbrev catKey (idx sub : Nat) : Nat := idx * 256 + sub

/-- The key of an entry of realm D or P in the port's tables. -/
def dpKey (p : Bool) (idx sub : Nat) : Nat := (if p then 2 ^ 24 else 0) + catKey idx sub

/-- The carrier is SPI (R37, R287). -/
def State.spi (s : State) : Bool := s.dome.bootsel.getLsbD 1

/-- STATUS codes (R295). -/
def Status.code : Status → Nat
  | .ok => 0 | .noEntry => 1 | .readOnly => 2 | .role => 3 | .notStopped => 4 | .locked => 5 | .busy => 6 | .badLength => 7
  | .range => 8 | .refused => 9 | .wingUnavailable => 0xA | .ringFull => 0xB | .intakeClosed => 0xC | .badMessage => 0xE
  | .noSession => 0xF | .sessionLimit => 0x10 | .credential => 0x11 | .lockout => 0x12 | .timeout => 0x13 | .notFound => 0x14
  | .outstanding => 0x15 | .notReady => 0x16 | .notBlank => 0x17 | .badFrame => 0x21 | .neighbourInvalid => 0x22
  | .unretiredLimit => 0x23 | .journalFull => 0x24 | .accessionExhausted => 0x25 | .epochExhausted => 0x26 | .notActive => 0x27

/-- A REFUSE code of R223 as a STATUS (R295). -/
def refuseStatus (c : Nat) : Status :=
  match c with
  | 1 => .badFrame | 2 => .neighbourInvalid | 3 => .unretiredLimit | 4 => .journalFull | 5 => .accessionExhausted
  | 6 => .epochExhausted | _ => .notActive

/-- The code of a realm (R259). -/
def Realm.code : Realm → Nat | .wing w => w | .dome => 0xD | .port => 0xE

/-- A realm by its code. -/
def realmOf (n : Nat) : Option Realm :=
  if h : n < 8 then some (.wing ⟨n, h⟩) else if n = 0xD then some .dome else if n = 0xE then some .port else none

/-- The header of a Feran message (R292). -/
def feranHeader (op sess flags seq len realm status : Nat) : Octets :=
  [1, o8 op, o8 sess, o8 flags] ++ natLe 4 seq ++ natLe 2 len ++ [o8 realm, o8 status]

/-- The nonce of R293: 0 request, 1 response, 2 event. -/
def feranNonce (typ sess seq : Nat) : Octets := [o8 typ, o8 sess] ++ zeros 6 ++ natLe 4 seq

/-- A message of session `n`: encrypted and tagged under its key, or in clear for a provisioning session (R293, R301). -/
def Session.seal (x : Session) (typ n seq : Nat) (header body : Octets) : Octets :=
  if x.prov || x.key.isEmpty then header ++ body
  else let (c, t) := gcmEnc x.key (feranNonce typ n seq) header body 16; header ++ c ++ t

/-- The sum of R289's checksums over octets, carries folded. -/
def sum16 : Octets → Nat → Nat
  | a :: b :: t, n => let m := n + 256 * a.toNat + b.toNat; sum16 t (m % 65536 + m / 65536)
  | [a], n => let m := n + 256 * a.toNat; m % 65536 + m / 65536
  | [], n => n

/-- The checksum of an IPv6 upper-layer packet whose own checksum field is 0, or the sum check over one that carries it: 0. -/
def ipSum (src dst : Octets) (next : Nat) (packet : Octets) : Nat :=
  0xFFFF - sum16 (src ++ dst ++ natBe 4 packet.length ++ [0, 0, 0, o8 next] ++ packet) 0

/-- The port's MAC address. -/
def ownMac : Octets := natBe 6 Config.macAddress.toNat

/-- An Ethernet frame with an IPv6 packet, without its FCS. -/
def ipFrame (mac src dst : Octets) (hop next : Nat) (packet : Octets) : Octets :=
  mac ++ ownMac ++ [0x86, 0xDD, 0x60, 0, 0, 0] ++ natBe 2 packet.length ++ [o8 next, o8 hop] ++ src ++ dst ++ packet

/-- HOP_LIMIT (R316). -/
def Port.hop (p : Port) : Nat := p.num (dpKey true 0x1110 5) 64

/-- A datagram to where a session was opened from (R288, R289): the checksum is always sent. -/
def udpFrame (hop : Nat) (peer payload : Octets) : Octets :=
  let src := slice peer 24 16
  let dst := slice peer 6 16
  let head := slice peer 40 2 ++ slice peer 22 2 ++ natBe 2 (8 + payload.length)
  let c := ipSum src dst 17 (head ++ [0, 0] ++ payload)
  ipFrame (peer.take 6) src dst hop 17 (head ++ natBe 2 (if c = 0 then 0xFFFF else c) ++ payload)

/-- The link-local address: the modified EUI-64 of the MAC address (R288). -/
def linkLocal : Octets :=
  let m := ownMac
  [0xFE, 0x80] ++ zeros 6 ++ [(m.getD 0 0) ^^^ 2] ++ slice m 1 2 ++ [0xFF, 0xFE] ++ m.drop 3

/-- The port's addresses: link-local, ADDRESS_1, ADDRESS_2; all zeros stands for none (R288). -/
def Port.address (i : Nat) (p : Port) : Octets :=
  if i = 0 then linkLocal else match tget [] p.cat (dpKey true 0x1110 (1 + i)) with | [] => zeros 16 | os => os

/-- An ICMPv6 packet with its checksum (PRESUMED, log 34: RFC 4443). -/
def icmpPacket (src dst : Octets) (typ code : Nat) (rest : Octets) : Octets :=
  let c := ipSum src dst 58 ([o8 typ, o8 code, 0, 0] ++ rest)
  [o8 typ, o8 code] ++ natBe 2 c ++ rest

/-- The solicited-node multicast address of an address (PRESUMED, log 34). -/
def solicitedNode (a : Octets) : Octets := [0xFF, 2] ++ zeros 9 ++ [1, 0xFF] ++ a.drop 13

/-- The solicitation of duplicate address detection (R288; PRESUMED, log 34: RFC 4861, RFC 4862). -/
def dadFrame (a : Octets) : Octets :=
  let src := zeros 16
  let dst := solicitedNode a
  ipFrame ([0x33, 0x33] ++ dst.drop 12) src dst 255 58 (icmpPacket src dst 135 0 (zeros 4 ++ a))

/-- A frame leaves on T1L, unless the link is down or a brown-out has begun (R46, R288). -/
def State.sendFrame (f : Octets) (s : State) : State :=
  if s.port.powerFail || !s.port.linkUp then s else { s with port := { s.port with sent := s.port.sent ++ [f] } }

/-- Address `i` of the port, one that is set and not its own, becomes tentative: its one solicitation leaves (R288). -/
def State.solicit (i : Nat) (s : State) : State :=
  let a := s.port.address i
  let m := BitVec.twoPow 3 i
  if !s.port.linkUp || s.port.own.getLsbD i || s.port.duplicate.getLsbD i || s.port.tentative.getLsbD i || a.all (· == 0) then s
  else ({ s with port := { s.port with tentative := s.port.tentative ||| m } }).sendFrame (dadFrame a)

/-- A message goes to the host: it waits on SPI (R291), and leaves at once on T1L. -/
def State.emit (n : Nat) (peer msg : Octets) (s : State) : State :=
  if s.port.powerFail then s
  else if s.spi then { s with port := { s.port with out := s.port.out ++ [{ session := n, data := msg }] } }
  else s.sendFrame (udpFrame s.port.hop peer msg)

/-- A response that names no session (R293, R296): untagged. -/
def State.replyBare (sess op seq realm : Nat) (peer : Octets) (st : Status) (s : State) : State :=
  s.emit 0xFF peer (feranHeader op sess 1 seq 0 realm st.code)

/-- The response to request `q` of an open session, by its STATUS code: sent, kept among the last 8, and the request no longer waits
(R294, R296). -/
def State.replyCode (q : WaitReq) (code : Nat) (more : Bool) (body : Octets) (s : State) : State :=
  let x := s.port.sessions.get q.session
  if !x.isOpen && !x.opening then s else
  let body := if code = 0 then body else []
  let h := feranHeader q.opcode q.session (1 + 4 * b2n more) q.seq body.length q.realm code
  let m := x.seal 1 q.session q.seq h body
  let s := s.modSession q.session (fun x =>
    { x with cache := ((q.seq, m) :: x.cache).take 8, waiting := x.waiting.filter (· ≠ q.seq) })
  s.emit q.session x.peer m

/-- The response with STATUS `st`. -/
def State.reply (q : WaitReq) (st : Status) (more : Bool) (body : Octets) (s : State) : State := s.replyCode q st.code more body

/-- The oldest queued event of session `n` as its message, and the session without it (R292, R307). -/
def Session.nextEvent (n : Nat) (x : Session) : Option (Octets × Session) :=
  match x.queue with
  | [] => none
  | (more, body) :: rest =>
    let k := x.events + 1
    let h := feranHeader 0x41 n (2 + 4 * b2n more + 8 * b2n x.lost) k body.length (if (body.getD 1 0) = 0xFF then 0xE else (body.getD 1 0).toNat) 0
    some (x.seal 2 n k h body, { x with queue := rest, lost := false, events := k })

/-- One event of session `n` leaves on T1L. -/
def State.sendEvent (n : Nat) (s : State) : State :=
  match (s.port.sessions.get n).nextEvent n with
  | none => s
  | some (m, x) => (s.modSession n (fun _ => x)).emit n x.peer m

/-- On T1L every queued event leaves while the link is up (R307). -/
def State.sendEvents (s : State) : State :=
  if s.spi || !s.port.linkUp || s.port.powerFail then s
  else (List.range 8).foldl (fun t n => iter (t.port.sessions.get n).queue.length (State.sendEvent n) t) s

/-- The response to the request of a session that waits on wing `w`, if it still waits (R297, R461). -/
def State.answer (w n : Nat) (st : Status) (body : Octets) (s : State) : State :=
  match s.port.waits.find? (fun q => q.session == n && q.wing == w) with
  | none => s
  | some q =>
    let gone := fun (l : List WaitReq) => l.filter (fun r => !(r.session == n && r.wing == w && r.seq == q.seq))
    ({ s with port := { s.port with waits := gone s.port.waits } }).reply q st false body

end Sys2Proof.Machine
end

