-- ==== Sys2Proof/Machine/Carillon.lean ====
section
/-! DEFINITION. The Carillon (10_carillon_timers.md): timebase, bells, LF running, and its registers. A
command that records a tick carries `dt`, the ticks that have passed in fine running since the wing's last
command (DESIGN CHOICE, log 7). -/
namespace Sys2Proof.Machine
open Sys2Proof

/-- 2^48 ticks, one lap. -/
abbrev lapTicks : Nat := 2 ^ 48

/-- Read word `off` of a multi-word register of `k` words at `low`: the low word latches the others for the
reader `rd` (R103, R343). With nothing latched a high word reads live (DESIGN CHOICE, log 8). -/
def Wing.readMulti (rd low k val off : Nat) (x : Wing) : Word × Wing :=
  let put := fun t i => tset none (rd * 2 ^ 24 + low + 1 + i) (some (w16 (val / 2 ^ (16 * (i + 1))))) t
  if off = 0 then (w16 val, { x with latch := (List.range (k - 1)).foldl put x.latch })
  else
    ((tget none x.latch (rd * 2 ^ 24 + low + off)).getD (w16 (val / 2 ^ (16 * off))), x)

/-- Bell `b`. -/
def Wing.bell (x : Wing) (b : Nat) : Bell := tget {} x.car.bells b

/-- Give bell `b` the value `v`. -/
def Wing.setBell (b : Nat) (v : Bell) (x : Wing) : Wing :=
  { x with car := { x.car with bells := tset {} b v x.car.bells } }

/-- MODE (R326). -/
def Bell.mode (v : Bell) : BellMode :=
  match bits v.cfg.toNat 1 0 with | 0 => .off | 1 => .compare | 2 => .capture | _ => .tally

/-- SOURCE (R333). -/
def Bell.source (v : Bell) : Nat := bits v.cfg.toNat 5 2

/-- A compare is pending on the bell. -/
def Bell.waits (v : Bell) : Bool := v.armed && decide (v.mode = .compare)

/-- Ticks from the count `tb` to the next match of an armed bell (R327, R329). -/
def Bell.remaining (tb : Nat) (v : Bell) : Nat := v.d - (tb + lapTicks - v.c) % lapTicks

/-- The time goes on by `dt` ticks of fine running; the wrap is an event of its own (log 7). -/
def Wing.advance (dt : Nat) (x : Wing) : Wing :=
  if x.car.started && x.car.fine then
    { x with car := { x.car with tb := min (x.car.tb + dt) (lapTicks - 1) } } else x

/-- A bell's output action on a pin configured as a bell output (R335, R437). -/
def Gpio.bellAct (cfg : Word) (g : Gpio) : Gpio :=
  let p := bits cfg.toNat 12 10
  if p < 6 && g.func.getLsbD p && g.dir.getLsbD p then
    match bits cfg.toNat 14 13 with
    | 0 => g
    | 1 => { g with out := g.out ||| BitVec.twoPow 6 p }
    | 2 => { g with out := g.out &&& ~~~ BitVec.twoPow 6 p }
    | _ => { g with out := g.out ^^^ BitVec.twoPow 6 p }
  else g

/-- The value words of a bell after auto-add: V, C and the ticks between them (R328, R339). Increases that
do not reach past `m` are skipped past and set OVERRUN. -/
def Bell.autoAdd (m : Nat) (v : Bell) : Bell :=
  if v.interval = 0 then { v with armed := false } else
  let past := (m + lapTicks - v.v) % lapTicks
  let k := past / v.interval + 1
  let nv := (v.v + k * v.interval) % lapTicks
  { v with v := nv, c := m, d := k * v.interval - past, overrun := v.overrun || decide (1 < k),
           st0 := w16 nv, st1 := w16 (nv / 2 ^ 16) }

/-- The bell fires at match tick `m` (R328); `coarse` at an LF edge (R339). -/
def Wing.fireBell (b m : Nat) (coarse : Bool) (x : Wing) : Wing :=
  let v := x.bell b
  -- R329: auto-add after an IMMEDIATE fire continues from the tick of the fire, not from V.
  let v := if v.d = 1 && v.late && !coarse then { v with v := m } else v
  let v := { v with overrun := v.overrun || v.matched, matched := true, coarse := v.coarse || coarse }
  let x := (x.setBell b (v.autoAdd m)).raise b
  { x with gpio := x.gpio.bellAct v.cfg }

/-- The time passes a lap's end: WRAP, and LAPWRAP when the lap wraps (R321, R322). -/
def Wing.lapUp (x : Wing) : Wing :=
  let lw := decide (x.car.lap = 0xFFFF)
  (({ x with car := { x.car with lap := (x.car.lap + 1) % 2 ^ 16, wrap := true,
                                 lapwrap := x.car.lapwrap || lw } }).raise 47).bump 0 0x260101

/-- A FINE compare bell is nearer than (WAKE_LEAD + 1) x 12,208 ticks (R336, R340). -/
def Wing.bellNear (x : Wing) : Bool :=
  x.car.bells.any (fun e => e.2.waits && bit e.2.cfg.toNat 8 &&
    decide (e.2.remaining x.car.tb < (x.car.wakeLead + 1) * 12208))

/-- Entry to LF running (R336, R338). -/
def Wing.lfEnter (err : Int) (x : Wing) : Wing :=
  if x.car.fine then
    ({ x with car := { x.car with fine := false, wakeReq := false, trimAcc := 0, lfError := err } }).bump
      0xFF1012 0x260102
  else x

/-- The step of one LF edge: 12,207 ticks, or 12,208 when the phase passes from 31 to 0, with the trim of
R338 (R337). -/
def Carillon.lfStep (c : Carillon) : Nat × Nat :=
  let base := if c.phase = 31 then 12208 else 12207
  if c.lfTrim then
    let a := c.trimAcc + base * c.lfError.natAbs
    (if c.lfError < 0 then base + a / 10 ^ 8 else base - a / 10 ^ 8, a % 10 ^ 8)
  else (base, c.trimAcc)

/-- One LF edge of the Carillon (R319, R337 to R340): the phase, and in LF running the step, the bells it
reaches, and the wake check. -/
def Wing.lfEdge (refLost : Bool) (x : Wing) : Wing :=
  let ph := (x.car.phase + 1) % 32
  if !x.car.started then
    { x with car := { x.car with phase := ph, started := refLost && x.awake } }
  else if x.car.fine then { x with car := { x.car with phase := ph } }
  else
    let (step, acc) := x.car.lfStep
    let t0 := x.car.tb
    let t1 := (t0 + step) % lapTicks
    let x1 := { x with car := { x.car with phase := ph, trimAcc := acc, tb := t1 } }
    let x1 := if t0 + step ≥ lapTicks then x1.lapUp else x1
    let x2 := (List.range 32).foldl (fun y b =>
      let v := y.bell b
      if v.waits && decide (1 ≤ v.remaining t0) && decide (v.remaining t0 ≤ step) then y.fireBell b t1 true
      else y) x1
    if x2.bellNear then { x2 with car := { x2.car with wakeReq := true } } else x2

/-- An event of source `src` on bell `b`: a capture stores the count (R330, R331, R334), a tally counts
it (R332). -/
def Wing.bellEvent (src b : Nat) (x : Wing) : Wing :=
  let v := x.bell b
  if v.source = src && src < 10 then
    match v.mode with
    | .capture =>
      (x.setBell b { v with capture := x.car.tb, overrun := v.overrun || v.capfull, capfull := true,
                            coarse := v.coarse || !x.car.fine }).raise b
    | .tally =>
      if v.tally = 2 ^ 32 - 1 then
        (x.setBell b { v with tally := 0, overrun := v.overrun || v.tallyWrap, tallyWrap := true }).raise b
      else x.setBell b { v with tally := v.tally + 1 }
    | _ => x
  else x

/-- An event of source `src` reaches every bell that watches it (R333). -/
def Wing.carEvent (src : Nat) (x : Wing) : Wing := (List.range 32).foldl (fun y b => y.bellEvent src b) x

/-- The write of CAR_BELL_CFG (R326). -/
def Wing.bellCfg (b : Nat) (v : Word) (x : Wing) : Wing :=
  let o := x.bell b
  let c := v &&& 0x7FFF
  if bits c.toNat 5 0 = bits o.cfg.toNat 5 0 then x.setBell b { o with cfg := c }
  else x.setBell b { o with cfg := c, armed := false, capfull := false, st0 := 0, st1 := 0, v := 0, c := o.c,
                            d := 0, capture := 0, tally := 0 }

/-- The distance of R327 and LATE, from the commit count. -/
def Bell.aim (c : Nat) (v : Bell) : Bell :=
  let r := (v.v + lapTicks - c) % lapTicks
  let d := if r = 0 then lapTicks else r
  { v with c := c, d := d, late := decide (lapTicks - 2 ^ 20 < d) }

/-- The commit of V by the write of VAL2 (R327, R329, R340). -/
def Wing.bellCommit (b : Nat) (v2 : Word) (x : Wing) : Wing :=
  let o := x.bell b
  if o.mode = .compare then
    let v := ({ o with v := o.st0.toNat + o.st1.toNat * 2 ^ 16 + v2.toNat * 2 ^ 32, armed := true }).aim x.car.tb
    let v := if v.late && bit v.cfg.toNat 9 then { v with d := 1 } else v
    let y := x.setBell b v
    if !y.car.fine && y.bellNear then { y with car := { y.car with wakeReq := true } } else y
  else x

/-- The align load (R320): the next entry to RUNNING is fresh (R146). -/
def Wing.alignLoad (value : Nat) (x : Wing) : Wing :=
  let tb := value % lapTicks
  { x with
    sys := { x.sys with alignLost := false }
    lnk := { x.lnk with fresh := true }
    car := { x.car with
      tb := tb, lap := value / lapTicks % 2 ^ 16, aligned := true
      bells := x.car.bells.map (fun e => (e.1, if e.2.mode = .compare then e.2.aim tb else e.2)) } }

/-- CAR_BELL_STATUS. -/
def Bell.status (v : Bell) : Word :=
  w16 (b2n v.armed + 2 * b2n v.matched + 4 * b2n v.late + 8 * b2n v.coarse + 16 * b2n v.capfull +
    32 * b2n v.overrun + 64 * b2n v.tallyWrap)

/-- A read of word `off` of bell `b`'s group by reader `rd` (R331, R332, R343). -/
def Wing.bellRead (rd b off : Nat) (x : Wing) : Word × Wing :=
  let v := x.bell b
  let base := 0xFF1100 + 0x10 * b
  match off with
  | 0x0 => (v.cfg, x)
  | 0x1 => (v.status, x)
  | 0x2 =>
    match v.mode with
    | .capture => (x.setBell b { v with capfull := false }).readMulti rd (base + 2) 3 v.capture 0
    | .tally => x.readMulti rd (base + 2) 2 v.tally 0
    | _ => (v.st0, x)
  | 0x3 =>
    match v.mode with
    | .capture => x.readMulti rd (base + 2) 3 v.capture 1
    | .tally => x.readMulti rd (base + 2) 2 v.tally 1
    | _ => (v.st1, x)
  | 0x4 =>
    match v.mode with
    | .capture => x.readMulti rd (base + 2) 3 v.capture 2
    | .tally => (0, x)
    | _ => (w16 (v.v / 2 ^ 32), x)
  | 0x5 => x.readMulti rd (base + 5) 3 v.c 0
  | 0x6 => x.readMulti rd (base + 5) 3 v.c 1
  | 0x7 => x.readMulti rd (base + 5) 3 v.c 2
  | 0x8 => x.readMulti rd (base + 8) 2 v.interval 0
  | 0x9 => x.readMulti rd (base + 8) 2 v.interval 1
  | 0xA => x.readMulti rd (base + 0xA) 2 (if v.waits then min (v.remaining x.car.tb) 0xFFFFFFFF else 0) 0
  | 0xB => x.readMulti rd (base + 0xA) 2 (if v.waits then min (v.remaining x.car.tb) 0xFFFFFFFF else 0) 1
  | _ => (0, x)

/-- A write of word `off` of bell `b`'s group (R326, R327, R343). -/
def Wing.bellWrite (b off : Nat) (v : Word) (x : Wing) : Wing :=
  let o := x.bell b
  match off with
  | 0x0 => x.bellCfg b v
  | 0x1 =>
    let n := v.toNat
    x.setBell b { o with matched := o.matched && !bit n 1, coarse := o.coarse && !bit n 3,
                         overrun := o.overrun && !bit n 5, tallyWrap := o.tallyWrap && !bit n 6 }
  | 0x2 => if o.mode = .compare then x.setBell b { o with st0 := v } else x
  | 0x3 => if o.mode = .compare then x.setBell b { o with st1 := v } else x
  | 0x4 => x.bellCommit b v
  | 0x8 => x.setBell b { o with interval := o.interval / 2 ^ 16 * 2 ^ 16 + v.toNat }
  | 0x9 => x.setBell b { o with interval := o.interval % 2 ^ 16 + v.toNat * 2 ^ 16 }
  | _ => x

/-- MATCH of sixteen bells from `b0`. -/
def Wing.matchWord (b0 : Nat) (x : Wing) : Word :=
  w16 ((List.range 16).foldl (fun a i => a + b2n (x.bell (b0 + i)).matched * 2 ^ i) 0)

/-- Clear MATCH of the bells from `b0` whose bit of `v` is 1. -/
def Wing.matchClear (b0 : Nat) (v : Word) (x : Wing) : Wing :=
  (List.range 16).foldl (fun y i => if bit v.toNat i then
    y.setBell (b0 + i) { y.bell (b0 + i) with matched := false } else y) x

/-- A read-to-clear counter register (R103). -/
def Wing.readRc (reg : Nat) (x : Wing) : Word × Wing :=
  (w16 (x.cnt reg), { x with cnt16 := tset 0 reg 0 x.cnt16 })

/-- The reader's shadow of the 64-bit time (R323). -/
def Carillon.shadow (applet : Bool) (c : Carillon) : Nat := if applet then c.shadowA else c.shadowK

/-- A read of the Carillon block at word offset `a` (R323, R343). -/
def Wing.carRead (applet refLost : Bool) (a : Nat) (x : Wing) : Word × Wing :=
  let c := x.car
  if 0x100 ≤ a && a < 0x300 then x.bellRead (b2n applet) ((a - 0x100) / 16) (a % 16) else
  match a with
  | 0x000 => (w16 (b2n c.lfTrim + 16 * c.wakeLead), x)
  | 0x001 => (w16 (b2n c.fine + 2 * b2n c.wrap + 4 * b2n c.lapwrap + 8 * b2n c.aligned +
      16 * b2n (!c.fine && (!c.pllLocked || refLost)) + 32 * c.phase), x)
  | 0x002 =>
    let t := c.lap * lapTicks + c.tb
    (w16 c.lap, { x with car := if applet then { c with shadowA := t } else { c with shadowK := t } })
  | 0x003 => (w16 (c.shadow applet), x)
  | 0x004 => (w16 (c.shadow applet / 2 ^ 16), x)
  | 0x005 => (w16 (c.shadow applet / 2 ^ 32), x)
  | 0x006 => (w16 c.tb, x)
  | 0x008 => (x.matchWord 0, x)
  | 0x009 => (x.matchWord 16, x)
  | 0x010 => (w16 c.appletMask.toNat, x)
  | 0x011 => (w16 (c.appletMask.toNat / 2 ^ 16), x)
  | 0x012 => x.readRc 0xFF1012
  | 0x013 => x.readRc 0xFF1013
  | _ => (0, x)

/-- A write of the Carillon block at word offset `a` (R343). -/
def Wing.carWrite (a : Nat) (v : Word) (x : Wing) : Wing :=
  let c := x.car
  let n := v.toNat
  if 0x100 ≤ a && a < 0x300 then x.bellWrite ((a - 0x100) / 16) (a % 16) v else
  match a with
  | 0x000 => { x with car := { c with lfTrim := bit n 0,
                                      wakeLead := if bits n 7 4 < 3 then c.wakeLead else bits n 7 4 } }
  | 0x001 => { x with car := { c with wrap := c.wrap && !bit n 1, lapwrap := c.lapwrap && !bit n 2,
                                      aligned := c.aligned && !bit n 3 } }
  | 0x008 => x.matchClear 0 v
  | 0x009 => x.matchClear 16 v
  | 0x010 => { x with car := { c with appletMask := BitVec.ofNat 32 (c.appletMask.toNat / 2 ^ 16 * 2 ^ 16 + n) } }
  | 0x011 => { x with car := { c with appletMask := BitVec.ofNat 32 (c.appletMask.toNat % 2 ^ 16 + n * 2 ^ 16) } }
  | _ => x

/-- Whether applet mode may reach word offset `a` of the block (R342). -/
def Wing.carApplet (a : Nat) (wr : Bool) (x : Wing) : Bool :=
  if 0x100 ≤ a && a < 0x300 then x.car.appletMask.getLsbD ((a - 0x100) / 16)
  else if 0x300 ≤ a then true else !wr && decide (2 ≤ a) && decide (a ≤ 6)

/-- TIMEBASE_WRAP (R321): the tick at which the timebase passes to 0, in fine running. -/
def execTimebaseWrap (w : WingId) (s : State) : Out :=
  let x := s.wing w
  .next (if x.car.started && x.car.fine then
    s.setWing w ({ x with car := { x.car with tb := 0 } }).lapUp else s)

/-- CAR_TB_LAP_READ (R323): the read opens the reader's shadow. -/
def execCarTbLapRead (w : WingId) (applet : Bool) (dt : Nat) (s : State) : Out :=
  let (v, x) := ((s.wing w).advance dt).carRead applet s.dome.refLost 0x002
  byCore w s (s.setWing w { x with rdata := v })

/-- BELL_CFG_WRITE (R326). -/
def execBellCfgWrite (w : WingId) (b : Fin 32) (v : Word) (s : State) : Out :=
  byCore w s (s.modWing w (Wing.bellCfg b v))

/-- A match of bell `b` at this very tick fires (R327); the words in staging stay. -/
def Wing.matchNow (b : Nat) (x : Wing) : Wing :=
  let v := x.bell b
  if x.car.fine && v.waits && decide ((v.c + v.d) % lapTicks = x.car.tb) && decide (v.c ≠ x.car.tb) then
    let y := x.fireBell b x.car.tb false
    y.setBell b { y.bell b with st0 := v.st0, st1 := v.st1 }
  else x

/-- BELL_COMPARE_COMMIT (R327): a previous value that matches at the commit count fires first. -/
def execBellCompareCommit (w : WingId) (b : Fin 32) (v2 : Word) (dt : Nat) (s : State) : Out :=
  byCore w s (s.modWing w (fun x => ((x.advance dt).matchNow b).bellCommit b v2))

/-- BELL_MATCH (R328): in fine running the armed bell's match tick is reached. -/
def execBellMatch (w : WingId) (b : Fin 32) (s : State) : Out :=
  let x := s.wing w
  let v := x.bell b
  .next (if x.car.started && x.car.fine && v.waits then
    let m := (v.c + v.d) % lapTicks
    s.setWing w (({ x with car := { x.car with tb := m } }).fireBell b m false) else s)

/-- BELL_CAPTURE (R330): an event of the bell's source. -/
def execBellCapture (w : WingId) (b : Fin 32) (dt : Nat) (s : State) : Out :=
  let x := (s.wing w).advance dt
  .next (if (x.bell b).mode = .capture then s.setWing w (x.bellEvent (x.bell b).source b) else s)

/-- BELL_CAPTURE_READ (R331): a Keeper-mode read of capture word 0. -/
def execBellCaptureRead (w : WingId) (b : Fin 32) (s : State) : Out :=
  let x := s.wing w
  let (v, y) := x.bellRead 0 b 2
  byCore w s (if (x.bell b).mode = .capture then s.setWing w { y with rdata := v } else s)

/-- BELL_TALLY_EVENT (R332). -/
def execBellTallyEvent (w : WingId) (b : Fin 32) (s : State) : Out :=
  let x := s.wing w
  .next (if (x.bell b).mode = .tally then s.setWing w (x.bellEvent (x.bell b).source b) else s)

/-- LF_RUNNING_ENTRY (R336): taken when one of the three conditions holds. -/
def execLfRunningEntry (w : WingId) (dt : Nat) (s : State) : Out :=
  let x := (s.wing w).advance dt
  let still := match x.rx.radio with | .off => true | .standby => true | _ => false
  let ok := (x.core.run == .asleep && still && !x.bellNear) || x.core.run == .halted ||
    !x.car.pllLocked || s.dome.refLost
  .next (if x.car.started && x.car.fine && ok then s.setWing w (x.lfEnter x.rx.calLf) else s)

/-- REPHASE (R340): the LF edge just made is the re-phasing edge, and the count goes on fine from it
(DESIGN CHOICE, log 7: the edge's step is the LF_EDGE before it). -/
def execRephase (w : WingId) (s : State) : Out :=
  let x := s.wing w
  let ok := x.car.started && !x.car.fine && x.car.pllLocked && !s.dome.refLost &&
    decide (750 ≤ s.dome.vcore) && (x.car.wakeReq || x.core.run == .running)
  .next (if ok then s.setWing w
    (({ x with car := { x.car with fine := true, wakeReq := false } }).bump 0xFF1013 0x260103) else s)

end Sys2Proof.Machine
end

