-- ==== Sys2Proof/Machine/Docent.lean ====
section
/-! DEFINITION. The Docent (R441 to R451) and the rings (R452 to R455, R463): sources, masks, claim and
completion, publication, taking and passing, and their registers. -/
namespace Sys2Proof.Machine
open Sys2Proof

/-- Priority of source `n` (R446). -/
def Docent.priority (d : Docent) (n : Nat) : Nat := tget 0 d.prio n

/-- The highest priority in service, 0 for none (R446). -/
def Docent.level (d : Docent) : Nat :=
  (List.range 128).foldl (fun m n => if d.service.getLsbD n then max m (d.priority n) else m) 0

/-- Source `n` may request the core at level `lv` (R446). -/
def Docent.eligible (d : Docent) (lv n : Nat) : Bool :=
  d.pend.getLsbD n && !d.mask.getLsbD n && d.toCore.getLsbD n && decide (lv < d.priority n)

/-- The winner: highest priority, then lowest number (R446). -/
def Docent.winner (d : Docent) : Option Nat :=
  let lv := d.level
  (List.range 128).foldl (fun best n =>
    if d.eligible lv n then
      match best with
      | none => some n
      | some b => if d.priority b < d.priority n then some n else best
    else best) none

/-- The Docent presents a request to the core (R446). -/
def Docent.request (d : Docent) : Bool := d.winner.isSome

/-- The value of DOC_PEEK (R447). -/
def Docent.peek (d : Docent) : Word :=
  match d.winner with
  | none => 0
  | some n => w16 (0x8000 + tget 0 d.arrivals n * 128 + n)

/-- Clear the pending bit and arrival count of source `n` (R443). -/
def Docent.clear (n : Nat) (d : Docent) : Docent :=
  { d with pend := d.pend &&& ~~~ BitVec.twoPow 128 n, arrivals := tset 0 n 0 d.arrivals }

/-- Clear source `n` of wing `w`, and with it the backup domain's latch for it (R443, R451). -/
def State.docClear (w n : Nat) (s : State) : State :=
  let s := s.modWing w (fun x => { x with doc := x.doc.clear n })
  match n with
  | 61 => { s with cal := { s.cal with alarmLatch := s.cal.alarmLatch.filter (· ≠ w) } }
  | 62 => { s with cal := { s.cal with osfLatch := s.cal.osfLatch.filter (· ≠ w) } }
  | _ => s

/-- The claim (R447): the word read, and the winner in service. -/
def State.docClaim (w : Nat) (s : State) : Word × State :=
  let d := (s.wing w).doc
  match d.winner with
  | none => (0, s)
  | some n =>
    (d.peek, (s.docClear w n).modWing w (fun x =>
      { x with doc := { x.doc with service := x.doc.service ||| BitVec.twoPow 128 n } }))

/-- The completion (R448). -/
def Wing.docComplete (applet : Bool) (v : Word) (x : Wing) : Wing :=
  let n := v.toNat
  if n < 128 && !applet && x.doc.service.getLsbD n then
    { x with doc := { x.doc with service := x.doc.service &&& ~~~ BitVec.twoPow 128 n } }
  else x.bump 0xFF0005 0x290001

/-- A write of DOC_DOORBELL (R442), which is also an event of the bells' source 8 (R333). -/
def Wing.doorbell (applet : Bool) (v : Word) (x : Wing) : Wing :=
  let n := v.toNat
  let x := x.carEvent 8
  if (if applet then 120 else 64) ≤ n && n < 128 then x.raise n else x.bump 0xFF0006 0x290002

/-- The sixteen sources of group `g` whose bit of `v` is 1, as a mask. -/
def docBits (g : Nat) (v : Word) : BitVec 128 := BitVec.ofNat 128 (v.toNat * 2 ^ (16 * g))

/-- Word `g` of a map of 128 sources. -/
def docWord (m : BitVec 128) (g : Nat) : Word := w16 (m.toNat / 2 ^ (16 * g))

/-- Write 1s to word `g` of DOC_PEND_SET (R444). -/
def Wing.pendSet (g : Nat) (v : Word) (x : Wing) : Wing :=
  (List.range 16).foldl (fun y i => if bit v.toNat i && decide (4 ≤ g) then y.raise (16 * g + i) else y) x

/-- Write 1s to word `g` of DOC_PEND_CLR (R444, R451). -/
def State.pendClr (w g : Nat) (v : Word) (s : State) : State :=
  (List.range 16).foldl (fun t i => if bit v.toNat i then t.docClear w (16 * g + i) else t) s

/-- The reset layout of ring `r` (R455). -/
def ringReset (r : Nat) : Ring :=
  if r < 4 then { base := 0x108000 + 0x200 * r, depth := 64, ibuf := 0x10C000 + 0x2000 * r }
  else if r < 6 then { base := 0x108800 + 0x800 * (r - 4), depth := 256 }
  else if r < 10 then { base := 0x109800 + 0x200 * (r - 6), depth := 64 }
  else if r < 13 then { base := 0x10A000 + 0x200 * (r - 10), depth := 64 }
  else if r = 13 then { base := 0x10A600, depth := 32 }
  else { base := 0x10A700 + 0x80 * (r - 14), depth := 16 }

/-- Ring `r`. -/
def Wing.ring (x : Wing) (r : Nat) : Ring := tget (ringReset r) x.rings r

/-- Give ring `r` the value `g`. -/
def Wing.setRing (r : Nat) (g : Ring) (x : Wing) : Wing := { x with rings := tset (ringReset r) r g x.rings }

/-- Descriptors on the ring (R452). -/
def Ring.count (g : Ring) : Nat := (g.put - g.take).toNat

/-- The ring is full (R452). -/
def Ring.full (g : Ring) : Bool := decide (g.depth ≤ g.count)

/-- The address of descriptor `i` (R452). -/
def Ring.slot (g : Ring) (i : Word) : Nat := g.base + 8 * (i.toNat % g.depth)

/-- The source raised for ring `r` (R441, R453). -/
def ringSource (r : Nat) : Nat :=
  if r < 4 then 32 else if r < 12 then 29 + r else if r = 13 then 41 else 28 + r

/-- The word lies in the fenced output of the running job (R486). -/
def Wing.fenced (a : Nat) (x : Wing) : Bool :=
  match x.cph.run with
  | some { job := j, .. } =>
    (j.op == 5 || j.op == 7) && decide (0 < j.length) && decide (j.outA + j.aadLen / 2 ≤ a) &&
      decide (a ≤ j.outA + (j.aadLen + j.length - 1) / 2)
  | none => false

/-- One word of SRAM; a fenced word reads 0 (R486). -/
def Wing.ld (x : Wing) (a : Nat) : Word := if x.fenced a then 0 else tget 0 x.sram a

/-- Write one word of SRAM; nothing outside SRAM, and no fenced word, is written (R30, R486). -/
def Wing.st (a : Nat) (v : Word) (x : Wing) : Wing :=
  if 0x100000 ≤ a && a < 0x130000 && !x.fenced a then { x with sram := tset 0 a v x.sram } else x

/-- `k` words of SRAM from `a`. -/
def Wing.lds (x : Wing) (a k : Nat) : List Word := (List.range k).map (fun i => x.ld (a + i))

/-- Write words of SRAM from `a`. -/
def Wing.sts (a : Nat) : List Word → Wing → Wing
  | [], x => x
  | v :: vs, x => Wing.sts (a + 1) vs (x.st a v)

/-- A producer finds ring `r` full (R454). -/
def Wing.ringRefuse (r : Nat) (x : Wing) : Wing :=
  (x.setRing r { x.ring r with refused := true }).bump (0xFF2012 + 0x20 * r) (0x2A4005 + 0x100 * r)

/-- Publish 8 words on ring `r`, raising its source when `src` (R452 to R454): whether it was published. -/
def Wing.publish (r : Nat) (src : Bool) (d : List Word) (x : Wing) : Bool × Wing :=
  let g := x.ring r
  if g.full then (false, x.ringRefuse r)
  else (true, ((x.sts (g.slot g.put) d).setRing r { g with put := g.put + 1 }).raiseIf src (ringSource r))

/-- The oldest descriptor of ring `r`, or none. -/
def Wing.ringHead (r : Nat) (x : Wing) : Option (List Word) :=
  let g := x.ring r
  if g.count = 0 then none else some (x.lds (g.slot g.take) 8)

/-- The consumer of ring `r` takes one descriptor; the rings whose source stands for room raise it
(R453). -/
def Wing.ringTook (r : Nat) (x : Wing) : Wing :=
  let g := x.ring r
  if g.count = 0 then x else
  (x.setRing r { g with take := g.take + 1 }).raiseIf (r == 4 || r == 5 || r == 10 || r == 11) (ringSource r)

/-- The core takes on these rings (R453). -/
def coreTakes (r : Nat) : Bool := decide (r < 4) || (decide (6 ≤ r) && decide (r ≤ 9)) || decide (13 ≤ r)

/-- The core publishes on these rings (R453; on another ring its IN7 publishes nothing, DESIGN CHOICE,
log 9). -/
def corePuts (r : Nat) : Bool := r == 4 || r == 5 || r == 10 || r == 11 || r == 14 || r == 15

/-- The completion that the flash controller holds goes to ring 13 once it has room (R374). -/
def Wing.flsRelease (x : Wing) : Wing :=
  match x.fls.held with
  | [] => x
  | d :: t =>
    if (x.ring 13).full then x
    else ({ x with fls := { x.fls with held := t } }.publish 13 true d).2

/-- The core takes from ring `r` (R452, R453). -/
def Wing.coreTake (r : Nat) (x : Wing) : Wing := if coreTakes r then (x.ringTook r).flsRelease else x

/-- The core passes a descriptor on ring 4 or 5 (R452). -/
def Wing.corePass (r : Nat) (x : Wing) : Wing :=
  let g := x.ring r
  if (r == 4 || r == 5) && g.pass != g.put then x.setRing r { g with pass := g.pass + 1 } else x

/-- The IN7 write (R452 to R454). -/
def Wing.corePublish (r : Nat) (v : Word) (x : Wing) : Wing :=
  if corePuts r then (x.publish r (decide (14 ≤ r)) (tgets 0 (x.ring r).stage 0 7 ++ [v])).2 else x

/-- Ring fields that only a STOPPED wing's core may write (R463). -/
def Wing.ringCfg (r a : Nat) (v : Word) (x : Wing) : Wing :=
  let g := x.ring r
  if x.sys.state ≠ .stopped then x else
  match a with
  | 0x0 => x.setRing r { g with base := g.base / 2 ^ 16 * 2 ^ 16 + v.toNat / 8 * 8 }
  | 0x1 => x.setRing r { g with base := g.base % 2 ^ 16 + v.toNat % 256 * 2 ^ 16 }
  | 0x2 => if pow2Depth (v.toNat % 8192) then x.setRing r { g with depth := v.toNat % 8192 } else x
  | 0x10 => if r < 4 then x.setRing r { g with ibuf := g.ibuf / 2 ^ 16 * 2 ^ 16 + v.toNat } else x
  | 0x11 => if r < 4 then x.setRing r { g with ibuf := g.ibuf % 2 ^ 16 + v.toNat % 256 * 2 ^ 16 } else x
  | _ => x

/-- A read of word `a` of ring `r`'s group (R463). -/
def Wing.ringRead (r a : Nat) (x : Wing) : Word × Wing :=
  let g := x.ring r
  let q := 0xFF2000 + 0x20 * r
  match a with
  | 0x0 => x.readMulti 0 q 2 g.base 0
  | 0x1 => x.readMulti 0 q 2 g.base 1
  | 0x2 => (w16 g.depth, x)
  | 0x3 => (g.put, x)
  | 0x4 => (g.take, x)
  | 0x5 => (if r == 4 || r == 5 then g.pass else g.put, x)
  | 0x7 => (w16 (g.count % 8192 + 0x2000 * b2n g.full + 0x4000 * b2n g.refused + 0x8000 * b2n (g.count == 0)), x)
  | 0x10 => x.readMulti 0 (q + 0x10) 2 g.ibuf 0
  | 0x11 => x.readMulti 0 (q + 0x10) 2 g.ibuf 1
  | 0x12 => x.readRc (q + 0x12)
  | _ => (0, x)

/-- A write of word `a` of ring `r`'s group (R463). -/
def Wing.ringWrite (r a : Nat) (v : Word) (x : Wing) : Wing :=
  let g := x.ring r
  if a = 0x6 then
    let x := if bit v.toNat 0 then x.coreTake r else x
    if bit v.toNat 1 then x.corePass r else x
  else if a = 0x7 then x.setRing r { g with refused := g.refused && !bit v.toNat 14 }
  else if 0x8 ≤ a && a < 0xF then x.setRing r { g with stage := tset 0 (a - 8) v g.stage }
  else if a = 0xF then x.corePublish r v
  else x.ringCfg r a v

/-- A read of the Docent block at word offset `a` (R462). -/
def State.docRead (w a : Nat) (s : State) : Word × State :=
  let x := s.wing w
  let d := x.doc
  if 0x100 ≤ a && a < 0x180 then
    let n := a - 0x100
    (w16 (d.priority n + 8 * b2n (d.toCore.getLsbD n) + 16 * b2n (d.toHost.getLsbD n) +
      32 * b2n (d.service.getLsbD n) + 256 * tget 0 d.arrivals n), s)
  else if 0x10 ≤ a && a < 0x18 then (docWord d.pend (a - 0x10), s)
  else if 0x28 ≤ a && a < 0x30 then (docWord d.mask (a - 0x28), s)
  else if 0x40 ≤ a && a < 0x48 then (docWord d.hostPend (a - 0x40), s)
  else match a with
  | 1 => s.docClaim w
  | 3 => (d.peek, s)
  | 4 => (w16 d.level, s)
  | 5 => let (v, y) := x.readRc 0xFF0005; (v, s.setWing w y)
  | 6 => let (v, y) := x.readRc 0xFF0006; (v, s.setWing w y)
  | _ => (0, s)

/-- A write of DOC_SRC_CFG of source `n` (R462). -/
def Docent.config (n : Nat) (v : Word) (d : Docent) : Docent :=
  let m := BitVec.twoPow 128 n
  { d with prio := tset 0 n (v.toNat % 8) d.prio
           toCore := if bit v.toNat 3 then d.toCore ||| m else d.toCore &&& ~~~ m
           toHost := if bit v.toNat 4 then d.toHost ||| m else d.toHost &&& ~~~ m }

/-- A write of the Docent block at word offset `a` (R462). -/
def State.docWrite (applet : Bool) (w a : Nat) (v : Word) (s : State) : State :=
  if 0x100 ≤ a && a < 0x180 then s.modWing w (fun x => { x with doc := x.doc.config (a - 0x100) v })
  else if 0x18 ≤ a && a < 0x20 then s.modWing w (Wing.pendSet (a - 0x18) v)
  else if 0x20 ≤ a && a < 0x28 then s.pendClr w (a - 0x20) v
  else if 0x30 ≤ a && a < 0x38 then
    s.modWing w (fun x => { x with doc := { x.doc with mask := x.doc.mask ||| docBits (a - 0x30) v } })
  else if 0x38 ≤ a && a < 0x40 then
    s.modWing w (fun x => { x with doc := { x.doc with mask := x.doc.mask &&& ~~~ docBits (a - 0x38) v } })
  else match a with
  | 0 => s.modWing w (Wing.doorbell applet v)
  | 2 => s.modWing w (Wing.docComplete applet v)
  | _ => s

/-- DOORBELL (R442): a write of DOC_DOORBELL in the mode given. -/
def execDoorbell (w : WingId) (applet : Bool) (v : Word) (s : State) : Out :=
  byCore w s (s.docWrite applet w 0 v)

/-- DOCENT_CLAIM (R447): a Keeper-mode read of DOC_CLAIM. -/
def execDocentClaim (w : WingId) (s : State) : Out :=
  let (v, t) := s.docClaim w
  byCore w s (t.modWing w (fun x => { x with rdata := v }))

/-- DOCENT_COMPLETE (R448): a Keeper-mode write of DOC_COMPLETE. -/
def execDocentComplete (w : WingId) (v : Word) (s : State) : Out := byCore w s (s.docWrite false w 2 v)

/-- PEND_SET (R444). -/
def execPendSet (w : WingId) (g : Fin 8) (v : Word) (s : State) : Out := byCore w s (s.docWrite false w (0x18 + g) v)

/-- PEND_CLR (R444). -/
def execPendClr (w : WingId) (g : Fin 8) (v : Word) (s : State) : Out := byCore w s (s.docWrite false w (0x20 + g) v)

/-- MASK_SET (R444). -/
def execMaskSet (w : WingId) (g : Fin 8) (v : Word) (s : State) : Out := byCore w s (s.docWrite false w (0x30 + g) v)

/-- MASK_CLR (R444). -/
def execMaskClr (w : WingId) (g : Fin 8) (v : Word) (s : State) : Out := byCore w s (s.docWrite false w (0x38 + g) v)

/-- RING_TAKE (R452, R453): a write of DOC_RING_ADV.TAKE. -/
def execRingTake (w : WingId) (r : Fin 16) (s : State) : Out := byCore w s (s.modWing w (Wing.coreTake r))

/-- RING_PASS (R452): a write of DOC_RING_ADV.PASS. -/
def execRingPass (w : WingId) (r : Fin 16) (s : State) : Out := byCore w s (s.modWing w (Wing.corePass r))

end Sys2Proof.Machine
end

