-- ==== Sys2Proof/Machine/Flash.lean ====
section
/-! DEFINITION. The flash controller (12_flash.md): partitions, the descriptor queue, programming and erasing
pulse by pulse, reads, the rotating Archive, the option area, and the block's registers. Functions that a
cut pulse or a failed one makes depend on unknown cells take `k`, the number of the free draw (log 2). -/
namespace Sys2Proof.Machine
open Sys2Proof

/-- The partition of a flash word address, numbered as the bits of FLS_PROTECT (R370, R396): Annex A 0, Annex
B 1, Staging 2, Applet 3, Journal 4, Tally 5, Archive 6. -/
def flsPart (a : Nat) : Option Nat :=
  if a < 0x400000 then none else if a < 0x440000 then some 0 else if a < 0x480000 then some 3
  else if a < 0x4C0000 then some 1 else if a < 0x4E0000 then some 2 else if a < 0x4E8000 then some 5
  else if a < 0x508000 then some 4 else if a < 0x5FD800 then some 6 else none

/-- The ring position of logical Archive sector `l` (R385). -/
def Flash.archPos (f : Flash) (l : Nat) : Nat :=
  let p := (l + f.start) % 491
  if p ≥ f.gap then p + 1 else p

/-- The sector at ring position `p` (R385, R388). -/
def Flash.posSector (f : Flash) (p : Nat) : Nat := tget (528 + p) f.ring p

/-- The physical sector behind a word address (R368, R370, R385). -/
def Flash.sector (f : Flash) (a : Nat) : Option Nat :=
  match flsPart a with
  | none => none
  | some 6 => some (f.posSector (f.archPos ((a - 0x508000) / 0x800)))
  | some _ => some ((a - 0x400000) / 0x800)

/-- The physical line behind a word address: sector x 256 + line. -/
def Flash.lineOf (f : Flash) (a : Nat) : Option Nat := (f.sector a).map (fun s => s * 256 + a % 0x800 / 8)

/-- What a cut line reads as (R48, R384). -/
def cutLine (k li : Nat) : Line :=
  let v := (Config.cutReading k li).toNat
  { data := BitVec.ofNat 128 v
    status := match bits v 130 128 % 5 with
      | 0 => .erased | 1 => .sealed | 2 => .corrected | 3 => .torn | _ => .uncorrectable }

/-- Physical line `li` as it reads (R369, R384). -/
def Flash.line (f : Flash) (li : Nat) : Line :=
  match tget 0 f.cut (li / 256) with
  | k + 1 => cutLine k li
  | 0 =>
    let l := tget {} f.lines li
    match l.status with
    | .cut k => cutLine k li
    | _ => l

/-- The line's INTENT reads set (R369, R376). -/
def Line.intent (l : Line) : Bool := match l.status with | .erased => false | .cut _ => true | _ => true

/-- Word `i` of a line as a direct read gives it (R380). -/
def Line.word (l : Line) (i : Nat) : Word :=
  match l.status with | .erased => 0xFFFF | _ => w16 (l.data.toNat / 2 ^ (16 * i))

/-- A line of 8 words. -/
def lineData (ws : List Word) : BitVec 128 := BitVec.ofNat 128 (ws.foldr (fun w a => w.toNat + 65536 * a) 0)

/-- Line status codes of READ (R381). -/
def LineStatus.code : LineStatus → Nat
  | .erased => 0 | .sealed => 1 | .corrected => 2 | .torn => 3 | .uncorrectable => 4 | .cut _ => 4

/-- Write physical line `li`; in a sector whose erase was cut it keeps reading as it may (R376). -/
def Flash.setLine (li : Nat) (l : Line) (f : Flash) : Flash := { f with lines := tset {} li l f.lines }

/-- Every line of sector `s` is erased (R368). -/
def Flash.blank (s : Nat) (f : Flash) : Flash :=
  { f with lines := tdrop (fun k => k / 256 == s) f.lines, cut := tset 0 s 0 f.cut }

/-- Count one erase of sector `s` (R379). -/
def Flash.countErase (s : Nat) (f : Flash) : Flash :=
  { f with erases := tmod 0 s (fun n => min (n + 1) 0xFFFFFFFF) f.erases }

/-- Sector `s` is retired (R379); it reads with any status. -/
def Flash.retire (k s : Nat) (f : Flash) : Flash :=
  { f with retired := s :: f.retired, cut := tset 0 s (k + 1) f.cut }

/-- A spare takes ring position `p` (R388): whether there was one. -/
def Flash.replace (p : Nat) (f : Flash) : Bool × Flash :=
  match f.spares with
  | [] => (false, f)
  | s :: t => (true, (({ f with spares := t, ring := tset (528 + p) p s f.ring }).countErase s).blank s)

/-- The ring position of a sector, if it has one. -/
def Flash.secPos (f : Flash) (s : Nat) : Option Nat :=
  ((List.range 492).filter (fun p => f.posSector p == s)).head?

/-- FLASH events of the Curator: code and data (R307, R542). -/
abbrev FlsEvents := List (Nat × Octets)

/-- The first appearance of a sign of R390 on a sector. -/
def Flash.sign (s n : Nat) (on : Bool) (f : Flash) : FlsEvents × Flash :=
  let m := tget 0 f.signs s
  if on && !bit m n then ([(2, natLe 2 s ++ [o8 n])], { f with signs := tset 0 s (m + 2 ^ n) f.signs })
  else ([], f)

/-- The completion's 8 words (R374). -/
def flsWords (d : FlsDesc) (status done pulses subs : Nat) (slow eslow repl : Bool) (cts : List Nat) (stop : Nat) :
    List Word :=
  let c := fun i => min (cts.getD i 0) 255
  [w16 (status + 16 * b2n slow + 32 * b2n eslow + 64 * b2n repl + 256 * (d.op % 16)), d.tag, w16 done,
   w16 (pulses + 256 * subs), w16 (c 0 + 256 * c 1), w16 (c 2 + 256 * c 3), w16 stop, w16 (stop / 65536)]

/-- A completion goes to ring 13, or is held while that is full (R374). -/
def Wing.flsPost (ws : List Word) (x : Wing) : Wing :=
  let (ok, y) := x.publish 13 true ws
  if ok then y else { y with fls := { y.fls with held := y.fls.held ++ [ws] } }

/-- Descriptors pending, the one in progress included. -/
def Flash.load (f : Flash) : Nat := f.queue.length + (if f.run.isSome then 1 else 0)

/-- The completion of the descriptor `d` (R374): on ring 13, or taken by the Curator where it is its own (R303). -/
def Wing.flsComplete (d : FlsDesc) (ws : List Word) (x : Wing) : Wing :=
  if d.own.isSome then
    let c := (ws.getD 0 0).toNat % 16
    let st : Status := if c = 0 then .ok else if d.op = 1 && c = 1 then .notBlank else .refused
    { x with fls := { x.fls with
        jobs := x.fls.jobs.map (fun e => if some e.job = d.own && e.status = .ok then { e with status := st } else e)
        mine := if c = 0 then x.fls.mine else x.fls.mine.filter (fun e => e.own ≠ d.own) } }
  else x.flsPost ws

/-- Descriptors of the Curator go into the queue while it has room (R372). -/
def Flash.feed (f : Flash) : Flash :=
  let n := 32 - f.load
  { f with queue := f.queue ++ f.mine.take n, mine := f.mine.drop n }

/-- The Curator submits the descriptors of a job whose end answers `who` (R303, R395, R397). -/
def Wing.flsJob (who : Option Nat) (ds : List FlsDesc) (x : Wing) : Wing :=
  let f := x.fls
  let k := f.jobNo
  { x with fls := Flash.feed { f with mine := f.mine ++ ds.map (fun d => { d with own := some k })
                                      jobs := f.jobs ++ [{ job := k, who := who }], jobNo := k + 1 } }

/-- A job of the Curator has descriptors that have not ended. -/
def Flash.working (k : Nat) (f : Flash) : Bool :=
  let of := fun (d : FlsDesc) => d.own == some k
  f.mine.any of || f.queue.any of || (match f.run with | some r => of r.desc | none => false)

/-- Count a status in `n:2720` (R397). -/
def Wing.flsTally (status : Nat) (x : Wing) : Wing :=
  match status with
  | 1 => x.bump 0 0x272008 | 2 => x.bump 0 0x272009 | 3 => x.bump 0 0x272003 | 4 => x.bump 0 0x272006
  | 5 => x.bump 0 0x27200A | _ => x

/-- The sector in which the address of a descriptor lies: 1,024 and 1,025 are OPT0 and OPT1. -/
def Flash.descSector (f : Flash) (d : FlsDesc) (a : Nat) : Nat := if 5 ≤ d.op then 1024 + a / 0x800 else (f.sector a).getD 0

/-- Every 64th Archive erase makes a gap move due (R386). -/
def Flash.archErased (f : Flash) : Flash :=
  let n := min (f.archErases + 1) 0xFFFFFFFF
  { f with archErases := n
           move := if n % 64 = 0 && f.move == .idle && !f.noRotation then .due else f.move }

/-- A sector fails its erase (R374, R388, R390, R397): the counts, FLS_FAULT, and its FAULT and WEAR events. -/
def Wing.sectorFault (op sec a : Nat) (repl : Bool) (x : Wing) : Wing × FlsEvents :=
  let (e4, f) := x.fls.sign sec 4 true
  (({ x with fls := f }.raise 63).bump 0 0x272007, (1, [4, o8 op] ++ natLe 3 a ++ natLe 2 sec ++ [o8 (b2n repl)]) :: e4)

/-- A descriptor ends in sector `sec` (R374, R386): its completion, FLS_FAULT for a failure, and the FAULT event. An ERASE on the Archive counts,
whatever its status. -/
def Wing.flsEnd (d : FlsDesc) (status done pulses subs : Nat) (repl : Bool) (cts : List Nat) (stop sec : Nat)
    (x : Wing) : Wing × FlsEvents :=
  let slow := decide (4 < pulses)
  let eslow := decide (8 < subs)
  let y := ({ x with fls := { x.fls with run := none } }).flsComplete d
    (flsWords d status done pulses subs slow eslow repl cts (if status = 0 then 0 else stop))
  let y := ((y.flsTally status).bumpIf slow 0 0x272002).bumpIf eslow 0 0x272005
  let y := if d.op = 2 && status ≠ 6 && flsPart d.addr == some 6 then { y with fls := y.fls.archErased } else y
  let (e2, f) := y.fls.sign sec 2 eslow
  let y := { y with fls := f }
  if status = 4 then let (z, es) := y.sectorFault d.op sec stop repl; (z, e2 ++ es)
  else if status = 3 then (y.raise 63, (1, [3, o8 d.op] ++ natLe 3 stop ++ natLe 2 sec ++ [0]) :: e2)
  else (y, e2)

/-- The buffer words an operation uses. -/
def FlsDesc.bufWords (d : FlsDesc) : Nat := if d.op = 4 then d.lines * 9 else d.lines * 8

/-- The buffer lies wholly in SRAM. -/
def FlsDesc.bufOk (d : FlsDesc) : Bool := decide (0x100000 ≤ d.buf) && decide (d.buf + d.bufWords ≤ 0x130000)

/-- Check 2 of R373. -/
def FlsDesc.addrOk (d : FlsDesc) : Bool :=
  let linesOk := decide (1 ≤ d.lines) && decide (d.lines ≤ 256) && decide (d.addr % 8 = 0)
  match d.op with
  | 2 => decide (d.addr % 0x800 = 0) && (flsPart d.addr).isSome
  | 5 => linesOk && decide (d.addr + 8 * d.lines ≤ 0x1000) && d.bufOk
  | 6 => d.addr == 0 || d.addr == 0x800
  | 7 => decide (d.addr % 8 = 0) && decide (d.addr < 0x1000)
  | _ => linesOk && (flsPart d.addr).isSome && flsPart d.addr == flsPart (d.addr + 8 * d.lines - 1) && d.bufOk

/-- An option line that OPT_PROGRAM may program (R393, R394), by its word offset. -/
def optMay (locked : Bool) (a : Nat) : Bool :=
  (decide (0x20 ≤ a) && decide (a < 0x100)) || (!locked && decide (0x100 ≤ a) && decide (a < 0x150))

/-- Check 3 of R373. -/
def Flash.permitted (f : Flash) (d : FlsDesc) : Bool :=
  let part := (flsPart d.addr).getD 7
  match d.op with
  | 1 => part != 5 && !f.protect.getLsbD part
  | 2 => !f.protect.getLsbD part
  | 3 => part == 5 && !f.protect.getLsbD part
  | 5 => (List.range d.lines).all (fun i => optMay f.locked (d.addr + 8 * i))
  | 4 => true
  | _ => !f.locked

/-- The sectors a descriptor covers. -/
def Flash.covers (f : Flash) (d : FlsDesc) : List Nat :=
  if d.op = 2 then (f.sector d.addr).toList
  else if d.op = 1 || d.op = 3 then
    (List.range (d.lines / 256 + 2)).filterMap (fun i => f.sector (min (d.addr + 0x800 * i) (d.addr + 8 * d.lines - 1)))
  else []

/-- The checks of R373, in order: the status of the first that fails. -/
def Flash.check (f : Flash) (d : FlsDesc) : Option Nat :=
  if d.op = 0 || 7 < d.op then some 8
  else if !d.addrOk then some 6
  else if d.op = 4 then none
  else if !f.permitted d then some 5
  else if (f.covers d).any (fun s => f.retired.contains s) then some 7
  else if f.blocked then some 2
  else none

/-- Descriptors with an OP that no row names end with BAD_OP as they come to the front (R373). -/
def Wing.flsSettle : Nat → Wing → Wing
  | 0, x => x
  | n + 1, x =>
    match x.fls.run, x.fls.held, x.fls.queue with
    | none, [], d :: t =>
      if d.op = 0 || 7 < d.op then
        Wing.flsSettle n ({ x with fls := { x.fls with queue := t } }.flsEnd d 8 0 0 0 false [] d.addr 0).1
      else x
    | _, _, _ => x

/-- The submission of the descriptor at `a` (R372). -/
def Wing.flsSubmit (a : Nat) (x : Wing) : Wing :=
  if 32 ≤ x.fls.load then ({ x with fls := { x.fls with refused := true } }).bump 0xFF500B 0x27200E else
  let n := fun i => (x.ld (a + i)).toNat
  let d : FlsDesc := { op := n 0 % 16, tag := x.ld (a + 1), addr := n 2 + 65536 * (n 3 % 256),
                       buf := n 4 + 65536 * (n 5 % 256), lines := n 6 % 512 }
  ({ x with fls := { x.fls with queue := x.fls.queue ++ [d] } }).flsSettle 33

/-- Where a line of the descriptor in progress lies: a line of the flash, or of the option area. -/
def FlsRun.place (f : Flash) (r : FlsRun) : Sum Nat Nat :=
  if r.desc.op = 5 || r.desc.op = 7 then .inr ((if r.desc.op = 7 then 0 else r.desc.addr / 8) + r.done)
  else .inl ((f.lineOf (r.desc.addr + 8 * r.done)).getD 0)

/-- The line at a place. -/
def Flash.at_ (f : Flash) : Sum Nat Nat → Line
  | .inl li => f.line li
  | .inr li => match (tget {} f.opt li).status with | .cut k => cutLine k (262144 + li) | _ => tget {} f.opt li

/-- Write the line at a place. -/
def Flash.putAt (f : Flash) (l : Line) : Sum Nat Nat → Flash
  | .inl li => f.setLine li l
  | .inr li => { f with opt := tset {} li l f.opt }

/-- The data of the line being programmed (R372, R394). -/
def Wing.flsSource (r : FlsRun) (x : Wing) : BitVec 128 :=
  if r.desc.op = 7 then lineData ([0x4C4B] ++ List.replicate 7 0xFFFF)
  else if r.desc.own.isSome && !r.desc.data.isEmpty then BitVec.ofNat 128 (leNat (slice r.desc.data (16 * r.done) 16))
  else lineData (x.lds (r.desc.buf + 8 * r.done) 8)

/-- The word address at which a descriptor stands. -/
def FlsRun.stop (r : FlsRun) : Nat := r.desc.addr + 8 * r.done

/-- The next line of a PROGRAM begins: NOT_BLANK, or its INTENT pulse (R376). -/
def Wing.flsLine (r : FlsRun) (x : Wing) : Wing × FlsEvents :=
  let lines := if r.desc.op = 7 then 1 else r.desc.lines
  if lines ≤ r.done then x.flsEnd r.desc 0 r.done r.maxPulses 0 false [] 0 0
  else if (x.fls.at_ (r.place x.fls)).intent then x.flsEnd r.desc 1 r.done r.maxPulses 0 false [] r.stop 0
  else ({ x with fls := { x.fls with run := some { r with pulse := .intent } } }, [])

/-- A gap move of the logical sector a PROGRAM or ERASE names is abandoned (R387). -/
def Flash.moveAbandon (d : FlsDesc) (f : Flash) : Flash :=
  let src := f.posSector (if f.gap = 0 then 491 else f.gap - 1)
  match f.move with
  | .copying _ => if (f.covers d).contains src then { f with move := .erasing 1 } else f
  | _ => f

/-- The descriptor at the front starts, when its OP is `op` and nothing holds the controller (R373). -/
def Wing.flsStart (op : Nat) (go : FlsDesc → Wing → Wing × FlsEvents) (x : Wing) : Wing × FlsEvents :=
  match x.fls.run, x.fls.held, x.fls.queue with
  | none, [], d :: t =>
    if d.op = op then
      let y := { x with fls := { x.fls with queue := t } }
      match y.fls.check d with
      | some st => y.flsEnd d st 0 0 0 false [] d.addr 0
      | none => go d { y with fls := y.fls.moveAbandon d }
    else (x, [])
  | _, _, _ => (x, [])

/-- TALLY (R378): the lines from `i` on; the line at which it stops. -/
def Flash.tallyLines (f : Flash) (d : FlsDesc) (src : Nat → BitVec 128) : Nat → Nat → Nat × Flash
  | 0, i => (i, f)
  | n + 1, i =>
    let li := (f.lineOf (d.addr + 8 * i)).getD 0
    let l := tget {} f.lines li
    if 8 ≤ l.tally then (i, f)
    else Flash.tallyLines (f.setLine li { l with tally := l.tally + 1, data := l.data &&& src i }) d src n (i + 1)

/-- A line as READ and a direct read see it: Tally lines are raw (R378, R381). -/
def Flash.readLine (f : Flash) (a : Nat) : Option (Line × Nat) :=
  match f.lineOf a with
  | none => none
  | some li =>
    if flsPart a = some 5 then some ({ tget {} f.lines li with status := .sealed }, li) else some (f.line li, li)

/-- Sign 3 of R390 shows on sectors where a line reads CORRECTED (DEDUCED, log 42). -/
def Flash.signs3 : List Nat → Flash → FlsEvents × Flash
  | [], f => ([], f)
  | s :: l, f =>
    let (e, g) := f.sign s 3 true
    let (es, h) := Flash.signs3 l g
    (e ++ es, h)

/-- READ (R381): the data, the status words, and the completion. -/
def Wing.flsRead (d : FlsDesc) (x : Wing) : Wing × FlsEvents :=
  let ls := (List.range d.lines).map (fun i => ((x.fls.readLine (d.addr + 8 * i)).getD ({}, 0)))
  let data := ls.flatMap (fun l => (List.range 8).map l.1.word)
  let sts := ls.map (fun l => w16 (l.1.status.code + (if l.1.status = .corrected then
    256 * (1 + b2n (bit (Config.cutReading (l.2 + 1) l.2).toNat 131)) else 0)))
  let n := fun c => (ls.filter (fun l => l.1.status.code == c)).length
  let (es, f) := x.fls.signs3 (ls.filterMap (fun l => if l.1.status = .corrected then some (l.2 / 256) else none))
  let (y, es') := (({ x with fls := f }).sts d.buf (data ++ sts)).flsEnd d 0 d.lines 0 0 false [n 2, n 3, n 4, n 0] 0 0
  (y, es ++ es')

/-- A data pulse has failed or been cut: the line reads TORN with bits that are not known (R376, R384). -/
def tornLine (k li : Nat) : Line := { cutLine k li with status := .torn }

/-- The number of a place, for the readings of a cut line. -/
def placeNo : Sum Nat Nat → Nat | .inl li => li | .inr li => 262144 + li

/-- The end of a program pulse (R376). -/
def Wing.flsPulse (k : Nat) (sensed : Bool) (x : Wing) : Wing × FlsEvents :=
  match x.fls.run with
  | none => (x, [])
  | some r =>
    let p := r.place x.fls
    match r.pulse with
    | .intent =>
      let f := x.fls.putAt { x.fls.at_ p with status := .torn } p
      ({ x with fls := { f with run := some { r with pulse := .data 1 },
                                locked := f.locked || decide (r.desc.op = 7) } }, [])
    | .data n =>
      let r := { r with maxPulses := max r.maxPulses n }
      let sec := x.fls.descSector r.desc r.stop
      if sensed then
        -- the data are in the cells; the line reads TORN until it is sealed
        let (e, f) := x.fls.sign sec 1 (decide (4 < n))
        let f := f.putAt { data := (f.at_ p).data &&& x.flsSource r, status := .torn } p
        ({ x with fls := { f with run := some { r with pulse := .seal } } }, e)
      else if 16 ≤ n then
        let (e, f) := x.fls.sign sec 1 true
        let (y, es) := ({ x with fls := f.putAt (tornLine k (placeNo p)) p }).flsEnd r.desc 3 r.done r.maxPulses 0 false [] r.stop sec
        (y, e ++ es)
      else ({ x with fls := { x.fls with run := some { r with pulse := .data (n + 1) } } }, [])
    | .seal =>
      let f := x.fls.putAt { data := (x.fls.at_ p).data &&& x.flsSource r, status := .sealed } p
      (({ x with fls := f }).bump 0 0x272001).flsLine { r with done := r.done + 1 }
    | .erase _ => (x, [])

/-- A sector of ring position `p` fails its erase (R388): retired, and replaced when a spare is left. -/
def Flash.failPos (k p : Nat) (f : Flash) : Bool × Flash := (f.retire k (f.posSector p)).replace p

/-- Every line of an option sector reads as a cut erase leaves it (R379, R384). -/
def Flash.optCut (k sec : Nat) (f : Flash) : Flash :=
  (List.range 256).foldl (fun g i => g.putAt { status := .cut k } (.inr (256 * sec + i))) f

/-- The end of an erase sub-pulse of a descriptor (R379, R388). -/
def Wing.flsSub (k : Nat) (sensed : Bool) (x : Wing) : Wing × FlsEvents :=
  match x.fls.run with
  | some { desc := d, pulse := .erase n, .. } =>
    let y := x.bumpIf (sensed || decide (24 ≤ n)) 0 0x272004
    let s := y.fls.descSector d d.addr
    if sensed then
      let f := if d.op = 6 then { y.fls with opt := tdrop (fun l => l / 256 == d.addr / 0x800) y.fls.opt }
               else y.fls.blank s
      ({ y with fls := f }).flsEnd d 0 0 0 n false [] 0 s
    else if 24 ≤ n then
      let (rep, f) :=
        if d.op = 6 then (false, (y.fls.optCut k (d.addr / 0x800)).retire k s)
        else if flsPart d.addr == some 6 then y.fls.failPos k (y.fls.archPos ((d.addr - 0x508000) / 0x800))
        else (false, y.fls.retire k s)
      ({ y with fls := f }).flsEnd d 4 0 0 n rep [] d.addr s
    else ({ y with fls := { y.fls with run := (y.fls.run.map (fun r => { r with pulse := .erase (n + 1) })) } }, [])
  | _ => (x, [])

/-- One line of a gap move is copied into the gap sector (R386). -/
def Flash.copyLine (src dst i : Nat) (f : Flash) : Flash :=
  let l := f.line (src * 256 + i)
  match l.status with
  | .erased => f
  | .corrected => f.setLine (dst * 256 + i) { l with status := .sealed }
  | _ => f.setLine (dst * 256 + i) l

/-- The mapping change of step 3 of a gap move (R386). -/
def Flash.moveMap (f : Flash) : Flash :=
  if 0 < f.gap then { f with gap := f.gap - 1 } else { f with gap := 491, start := (f.start + 1) % 491 }

/-- The erase of the gap sector goes on: `n` sub-pulses so far, the last with result `sensed`; `next` follows
success (R386, R388), and the first counts the erase. With it: whether a spare took the place of a sector that failed. -/
def Flash.gapErase (k n : Nat) (sensed : Bool) (again : Nat → Move) (next : Move) (f : Flash) : Option Bool × Flash :=
  let s := f.posSector f.gap
  let f := if n = 1 then f.countErase s else f
  if sensed then (none, { f.blank s with move := next, moves := f.moves + b2n (decide (next = .idle)) })
  else if 24 ≤ n then
    let (rep, g) := f.failPos k f.gap
    (some rep, if rep then { g with move := next, moves := g.moves + b2n (decide (next = .idle)) }
      else { g with move := .idle, noRotation := true })
  else (none, { f with move := again (n + 1) })

/-- One piece of a gap move (R386, R387), between descriptors and while pulses are not blocked. -/
def Flash.movePiece (k : Nat) (sensed : Bool) (f : Flash) : Option Bool × Flash :=
  if f.run.isSome || f.blocked then (none, f) else
  let src := f.posSector (if f.gap = 0 then 491 else f.gap - 1)
  let dst := f.posSector f.gap
  let copy := fun (n : Nat) =>
    let g := (List.range 8).foldl (fun g i => g.copyLine src dst (n + i)) f
    if n + 8 < 256 then { g with move := .copying (n + 8) } else { g.moveMap with move := .clearing 1 }
  match f.move with
  | .idle => (none, f)
  | .due => (none, copy 0)
  | .copying n => (none, copy n)
  | .erasing n => f.gapErase k n sensed .erasing (.copying 0)
  | .clearing n => f.gapErase k n sensed .clearing .idle

/-- The pulse in progress is cut (R384), or collapses uncontrolled when `wild` (R48). -/
def Flash.cutPulse (k : Nat) (wild : Bool) (f : Flash) : Flash :=
  let f := match f.move with
    | .copying _ => { f with move := .erasing 1 }
    | .erasing _ => { f with move := .erasing 1, cut := tset 0 (f.posSector f.gap) (k + 1) f.cut }
    | .clearing _ => { f with move := .clearing 1, cut := tset 0 (f.posSector f.gap) (k + 1) f.cut }
    | _ => f
  match f.run with
  | none => f
  | some r =>
    let p := r.place f
    let choice := bit (Config.cutReading k (placeNo p)).toNat 131
    match r.pulse with
    | .erase _ =>
      if r.desc.op = 6 then f.optCut k (r.desc.addr / 0x800)
      else { f with cut := tset 0 ((f.sector r.desc.addr).getD 0) (k + 1) f.cut }
    | _ => if wild then f.putAt { status := .cut k } p else
      match r.pulse with
      | .intent =>
        -- an INTENT pulse cut on the lock line locks at the next load only if the line reads TORN (R394)
        if choice then f.putAt { f.at_ p with status := .torn } p else f
      | .data _ => f.putAt (tornLine k (placeNo p)) p
      | _ => if choice then f.putAt { f.at_ p with status := .sealed } p else f

/-- A brown-out reaches the controller (R46, R384): the pulse ends, and every descriptor completes
INTERRUPTED. -/
def Wing.flsBrownout (k : Nat) (wild : Bool) (x : Wing) : Wing :=
  let run := x.fls.run
  let y := { x with fls := { x.fls.cutPulse k wild with blocked := true } }
  let y := match run with
    | some r => (y.flsEnd r.desc 2 r.done r.maxPulses (match r.pulse with | .erase n => n | _ => 0) false []
        (match r.pulse with | .erase _ => r.desc.addr | _ => r.stop) (y.fls.descSector r.desc r.desc.addr)).1
    | none => y
  y.fls.queue.foldl (fun z d => (z.flsEnd d 2 0 0 0 false [] d.addr 0).1) { y with fls := { y.fls with queue := [], mine := [] } }

/-- The option area as loaded into the window at a reset of the wing (R392, R394). -/
def Flash.optLoad (f : Flash) : Flash :=
  let bad := fun li => match (f.at_ (.inr li)).status with
    | .torn => true | .uncorrectable => true | .cut _ => true | _ => false
  let good := fun li => match (f.at_ (.inr li)).status with | .sealed => true | .corrected => true | _ => false
  let listed := (f.opt.map (fun e => e.1))
  { f with
    window := listed.foldl (fun t li => if good li then
      tputs 0xFFFF (8 * li) ((List.range 8).map (f.at_ (.inr li)).word) t else t) []
    locked := (f.at_ (.inr 0)).intent
    optErrors := min 255 (listed.filter bad).length }

/-- A direct read of flash (R380): the word, and the flags and counts of a line that is not clean. -/
def Wing.flsDirect (a : Nat) (x : Wing) : Word × Wing × FlsEvents :=
  match x.fls.readLine a with
  | none => (0xFFFF, x, [])
  | some (l, li) =>
    let f := x.fls
    let clear := !(f.rdCorrected || f.rdTorn || f.rdUncorrectable)
    let note := fun (g : Flash) => if clear then { g with readAddr := a } else g
    let v := l.word (a % 8)
    match l.status with
    | .corrected =>
      let (es, g) := f.signs3 [li / 256]
      (v, ({ x with fls := note { g with rdCorrected := true } }).bump 0xFF5008 0x27200B, es)
    | .torn => (v, ({ x with fls := note { f with rdTorn := true } }).bump 0xFF5009 0x27200C, [])
    | .uncorrectable =>
      (v, (({ x with fls := note { f with rdUncorrectable := true } }).bump 0xFF500A 0x27200D).raise 63,
        [(1, [0x10, 0] ++ natLe 3 a ++ natLe 2 (li / 256) ++ [0])])
    | _ => (v, x, [])

/-- FLS_SECTOR_STATE (R396). -/
def Flash.secState (f : Flash) (s : Nat) : Nat :=
  if f.retired.contains s then 1 else if f.spares.contains s then 2
  else if f.secPos s == some f.gap && decide (528 ≤ s) then 3 else 0

/-- A read of the flash block at word offset `a` (R396). -/
def Wing.flsRegRead (a : Nat) (x : Wing) : Word × Wing :=
  let f := x.fls
  match a with
  | 0x00 => (w16 ((32 - f.load) + 64 * b2n (f.run.isSome || f.move != .idle && f.move != .due) +
      128 * b2n (!f.held.isEmpty) + 256 * b2n f.refused + 512 * b2n (f.move != .idle) + 1024 * b2n f.blocked), x)
  | 0x03 => (w16 f.protect.toNat, x)
  | 0x04 => (w16 (b2n f.locked + 2 * b2n (f.optErrors != 0) + 256 * f.optErrors), x)
  | 0x05 => (w16 (b2n f.rdCorrected + 2 * b2n f.rdTorn + 4 * b2n f.rdUncorrectable), x)
  | 0x06 => x.readMulti 0 0xFF5006 2 f.readAddr 0
  | 0x07 => x.readMulti 0 0xFF5006 2 f.readAddr 1
  | 0x08 => x.readRc 0xFF5008
  | 0x09 => x.readRc 0xFF5009
  | 0x0A => x.readRc 0xFF500A
  | 0x0B => x.readRc 0xFF500B
  | 0x10 => (w16 f.sel, x)
  | 0x11 => x.readMulti 0 0xFF5011 2 (tget 0 f.erases f.sel) 0
  | 0x12 => x.readMulti 0 0xFF5011 2 (tget 0 f.erases f.sel) 1
  | 0x13 => (w16 (f.secState f.sel + 8 * (if f.sel < 528 then 0x1FF else (f.secPos f.sel).getD 0x1FF)), x)
  | 0x14 => (w16 f.gap, x)
  | 0x15 => (w16 f.start, x)
  | 0x16 => (w16 f.spares.length, x)
  | 0x17 => (w16 (f.archErases % 64), x)
  | 0x18 => x.readMulti 0 0xFF5018 2 f.archErases 0
  | 0x19 => x.readMulti 0 0xFF5018 2 f.archErases 1
  | _ => (0, x)

/-- A write of the flash block at word offset `a` (R396). -/
def Wing.flsRegWrite (a : Nat) (v : Word) (x : Wing) : Wing :=
  let f := x.fls
  let n := v.toNat
  match a with
  | 0x00 => { x with fls := { f with refused := f.refused && !bit n 8 } }
  | 0x01 => { x with fls := { f with submitLo := v } }
  | 0x02 => x.flsSubmit (f.submitLo.toNat + 65536 * (n % 256))
  | 0x03 => { x with fls := { f with protect := f.protect ||| BitVec.ofNat 7 n } }
  | 0x05 => { x with fls := { f with rdCorrected := f.rdCorrected && !bit n 0, rdTorn := f.rdTorn && !bit n 1,
                                     rdUncorrectable := f.rdUncorrectable && !bit n 2 } }
  | 0x10 => { x with fls := { f with sel := n % 1024 } }
  | _ => x

/-- A step of the flash controller of wing `w`: the wing, and its FLASH events sent (R307). -/
def State.flsStep (w : Nat) (f : Nat → Wing → Wing × FlsEvents) (s : State) : State :=
  let (y, es) := f s.free (s.wing w)
  es.foldl (fun t e => t.event 7 w e.1 e.2) { s.setWing w (y.flsSettle 33) with free := s.free + 1 }

/-- FLASH_SUBMIT (R372): the writes of FLS_SUBMIT_LO and FLS_SUBMIT_HI. -/
def execFlashSubmit (w : WingId) (addr : BitVec 24) (s : State) : Out :=
  byCore w s (s.modWing w (fun x => (x.flsRegWrite 1 (w16 addr.toNat)).flsRegWrite 2 (w16 (addr.toNat / 65536))))

/-- FLASH_TALLY (R378). -/
def execFlashTally (w : WingId) (s : State) : Out :=
  .next (s.flsStep w (fun _ => Wing.flsStart 3 (fun d y =>
    let (n, f) := y.fls.tallyLines d (fun i => lineData (y.lds (d.buf + 8 * i) 8)) d.lines 0
    ({ y with fls := f }).flsEnd d (if n = d.lines then 0 else 9) n 0 0 false [] (d.addr + 8 * n) 0)))

/-- FLASH_READ (R381). -/
def execFlashRead (w : WingId) (s : State) : Out := .next (s.flsStep w (fun _ => Wing.flsStart 4 Wing.flsRead))

/-- FLASH_DIRECT_READ (R380): a Keeper-mode read of a flash word. -/
def execFlashDirectRead (w : WingId) (addr : BitVec 24) (s : State) : Out :=
  byCore w s (if 0x400000 ≤ addr.toNat && addr.toNat < 0x600000 then
    s.flsStep w (fun _ x => let (v, y, es) := x.flsDirect addr.toNat; ({ y with rdata := v }, es)) else s)

/-- GAP_MOVE_PIECE (R387): `sensed` is the result of an erase sub-pulse. -/
def execGapMovePiece (w : WingId) (sensed : Bool) (s : State) : Out :=
  .next (s.flsStep w (fun k x =>
    let s := x.fls.posSector x.fls.gap
    let (fail, f) := x.fls.movePiece k sensed
    let y := { x with fls := f }
    match fail with
    | none => (y, [])
    | some rep => y.sectorFault 2 s (0x400000 + 0x800 * s) rep))

end Sys2Proof.Machine
end

