-- ==== Sys2Proof/Machine/Cipher.lean ====
section
/-! DEFINITION. The cipher engine (15_cipher_engine.md): pages, keys and their derivation, Keeper jobs from
submission to end, zeroing on failure, the random source, and the block's registers. -/
namespace Sys2Proof.Machine
open Sys2Proof

/-- The reset state of page `p`: pages 0 to 15 have OWNER LINK (R477). -/
def pageReset (p : Nat) : Page := if p < 16 then { owner := 4 } else {}

/-- Page `p`. -/
def Wing.page (x : Wing) (p : Nat) : Page := tget (pageReset p) x.cph.pages p

/-- Give page `p` the value `g`. -/
def Wing.setPage (p : Nat) (g : Page) (x : Wing) : Wing :=
  { x with cph := { x.cph with pages := tset (pageReset p) p g x.cph.pages } }

/-- The page's key is zeroed and its STATE is EMPTY (R478, R479). -/
def Page.empty (g : Page) : Page := { g with key := [], state := 0, label := [] }

/-- A word of SRAM or flash as the engine reads it. -/
def Wing.memWord (x : Wing) (a : Nat) : Word :=
  if 0x400000 ≤ a && a < 0x600000 then
    match x.fls.readLine a with | some (l, _) => l.word (a % 8) | none => 0xFFFF
  else x.ld a

/-- `n` octets packed from word address `a`, from octet offset `off` (R469). -/
def Wing.octets (x : Wing) (a off n : Nat) : Octets :=
  slice (unpackW ((List.range ((off + n + 1) / 2)).map (fun i => x.memWord (a + i)))) off n

/-- Write octets from word address `a`, octet offset `off`. -/
def Wing.putOctets (a : Nat) : Nat → Octets → Wing → Wing
  | _, [], x => x
  | off, o :: os, x =>
    let w := (x.ld (a + off / 2)).toNat
    let v := if off % 2 = 0 then w / 256 * 256 + o.toNat else w % 256 + o.toNat * 256
    Wing.putOctets a (off + 1) os (x.st (a + off / 2) (w16 v))

/-- A derived key (R472). -/
def deriveKey (source label : Octets) : Octets := kmac256 source label (label.getD 2 0).toNat (ascii "VY-KEY")

/-- The label of R472. -/
def keyLabel (purpose length epoch : Nat) (e1 e2 context : Octets) : Octets :=
  [1, o8 purpose, o8 length, 0] ++ natLe 4 epoch ++ e1 ++ e2 ++ context

/-- The wrapping key of wing `w` (R471). -/
def wrapKey (w : Nat) : Octets :=
  deriveKey (natBe 32 (Config.wingDeviceKey w).toNat) (keyLabel 4 32 0 (zeros 8) (zeros 8) (zeros 16))

/-- The key check value of a root (R470). -/
def rootKcv (nrk : Octets) : Octets := (kmac256 nrk [] 32 (ascii "VY-KCV")).take 4

/-- The link-key cache is emptied (R474). -/
def Wing.cacheClear (x : Wing) : Wing :=
  { x with cph := { x.cph with pages := tdrop (fun p => decide (p < 16)) x.cph.pages, lru := List.range 16 } }

/-- The root slot takes a root, or is zeroed (R470, R471). -/
def Wing.loadRoot (nrk : Option Octets) (x : Wing) : Wing :=
  let y := x.cacheClear
  { y with cph := { y.cph with root := nrk, kcv := match nrk with | some k => rootKcv k | none => zeros 4 } }

/-- The link key of a label: from its cache page, or derived into the page least recently used (R474); none
without a root. -/
def Wing.linkKey (label : Octets) (x : Wing) : Option (Octets × Wing) :=
  match x.cph.root with
  | none => none
  | some nrk =>
    let use := fun (p : Nat) (y : Wing) =>
      { y with cph := { y.cph with lru := y.cph.lru.filter (· ≠ p) ++ [p] } }
    match (List.range 16).find? (fun p => (x.page p).state ≠ 0 && decide ((x.page p).label = label)) with
    | some p => some ((x.page p).key, use p x)
    | none =>
      let p := x.cph.lru.headD 0
      let k := deriveKey nrk label
      some (k, (use p (x.setPage p { x.page p with key := k, state := 2, label := label })).bump 0xFF4035 0x2B0006)

/-- Codes of CPH_RESULT (R492). -/
def CphResult.code : CphResult → Nat
  | .ok => 0 | .authFail => 1 | .badJob => 2 | .access => 3 | .pageDenied => 4 | .pageEmpty => 5 | .usage => 6
  | .aborted => 7 | .fault => 8 | .noRoot => 9

/-- A result is counted (R492). -/
def Wing.cphCount (r : CphResult) (x : Wing) : Wing :=
  match r with
  | .ok => x
  | .authFail => x.bump 0xFF4030 0x2B0001
  | .aborted => x.bump 0xFF4031 0x2B0002
  | .fault => x.bump 0xFF4032 0x2B0003
  | _ => x.bump 0xFF4033 0x2B0004

/-- OUT_LEN of SHAKE256 (R469). -/
def CphJob.outLen (j : CphJob) : Nat := j.tagLen + 256 * (j.w12 / 256 % 32)

/-- The job checks a tag (R468). -/
def CphJob.checksTag (j : CphJob) : Bool := j.op == 5 || j.op == 7 || j.op == 9 || j.op == 0x12

/-- The job uses the key of PAGE. -/
def CphJob.usesPage (j : CphJob) : Bool :=
  (decide (1 ≤ j.op) && decide (j.op ≤ 9)) || j.op == 0x11 || j.op == 0x12 || j.op == 0x1A ||
  ((j.op == 0x13 || j.op == 0x14) && j.page != 0xFF)

/-- DEST_PAGE of DERIVE and UNWRAP. -/
def CphJob.dest (j : CphJob) : Nat := j.w12 % 256

/-- Octets read from IN, and written to OUT from offset 0. -/
def CphJob.inSpan (j : CphJob) : Nat :=
  if j.op = 0x13 || j.op = 0x14 then 0 else if j.op = 0x15 then 60
  else j.aadLen + j.length + (if j.checksTag then j.tagLen else 0)

/-- Octets of the OUT area. -/
def CphJob.outSpan (j : CphJob) : Nat :=
  if j.op = 0x10 then j.outLen else if j.op = 0x11 then j.tagLen
  else if j.op = 9 || j.op = 0x12 || j.op = 0x13 || j.op = 0x15 then 0
  else if j.op = 0x14 then 60 else if 0x18 ≤ j.op then 32
  else j.aadLen + j.length + (if j.op = 4 || j.op = 6 || j.op = 8 then j.tagLen else 0)

/-- Octets read at NONCE. -/
def CphJob.nonceSpan (j : CphJob) : Nat :=
  if j.op = 3 then 16 else if j.op = 0x18 || j.op = 0x19 || j.op = 0x1B then 32
  else if (decide (4 ≤ j.op) && decide (j.op ≤ 7)) || j.op = 0x11 || j.op = 0x12 then j.nonceLen else 0

/-- Octets read at AUX. -/
def CphJob.auxSpan (j : CphJob) : Nat :=
  if j.op = 0x13 then 40 else if j.op = 0x18 || j.op = 0x19 || j.op = 0x1B then 32 else 0

/-- Check 1 of R483: the OP, the lengths, and the words that must be 0. -/
def CphJob.shapeOk (j : CphJob) : Bool :=
  j.zeros && decide (j.behalf ≤ 2) && decide (j.aadLen + j.length ≤ 65535) &&
  (!j.usesPage || decide (j.page ≤ 63)) &&
  (match j.op with
    | 1 | 2 => decide (j.length % 16 = 0)
    | 3 => decide (j.nonceLen = 16)
    | 4 => decide (7 ≤ j.nonceLen) && decide (j.nonceLen ≤ 13) && [0, 4, 6, 8, 10, 12, 14, 16].contains j.tagLen
    | 5 => decide (7 ≤ j.nonceLen) && decide (j.nonceLen ≤ 13) && [4, 6, 8, 10, 12, 14, 16].contains j.tagLen
    | 6 | 7 => decide (j.nonceLen = 12) && decide (12 ≤ j.tagLen) && decide (j.tagLen ≤ 16)
    | 8 | 9 => decide (4 ≤ j.tagLen) && decide (j.tagLen ≤ 16)
    | 0x10 => decide (1 ≤ j.outLen) && decide (j.outLen ≤ 4096)
    | 0x11 | 0x12 => decide (j.nonceLen ≤ 64) && decide (4 ≤ j.tagLen) && decide (j.tagLen ≤ 64)
    | 0x13 => decide (j.dest ≤ 63) && (decide (j.page ≤ 63) || j.page == 0xFF)
    | 0x14 => decide (j.page ≤ 63) || j.page == 0xFF
    | 0x15 => decide (j.dest ≤ 63) || j.dest == 0xFF
    | 0x18 | 0x1A | 0x1B => decide (j.aadLen + j.length = 32)
    | 0x19 => decide (j.aadLen + j.length = 64)
    | 0x1C => true
    | _ => false)

/-- Words [a, a + n octets) lie within [lo, hi]. -/
def within (a n lo hi : Nat) : Bool := n == 0 || (decide (lo ≤ a) && decide (a + (n + 1) / 2 ≤ hi + 1))

/-- Check 2 of R483 (R477). -/
def Wing.cphAccess (j : CphJob) (x : Wing) : Bool :=
  let sram := fun a n => within a n 0x100000 0x12FFFF
  let keep := fun a n => sram a n || within a n 0x400000 0x5FFFFF
  let data := fun a n => within a n x.apl.dataLo x.apl.dataHi
  let code := fun a n => within a n x.apl.codeLo x.apl.codeHi
  if j.behalf = 1 then
    (code j.inA j.inSpan || data j.inA j.inSpan) && data j.outA j.outSpan && data j.nonceA j.nonceSpan &&
      data j.auxA j.auxSpan
  else keep j.inA j.inSpan && sram j.outA j.outSpan && keep j.nonceA j.nonceSpan && keep j.auxA j.auxSpan

/-- The page's OWNER and SESSION match the job (R477). -/
def Page.serves (j : CphJob) (g : Page) : Bool :=
  match j.behalf with
  | 0 => g.owner == 1
  | 1 => g.owner == 2
  | _ => g.owner == 3 && g.session == j.session

/-- The usage bit an OP requires (R468, R492), if any. -/
def opUsage (op : Nat) : Option Nat :=
  match op with
  | 1 | 3 | 4 | 6 => some 0 | 2 | 5 | 7 => some 1 | 8 | 0x11 => some 2 | 9 | 0x12 => some 3 | 0x13 => some 4
  | 0x1A => some 5 | _ => none

/-- The label of a DERIVE is permitted (R472, R477). -/
def labelOk (j : CphJob) (label : Octets) : Bool :=
  let p := (label.getD 1 0).toNat
  label.getD 0 0 == 1 && ((label.getD 2 0).toNat == 16 || (label.getD 2 0).toNat == 32) &&
  (decide (0x80 ≤ p) || (j.behalf == 0 && decide (1 ≤ p) && decide (p ≤ 4)))

/-- The checks of R483, in order: the status of the first that fails, or the key the job copies (R480). -/
def Wing.cphCheck (j : CphJob) (x : Wing) : Except CphResult Octets :=
  let g := x.page j.page
  let d := x.page j.dest
  if !j.shapeOk then .error .badJob
  else if !x.cphAccess j then .error .access
  else if j.op = 0x13 && !labelOk j (x.octets j.auxA 0 40) then .error .badJob
  else if (j.usesPage && !g.serves j) || (j.op = 0x13 && !d.serves j) || (j.op = 0x13 && j.page = 0xFF && j.behalf ≠ 0)
      || (j.op = 0x15 && j.dest ≠ 0xFF && !d.serves j) then .error .pageDenied
  else if j.usesPage && g.state = 0 then .error .pageEmpty
  else if (j.op = 0x13 || j.op = 0x14) && j.page = 0xFF && x.cph.root.isNone then .error .noRoot
  else if j.usesPage && (match opUsage j.op with | some b => !g.usage.getLsbD b | none => false) then .error .usage
  else .ok (if j.usesPage then g.key else x.cph.root.getD [])

/-- A Keeper job is submitted (R482, R483). -/
def Wing.cphSubmit (j : CphJob) (x : Wing) : Wing :=
  if x.cph.run.isSome then ({ x with cph := { x.cph with refused := true } }).bump 0xFF4034 0x2B0005
  else match x.cphCheck j with
    | .error r => ({ x with cph := { x.cph with result := r } }).cphCount r
    | .ok key => { x with cph := { x.cph with run := some { job := j, key := key } } }

/-- The job block at a word address (R469). -/
def Wing.cphBlock (a : Nat) (x : Wing) : CphJob :=
  let n := fun i => (x.ld (a + i)).toNat
  let ad := fun i => n i + 65536 * (n (i + 1) % 256)
  { op := n 0 % 64, behalf := bits (n 0) 7 6, page := n 0 / 256, tagLen := n 1 % 256, nonceLen := n 1 / 256,
    inA := ad 2, outA := ad 4, length := n 6, aadLen := n 7, nonceA := ad 8, auxA := ad 10, w12 := n 12,
    session := n 13 % 8, zeros := n 13 / 8 == 0 && n 14 == 0 && n 15 == 0 }

/-- The output of a job that ends with AUTH_FAIL, ABORTED or FAULT (R487). -/
def Wing.cphZero (j : CphJob) (x : Wing) : Wing :=
  if j.op ≤ 7 then
    x.putOctets j.outA j.aadLen (zeros (j.length + (if j.op = 4 || j.op = 6 then j.tagLen else 0)))
  else if j.op = 0x13 || j.op = 0x15 then
    if j.dest = 0xFF then x.loadRoot none else x.setPage j.dest (x.page j.dest).empty
  else if j.op = 8 then x.putOctets j.outA (j.aadLen + j.length) (zeros j.tagLen)
  else if j.op = 0x14 then x.putOctets j.outA 0 (zeros 60)
  else x.putOctets j.outA 0 (zeros j.outSpan)

/-- A job that no longer runs has ended with a result, and a failure leaves what R487 says. -/
def Wing.cphFinish (j : CphJob) (r : CphResult) (x : Wing) : Wing :=
  let y := match r with | .ok => x | _ => x.cphZero j
  ({ y with cph := { y.cph with result := r } }).cphCount r

/-- The engine no longer runs its Keeper job: BUSY falls, and the fence with it (R486). -/
def Wing.cphFree (x : Wing) : Wing := { x with cph := { x.cph with run := none } }

/-- The running job ends with a result. -/
def Wing.cphEnd (r : CphResult) (x : Wing) : Wing :=
  match x.cph.run with
  | none => x
  | some { job := j, .. } => x.cphFree.cphFinish j r

/-- A key goes into DEST_PAGE with STATE `st` (R471, R472). -/
def Wing.destKey (d st : Nat) (key : Octets) (x : Wing) : Wing :=
  let g := x.page d
  x.setPage d { g with key := key, state := st }

/-- What a job computes: its result, and the wing with its output written (R468, R469). `iv` is
the twelve random octets of WRAP, none while the random source has failed (R489). -/
def Wing.cphRun (w : Nat) (iv : Option Octets) (q : CphRun) (x : Wing) : CphResult × Wing :=
  let j := q.job
  let aad := x.octets j.inA 0 j.aadLen
  let data := x.octets j.inA j.aadLen j.length
  let tag := x.octets j.inA (j.aadLen + j.length) (if j.checksTag then j.tagLen else 0)
  let nonce := x.octets j.nonceA 0 j.nonceSpan
  let aux := x.octets j.auxA 0 j.auxSpan
  let put := fun (os : Octets) => (CphResult.ok, x.putOctets j.outA j.aadLen os)
  let put0 := fun (os : Octets) => (CphResult.ok, x.putOctets j.outA 0 os)
  let both := fun (r : Octets × Octets) => put (r.1 ++ r.2)
  let opened := fun (r : Option Octets) => match r with | some p => put p | none => (CphResult.authFail, x)
  let same := fun (b : Bool) => if b then (CphResult.ok, x) else (CphResult.authFail, x)
  match j.op with
  | 1 => put (aesEcb false q.key data)
  | 2 => put (aesEcb true q.key data)
  | 3 => put (aesCtr q.key nonce data)
  | 4 => both (ccmEnc q.key nonce aad data j.tagLen)
  | 5 => opened (ccmDec q.key nonce aad data tag)
  | 6 => both (gcmEnc q.key nonce aad data j.tagLen)
  | 7 => opened (gcmDec q.key nonce aad data tag)
  | 8 => (.ok, x.putOctets j.outA (j.aadLen + j.length) (cmac q.key (aad ++ data) j.tagLen))
  | 9 => same (decide (cmac q.key (aad ++ data) j.tagLen = tag))
  | 0x10 => put0 (shake256 (aad ++ data) j.outLen)
  | 0x11 => put0 (kmac256 q.key (aad ++ data) j.tagLen nonce)
  | 0x12 => same (decide (kmac256 q.key (aad ++ data) j.tagLen nonce = tag))
  | 0x13 => (.ok, x.destKey j.dest 2 (deriveKey q.key aux))
  | 0x14 =>
    match iv with
    | none => (.fault, x)
    | some iv =>
      let (c, t) := gcmEnc (wrapKey w) iv [] ((q.key ++ zeros 32).take 32) 16
      put0 (iv ++ c ++ t)
  | 0x15 =>
    let b := x.octets j.inA 0 60
    match gcmDec (wrapKey w) (b.take 12) [] (slice b 12 32) (b.drop 44) with
    | none => (.authFail, x)
    | some k =>
      if j.dest = 0xFF then (.ok, x.loadRoot (some k))
      else (.ok, x.destKey j.dest 3 (if (x.page j.dest).len32 then k else k.take 16))
  | 0x18 => put0 (xmssF nonce aux (aad ++ data))
  | 0x19 => put0 (xmssH nonce aux ((aad ++ data).take 32) ((aad ++ data).drop 32))
  | 0x1A => put0 (xmssPrf q.key (aad ++ data))
  | 0x1B => put0 (xmssChain nonce aux (j.w12 / 256) (j.w12 % 256) (aad ++ data))
  | _ => put0 (xmssHash 2 [] (aad ++ data))

/-- A write of CPH_KEY_COMMIT (R470, R479). -/
def Wing.keyCommit (v : Word) (x : Wing) : Wing :=
  let ws := tgets 0 x.cph.staging 0 16
  let g := x.page x.cph.sel
  let y := { x with cph := { x.cph with staging := [] } }
  if v = 0x4B45 then
    if g.owner = 4 || g.owner = 0 then y.bump 0xFF4033 0x2B0004
    else y.setPage x.cph.sel { g with key := unpackW (ws.take (if g.len32 then 16 else 8)), state := 1 }
  else if v = 0x524F then
    if x.sys.state = .stopped then y.loadRoot (some (unpackW ws)) else y.bump 0xFF4033 0x2B0004
  else y

/-- A job that uses page `p` ends with ABORTED (R480). -/
def Wing.pageGone (p : Nat) (x : Wing) : Wing :=
  match x.cph.run with
  | some { job := j, .. } =>
    if (j.usesPage && j.page == p) || ((j.op == 0x13 || j.op == 0x15) && j.dest == p) then x.cphEnd .aborted else x
  | none => x

/-- A write of CPH_PAGE_CLR (R479, R480). -/
def Wing.pageClear (v : Word) (x : Wing) : Wing :=
  let p := v.toNat % 64
  if p < 16 then x else
  let y := x.pageGone p
  y.setPage p (y.page p).empty

/-- A write of the configuration of page `p` (R478, R480). -/
def Wing.pageCfg (p : Nat) (v : Word) (x : Wing) : Wing :=
  let n := v.toNat
  let o := bits n 2 0
  if p < 16 || 4 ≤ o then x else
  let g := x.page p
  let moved := o != g.owner || bits n 5 3 != g.session
  let y := if moved then x.pageGone p else x
  let g := if moved then { (y.page p).empty with owner := o, session := bits n 5 3 } else g
  y.setPage p (if g.state = 0 then { g with len32 := bit n 6, usage := BitVec.ofNat 6 (bits n 12 7) } else g)

/-- CPH_PAGE_CFG of a page (R492). -/
def Page.word (g : Page) : Word :=
  w16 (g.owner + 8 * g.session + 64 * b2n g.len32 + 128 * g.usage.toNat + 8192 * g.state)

/-- A read of CPH_RANDOM of wing `w` (R489). -/
def State.randomRead (w : Nat) (s : State) : Word × State :=
  let x := s.wing w
  if x.cph.randFail then (0, s.modWing w (Wing.bump 0xFF4036 0x2B0007))
  else if !x.cph.randReady then (0, s)
  else let (v, t) := s.draw; (w16 v.toNat, t)

/-- A read of the cipher block of wing `w` at word offset `a` (R492). -/
def State.cphRead (w a : Nat) (s : State) : Word × State :=
  let x := s.wing w
  let c := x.cph
  let rc := fun reg => let (v, y) := x.readRc reg; (v, s.setWing w y)
  match a with
  | 0x00 => (w16 (b2n c.run.isSome + 4 * b2n c.refused + 8 * b2n c.randReady + 16 * b2n c.randFail +
      32 * b2n c.root.isSome), s)
  | 0x03 => (w16 c.result.code, s)
  | 0x05 => s.randomRead w
  | 0x06 => (w16 c.sel, s)
  | 0x07 => ((x.page c.sel).word, s)
  | 0x21 => let (v, y) := x.readMulti 0 0xFF4021 2 (leNat c.kcv) 0; (v, s.setWing w y)
  | 0x22 => let (v, y) := x.readMulti 0 0xFF4021 2 (leNat c.kcv) 1; (v, s.setWing w y)
  | _ => if 0x30 ≤ a && a ≤ 0x36 then rc (0xFF4000 + a) else (0, s)

/-- A write of the cipher block at word offset `a` (R492). -/
def Wing.cphWrite (a : Nat) (v : Word) (x : Wing) : Wing :=
  let n := v.toNat
  if 0x10 ≤ a && a < 0x20 then { x with cph := { x.cph with staging := tset 0 (a - 0x10) v x.cph.staging } } else
  match a with
  | 0x00 => { x with cph := { x.cph with refused := x.cph.refused && !bit n 2 } }
  | 0x01 => { x with cph := { x.cph with jobLo := v } }
  | 0x02 => x.cphSubmit (x.cphBlock (x.cph.jobLo.toNat + 65536 * (n % 256)))
  | 0x04 => if n = 0x5A5A then x.cphEnd .aborted else x
  | 0x06 => { x with cph := { x.cph with sel := n % 64 } }
  | 0x07 => x.pageCfg x.cph.sel v
  | 0x08 => x.pageClear v
  | 0x20 => x.keyCommit v
  | _ => x

/-- A Keeper job with the OP of its row is submitted (R482): the block's other fields are the command's. -/
def cphRow (op : Nat) (w : WingId) (j : CphJob) (s : State) : Out :=
  byCore w s (s.modWing w (Wing.cphSubmit { j with op := op }))

/-- ECB_ENC (R468). -/
def execEcbEnc (w : WingId) (j : CphJob) (s : State) : Out := cphRow 0x01 w j s
/-- ECB_DEC (R468). -/
def execEcbDec (w : WingId) (j : CphJob) (s : State) : Out := cphRow 0x02 w j s
/-- CTR (R468). -/
def execCtr (w : WingId) (j : CphJob) (s : State) : Out := cphRow 0x03 w j s
/-- CCM_ENC (R468). -/
def execCcmEnc (w : WingId) (j : CphJob) (s : State) : Out := cphRow 0x04 w j s
/-- CCM_DEC (R468, R486). -/
def execCcmDec (w : WingId) (j : CphJob) (s : State) : Out := cphRow 0x05 w j s
/-- GCM_ENC (R468). -/
def execGcmEnc (w : WingId) (j : CphJob) (s : State) : Out := cphRow 0x06 w j s
/-- GCM_DEC (R468, R486). -/
def execGcmDec (w : WingId) (j : CphJob) (s : State) : Out := cphRow 0x07 w j s
/-- CMAC_GEN (R468). -/
def execCmacGen (w : WingId) (j : CphJob) (s : State) : Out := cphRow 0x08 w j s
/-- CMAC_VERIFY (R468). -/
def execCmacVerify (w : WingId) (j : CphJob) (s : State) : Out := cphRow 0x09 w j s
/-- SHAKE256 (R468). -/
def execShake256 (w : WingId) (j : CphJob) (s : State) : Out := cphRow 0x10 w j s
/-- KMAC_GEN (R468). -/
def execKmacGen (w : WingId) (j : CphJob) (s : State) : Out := cphRow 0x11 w j s
/-- KMAC_VERIFY (R468). -/
def execKmacVerify (w : WingId) (j : CphJob) (s : State) : Out := cphRow 0x12 w j s
/-- DERIVE (R472). -/
def execDerive (w : WingId) (j : CphJob) (s : State) : Out := cphRow 0x13 w j s
/-- WRAP (R471). -/
def execWrap (w : WingId) (j : CphJob) (s : State) : Out := cphRow 0x14 w j s
/-- UNWRAP (R471). -/
def execUnwrap (w : WingId) (j : CphJob) (s : State) : Out := cphRow 0x15 w j s
/-- XMSS_F (R468). -/
def execXmssF (w : WingId) (j : CphJob) (s : State) : Out := cphRow 0x18 w j s
/-- XMSS_H (R468). -/
def execXmssH (w : WingId) (j : CphJob) (s : State) : Out := cphRow 0x19 w j s
/-- XMSS_PRF (R468). -/
def execXmssPrf (w : WingId) (j : CphJob) (s : State) : Out := cphRow 0x1A w j s
/-- XMSS_CHAIN (R468). -/
def execXmssChain (w : WingId) (j : CphJob) (s : State) : Out := cphRow 0x1B w j s
/-- XMSS_HMSG (R468). -/
def execXmssHmsg (w : WingId) (j : CphJob) (s : State) : Out := cphRow 0x1C w j s

/-- CIPHER_JOB_COMPLETE (R487): the Keeper job that runs ends; `mismatch` tells whether the duplicated round
logic detects a FAULT. -/
def execCipherJobComplete (w : WingId) (mismatch : Bool) (s : State) : Out :=
  let x := s.wing w
  .next (match x.cph.run with
    | none => s
    | some q =>
      if mismatch then s.setWing w (x.cphEnd .fault) else
      let (iv, t) := s.drawOctets (if q.job.op = 0x14 then 12 else 0)
      let (r, y) := x.cphFree.cphRun w (if x.cph.randFail then none else some iv) q
      t.setWing w (y.cphFinish q.job r))

/-- CIPHER_ABORT (R482): a write of CPH_ABORT; the job ends at its next block boundary. -/
def execCipherAbort (w : WingId) (v : Word) (s : State) : Out := byCore w s (s.modWing w (Wing.cphWrite 0x04 v))

/-- KEY_COMMIT_PAGE (R479): a write of 0x4B45 to CPH_KEY_COMMIT. -/
def execKeyCommitPage (w : WingId) (s : State) : Out := byCore w s (s.modWing w (Wing.keyCommit 0x4B45))

/-- KEY_COMMIT_ROOT (R470): a write of 0x524F to CPH_KEY_COMMIT. -/
def execKeyCommitRoot (w : WingId) (s : State) : Out := byCore w s (s.modWing w (Wing.keyCommit 0x524F))

/-- PAGE_CLEAR (R479): a write of CPH_PAGE_CLR. -/
def execPageClear (w : WingId) (v : Word) (s : State) : Out := byCore w s (s.modWing w (Wing.pageClear v))

/-- PAGE_CFG_WRITE (R478): a write of CPH_PAGE_CFG of the selected page. -/
def execPageCfgWrite (w : WingId) (v : Word) (s : State) : Out :=
  byCore w s (s.modWing w (fun x => x.pageCfg x.cph.sel v))

/-- RANDOM_READ (R489). -/
def execRandomRead (w : WingId) (s : State) : Out :=
  let (v, t) := s.randomRead w
  byCore w s (t.modWing w (fun x => { x with rdata := v }))

/-- RANDOM_READY (R489). -/
def execRandomReady (w : WingId) (s : State) : Out :=
  byCore w s (s.modWing w (fun x => { x with cph := { x.cph with randReady := true } }))

/-- RANDOM_HEALTH_FAIL (R489): RANDOM_FAIL, and the WING event of the Curator. -/
def execRandomHealthFail (w : WingId) (s : State) : Out :=
  byCore w s ((s.modWing w (fun x => { x with cph := { x.cph with randFail := true } })).event 2 w 6 [])

end Sys2Proof.Machine
end

