-- ==== Sys2Proof/Machine/CalendarOps.lean ====
section
/-! DEFINITION. The calendar (11_calendar.md): carry, trim, halt, shadows, alarm, and its registers. -/
namespace Sys2Proof.Machine
open Sys2Proof

/-- Two or four BCD digits one higher. -/
def bcdInc (n : Nat) : Nat :=
  if n % 16 < 9 then n + 1 else if n / 16 % 16 < 9 then n + 7 else if n / 256 % 16 < 9 then n + 0x67 else n + 0x667

/-- The value of up to four BCD digits. -/
def bcdVal (n : Nat) : Nat := n % 16 + 10 * (n / 16 % 16) + 100 * (n / 256 % 16) + 1000 * (n / 4096 % 16)

/-- Four BCD digits of a value. -/
def toBcd (v : Nat) : Nat := v % 10 + 16 * (v / 10 % 10) + 256 * (v / 100 % 10) + 4096 * (v / 1000 % 10)

/-- Every digit of four is 0 to 9. -/
def bcdOk (n : Nat) : Bool :=
  decide (n % 16 ≤ 9) && decide (n / 16 % 16 ≤ 9) && decide (n / 256 % 16 ≤ 9) && decide (n / 4096 % 16 ≤ 9)

/-- The length of a month, BCD (R347). -/
def monthLen (month year : Nat) : Nat :=
  match month with
  | 0x04 => 0x30 | 0x06 => 0x30 | 0x09 => 0x30 | 0x11 => 0x30
  | 0x02 => if bcdVal year % 4 = 0 then 0x29 else 0x28
  | _ => 0x31

/-- Days before a month in a year that is not a leap year. -/
def daysBefore : Nat → Nat
  | 1 => 0 | 2 => 31 | 3 => 59 | 4 => 90 | 5 => 120 | 6 => 151 | 7 => 181 | 8 => 212 | 9 => 243 | 10 => 273
  | 11 => 304 | _ => 334

/-- WEEKDAY of a date, 1 Monday to 7 Sunday; 2000-01-01 is a Saturday (R348, R349). -/
def weekday (t : CalTime) : Nat :=
  let y := bcdVal t.year - 2000
  let m := bcdVal t.month
  let leap := if y % 4 = 0 && decide (2 < m) then 1 else 0
  (y * 365 + (y + 3) / 4 + daysBefore m + leap + (bcdVal t.day - 1) + 5) % 7 + 1

/-- One second later, with the cascade of R346 to R348: the time, and whether it rolled over. -/
def CalTime.tick (t : CalTime) : CalTime × Bool :=
  if t.sec ≠ 0x59 then ({ t with sec := bcdInc t.sec }, false)
  else if t.min ≠ 0x59 then ({ t with sec := 0, min := bcdInc t.min }, false)
  else if t.hour ≠ 0x23 then ({ t with sec := 0, min := 0, hour := bcdInc t.hour }, false)
  else
    let t0 := { t with sec := 0, min := 0, hour := 0, wday := t.wday % 7 + 1 }
    if t.day < monthLen t.month t.year then ({ t0 with day := bcdInc t.day }, false)
    else if t.month ≠ 0x12 then ({ t0 with day := 1, month := bcdInc t.month }, false)
    else if t.year ≠ 0x2099 then ({ t0 with day := 1, month := 1, year := bcdInc t.year }, false)
    else ({}, true)

/-- An enabled alarm field must equal the calendar's; a field not enabled does not count. -/
def alarmField (a : BitVec 8) (mask v : Nat) : Bool := !a.getLsbD 7 || decide (a.toNat % mask = v)

/-- The alarm matches (R364). -/
def CalAlarm.hits (a : CalAlarm) (t : CalTime) : Bool :=
  (a.sec.getLsbD 7 || a.min.getLsbD 7 || a.hour.getLsbD 7 || a.day.getLsbD 7 || a.wday.getLsbD 7 ||
    a.month.getLsbD 7) &&
  alarmField a.sec 128 t.sec && alarmField a.min 128 t.min && alarmField a.hour 64 t.hour &&
  alarmField a.day 64 t.day && alarmField a.wday 8 t.wday && alarmField a.month 32 t.month

/-- Wings 0 to 7 for which `p` holds. -/
def State.wingsThat (s : State) (p : Wing → Bool) : List Nat := (List.range 8).filter (fun w => p (s.wing w))

/-- Apply `f` to each wing in turn. -/
def State.forWings (f : Nat → State → State) (s : State) : State := (List.range 8).foldl (fun t w => f w t) s

/-- An alarm match (R365): ALARM, the latches, CAL_ALARM in every RUNNING or STOPPED wing, PWRON. -/
def State.alarmMatch (s : State) : State :=
  let drive := s.cal.drive || (s.cal.alarm.pwron && !s.dome.mainGood)
  if s.cal.alarmFlag then { s with cal := { s.cal with drive := drive } } else
  let s := { s with cal := { s.cal with alarmFlag := true, drive := drive, alarmLatch := List.range 8 } }
  s.forWings (fun w t => if (t.wing w).live then t.raise w 61 else t)

/-- A seconds carry reaches the fields (R346, R348, R364). -/
def State.applyCarry (s : State) : State :=
  let (t, roll) := s.cal.time.tick
  let s := { s with cal := { s.cal with time := t, rollover := s.cal.rollover || roll } }
  if s.cal.alarm.hits t then s.alarmMatch else s

/-- Corrections scheduled at a carry, from the accumulator (R363). -/
def Calendar.trimCarry (c : Calendar) : Calendar :=
  let a := c.acc + c.trim.natAbs * 32768
  { c with acc := a % 100000000, corrections := a / 100000000 }

/-- The divider wraps: the trim of the next second, and the carry or its holding (R357, R363). -/
def State.carry (s : State) : State :=
  let s := { s with cal := s.cal.trimCarry }
  if s.cal.halted then
    if s.cal.carryPending then { s with cal := { s.cal with discarded := sat16 s.cal.discarded } }
    else { s with cal := { s.cal with carryPending := true } }
  else s.applyCarry

/-- The watchdog counts an LF period unless it pauses (R431). -/
def Wing.wdtTick (x : Wing) : Wing :=
  if x.wdt.en && !(x.core.run == .halted || (x.core.run == .asleep && !x.wdt.sleepRun)) then
    { x with wdt := { x.wdt with count := x.wdt.count + 1 } } else x

/-- One LF edge reaches every wing's Carillon and watchdog (R337, R431). -/
def State.wingsLf (s : State) : State := s.forWings (fun w t => t.modWing w (fun x => (x.lfEdge t.dome.refLost).wdtTick))

/-- The LF clock runs: the crystal has started and is not stopped, and the backup POR is released. -/
def State.lfRuns (s : State) : Bool := s.cal.lfRunning && !s.cal.lfStopped && !s.dome.bpor

/-- LF_EDGE (R337, R346, R363): one edge of the LF clock, for every Carillon and for the divider. -/
def execLfEdge (s : State) : Out :=
  .next (if s.lfRuns then
    let s := s.wingsLf
    let c := s.cal
    let adv := if c.corrections = 0 || c.trim = 0 then 1 else if 0 < c.trim then 0 else 2
    let n := c.divider + adv
    let s := { s with cal := { c with divider := n % 32768, corrections := c.corrections - 1 } }
    if n < 32768 then s else s.carry
  else s)

/-- SECONDS_CARRY (R346): the LF edge at which the divider passes to 0; the edges before it need no
commands of their own (log 7). -/
def execSecondsCarry (s : State) : Out :=
  .next (if s.lfRuns then
    let s := s.wingsLf
    ({ s with cal := { s.cal with divider := 0 } }).carry
  else s)

/-- PWRON_WINDOW_END (R365). -/
def execPwronWindowEnd (s : State) : Out := .next { s with cal := { s.cal with drive := false } }

/-- The level of PWRON (R59, R365). -/
def State.pwron (s : State) : Bool := !s.dome.bpor && (s.dome.mainGood || s.cal.drive)

/-- OSF is set: the latches, CAL_OSF in every wing out of RESET, and the DOME event (R350, R451). -/
def State.setOsf (why : Nat) (s : State) : State :=
  let s := { s with cal := { s.cal with osf := true, osfLatch := List.range 8 } }
  (s.forWings (fun w t => if (t.wing w).sys.state = .reset then t else t.raise w 62)).event 3 0xFF 3 [o8 why]

/-- LF_STOP_DETECTED (R350). -/
def execLfStopDetected (s : State) : Out :=
  .next (if s.dome.bpor || s.cal.lfStopped || !s.cal.lfRunning then s else
    ({ s with cal := { s.cal with lfStopped := true, lfStops := sat16 s.cal.lfStops } }).setOsf 1)

/-- LF_RESTART (R350, R528): the first LF edge after the crystal starts. -/
def execLfRestart (s : State) : Out :=
  .next (if s.dome.bpor then s else { s with cal := { s.cal with lfRunning := true, lfStopped := false } })

/-- Reader port `p`: 0 to 7 a wing's, 8 the host's. -/
def Calendar.port (c : Calendar) (p : Nat) : CalPort := if p < 8 then c.ports.get p else c.hostPort

/-- Apply `f` to reader port `p`. -/
def Calendar.modPort (p : Nat) (f : CalPort → CalPort) (c : Calendar) : Calendar :=
  if p < 8 then { c with ports := c.ports.set p (f (c.ports.get p)) } else { c with hostPort := f c.hostPort }

/-- The shadow of port `p` is released (R353). -/
def Calendar.release (p : Nat) (c : Calendar) : Calendar := c.modPort p (fun q => { q with shadow := none })

/-- The shadow of port `p` is frozen if it was not (R352). -/
def Calendar.freeze (p : Nat) (c : Calendar) : Calendar :=
  c.modPort p (fun q => if q.shadow.isSome then q else { q with shadow := some (c.divider, c.time) })

/-- The value of calendar register `r`, 0 CAL_SUBSEC to 7 CAL_YEAR, in a shadow (R352). -/
def calField (sh : Nat × CalTime) (r : Nat) : Nat :=
  match r with
  | 0 => sh.1 | 1 => sh.2.sec | 2 => sh.2.min | 3 => sh.2.hour | 4 => sh.2.wday | 5 => sh.2.day
  | 6 => sh.2.month | _ => sh.2.year

/-- A read of calendar register `r` through port `p` (R352, R353). -/
def Calendar.read (p r : Nat) (c : Calendar) : Word × Calendar :=
  let c := c.freeze p
  let v := w16 (calField ((c.port p).shadow.getD (c.divider, c.time)) r)
  (v, if r = 7 then c.release p else c)

/-- A write refused while VBD is below the write-freeze threshold (R51). -/
def State.frozenWrite (s : State) : State := { s with dome := { s.dome with frozenWrites := sat16 s.dome.frozenWrites } }

/-- A write of port `p` ignored under R355 or R356. -/
def Calendar.ignore (p : Nat) (c : Calendar) : Calendar :=
  ({ c with unhalted := sat16 c.unhalted }).modPort p (fun q => { q with ignored := sat16 q.ignored })

/-- The halt ends (R358 to R360): the date check, WEEKDAY, and the pending carry applied, or with DIV_ZERO
discarded. -/
def State.calRelease (divZero : Bool) (s : State) : State :=
  let c := s.cal
  let len := monthLen c.time.month c.time.year
  let t := if len < c.time.day then { c.time with day := len } else c.time
  let pend := c.carryPending
  let c := { c with time := { t with wday := weekday t }, badDate := c.badDate || decide (len < c.time.day),
                    owner := none, halted := false, releasing := none, carryPending := false,
                    divider := if divZero then 0 else c.divider }
  let s := { s with cal := c }
  if pend && !divZero then s.applyCarry else s

/-- A halt that port `p` holds is released without a write (R20, R360). -/
def State.calDrop (p : Nat) (s : State) : State := if s.cal.owner = some p then s.calRelease false else s

/-- A write of `CAL_CTRL.HALT` = 1 through port `p` (R355). -/
def State.calHalt (p : Nat) (s : State) : State :=
  let s := { s with cal := s.cal.release p }
  if s.dome.writeFrozen then s.frozenWrite else
  match s.cal.owner with
  | none => { s with cal := { s.cal with owner := some p, halted := false, releasing := none } }
  | some q => if q = p then s else { s with cal := s.cal.ignore p }

/-- A write of `CAL_CTRL.HALT` = 0 through port `p` (R355, R358). -/
def State.calUnhalt (p : Nat) (divZero : Bool) (s : State) : State :=
  let s := { s with cal := s.cal.release p }
  if s.dome.writeFrozen then s.frozenWrite
  else if s.cal.owner = some p then { s with cal := { s.cal with releasing := some divZero } }
  else { s with cal := s.cal.ignore p }

/-- The time with register `r` written, when the value is valid (R356). -/
def CalTime.put (r v : Nat) (t : CalTime) : Option CalTime :=
  let rng := fun (x lo hi : Nat) => bcdOk x && decide (lo ≤ x) && decide (x ≤ hi)
  match r with
  | 1 => if rng (v % 128) 0 0x59 then some { t with sec := v % 128 } else none
  | 2 => if rng (v % 128) 0 0x59 then some { t with min := v % 128 } else none
  | 3 => if rng (v % 64) 0 0x23 then some { t with hour := v % 64 } else none
  | 5 => if rng (v % 64) 1 0x31 then some { t with day := v % 64 } else none
  | 6 => if rng (v % 32) 1 0x12 then some { t with month := v % 32 } else none
  | 7 => if rng v 0x2000 0x2099 then some { t with year := v } else none
  | _ => none

/-- A write of calendar register `r` through port `p` (R349, R353, R356). A frozen one is refused and counted under R51, whoever writes
it (DEDUCED, log 18). -/
def State.calFieldWrite (p r : Nat) (v : Word) (s : State) : State :=
  let s := { s with cal := s.cal.release p }
  if r = 0 || r = 4 then s
  else if s.dome.writeFrozen then s.frozenWrite
  else if s.cal.owner ≠ some p then { s with cal := s.cal.ignore p }
  else match s.cal.time.put r v.toNat with
    | some t => { s with cal := { s.cal with time := t } }
    | none => { s with cal := { s.cal with invalid := sat16 s.cal.invalid } }

/-- The host sets the time in one request (R360, R367): refused while VBD is too low or another port holds
the halt. -/
def State.calSetTime (t : CalTime) (s : State) : Status × State :=
  if s.dome.writeFrozen then (.refused, s.frozenWrite)
  else if s.cal.owner.isSome && s.cal.owner ≠ some 8 then (.busy, s)
  else (.ok, ({ s with cal := { s.cal.release 8 with owner := some 8, halted := true, time := t } }).calRelease true)

/-- A read of the calendar block of wing `w` at word offset `a` (R366). -/
def State.calRead (w a : Nat) (s : State) : Word × State :=
  let c := s.cal
  let q := c.port w
  if a < 8 then
    let (v, c') := c.read w a
    (v, { s with cal := c' })
  else if 0x40 ≤ a && a < 0x78 then
    let i := 112 * w + 2 * (a - 0x40)
    (w16 (tget 0 c.bram i + 256 * tget 0 c.bram (i + 1)), s)
  else match a with
  | 0x09 => (w16 (b2n c.owner.isSome), s)
  | 0x0A => (w16 (b2n c.osf + 2 * b2n (c.owner == some w) + 4 * b2n c.carryPending + 8 * b2n c.haltLost +
      16 * b2n c.alarmFlag + 32 * b2n c.rollover + 64 * b2n c.badDate + 128 * b2n q.shadow.isSome +
      256 * b2n q.timeout + 512 * b2n s.dome.writeFrozen + 1024 * b2n c.lfStopped), s)
  | 0x0B => (w16 c.alarm.sec.toNat, s)
  | 0x0C => (w16 c.alarm.min.toNat, s)
  | 0x0D => (w16 c.alarm.hour.toNat, s)
  | 0x0E => (w16 c.alarm.day.toNat, s)
  | 0x0F => (w16 c.alarm.wday.toNat, s)
  | 0x10 => (w16 c.alarm.month.toNat, s)
  | 0x11 => (w16 (b2n c.alarm.pwron + 256 * c.alarm.window.toNat), s)
  | 0x12 => (w16 (ofSigned 16 c.trim), s)
  | 0x13 => (w16 q.ignored, { s with cal := c.modPort w (fun q => { q with ignored := 0 }) })
  | _ => (0, s)

/-- Clear ALARM, which also ends its drive of PWRON (R365). -/
def Calendar.clearAlarm (c : Calendar) : Calendar := { c with alarmFlag := false, drive := false }

/-- A write of CAL_STATUS through port `w` (R366); the shared flags are refused under R51. -/
def State.calStatusWrite (w : Nat) (v : Word) (s : State) : State :=
  let n := v.toNat
  let s := if bit n 8 then { s with cal := s.cal.modPort w (fun q => { q with timeout := false }) } else s
  if s.dome.writeFrozen then s.frozenWrite else
  let c := s.cal
  let c := { c with osf := c.osf && !bit n 0, haltLost := c.haltLost && !bit n 3,
                    rollover := c.rollover && !bit n 5, badDate := c.badDate && !bit n 6 }
  { s with cal := if bit n 4 then c.clearAlarm else c }

/-- The alarm with the register at offset `a` written (R366). -/
def CalAlarm.put (a : Nat) (v : Word) (x : CalAlarm) : CalAlarm :=
  let n := v.toNat
  match a with
  | 0x0B => { x with sec := o8 n }
  | 0x0C => { x with min := o8 n }
  | 0x0D => { x with hour := o8 n &&& 0xBF }
  | 0x0E => { x with day := o8 n &&& 0xBF }
  | 0x0F => { x with wday := o8 n &&& 0x87 }
  | 0x10 => { x with month := o8 n &&& 0x9F }
  | _ => { x with pwron := bit n 0, window := o8 (n / 256) }

/-- A write of the calendar block of wing `w` at word offset `a` (R366, R130). -/
def State.calWrite (w a : Nat) (v : Word) (s : State) : State :=
  if a < 8 then s.calFieldWrite w a v
  else if a = 8 then { s with cal := s.cal.release w }
  else if a = 9 then (if bit v.toNat 0 then s.calHalt w else s.calUnhalt w (bit v.toNat 1))
  else if a = 0xA then s.calStatusWrite w v
  else if 0xB ≤ a && a ≤ 0x11 then
    if s.dome.writeFrozen then s.frozenWrite else { s with cal := { s.cal with alarm := s.cal.alarm.put a v } }
  else if 0x40 ≤ a && a < 0x78 then
    if s.dome.writeFrozen then s.frozenWrite
    else if a < 0x60 then s
    else
      let i := 112 * w + 2 * (a - 0x40)
      { s with cal := { s.cal with bram := tset 0 (i + 1) (v.toNat / 256) (tset 0 i (v.toNat % 256) s.cal.bram) } }
  else s

/-- An access through port `p`: a wing's port needs its core (log 10). -/
def byPort (p : Nat) (s t : State) : Out := if p < 8 then byCore p s t else .next t

/-- CAL_SHADOW_FREEZE (R352): a read of calendar register `r` through port `p`. -/
def execCalShadowFreeze (p : Fin 9) (r : Fin 8) (s : State) : Out :=
  let (v, c) := s.cal.read p r
  let t := { s with cal := c }
  byPort p s (if p.val < 8 then t.modWing p (fun x => { x with rdata := v }) else t)

/-- CAL_YEAR_READ (R353). -/
def execCalYearRead (p : Fin 9) (s : State) : Out :=
  let (v, c) := s.cal.read p 7
  let t := { s with cal := c }
  byPort p s (if p.val < 8 then t.modWing p (fun x => { x with rdata := v }) else t)

/-- CAL_RELEASE (R353). -/
def execCalRelease (p : Fin 9) (s : State) : Out := byPort p s { s with cal := s.cal.release p }

/-- SHADOW_TIMEOUT (R353): 500 ms after a freeze. -/
def execShadowTimeout (p : Fin 9) (s : State) : Out :=
  .next (if (s.cal.port p).shadow.isSome then
    { s with cal := s.cal.modPort p (fun q => { q with shadow := none, timeout := true }) } else s)

/-- CAL_HALT (R355). -/
def execCalHalt (p : Fin 9) (s : State) : Out := byPort p s (s.calHalt p)

/-- HALT_EDGE (R355): the halt takes effect at an LF edge. -/
def execHaltEdge (s : State) : Out :=
  .next (if s.cal.owner.isSome then { s with cal := { s.cal with halted := true } } else s)

/-- HALT_RELEASE (R358). -/
def execHaltRelease (p : Fin 9) (divZero : Bool) (s : State) : Out := byPort p s (s.calUnhalt p divZero)

/-- RELEASE_EDGE (R358): the written release takes effect at an LF edge. -/
def execReleaseEdge (s : State) : Out :=
  .next (match s.cal.releasing with | some dz => s.calRelease dz | none => s)

/-- CAL_FIELD_WRITE (R356). -/
def execCalFieldWrite (p : Fin 9) (r : Fin 8) (v : Word) (s : State) : Out := byPort p s (s.calFieldWrite p r v)

/-- HALT_LOST (R357): the halt has lasted 32,768 LF periods. -/
def execHaltLost (s : State) : Out :=
  .next (if s.cal.halted then { s with cal := { s.cal with haltLost := true } } else s)

end Sys2Proof.Machine
end

