-- ==== Sys2Proof/Machine/Regs.lean ====
section
/-! DEFINITION. The plain configuration registers of the receiver, transmitter, link and mesh blocks (R103, R133,
R174, R216, R255): one file of registers with the reset value and the writable bits of each. Registers that do more
than hold a value are in the file of their block. -/
namespace Sys2Proof.Machine
open Sys2Proof

/-- The reset value and the writable bits of a configuration register. -/
def regInfo (a : Nat) : Nat × Nat :=
  match a with
  | 0xFF6000 => (0xA4, 0xFF) | 0xFF6002 => (0x140, 0x1FF) | 0xFF6006 => (0, 0x1FF) | 0xFF6008 => (0, 7)
  | 0xFF6020 => (0, 0xFFFF) | 0xFF6021 => (0x12, 0xFF) | 0xFF6022 => (64, 0x1FFF) | 0xFF6023 => (1024, 0x7FF)
  | 0xFF7000 => (1, 7) | 0xFF7002 => (0x1020, 0xFFFF) | 0xFF7003 => (9, 0xF) | 0xFF7004 => (0xFF, 0xFF)
  | 0xFF7010 => (0, 3) | 0xFF7011 => (0, 0x1FF) | 0xFF7012 => (0, 0xFF07) | 0xFF7021 => (0, 7)
  | 0xFF8000 => (0xE, 0xF) | 0xFF8002 => (24000, 0xFFFF) | 0xFF8003 => (64, 0x7FF) | 0xFF8004 => (4000, 0xFFFF)
  | 0xFF8005 => (800, 0x7FF) | 0xFF8006 => (100, 0x1FF) | 0xFF8007 => (200, 0x7FF)
  | 0xFF8010 => (160, 0xFFFF) | 0xFF8011 => (2200, 0xFFFF) | 0xFF8012 => (6000, 0xFFFF) | 0xFF8013 => (3, 0xF)
  | 0xFF8014 => (200, 0xFFFF) | 0xFF8015 => (20000, 0xFFFF) | 0xFF8016 => (0, 0x3FF) | 0xFF8017 => (0, 0x1FF)
  | 0xFF8019 => (0, 0x7FF) | 0xFF801A => (0, 0x1FF) | 0xFF801D => (5, 0xF) | 0xFF801E => (40, 0xFF)
  | 0xFF9000 => (5, 7) | 0xFF9002 => (0, 0x3FF) | 0xFF9033 => (16, 0xFF) | 0xFF9034 => (0x31, 0xFF)
  | 0xFF9035 => (8, 0x7F) | 0xFF9047 => (0x20, 0x3F) | 0xFF9048 => (8, 0xFF)
  | _ => (0, 0xFFFF)

/-- The value of a configuration register. -/
def Wing.reg (x : Wing) (a : Nat) : Nat := (tget (w16 (regInfo a).1) x.regs a).toNat

/-- Write the writable bits of a configuration register. -/
def Wing.setReg (a v : Nat) (x : Wing) : Wing :=
  { x with regs := tset (w16 (regInfo a).1) a (w16 v &&& w16 (regInfo a).2) x.regs }

/-- The wing's 64-bit time: the lap and the timebase (R137). -/
def Wing.now (x : Wing) : Nat := x.car.lap * lapTicks + x.car.tb

/-- The time goes on to tick `t` of the 64-bit time, if it lies ahead (log 7). -/
def Wing.reach (t : Nat) (x : Wing) : Wing := x.advance (t - x.now)

/-- Ticks of `n` microseconds (R28: 400 ticks each). -/
abbrev us (n : Nat) : Nat := 400 * n

/-- The band number of RX_CTRL.BAND (R103). -/
def Wing.band (x : Wing) : Nat := x.reg 0xFF6000 % 4

/-- RX_CTRL.OFF: no band is configured (R103). -/
def Wing.bandOff (x : Wing) : Bool := bit (x.reg 0xFF6000) 7

/-- The wing runs in RUNNING. -/
def Wing.isRunning (x : Wing) : Bool := decide (x.sys.state = .running)

/-- The edges of a band in kHz (R68). -/
def bandEdges (b : Nat) : Nat × Nat :=
  match b with
  | 0 => (470000, 510000) | 1 => (863000, 876000) | 2 => (902000, 928000) | _ => (2400000, 2483500)

/-- t_ramp in ticks (R107). -/
def Wing.tRamp (x : Wing) : Nat := us (2 * 2 ^ (x.reg 0xFF7000 % 4))

/-- t_cal in ticks (R107). -/
def Wing.tCal (x : Wing) : Nat := us (if !x.bandOff && x.band < 3 then 18 else 24)

/-- T_LEAD in ticks (R113). -/
def Wing.tLead (x : Wing) : Nat := us 3 + x.tCal + x.tRamp

/-- SLOT_US, SUPERFRAME_SLOTS, TX_OFFSET, ACK_GAP, ACK_TOL and SLOT_TAIL (R138, R174). -/
def Wing.slotUs (x : Wing) : Nat := x.reg 0xFF8002
/-- SUPERFRAME_SLOTS. -/
def Wing.sfSlots (x : Wing) : Nat := x.reg 0xFF8003
/-- TX_OFFSET in ticks. -/
def Wing.txOffset (x : Wing) : Nat := us (x.reg 0xFF8004)
/-- ACK_GAP in ticks. -/
def Wing.ackGap (x : Wing) : Nat := us (x.reg 0xFF8005)
/-- ACK_TOL in ticks. -/
def Wing.ackTol (x : Wing) : Nat := us (x.reg 0xFF8006)
/-- SLOT_TAIL in ticks. -/
def Wing.slotTail (x : Wing) : Nat := us (x.reg 0xFF8007)

/-- Count event `i` of the link engine's twenty counters, in the order of `n:2330` (R174, R175). -/
def Wing.lnkCount (i : Nat) (x : Wing) : Wing := x.bump (0xFF8020 + i) (0x233001 + i)

/-- `lnkCount` when the condition holds. -/
def Wing.lnkCountIf (c : Bool) (i : Nat) (x : Wing) : Wing := if c then x.lnkCount i else x

/-- Count event `i` of the receiver's twelve counters, in the order of `n:2130` (R103, R104). -/
def Wing.rxCount (i : Nat) (x : Wing) : Wing := x.bump (0xFF6013 + i) (0x213001 + i)

end Sys2Proof.Machine
end

