-- ==== Sys2Proof/Machine/Sending.lean ====
section
/-! DEFINITION. The pending table of the link engine and what the end of a transmission means for it: tries,
retries and completions (R155 to R157, R454), and the outcome of an acknowledgement (R164). -/
namespace Sys2Proof.Machine
open Sys2Proof

/-- The completion ring in force (R157). -/
def Wing.complRing (x : Wing) : Nat := if x.reg 0xFF801D = 4 then 4 else 5

/-- A completion published by the link engine waits to be passed by the Curator (R236): `x` is the wing before it. -/
def Wing.complNote (x y : Wing) : Wing :=
  { y with lnk := { y.lnk with complAt := y.lnk.complAt ++ [(x.complRing, (x.ring x.complRing).put)] } }

/-- Publish a completion, or hold it while the ring is full (R454). -/
def Wing.postCompl (d : List Word) (x : Wing) : Wing :=
  if x.lnk.heldCompl.isEmpty then
    match x.publish x.complRing true d with
    | (true, y) => x.complNote y
    | (false, y) => { y with lnk := { y.lnk with heldCompl := [d] } }
  else { x with lnk := { x.lnk with heldCompl := x.lnk.heldCompl ++ [d] } }

/-- The oldest held completion goes out once the ring has room (R454). -/
def Wing.complRelease (x : Wing) : Wing :=
  match x.lnk.heldCompl with
  | [] => x
  | d :: t =>
    if (x.ring x.complRing).full then x
    else x.complNote ({ x with lnk := { x.lnk with heldCompl := t } }.publish x.complRing true d).2

/-- RESULT of R126 as a code. -/
def TxResult.code : TxResult → Nat
  | .sent => 0 | .aborted => 1 | .refusedProfile => 2 | .refusedChannel => 3 | .refusedHold => 4
  | .refusedDwell => 5 | .refusedDuty => 6 | .late => 7 | .overlap => 8 | .busyRx => 9 | .synthFail => 10
  | .cut => 11

/-- The completion descriptor (R157). -/
def PendTx.compl (f : PendTx) (result ackInfo : Nat) : List Word :=
  [w16 (result + 16 * f.last.code + 256 * f.tries), w16 (f.nb + 1024 * b2n f.bcast), w16 f.start,
    w16 (f.start / 2 ^ 16), w16 (f.start / 2 ^ 32), w16 ackInfo, f.tag, w16 f.ring]

/-- The frame of the pending table with number `id`. -/
def Wing.pendOf (id : Nat) (x : Wing) : Option PendTx := x.lnk.table.find? (fun f => f.id == id)

/-- Put a frame's new state back into the table. -/
def Wing.putPend (f : PendTx) (x : Wing) : Wing :=
  { x with lnk := { x.lnk with table := x.lnk.table.map (fun g => if g.id = f.id then f else g) } }

/-- The frame completes (R157): it leaves the table and its descriptor is posted. -/
def Wing.complete (f : PendTx) (result ackInfo : Nat) (x : Wing) : Wing :=
  { x with lnk := { x.lnk with table := x.lnk.table.filter (fun g => g.id ≠ f.id) } }.postCompl
    (f.compl result ackInfo)

/-- PRR of a record falls (R178). -/
def Nb.prrFall (n : Nb) : Nb := { n with prr := n.prr - (n.prr + 15) / 16 }

/-- PRR of a record rises (R178). -/
def Nb.prrRise (n : Nb) : Nb := { n with prr := n.prr + (255 - n.prr + 15) / 16 }

/-- The estimate of the frame's neighbour after a try with AR (R178). -/
def Wing.prrNote (ok : Bool) (f : PendTx) (x : Wing) : Wing :=
  if f.ar && !f.bcast && (tget {} x.msh.nbs f.nb).valid then
    { x with msh := { x.msh with nbs := tmod {} f.nb (if ok then Nb.prrRise else Nb.prrFall) x.msh.nbs } }
  else x

/-- A try has failed (R156): the frame is retried, or completes with NO_ACK. A timed frame is sent once. -/
def Wing.failTry (f : PendTx) (x : Wing) : Wing :=
  let f := { f with tries := f.tries + 1 }
  let x := x.prrNote false f
  if f.at_.isSome || decide (max 1 f.maxTries ≤ f.tries) then (x.lnkCount 18).complete f 2 0
  else (x.lnkCount 17).putPend f

/-- The wing awaits the acknowledgement of its own frame, which ended at `e` on channel `ch` (R158). -/
def Wing.awaitAck (f : PendTx) (ch e : Nat) (x : Wing) : Wing :=
  { x with lnk := { x.lnk with own := some { id := f.id, ch := ch, nominal := e + x.ackGap } } }.putPend f

/-- A try of a frame of the pending table has radiated: the Curator's item notes it (R237). -/
def Wing.noteRadiated (tag : Word) (x : Wing) : Wing :=
  if !tag.getLsbD 15 then x else
  { x with wrk := { x.wrk with items := x.wrk.items.map (fun (i : Item) =>
    if i.handle = some (tag.toNat % 0x8000) then { i with radiated := true } else i) } }

/-- What the end of a data frame's transmission does to it (R156, R157); a timed frame whose one transmission
is refused completes with REFUSED (DEDUCED, log 21). -/
def Wing.dataEnd (f : PendTx) (q : TxReq) (r : TxResult) (dur : Nat) (x : Wing) : Wing :=
  let f := { f with last := r, start := q.start % lapTicks }
  match r with
  | .sent => if f.ar then x.awaitAck f q.ch (q.start + dur) else x.complete { f with tries := f.tries + 1 } 1 0
  | .aborted => x.failTry f
  | .cut => x.failTry f
  | .refusedProfile => x.complete f 3 0
  | .refusedChannel => x.complete f 3 0
  | _ => if f.at_.isSome then x.complete f 3 0 else x.putPend f

/-- What the end of an acknowledgement's transmission means for the frame it answers (R164). -/
def Wing.ackEnd (id : Nat) (r : TxResult) (x : Wing) : Wing :=
  let sent := decide (r = .sent)
  let dup := x.lnk.rx.any (fun f => f.id == id && decide (f.cls = .duplicate))
  let x := { x with lnk := { x.lnk with rx := x.lnk.rx.map (fun (f : RxFrame) =>
    if f.id = id then (if sent then { f with ack := some true } else { f with noAck := true }) else f) } }
  (x.lnkCountIf sent 0).lnkCountIf (sent && dup) 1

/-- The transmitter reports a result to the link engine (R126). -/
def Wing.txReport (q : TxReq) (r : TxResult) (dur : Nat) (x : Wing) : Wing :=
  match q.what with
  | .beacon => x
  | .ack id => x.ackEnd id r
  | .data id =>
    match x.pendOf id with
    | none => x
    | some f => (if r = .sent || r = .cut then x.noteRadiated f.tag else x).dataEnd f q r dur

end Sys2Proof.Machine
end

