-- ==== Sys2Proof/Machine/Receiver.lean ====
section
/-! DEFINITION. The whole-band receiver (03_whole_band_receiver.md): the channel plan and its profiles, the step
attenuator, classes, detections and lanes, the receive pool, overload, and the receiver's registers. -/
namespace Sys2Proof.Machine
open Sys2Proof

/-- The reset value of word `key` of the profile table: words 0 to 3 of profile 0 at 0 to 3 (R103). -/
def profReset (key : Nat) : Word :=
  match key with | 0 => 0x0720 | 1 => 8 | 2 => 0x8308 | 3 => 2 | _ => 0

/-- Word `i` of profile `p`. -/
def Plan.profWord (q : Plan) (p i : Nat) : Nat := (tget (profReset (4 * p + i)) q.profs (4 * p + i)).toNat

/-- PHY of a profile: 0 2-FSK, 1 4-FSK, 2 O-QPSK, 3 SUN-OFDM (R77). -/
def Plan.phy (q : Plan) (p : Nat) : Nat := q.profWord p 0 % 4

/-- RATE code of a profile (R541). -/
def Plan.rate (q : Plan) (p : Nat) : Nat := bits (q.profWord p 0) 4 2

/-- PREAMBLE_OCTETS of a profile. -/
def Plan.preamble (q : Plan) (p : Nat) : Nat := q.profWord p 1 % 32

/-- SPACING of a profile in kHz. -/
def Plan.spacing (q : Plan) (p : Nat) : Nat := 100 * (q.profWord p 3 % 256)

/-- A profile is VALID in band `b` (R77, R541). -/
def Plan.profValid (q : Plan) (b p : Nat) : Bool :=
  let w0 := q.profWord p 0
  let fsk := fun (rates mods : Nat) => decide (b < 3) && decide (q.rate p < rates) && decide (bits w0 6 5 < mods) &&
    decide (bits w0 8 7 < 3) && decide (4 ≤ q.preamble p)
  (match q.phy p with
   | 0 => fsk 4 2
   | 1 => fsk 3 1
   | 2 => decide (b = 3) && decide (q.rate p = 0)
   | _ => decide (q.rate p < 4)) &&
  decide (q.profWord p 2 % 256 ≤ 40) && decide (toSigned 8 (q.profWord p 2 / 256) ≤ -60) &&
  decide (0 < q.spacing p)

/-- The entry of channel `k`: [0] WATCH, [3:1] PROFILE (R75). -/
def Plan.chan (q : Plan) (k : Nat) : Nat := tget 0 q.chans k

/-- Channel `k` is watched. -/
def Plan.watched (q : Plan) (k : Nat) : Bool := decide (k < q.n) && bit (q.chan k) 0

/-- PROFILE of channel `k`. -/
def Plan.profOf (q : Plan) (k : Nat) : Nat := bits (q.chan k) 3 1

/-- Two watched entries lie too close together (R75). -/
def Plan.conflict (q : Plan) (k ek j ej : Nat) : Bool :=
  k != j && bit ek 0 && bit ej 0 &&
  decide (((k - j) + (j - k)) * q.raster < max (q.spacing (bits ek 3 1)) (q.spacing (bits ej 3 1)))

/-- The channels of the plan reach no further than the band edges (R74). -/
def Plan.fits (q : Plan) (b : Nat) : Bool :=
  let e := bandEdges b
  decide (q.n = 0) || (decide (2 * e.1 + q.raster ≤ 2 * q.f0) && decide (2 * (q.f0 + (q.n - 1) * q.raster) + q.raster ≤ 2 * e.2))

/-- Store an entry of the channel table, with WATCH cleared where R75 refuses it: whether it was refused. -/
def Plan.putChan (b k e : Nat) (q : Plan) : Bool × Plan :=
  let bad := bit e 0 && (!q.profValid b (bits e 3 1) || q.chans.any (fun o => q.conflict k e o.1 o.2))
  (bad, { q with chans := tset 0 k (if bad then e / 2 * 2 else e % 16) q.chans })

/-- Every stored entry is checked again in ascending index (R75): the plan, and the entries cleared. -/
def Plan.recheck (b : Nat) (q : Plan) : Nat × Plan :=
  q.chans.foldl (fun (a : Nat × Plan) o =>
    let (bad, p) := a.2.putChan b o.1 o.2
    (if bad then a.1 + 1 else a.1, p)) (0, { q with chans := [] })

/-- The raster in kHz of a RASTER code (R103). -/
def rasterKhz (c : Nat) : Nat := match c with | 0 => 100 | 1 => 200 | 2 => 400 | 3 => 600 | _ => 800

/-- The RASTER code of a raster. -/
def rasterCode (r : Nat) : Nat := match r with | 100 => 0 | 200 => 1 | 400 => 2 | 600 => 3 | _ => 4

/-- Apply `f` `n` times to count plan rejections (R75). -/
def Wing.planRejects (n : Nat) (x : Wing) : Wing := iter n (Wing.rxCount 11) x

/-- The plan as written, with N forced to 0 where its channels leave the band (R74). -/
def Wing.settlePlan (x : Wing) : Wing :=
  if x.bandOff || x.rx.plan.fits x.band then x
  else { x with rx := { x.rx with plan := { x.rx.plan with n := 0 } } }

/-- Ticks of one symbol of a profile (R81): the O-QPSK symbol is 16 us and the OFDM symbol 120 us (PRESUMED, log 13). -/
def Plan.symTicks (q : Plan) (p : Nat) : Nat :=
  match q.phy p with
  | 0 => match q.rate p with | 0 => 8000 | 1 => 4000 | 2 => 2667 | _ => 2000
  | 1 => match q.rate p with | 0 => 4000 | 1 => 2667 | _ => 2000
  | 2 => us 16
  | _ => us 120

/-- t_det of a profile in ticks (R80). -/
def Plan.tDet (q : Plan) (p : Nat) : Nat :=
  match q.phy p with | 0 => 24 * q.symTicks p | 1 => 12 * q.symTicks p | 2 => 4 * q.symTicks p | _ => 2 * q.symTicks p

/-- Ticks of `n` octets of 2-FSK. -/
def Plan.fskTicks (q : Plan) (p n : Nat) : Nat :=
  n * 8 * 400000 / (match q.rate p with | 0 => 50 | 1 => 100 | 2 => 150 | _ => 200)

/-- The duration in ticks of a profile's preamble, for SUN-OFDM of its STF (R161): 2-FSK and O-QPSK are reckoned, the rest is the
standard's (log 13). -/
def Plan.preTicks (q : Plan) (p : Nat) : Nat :=
  match q.phy p with
  | 0 => q.fskTicks p (q.preamble p)
  | 2 => us 128
  | _ => Config.preambleTicks (q.profWord p 0) (q.preamble p)

/-- The duration in ticks of a profile's SFD, for SUN-OFDM of its LTF (R83). -/
def Plan.sfdTicks (q : Plan) (p : Nat) : Nat :=
  match q.phy p with
  | 0 => q.fskTicks p 2
  | 2 => us 32
  | _ => Config.sfdTicks (q.profWord p 0)

/-- The nominal duration in ticks of the PHR and of a PSDU of `len` octets, as coded (R90): uncoded 2-FSK and O-QPSK are reckoned. -/
def Plan.bodyTicks (q : Plan) (p : Nat) (coded : Bool) (mcs len : Nat) : Nat :=
  if q.phy p = 0 && !coded then q.fskTicks p (2 + len)
  else if q.phy p = 2 then us (32 * (1 + len))
  else Config.bodyTicks (q.profWord p 0) coded mcs len

/-- The duration in ticks of a frame of `len` PSDU octets (R113). -/
def Plan.frameTicks (q : Plan) (p : Nat) (coded : Bool) (mcs len : Nat) : Nat :=
  if q.phy p = 0 && !coded then q.fskTicks p (q.preamble p + 4 + len)
  else q.preTicks p + q.sfdTicks p + q.bodyTicks p coded mcs len

/-- RSSI_FLOOR of a profile in dBm (R77, R79). -/
def Plan.rssiFloor (q : Plan) (p : Nat) : Int := toSigned 8 (q.profWord p 2 / 256)

/-- The radio is in LISTEN with no transition under way. -/
def Wing.listening (x : Wing) : Bool := decide (x.rx.radio = .listen) && x.rx.going.isNone

/-- LISTEN can be entered (R108). -/
def Wing.canListen (x : Wing) : Bool := !x.bandOff && x.rx.plan.n != 0 && x.isRunning && !x.sys.stopReq

/-- The class of channel `k` for a detection at time `t` (R82, R153, R158): OPEN on every channel while the link engine does not run and so sets no
class. -/
def Wing.chClass (t k : Nat) (x : Wing) : ChClass :=
  let own := match x.lnk.own with
    | none => false
    | some o => o.ch == k && decide (o.nominal ≤ t + x.ackTol) &&
        decide (t ≤ o.nominal + x.ackTol + x.rx.live.tDet (x.rx.live.profOf k))
  let hit := fun (srch : Bool) => x.lnk.wins.any (fun v => v.ch == k && v.search == srch && decide (v.lo ≤ t) &&
    decide (t ≤ v.hi + v.ext))
  if !bit (x.reg 0xFF8000) 0 then .opened
  else if own || hit false then .expected
  else if hit true then .search
  else if bit (x.reg 0xFF8000) 2 || decide (x.lnk.sync = .searching) then .opened else .closed

/-- The priority of a class (R82). -/
def ChClass.prio : ChClass → Nat | .expected => 2 | .search => 1 | _ => 0

/-- Lane `i`. -/
def Wing.rlane (x : Wing) (i : Nat) : RLane := tget {} x.rx.lanes i

/-- Give lane `i` the value `l`. -/
def Wing.setLane (i : Nat) (l : RLane) (x : Wing) : Wing := { x with rx := { x.rx with lanes := tset {} i l x.rx.lanes } }

/-- The lane is not FREE. -/
def RLane.busy (l : RLane) : Bool := decide (l.state ≠ .free)

/-- OFDM lanes that are not FREE (R83). -/
def Wing.ofdmBusy (x : Wing) : Nat := (x.rx.lanes.filter (fun e => e.2.busy && x.rx.live.phy e.2.prof == 3)).length

/-- Two watched channels are adjacent in the plan (R81). -/
def Plan.adjacent (q : Plan) (a b : Nat) : Bool :=
  let lo := min a b
  let hi := max a b
  a != b && (List.range 512).all (fun k => !(decide (lo < k) && decide (k < hi) && q.watched k)) &&
  decide ((hi - lo) * q.raster ≤ 2 * max (q.spacing (q.profOf a)) (q.spacing (q.profOf b)))

/-- `weak` is the leakage of `strong` (R81). -/
def Plan.leaks (q : Plan) (weak strong : Det) : Bool :=
  q.profOf weak.ch == q.profOf strong.ch && q.adjacent weak.ch strong.ch && decide (weak.rssi + 20 ≤ strong.rssi)

/-- A time of detection on a profile lies within two symbols of `t` (R81). -/
def Plan.near (q : Plan) (t p d : Nat) : Bool := decide (t ≤ d + 2 * q.symTicks p)

/-- A lane that still searches for its SFD, within two symbols of `t`, as a detection. -/
def RLane.recent (q : Plan) (t : Nat) (l : RLane) : Bool :=
  decide (l.state = .seeking) && q.near t l.prof l.det

/-- The order of handling at one tick: priority, RSSI, channel (R84). -/
def Wing.detBefore (t : Nat) (x : Wing) (a b : Det) : Bool :=
  let pa := (x.chClass t a.ch).prio
  let pb := (x.chClass t b.ch).prio
  decide (pb < pa) || (pa == pb && (decide (b.rssi < a.rssi) || (decide (a.rssi = b.rssi) && decide (a.ch ≤ b.ch))))

/-- Insert a detection in the order of handling. -/
def Wing.detInsert (t : Nat) (x : Wing) (d : Det) : List Det → List Det
  | [] => [d]
  | e :: r => if x.detBefore t d e then d :: e :: r else e :: x.detInsert t d r

/-- The SEEKING lane that a detection may pre-empt first: lowest priority, lowest RSSI, latest (R84). -/
def Wing.victim (ofdmOnly : Bool) (x : Wing) : Option Nat :=
  let cand := x.rx.lanes.filter (fun e => decide (e.2.state = .seeking) && (!ofdmOnly || x.rx.live.phy e.2.prof == 3))
  cand.foldl (fun best e =>
    match best with
    | none => some e.1
    | some i =>
      let v := x.rlane i
      if e.2.prio < v.prio || (e.2.prio = v.prio && (e.2.rssi < v.rssi || (e.2.rssi = v.rssi && v.det < e.2.det)))
      then some e.1 else some i) none

/-- No lane is free to take: pre-empt, or drop (R84). -/
def Wing.displace (full4 : Bool) (l : RLane) (x : Wing) : Wing :=
  match x.victim full4 with
  | none => x.rxCount 0
  | some i =>
    let v := x.rlane i
    if v.prio < l.prio || (v.prio = l.prio && v.rssi + 10 ≤ l.rssi) then
      (x.rxCount 1).setLane i { l with preempted := true }
    else x.rxCount 0

/-- Assign a lane to a detection, pre-empt one, or drop it (R84). -/
def Wing.assignLane (t : Nat) (merged : Bool) (d : Det) (x : Wing) : Wing :=
  let p := x.rx.live.profOf d.ch
  let prio := (x.chClass t d.ch).prio
  let inAck := match x.lnk.own with | none => false | some o => o.ch == d.ch && decide (prio = 2)
  let l : RLane := { state := .seeking, ch := d.ch, prof := p, prio := prio, rssi := d.rssi, det := t,
                     merged := merged, ovl := x.rx.ovl, ackWin := inAck }
  let ofdm := x.rx.live.phy p == 3
  let full4 := ofdm && decide (4 ≤ x.ofdmBusy)
  match (List.range 16).find? (fun i => !(x.rlane i).busy) with
  | some i => if !full4 then x.setLane i l else x.displace full4 l
  | none => x.displace full4 l

/-- A watcher may report `d` (R79): its channel is watched, and its power is at least the RSSI_FLOOR of its profile. -/
def Plan.reports (q : Plan) (d : Det) : Bool := q.watched d.ch && decide (q.rssiFloor (q.profOf d.ch) ≤ d.rssi)

/-- The detections of one tick: merged (R81), those on CLOSED channels discarded (R82), the rest assigned in order
(R84). A detection that another of the last two symbol times explains is merged into it, whatever became of that one, and one that
explains a lane still SEEKING takes its place (DEDUCED, log 14). -/
def Wing.detect (t : Nat) (ds : List Det) (x : Wing) : Wing :=
  let q := x.rx.live
  let ds := ds.filter q.reports
  let live := x.rx.lanes.filter (fun e => e.2.recent q t)
  let past := x.rx.recent.filter (fun e => q.near t (q.profOf e.1) e.2.2)
  let before : List Det := past.map (fun e => ⟨e.1, e.2.1⟩)
  let x := { x with rx := { x.rx with recent := ds.map (fun d => (d.ch, d.rssi, t)) ++ past } }
  let keep := ds.filter (fun d => !ds.any (fun e => q.leaks d e) && !before.any (fun e => q.leaks d e))
  let x := live.foldl (fun (y : Wing) e =>
    let asDet : Det := ⟨e.2.ch, e.2.rssi⟩
    if keep.any (fun d => q.leaks asDet d) then y.setLane e.1 {}
    else if ds.any (fun d => q.leaks d asDet) then y.setLane e.1 { y.rlane e.1 with merged := true } else y) x
  let open_ := keep.filter (fun d => decide (x.chClass t d.ch ≠ .closed))
  let sorted := open_.foldr (fun d l => x.detInsert t d l) []
  sorted.foldl (fun (y : Wing) d =>
    y.assignLane t (ds.any (fun e => q.leaks e d) || before.any (fun e => q.leaks e d)) d) x

/-- Words of one receive buffer (R87). -/
def Wing.bufWords (x : Wing) : Nat := x.reg 0xFF6023

/-- Free buffers of the receive pool (R87). -/
def Wing.bufAvail (x : Wing) : Nat := x.reg 0xFF6022 - x.rx.held.length

/-- The physical address of buffer `i` (R87). -/
def Wing.bufAddr (x : Wing) (i : Nat) : Nat := x.reg 0xFF6020 + 65536 * x.reg 0xFF6021 + i * x.bufWords

/-- Return buffer `i` to the pool. -/
def Wing.bufReturn (i : Nat) (x : Wing) : Wing := { x with rx := { x.rx with held := x.rx.held.filter (· ≠ i) } }

/-- Free lane `i`, with the buffer it may hold (R85). -/
def Wing.dropLane (i : Nat) (x : Wing) : Wing :=
  let l := x.rlane i
  (match l.buf with | none => x | some b => x.bufReturn b).setLane i {}

/-- RX_BUF_FREE (R87). -/
def Wing.bufFree (v : Word) (x : Wing) : Wing :=
  let i := v.toNat % 4096
  if x.rx.held.contains i then x.bufReturn i else x.rxCount 9

/-- The end of the PHR (R78, R86); `pick` chooses among the free buffers. -/
def Wing.phrEnd (pick i : Nat) (ok modeSwitch : Bool) (length : Nat) (x : Wing) : Wing :=
  let l := x.rlane i
  if !ok then (x.rxCount 3).setLane i {}
  else if modeSwitch && decide (x.rx.live.phy l.prof < 2) then (x.rxCount 10).setLane i {}
  else if 2 * x.bufWords < length then (x.rxCount 6).setLane i {}
  else
    let free := (List.range (x.reg 0xFF6022)).filter (fun b => !x.rx.held.contains b)
    match free[pick % (max 1 free.length)]? with
    | none => (x.rxCount 5).setLane i {}
    | some b => { x with rx := { x.rx with held := x.rx.held ++ [b] } }.setLane i { l with buf := some b, len := length }

/-- The attenuator setting on entry to LISTEN (R73). The codes 6 and 7 of FIXED_STEP, MIN_STEP and MAX_STEP, to which the spec gives no
setting, are stored and used as 5 (DESIGN CHOICE, log 40). -/
def Wing.agc (x : Wing) : Wing :=
  let a := x.reg 0xFF6002
  let lo := min 5 (bits a 5 3)
  let hi := min 5 (bits a 8 6)
  let s := x.rx.step
  let want := if bit (x.reg 0xFF6000) 5 then
      max lo (min hi (if x.rx.ovlPeriod then s + 1 else if 4 ≤ x.rx.quiet then s - 1 else s))
    else min 5 (bits a 2 0)
  { x with rx := { x.rx with step := want, quiet := if want = s then x.rx.quiet else 0, ovlPeriod := x.rx.ovl } }

/-- The shift of every channel centre and of the transmit carrier, in 0.01 ppm (R97): minus the REF error while REF_CORRECT is TRUE. -/
def Wing.carrierShift (x : Wing) : Int := if x.flag 0x21400A true then -x.rx.calRef else 0

/-- The centre of channel `k` of the plan in force, in units of 10^-8 kHz, as the wing receives on it and transmits on it (R74, R97). -/
def Wing.centre (k : Nat) (x : Wing) : Int :=
  (x.rx.live.f0 + k * x.rx.live.raster : Nat) * (10 ^ 8 + x.carrierShift)

/-- The plan as written comes into force at the entry to LISTEN (R75, R76). -/
def Wing.planEnter (x : Wing) : Wing :=
  let (n, p) := x.rx.plan.recheck x.band
  { x with rx := { x.rx with plan := p, live := p } }.planRejects n

/-- The front-end pattern of a phase is applied (R119). A later write of TX_FEM_PAT0 or TX_FEM_PAT1 changes the lines only at the next
phase, which the spec leaves open (DESIGN CHOICE, log 15). -/
def Wing.setFem (pat : Nat) (x : Wing) : Wing := { x with rx := { x.rx with fem := BitVec.ofNat 4 pat } }

/-- FEM_RAMP: FEM_n[3] is the ramp output (R120). -/
def Wing.femRamp (x : Wing) : Bool := bit (x.reg 0xFF7000) 2

/-- The lines that FEM_n[3:0] drive as logic: bit 3 of the pattern is ignored while FEM_RAMP is 1 (R119, R120). -/
def Wing.femLines (x : Wing) : BitVec 4 := if x.femRamp then x.rx.fem &&& 7 else x.rx.fem

/-- The level that the ramp output of FEM_n[3] goes to, in units of 1.8 V / 255 (R120): TX_EXT_RAMP while the PA is on, 0 outside TX and from the
ramp-down or an abort on. -/
def Wing.rampLevel (x : Wing) : Nat :=
  let down := match x.tx.run with | some r => decide (r.phase = .rampDown) | none => false
  if x.femRamp && decide (x.rx.radio = .tx) && x.tx.pa && !down then x.reg 0xFF7004 else 0

/-- A transition to STANDBY, LISTEN or OFF, or into CAL or TX, begins (R73, R107, R119). -/
def Wing.radioTo (r : RadioState) (x : Wing) : Wing :=
  let x := { x with rx := { x.rx with going := some r } }
  match r with
  | .standby => x.setFem (x.reg 0xFF7002 % 16)
  | .listen => (x.agc.planEnter).setFem (bits (x.reg 0xFF7002) 7 4)
  | _ => x

/-- The new state is in force (R107). -/
def Wing.radioDone (x : Wing) : Wing :=
  match x.rx.going with
  | none => x
  | some r =>
    let y := { x with rx := { x.rx with radio := r, going := none } }
    match r with
    | .off => y.setFem 0
    | .cal => if y.rx.calRun.isSome then y.setFem (bits (y.reg 0xFF7002) 11 8) else y
    | _ => y

/-- The radio leaves LISTEN: every lane returns to FREE (R85), the noise floors are held (R79) and the period's peak is
known (R73). Both are readings of noise, and so free values. -/
def State.leaveListen (w : Nat) (s : State) : State :=
  let x := s.wing w
  if x.rx.radio ≠ .listen then s else
  let aborted := (x.rx.lanes.filter (fun e => decide (e.2.state = .receiving))).length
  let x := x.rx.lanes.foldl (fun (y : Wing) e => y.dropLane e.1) x
  let x := iter aborted (Wing.rxCount 7) x
  let (v, s) := s.draw
  let q := if !x.rx.ovlPeriod && v.getLsbD 0 then min 4 (x.rx.quiet + 1) else 0
  let noise := (x.rx.live.chans.filter (fun e => bit e.2 0)).map (fun e => e.1)
  let k0 := s.free
  let tab := noise.foldl (fun t k => tset 0 k ((Config.freeValue (k0 + k)).toNat % 256 + 1) t) x.rx.noise
  { s with free := k0 + 512 }.setWing w { x with rx := { x.rx with quiet := q, noise := tab, recent := [] } }

/-- Start tick, OVL_SEEN and the source of the first overload interval (R91). -/
def Wing.overloadStart (x : Wing) : Wing :=
  let lanes := x.rx.lanes.map (fun e => (e.1, { e.2 with ovl := true }))
  let y := { x with rx := { x.rx with ovl := true, ovlPeriod := true, lanes := lanes } }.rxCount 8
  if y.rx.ovlSeen then y
  else { y with rx := { y.rx with ovlSeen := true, ovlFirst := y.car.tb } }.raise 48

/-- The noise floor held for channel `k` (R79, R103): the last estimate, or where there is none since BOOT or the band change the RSSI_FLOOR of
the profile of a watched channel. -/
def Wing.noiseHeld (k : Nat) (x : Wing) : Nat :=
  let h := tget 0 x.rx.noise k
  if 0 < h then h - 1
  else if x.rx.plan.watched k then x.rx.plan.profWord (x.rx.plan.profOf k) 2 / 256 else 0x80

/-- The noise floor that RX_CH_ENTRY reads for channel `k`: live in LISTEN, a free value; held otherwise (R79). -/
def State.noiseOf (w k : Nat) (s : State) : Nat × State :=
  let x := s.wing w
  if x.listening && x.rx.live.watched k then
    let (v, s) := s.draw
    (v.toNat % 256, s)
  else (x.noiseHeld k, s)

/-- A read of the receiver block at word offset `a` (R103). -/
def State.rxRead (w a : Nat) (s : State) : Word × State :=
  let x := s.wing w
  let r := x.rx
  let p := 4 * x.reg 0xFF6008
  if 0x13 ≤ a && a < 0x1F then let (v, y) := x.readRc (0xFF6000 + a); (v, s.setWing w y)
  else if 0x10 ≤ a && a < 0x13 then let (v, y) := x.readMulti 0 0xFF6010 3 r.ovlFirst (a - 0x10); (v, s.setWing w y)
  else match a with
  | 0x00 => (w16 (x.reg 0xFF6000 - 4 * bits (x.reg 0xFF6000) 4 2 + 4 * rasterCode r.plan.raster), s)
  | 0x01 => (w16 (b2n (decide (r.radio = .listen)) + 2 * b2n r.ovl + 4 * b2n r.ovlSeen +
      8 * (r.lanes.filter (fun e => e.2.busy)).length + 256 * x.ofdmBusy + 2048 * b2n r.calRun.isSome +
      4096 * b2n r.calDeferred + 8192 * r.calFail.toNat), s)
  | 0x02 => (w16 (x.reg 0xFF6002 + 512 * r.step), s)
  | 0x03 => (w16 r.plan.f0, s)
  | 0x04 => (w16 (r.plan.f0 / 65536), s)
  | 0x05 => (w16 r.plan.n, s)
  | 0x06 => (w16 (x.reg 0xFF6006), s)
  | 0x07 => let k := x.reg 0xFF6006; let (n, s) := s.noiseOf w k; (w16 (r.plan.chan k + 256 * n), s)
  | 0x08 => (w16 (x.reg 0xFF6008), s)
  | 0x09 => (w16 (r.plan.profWord (p / 4) 0), s)
  | 0x0A => (w16 (r.plan.profWord (p / 4) 1), s)
  | 0x0B => (w16 (r.plan.profWord (p / 4) 2), s)
  | 0x0C => (w16 (r.plan.profWord (p / 4) 3 % 256 + 32768 * b2n (r.plan.profValid x.band (p / 4))), s)
  | 0x20 => (w16 (x.reg 0xFF6020), s)
  | 0x21 => (w16 (x.reg 0xFF6021), s)
  | 0x22 => (w16 (x.reg 0xFF6022), s)
  | 0x23 => (w16 (x.reg 0xFF6023), s)
  | 0x25 => (w16 x.bufAvail, s)
  | 0x30 => (w16 r.calReq.toNat, s)
  | 0x31 => (w16 r.calIr, s)
  | 0x32 => (w16 r.calFilt, s)
  | 0x33 => (w16 (r.calVco + 32768 * b2n r.vcoFail), s)
  | 0x34 => (w16 (ofSigned 16 r.calLf), s)
  | 0x35 => (w16 (ofSigned 16 r.calRef), s)
  | 0x36 => (w16 r.calOffs, s)
  | _ => (0, s)

/-- Write word `i` of the selected profile (R103). -/
def Wing.profWrite (i v : Nat) (x : Wing) : Wing :=
  let k := 4 * x.reg 0xFF6008 + i
  { x with rx := { x.rx with plan := { x.rx.plan with profs := tset (profReset k) k (w16 v) x.rx.plan.profs } } }

/-- Change the plan as written and settle N (R74). -/
def Wing.planWrite (f : Plan → Plan) (x : Wing) : Wing :=
  ({ x with rx := { x.rx with plan := f x.rx.plan } } : Wing).settlePlan

/-- A band that the limiter record permits (R121 to R123): the record must be valid. -/
def Wing.lim (x : Wing) (a : Nat) : Nat := (tget 0xFFFF x.fls.window a).toNat

/-- A band change (R26, R79, R96): the calibrations fall due, the noise floors start again, and ALIGN_LOST is set. -/
def Wing.bandNew (x : Wing) : Wing :=
  { x with rx := { x.rx with calDue := 0b1011, calFirst := true, noise := [], recent := [] }, sys := { x.sys with alignLost := true } }

/-- A write of RX_CTRL (R103, R123): `may` says whether a band is permitted. -/
def Wing.ctrlWrite (may : Nat → Bool) (v : Nat) (x : Wing) : Wing :=
  let old := x.reg 0xFF6000
  let stopped := decide (x.sys.state = .stopped)
  let b := if stopped then v % 4 else old % 4
  let rc := bits v 4 2
  let off := bit v 7 || !may b
  let new := b + 32 * b2n (bit v 5) + 64 * b2n (bit v 6) + 128 * b2n off
  let change := b != old % 4 || (bit old 7 && !off)
  let y := x.setReg 0xFF6000 new
  let y := if change then y.bandNew else y
  y.planWrite (fun q => if stopped && rc ≤ 4 then { q with raster := rasterKhz rc } else q)

/-- A write of the receiver block at word offset `a` (R103). A write of RX_POOL_COUNT or RX_BUF_WORDS outside the range that the
map gives is ignored (DESIGN CHOICE, log 40). A write of 1 to a CAL_FAIL bit of RX_STATUS, or to RX_CAL_VCO.FAIL, clears that bit of
`n:2140.07` too: both read one flag (DESIGN CHOICE, log 40). -/
def Wing.rxWrite (may : Nat → Bool) (a : Nat) (v : Word) (x : Wing) : Wing :=
  let n := v.toNat
  let stopped := decide (x.sys.state = .stopped)
  match a with
  | 0x00 => x.ctrlWrite may n
  | 0x01 => { x with rx := { x.rx with ovlSeen := x.rx.ovlSeen && !bit n 2,
                                       calFail := x.rx.calFail &&& ~~~ BitVec.ofNat 3 (n / 8192) } }
  | 0x02 => x.setReg 0xFF6002 (n % 512)
  | 0x03 => x.planWrite (fun q => { q with f0 := q.f0 / 65536 * 65536 + n })
  | 0x04 => x.planWrite (fun q => { q with f0 := q.f0 % 65536 + 65536 * (n % 64) })
  | 0x05 => if n % 1024 ≤ 512 then x.planWrite (fun q => { q with n := n % 1024 }) else x
  | 0x06 => x.setReg 0xFF6006 n
  | 0x07 =>
    let (bad, p) := x.rx.plan.putChan x.band (x.reg 0xFF6006) (n % 16)
    { x with rx := { x.rx with plan := p } }.planRejects (b2n bad)
  | 0x08 => x.setReg 0xFF6008 n
  | 0x09 => x.profWrite 0 n
  | 0x0A => x.profWrite 1 (n % 32)
  | 0x0B => x.profWrite 2 n
  | 0x0C => x.profWrite 3 (n % 256)
  | 0x20 => if stopped then x.setReg 0xFF6020 n else x
  | 0x21 => if stopped then x.setReg 0xFF6021 n else x
  | 0x22 => if stopped && n % 8192 ≤ 4096 then x.setReg 0xFF6022 n else x
  | 0x23 => if stopped && 64 ≤ n % 2048 && n % 2048 ≤ 1024 then x.setReg 0xFF6023 n else x
  | 0x24 => x.bufFree v
  | 0x30 => { x with rx := { x.rx with calReq := x.rx.calReq ||| BitVec.ofNat 4 n } }
  | 0x33 => { x with rx := { x.rx with vcoFail := x.rx.vcoFail && !bit n 15 } }
  | _ => x

/-- PREAMBLE_DETECTION (R79, R81 to R84): the detections that the watchers report at one tick. -/
def execPreambleDetection (w : WingId) (dt : Nat) (ds : List Det) (s : State) : Out :=
  let x := (s.wing w).advance dt
  .next (if x.listening then s.setWing w (x.detect x.now ds) else s)

/-- SFD_DETECTED (R83): also an event of the bells' source 6 (R333). The FEC of an FSK profile decides which SFD is
looked for (R77). -/
def execSfdDetected (w : WingId) (lane : Fin 16) (coded : Bool) (dt : Nat) (s : State) : Out :=
  let x := (s.wing w).advance dt
  let l := x.rlane lane
  let fec := bits (x.rx.live.profWord l.prof 0) 8 7
  let ok := if x.rx.live.phy l.prof < 2 then decide (fec = 2) || coded == decide (fec = 1) else !coded
  .next (if l.state = .seeking && ok then
    s.setWing w ((x.setLane lane { l with state := .receiving, coded := coded, sfd := x.now }).carEvent 6) else s)

/-- SFD_TIMEOUT (R83). -/
def execSfdTimeout (w : WingId) (lane : Fin 16) (s : State) : Out :=
  let x := s.wing w
  .next (if (x.rlane lane).state = .seeking then s.setWing w ((x.setLane lane {}).rxCount 2) else s)

/-- PHR_END (R86). Which free buffer is taken is a free value. -/
def execPhrEnd (w : WingId) (lane : Fin 16) (ok modeSwitch : Bool) (length : Nat) (s : State) : Out :=
  let l := (s.wing w).rlane lane
  let (v, t) := s.draw
  .next (if l.state = .receiving && l.buf.isNone then
    t.modWing w (Wing.phrEnd v.toNat lane ok modeSwitch (length % 2048)) else s)

/-- OVERLOAD_START (R91). -/
def execOverloadStart (w : WingId) (dt : Nat) (s : State) : Out :=
  let x := (s.wing w).advance dt
  .next (if x.rx.radio = .listen && !x.rx.ovl then s.setWing w x.overloadStart else s)

/-- OVERLOAD_END (R91). -/
def execOverloadEnd (w : WingId) (s : State) : Out :=
  .next (s.modWing w (fun x => { x with rx := { x.rx with ovl := false } }))

/-- RX_BUF_FREE (R87). -/
def execRxBufFree (w : WingId) (v : Word) (s : State) : Out := byCore w s (s.modWing w (Wing.bufFree v))

/-- RX_CAL_REQ (R96, R103). -/
def execRxCalReq (w : WingId) (v : Word) (s : State) : Out :=
  byCore w s (s.modWing w (fun x => { x with rx := { x.rx with calReq := x.rx.calReq ||| BitVec.ofNat 4 v.toNat } }))

/-- CAL_TEMP_TRIGGER (R96): CPU_TEMP has moved by 10 degrees from its value at the last foreground run of the image-rejection calibration, or
by 20 degrees from that of the filter calibration, which the row reports as it does other comparisons with a live reading (log 7). Before the first run
there is no value to compare with. -/
def execCalTempTrigger (w : WingId) (filter : Bool) (s : State) : Out :=
  let x := s.wing w
  .next (if (x.isRunning || decide (x.sys.state = .stopped)) && decide (0 < tget 0 x.rx.calTemp (b2n filter)) then
    s.setWing w { x with rx := { x.rx with calDue := x.rx.calDue ||| (if filter then 2 else 1) } } else s)

/-- CAL_DEFER_TIMEOUT (R98). -/
def execCalDeferTimeout (w : WingId) (s : State) : Out :=
  let x := s.wing w
  .next (if (x.rx.calDue ||| x.rx.calReq) &&& 0b1011 ≠ 0 && x.rx.calRun.isNone then
    s.setWing w { x with rx := { x.rx with calDeferred := true } } else s)

/-- CAL_BACKGROUND_UPDATE (R96): image rejection, or with `offs` the offset calibration. -/
def execCalBackgroundUpdate (w : WingId) (offs : Bool) (value : Octet) (s : State) : Out :=
  let x := s.wing w
  .next (if x.listening then
    s.setWing w { x with rx := if offs then { x.rx with calOffs := value.toNat } else { x.rx with calIr := value.toNat } }
    else s)

/-- TRIM as TRIM_MODE chooses it (R362): a mode that follows a wing keeps the last value unless that wing is RUNNING and has measured. -/
def State.trimRefresh (s : State) : State :=
  let c := s.cal
  let x := s.wing c.trimWing
  let clamp := fun (v : Int) => max (-32000) (min 32000 v)
  let ok := decide (x.sys.state = .running) && x.rx.lfDone && decide (s.dome.mode = .line)
  let t : Int := match c.trimMode with
    | 0 => 0
    | 1 => c.trimManual
    | 2 => if ok then clamp x.rx.calLf else c.trim
    | _ => if ok then clamp (x.rx.calLf + x.rx.calRef) else c.trim
  { s with cal := { c with trim := t } }

/-- The trim settings reach the backup domain (R362, R363): a change of TRIM_MODE clears the accumulator. -/
def State.trimSet (mode : Nat) (manual : Int) (wing : Nat) (s : State) : State :=
  let c := s.cal
  State.trimRefresh { s with cal := { c with trimMode := mode, trimManual := manual, trimWing := wing, acc := if mode = c.trimMode then c.acc else 0 } }

/-- LF_CAL_MEASUREMENT (R96, R362): the first from the wing's first PLL lock, later ones in power mode LINE. -/
def execLfCalMeasurement (w : WingId) (err : Word) (s : State) : Out :=
  let x := s.wing w
  .next (if x.awake && x.car.pllLocked && (!x.rx.lfDone || decide (s.dome.mode = .line)) then
    let s := s.setWing w { x with rx := { x.rx with calLf := toSigned 16 err.toNat, lfDone := true } }
    if decide (2 ≤ s.cal.trimMode) && s.cal.trimWing = w then s.trimRefresh else s
  else s)

end Sys2Proof.Machine
end

