-- ==== Sys2Proof/Machine/Limiter.lean ====
section
/-! DEFINITION. The regulatory limiter (04_transmitter_and_limits.md): its record, the accounts of the sliding hour and
of dwell, and the part of them kept in backup RAM. -/
namespace Sys2Proof.Machine
open Sys2Proof

/-- Field `j` of sub-band `i` of the limiter record: a word at 0x0110 + 8i + j (R121). -/
def Wing.limSub (x : Wing) (i j : Nat) : Nat := x.lim (0x0110 + 8 * i + j)

/-- F_LO and F_HI of sub-band `i` in kHz (R121). -/
def Wing.limEdges (x : Wing) (i : Nat) : Nat × Nat :=
  (x.limSub i 0 + 65536 * (x.limSub i 1 % 64), x.limSub i 2 + 65536 * (x.limSub i 3 % 64))

/-- DUTY, DWELL_MS and DWELL_WINDOW_S of sub-band `i` (R121). -/
def Wing.limDuty (x : Wing) (i : Nat) : Nat := x.limSub i 5
/-- DWELL_MS. -/
def Wing.limDwell (x : Wing) (i : Nat) : Nat := x.limSub i 6

/-- The limiter record is valid (R122). -/
def Wing.limValid (x : Wing) : Bool :=
  let bands := x.lim 0x0100
  decide (bands < 16) && decide (x.lim 0x0101 < 256) && decide (x.lim 0x0102 ≤ 8) &&
  (List.range (x.lim 0x0102)).all (fun i =>
    let (lo, hi) := x.limEdges i
    decide (lo < hi) && decide (x.limDuty i ≤ 10000) && decide (1 ≤ x.limSub i 7) && decide (x.limSub i 7 ≤ 3600) &&
    (List.range 4).any (fun b => bit bands b && decide ((bandEdges b).1 ≤ lo) && decide (hi ≤ (bandEdges b).2)))

/-- Band `b` is permitted (R122, R123). -/
def Wing.bandMay (x : Wing) (b : Nat) : Bool := x.limValid && bit (x.lim 0x0100) b

/-- SUBBANDS in use: none of an invalid record. -/
def Wing.limCount (x : Wing) : Nat := if x.limValid then x.lim 0x0102 else 0

/-- The sub-band that governs a transmission on channel `k` with profile `p`: the lowest it lies in (R124). -/
def Wing.limOf (x : Wing) (k p : Nat) : Option Nat :=
  let f := x.rx.live.f0 + k * x.rx.live.raster
  let sp := x.rx.live.spacing p
  (List.range x.limCount).find? (fun i =>
    let (lo, hi) := x.limEdges i
    decide (2 * lo + sp ≤ 2 * f) && decide (2 * f + sp ≤ 2 * hi))

/-- The limiter's power ceiling at RFO_n in 0.5 dBm (R127). -/
def Wing.limCeiling (x : Wing) (i : Nat) : Int := toSigned 8 (x.limSub i 4) - toSigned 8 (x.lim 0x0101)

/-- The hourly budget of sub-band `i` in us (R125). -/
def Wing.limBudget (x : Wing) (i : Nat) : Nat := if i < x.limCount then x.limDuty i * 360000 else 0

/-- `n` octets of wing `w`'s backup RAM region from byte `off`. -/
def State.bramGet (w off n : Nat) (s : State) : Octets := (tgets 0 s.cal.bram (112 * w + off) n).map o8

/-- Write octets of wing `w`'s backup RAM region: whether the backup domain took the write (R51). -/
def State.bramPut (w off : Nat) (os : Octets) (s : State) : Bool × State :=
  if s.dome.writeFrozen || s.dome.bpor then (false, s.frozenWrite)
  else (true, { s with cal := { s.cal with bram := tputs 0 (112 * w + off) (os.map (fun o => o.toNat)) s.cal.bram } })

/-- OPEN of sub-band `i`: a restored value that still waits for backup RAM, or what backup RAM holds (R130). -/
def State.limOpen (w i : Nat) (s : State) : Nat :=
  match tget 0 (s.wing w).tx.heldOpen i with
  | 0 => leNat (s.bramGet w (4 * i) 4)
  | v + 1 => v

/-- PENDING of sub-band `i` (R130). -/
def State.limPending (w i : Nat) (s : State) : Nat := leNat (s.bramGet w (0x20 + 4 * i) 4)

/-- The sixty closed buckets of sub-band `i`. -/
def Wing.limClosed (x : Wing) (i : Nat) : Nat := (List.range 60).foldl (fun a n => a + tget 0 x.tx.closed (64 * i + n)) 0

/-- The hour used in sub-band `i`, in us (R128). -/
def State.hourUsed (w i : Nat) (s : State) : Nat := s.limOpen w i + (s.wing w).limClosed i

/-- The dwell used on channel `k` in sub-band `i`, in us (R129). -/
def Wing.dwellUsed (x : Wing) (k i : Nat) : Nat :=
  (List.range 17).foldl (fun a n => a + tget 0 x.tx.dwell ((8 * k + i) * 32 + n)) 0

/-- Add `us` to the dwell account of channel `k` in sub-band `i`, where one is kept (R129). -/
def Wing.dwellAdd (k i us : Nat) (x : Wing) : Wing :=
  if x.limDwell i = 0 then x
  else { x with tx := { x.tx with dwell := tmod 0 ((8 * k + i) * 32) (· + us) x.tx.dwell } }

/-- Charge an airtime (R128, R130): whether backup RAM took it. -/
def State.charge (w k i us : Nat) (s : State) : Bool × State :=
  match s.bramPut w (4 * i) (natLe 4 (s.limOpen w i + us)) with
  | (true, s) => (true, s.modWing w (Wing.dwellAdd k i us))
  | (false, s) => (false, s)

/-- Give back `us` of the charge of `r`, of the hour and of dwell alike, where it lies: in OPEN, or once that bucket has closed in the newest
closed one and in PENDING (DESIGN CHOICE, log 15), and in the sub-window that took it. A refund that backup RAM refuses is dropped as a whole (R128 to
R130): whether it was made. -/
def State.refund (w : Nat) (r : TxRun) (us : Nat) (s : State) : Bool × State :=
  let i := r.sub
  if us = 0 then (true, s) else
  match (if r.aged then s.bramPut w (0x20 + 4 * i) (natLe 4 (s.limPending w i - us))
         else s.bramPut w (4 * i) (natLe 4 (s.limOpen w i - us))) with
  | (false, s) => (false, s)
  | (true, s) => (true, s.modWing w (fun x =>
      { x with tx := { x.tx with
          closed := if r.aged then tmod 0 (64 * i) (· - us) x.tx.closed else x.tx.closed
          dwell := if r.dwAge < 17 then tmod 0 ((8 * r.req.ch + i) * 32 + r.dwAge) (· - us) x.tx.dwell else x.tx.dwell } }))

/-- Ages `0` to `n - 2` of account `k0` become one older, and `v` is the newest. -/
def agePush (k0 n v : Nat) (t : Tab Nat) : Tab Nat :=
  let old := tgets 0 t k0 (n - 1)
  tputs 0 k0 (v :: old) t

/-- One sub-band's bucket closes (R128, R130). -/
def State.bucketClose1 (w i : Nat) (s : State) : State :=
  let v := s.limOpen w i
  let held := tget 0 (s.wing w).tx.heldOpen i != 0
  let s := s.modWing w (fun x => { x with tx := { x.tx with closed := agePush (64 * i) 60 v x.tx.closed } })
  if v = 0 || held then s else
  match s.bramPut w (0x20 + 4 * i) (natLe 4 (s.limPending w i + v)) with
  | (true, s) => (s.bramPut w (4 * i) (natLe 4 0)).2
  | (false, s) => s

/-- The transmission is on air: its PA has begun to ramp up (R113). -/
def TxRun.onAir (now ramp : Nat) (r : TxRun) : Bool :=
  match r.phase with
  | .decided => false | .synthCal => false | .locked => decide (r.req.start ≤ now + ramp) | _ => true

/-- The bucket of a transmission closes: the charge stands if it is on air, and has moved with its bucket if it is not yet (R128). -/
def TxRun.close (now ramp : Nat) (r : TxRun) : TxRun :=
  if r.onAir now ramp then { r with kept := true } else { r with aged := true }

/-- Apply `f` to everything that the transmitter has charged and not yet settled. -/
def Transmitter.modRuns (f : TxRun → TxRun) (t : Transmitter) : Transmitter :=
  { t with run := t.run.map f, next := t.next.map f, testRun := t.testRun.map (fun (q : TestRun) => { q with blk := f q.blk }) }

/-- The minute's bucket closes (R128, R130). -/
def State.bucketClose (w : Nat) (s : State) : State :=
  let s := (List.range 8).foldl (fun t i => t.bucketClose1 w i) s
  s.modWing w (fun x => ({ x with tx := x.tx.modRuns (TxRun.close x.now x.tRamp)
                                  wrk := { x.wrk with marks := (x.wrk.jseq :: x.wrk.marks).take 61 } }).raise 52)

/-- Restored values that waited for backup RAM are written once it takes writes, and then the mark (R130). -/
def State.limFlush (w : Nat) (s : State) : State :=
  let s := (s.wing w).tx.heldOpen.foldl (fun t e =>
    match t.bramPut w (4 * e.1) (natLe 4 (e.2 - 1)) with
    | (true, t) => t.modWing w (fun x => { x with tx := { x.tx with heldOpen := tset 0 e.1 0 x.tx.heldOpen } })
    | (false, t) => t) s
  if (s.wing w).tx.markDue && (s.wing w).tx.heldOpen.isEmpty then
    match s.bramPut w 0x41 [0xA5] with
    | (true, s) => s.modWing w (fun x => { x with tx := { x.tx with markDue := false } })
    | (false, s) => s
  else s

/-- TX_LIM_ACK (R130): subtract from PENDING of sub-band `i`, stopping at 0. -/
def State.limAck (w i amount : Nat) (s : State) : State :=
  (s.bramPut w (0x20 + 4 * i) (natLe 4 (s.limPending w i - amount))).2

/-- BUCKET_CLOSE (R128). -/
def execBucketClose (w : WingId) (s : State) : Out :=
  .next (if (s.wing w).awake then s.bucketClose w else s)

/-- TX_LIM_ACK (R130): both words of the register, for the selected sub-band. -/
def execTxLimAck (w : WingId) (amount : BitVec 32) (s : State) : Out :=
  byCore w s (s.limAck w ((s.wing w).reg 0xFF7021) amount.toNat)

/-- DWELL_SUBWINDOW_CLOSE (R129): of channel `ch`'s account in sub-band `sub`. -/
def execDwellSubwindowClose (w : WingId) (ch : BitVec 9) (sub : Fin 8) (s : State) : Out :=
  .next (s.modWing w (fun x =>
    let t := x.tx.modRuns (fun r => if r.req.ch = ch.toNat && r.sub = sub.val then { r with dwAge := r.dwAge + 1 } else r)
    { x with tx := { t with dwell := agePush ((8 * ch.toNat + sub) * 32) 17 0 x.tx.dwell } }))

/-- BOOT_HOLD_END (R130). -/
def execBootHoldEnd (w : WingId) (sub : Fin 8) (s : State) : Out :=
  .next (s.modWing w (fun x => { x with tx := { x.tx with hold := x.tx.hold &&& ~~~ BitVec.twoPow 8 sub.val } }))

end Sys2Proof.Machine
end

