-- ==== Sys2Proof/Machine/Mailbox.lean ====
section
/-! DEFINITION. Mailboxes (R456 to R460, R464), the twin roles they depend on (R34, R243, R249), and the relay between
twins (R19, R310). -/
namespace Sys2Proof.Machine
open Sys2Proof

/-- Pair `p` (R243). -/
def Port.pair (q : Port) (p : Nat) : Pair := tget {} q.pairs p

/-- Give pair `p` the value `v`. -/
def State.setPair (p : Nat) (v : Pair) (s : State) : State :=
  { s with port := { s.port with pairs := tset {} p v s.port.pairs } }

/-- The pair that wing `w` belongs to. -/
def State.pairOf (w : Nat) (s : State) : Option Nat :=
  (List.range 4).find? (fun p => (s.port.pair p).a == w || (s.port.pair p).b == w)

/-- The twin role of wing `w` (R34, R249). -/
def State.role (w : Nat) (s : State) : Role :=
  match s.pairOf w with
  | none => .single
  | some p => if (s.port.pair p).token = some w then .active else .standby

/-- The twin of wing `w`. -/
def State.twin (w : Nat) (s : State) : Option Nat :=
  (s.pairOf w).map (fun p => let q := s.port.pair p; if q.a = w then q.b else q.a)

/-- The pair state of wing `w` (R255). -/
def State.pairState (w : Nat) (s : State) : PairState :=
  match s.pairOf w with | none => .none | some p => (s.port.pair p).state

/-- The token line of wing `w` permits transmission and intake (R249): a SINGLE wing has none to wait for, once the port's image
has told that it is one (R251). -/
def State.tokenOk (w : Nat) (s : State) : Bool := decide (s.role w ≠ .standby) && !(s.wing w).wrk.deferred

/-- IDENTITY_EUI of wing `w`: its pair's is WING_A's (R243). -/
def State.identity (w : Nat) (s : State) : Eui :=
  match s.pairOf w with | none => Config.wingEui w | some p => Config.wingEui (s.port.pair p).a

/-- Mailbox `m`. -/
def Wing.mb (x : Wing) (m : Nat) : Mbx := tget {} x.mbx m

/-- Give mailbox `m` the value `v`. -/
def Wing.setMb (m : Nat) (v : Mbx) (x : Wing) : Wing := { x with mbx := tset {} m v x.mbx }

/-- The core may send on mailbox `m` (R456). -/
def coreMaySend (r : Role) (m : Nat) : Bool :=
  m == 4 || m == 5 || (m == 6 && decide (r = .active)) || (m == 7 && decide (r = .standby))

/-- The core is the receiver of mailbox `m` (R456). -/
def coreReceives (r : Role) (m : Nat) : Bool :=
  decide (m < 4) || (m == 6 && decide (r = .standby)) || (m == 7 && decide (r = .active))

/-- A refused lock attempt or an ignored acknowledgement: the register of the mailbox and the Catalogue's counter. -/
def Wing.mbRefuse (m sub : Nat) (x : Wing) : Wing := x.bump (0xFF3016 + 0x20 * m) (0x2A0000 + sub)

/-- The lock attempt of the core (R457): the value read. -/
def Wing.mbLock (r : Role) (m : Nat) (x : Wing) : Word × Wing :=
  let b := x.mb m
  if !coreMaySend r m then (2, x.mbRefuse m 2)
  else match b.state with
  | .free => (0, x.setMb m { b with state := .locked, party := some .core, data := [], sender := 0 })
  | .locked => if b.party = some .core then (3, x) else (1, x.mbRefuse m 2)
  | .full => (1, x.mbRefuse m 2)

/-- The core holds mailbox `m`. -/
def Mbx.heldByCore (b : Mbx) : Bool := decide (b.state = .locked) && decide (b.party = some .core)

/-- A message is posted for the core (R458). -/
def Wing.mbDeliver (m : Nat) (p : Party) (sender : Octet) (ws : List Word) (x : Wing) : Wing :=
  (x.setMb m { x.mb m with state := .full, party := some p, sender := sender, data := tputs 0 0 (ws.take 16) [] }).raise 44

/-- The core's post (R458). -/
def Wing.mbPost (m : Nat) (x : Wing) : Wing :=
  if (x.mb m).heldByCore then (x.setMb m { x.mb m with state := .full }).bump 0 0x2A0001 else x

/-- The core posts the words `ws` on a mailbox that is FREE: lock, write and post in one. -/
def Wing.mbSend (m : Nat) (ws : List Word) (x : Wing) : Wing :=
  (x.setMb m { x.mb m with state := .full, party := some .core, sender := 0, data := tputs 0 0 (ws.take 16) [] }).bump 0 0x2A0001

/-- The core releases a mailbox it holds (R457). -/
def Wing.mbRelease (m : Nat) (x : Wing) : Wing :=
  if (x.mb m).heldByCore then x.setMb m { x.mb m with state := .free, party := none, data := [] } else x

/-- The message of mailbox `m` ends with `code`; a sending core gets its event (R459). -/
def Wing.mbEnd (m : Nat) (code : Octet) (x : Wing) : Wing :=
  let b := x.mb m
  let mine := decide (b.party = some .core)
  (x.setMb m { b with state := .free, party := none, data := [], acked := true, code := code,
                      ackEvent := b.ackEvent || mine }).raiseIf mine 44

/-- A code as an acknowledgement stores it (R459). -/
def ackStored (c : Octet) : Octet := if 3 ≤ c.toNat && c.toNat < 0x80 then 2 else c

/-- The words of mailbox `m`. -/
def Mbx.words (b : Mbx) : List Word := tgets 0 b.data 0 16

/-- A mailbox is abandoned (R460). -/
def Wing.mbAbandon (m : Nat) (x : Wing) : Wing :=
  if (x.mb m).state = .free then x else (x.mbEnd m 3).bump 0 0x2A0004

/-- Mailboxes 6 and 7 at a change of role (R460). -/
def State.roleChanged (w : Nat) (s : State) : State := s.modWing w (fun x => (x.mbAbandon 6).mbAbandon 7)

/-- The mailbox on which a wing's core sends to its twin (R456). -/
def relayBox (r : Role) : Nat := if r = .active then 6 else 7

/-- The Curator posts its next waiting relay message once its mailbox is FREE (R247, R457). -/
def State.relayPump (w : Nat) (s : State) : State :=
  let x := s.wing w
  let m := relayBox (s.role w)
  match x.wrk.outbox with
  | [] => s
  | d :: t =>
    if s.role w = .single || (x.mb m).state ≠ .free then s
    else s.setWing w ({ x with wrk := { x.wrk with outbox := t } }.mbSend m d)

/-- The Curator of wing `w` sends relay messages to its twin (R247). -/
def State.relaySend (w : Nat) (ds : List (List Word)) (s : State) : State :=
  if s.role w = .single then s
  else (s.modWing w (fun x => { x with wrk := { x.wrk with outbox := x.wrk.outbox ++ ds } })).relayPump w

/-- Messages that pair `p` holds on the way to wing `w` (R310). -/
def Pair.heldTo (q : Pair) (w : Nat) : List (Nat × List Word) := if q.a = w then q.holdA else q.holdB

/-- Set the messages held on the way to wing `w`. -/
def Pair.setHeld (w : Nat) (l : List (Nat × List Word)) (q : Pair) : Pair :=
  if q.a = w then { q with holdA := l } else { q with holdB := l }

/-- RELAY_FORWARD (R310, R458): the port takes the message that wing `w` posted on mailbox `m`, 6 or 7, moves it into its
twin's mailbox or into the pair's hold, and acknowledges the sender; while the hold is full it stays. A twin that is not RUNNING
takes nothing on mailboxes 6 and 7 (R15). -/
def State.relayForward (w m : Nat) (s : State) : State :=
  match s.pairOf w, s.twin w with
  | some p, some t =>
    let b := (s.wing w).mb m
    let q := s.port.pair p
    let count := fun (held : Bool) (u : State) =>
      { u with port := if held then { u.port with relayHolds := wrap32 u.port.relayHolds }
        else { u.port with relayed := wrap32 u.port.relayed } }
    let ok := fun (u : State) => (u.modWing w (Wing.mbEnd m 0)).relayPump w
    if b.state ≠ .full || b.party ≠ some .core then s
    else if ((s.wing t).mb m).state = .free && (q.heldTo t).isEmpty && decide ((s.wing t).sys.state = .running) then
      ok (count false (s.modWing t (Wing.mbDeliver m (.relay w) (o8 (0x20 + w)) b.words)))
    else if (q.heldTo t).length < 4 then
      ok (count true (s.setPair p (q.setHeld t (q.heldTo t ++ [(m, b.words)]))))
    else s
  | _, _ => s

/-- The oldest held message goes on to wing `w` once its mailbox is free (R310) and it is RUNNING (R15). -/
def State.relayDrain (w : Nat) (s : State) : State :=
  match s.pairOf w, s.twin w with
  | some p, some t =>
    let q := s.port.pair p
    match q.heldTo w with
    | [] => s
    | (m, ws) :: l =>
      if ((s.wing w).mb m).state = .free && decide ((s.wing w).sys.state = .running) then
        let s := (s.setPair p (q.setHeld w l)).modWing w (Wing.mbDeliver m (.relay t) (o8 (0x20 + t)) ws)
        { s with port := { s.port with relayed := wrap32 s.port.relayed } }
      else s
  | _, _ => s

/-- A read of the mailboxes block at word offset `a` (R457, R458, R464). -/
def State.mbxRead (w a : Nat) (s : State) : Word × State :=
  let x := s.wing w
  let r := s.role w
  if a = 0x100 then
    (w16 ((List.range 8).foldl (fun n m => n + 2 ^ m * b2n (coreReceives r m && decide ((x.mb m).state = .full)) +
      2 ^ (8 + m) * b2n (x.mb m).ackEvent) 0), s)
  else if 0x100 ≤ a then (0, s) else
  let m := a / 0x20
  let b := x.mb m
  let i := a % 0x20
  if i < 16 then
    (if b.heldByCore || (coreReceives r m && decide (b.state = .full)) then tget 0 b.data i else 0, s)
  else match i with
  | 0x10 => let (v, y) := x.mbLock r m; (v, s.setWing w y)
  | 0x12 => (w16 b.sender.toNat, s)
  | 0x14 =>
    let c : Nat := match b.state with | .free => 0 | .locked => 1 | .full => 2
    (w16 (c + 4 * b2n b.acked + 256 * b.code.toNat), s)
  | 0x16 => let (v, y) := x.readRc (0xFF3016 + 0x20 * m); (v, s.setWing w y)
  | _ => (0, s)

/-- MBX_LOCK (R457): a Keeper-mode read of the register. -/
def execMbxLock (w : WingId) (m : Fin 8) (s : State) : Out :=
  let (v, t) := s.mbxRead w (0x20 * m + 0x10)
  byCore w s (t.modWing w (fun x => { x with rdata := v }))

/-- MBX_POST (R458). -/
def execMbxPost (w : WingId) (m : Fin 8) (s : State) : Out := byCore w s (s.modWing w (Wing.mbPost m))

/-- MBX_RELEASE (R457). -/
def execMbxRelease (w : WingId) (m : Fin 8) (s : State) : Out := byCore w s (s.modWing w (Wing.mbRelease m))

/-- RELAY_FORWARD (R310): of mailbox 6 + `m`. -/
def execRelayForward (w : WingId) (m : Fin 2) (s : State) : Out := .next (s.relayForward w (6 + m))

end Sys2Proof.Machine
end

