-- ==== Sys2Proof/Machine/Journal.lean ====
section
/-! DEFINITION. The journal (R227 to R233): records, their lines in the two copies, appending, liveness and the carry;
copies to the twin (R246, R247); and the counters that live in reservations (R185, R186, R225, R248). The Curator keeps
the list of records beside their lines (DESIGN CHOICE, log 16). -/
namespace Sys2Proof.Machine
open Sys2Proof

/-- Octets padded with erased ones to whole lines (R229). -/
def padLine (os : Octets) : Octets := os ++ List.replicate ((16 - os.length % 16) % 16) 0xFF

/-- LINES of a record, header included (R228). -/
def JRec.lines (r : JRec) : Nat := 1 + (r.body.length + 15) / 16

/-- The octets of a record: its header and its body lines (R228). -/
def JRec.octets (r : JRec) : Octets :=
  let h := [o8 r.typ, o8 r.lines] ++ natLe 6 r.seq
  let tail := List.replicate 4 (0xFF : Octet)
  let body := padLine r.body
  h ++ (shake256 (h ++ tail ++ body) 4) ++ tail ++ body

/-- The record that a CARRY record moved, with as many lines as its header tells, or the record itself (R229, R231). -/
def JRec.eff (r : JRec) : JRec :=
  if r.typ = 9 then
    { r with typ := (r.body.getD 0 0).toNat, seq := leNat (slice r.body 2 6),
             body := slice r.body 8 (16 * ((r.body.getD 1 0).toNat - 1)) }
  else r

/-- `n` octets at `off` of a record's body, least significant first. -/
def JRec.fld (r : JRec) (off n : Nat) : Nat := leNat (slice r.body off n)

/-- Free lines of one copy (R232). -/
def Work.free (k : Work) : Nat := if k.jrn.isEmpty then 8192 else (k.tail * 256 + 8192 - k.head) % 8192

/-- Write the lines of a record at line offset `off` of one copy, whose first physical line is `base`. -/
def Flash.putRecord (base : Nat) : Nat → List Octets → Flash → Flash
  | _, [], f => f
  | off, l :: ls, f =>
    Flash.putRecord base (off + 1) ls
      (f.setLine (base + off % 8192) { data := BitVec.ofNat 128 (leNat l), status := .sealed })

/-- Append a record, in both copies at the same line offset (R227, R228). No pulse starts in a brown-out or in WATCH, and the record is then
never written (R46, R57). -/
def Wing.jPut (typ : Nat) (body : Octets) (x : Wing) : Wing :=
  if x.fls.blocked then x else
  let k := x.wrk
  let r : JRec := { typ := typ, seq := k.jseq + 1, at_ := k.head, body := padLine body }
  let ls := chunks 16 r.lines r.octets
  let f := (x.fls.putRecord (464 * 256) k.head ls).putRecord (496 * 256) k.head ls
  { x with fls := f, wrk := { k with jrn := k.jrn ++ [r], jseq := k.jseq + 1, head := (k.head + r.lines) % 8192 } }

/-- Copy base `c` of record `r` is valid (R230). -/
def Flash.recordOk (base : Nat) (f : Flash) (r : JRec) : Bool :=
  let ls := chunks 16 r.lines r.octets
  (List.range ls.length).all (fun i =>
    let l := f.line (base + (r.at_ + i) % 8192)
    (match l.status with | .sealed => true | .corrected => true | _ => false) &&
      decide (l.data.toNat = leNat (ls.getD i [])))

/-- The records found at BOOT, with JOURNAL_TORN and JOURNAL_REPAIRED counted (R230). -/
def Wing.jScan (x : Wing) : Wing :=
  x.wrk.jrn.foldl (fun y r =>
    let a := y.fls.recordOk (464 * 256) r
    let b := y.fls.recordOk (496 * 256) r
    if a && b then { y with wrk := { y.wrk with jrn := y.wrk.jrn ++ [r] } }
    else if a || b then { y with wrk := { y.wrk with jrn := y.wrk.jrn ++ [r] } }.bump 0 0x25200C
    else y.bump 0 0x25200B) { x with wrk := { x.wrk with jrn := [] } }

/-- The newest effective record that satisfies `p`. -/
def Work.newest (k : Work) (p : JRec → Bool) : Option JRec :=
  (k.jrn.map JRec.eff).foldl (fun best r =>
    if p r then (match best with | none => some r | some b => if b.seq < r.seq then some r else some b) else best) none

/-- The newest journaled value of a JOURNALED entry (R277). -/
def Work.entryOf (k : Work) (idx sub : Nat) : Option Nat :=
  (k.newest (fun r => r.typ == 8 && r.fld 0 3 == idx + 65536 * sub)).map (fun r => r.fld 4 (r.fld 3 1))

/-- The accession number after the highest journaled one (R224, R241): that of the items' records, and of the ENTRY record of `n:2500.01`
that stands for those the carry has dropped (log 16). -/
def Work.nextAcc (k : Work) : Nat :=
  (k.jrn.map JRec.eff).foldl (fun n r => if r.typ = 1 || r.typ = 2 || r.typ = 3 then max n (r.fld 0 6 + 1) else n)
    ((k.entryOf 0x2500 1).getD 1)

/-- The EUI of a PARTNER or NBFC record, and of no other. -/
def JRec.nbEui (r : JRec) : Option Nat := if r.typ = 2 || r.typ = 0xB then some (r.fld 8 8) else none

/-- No newer record satisfies `p`. -/
def Work.isNewest (k : Work) (r : JRec) (p : JRec → Bool) : Bool :=
  match k.newest p with | none => false | some b => b.seq == r.seq

/-- A record is live (R231); `items` are the unretired accession numbers, `nbs` the EUIs of the valid neighbours. While the wing has not
counted 61 minutes, the 61 newest BUCKET records of a sub-band are taken for those of the last 61 minutes (DEDUCED, log 16). -/
def Work.live (k : Work) (items nbs : List Nat) (r : JRec) : Bool :=
  match r.typ with
  | 1 => items.contains (r.fld 0 6)
  | 2 => items.contains (r.fld 0 6) || (nbs.contains (r.fld 8 8) && k.isNewest r (fun q => q.nbEui == r.nbEui))
  | 3 => items.contains (r.fld 0 6)
  | 5 => k.isNewest r (fun q => q.typ == 5 || q.typ == 6)
  | 6 => k.isNewest r (fun q => q.typ == 5 || q.typ == 6)
  | 7 => if r.fld 0 1 = 0xFF then k.isNewest r (fun q => q.typ == 7 && q.fld 0 1 == 0xFF)
    else match k.marks[60]? with
      | some q => decide (q < r.seq)
      | none => decide ((k.jrn.filter (fun q => q.eff.typ == 7 && q.eff.fld 0 1 == r.fld 0 1 && decide (r.seq < q.eff.seq))).length < 61)
  | 8 => k.isNewest r (fun q => q.typ == 8 && q.fld 0 3 == r.fld 0 3)
  | 0xA => k.isNewest r (fun q => q.typ == 0xA)
  | 0xB => nbs.contains (r.fld 8 8) && k.isNewest r (fun q => q.nbEui == r.nbEui)
  | 0xC => !k.jrn.any (fun q => q.eff.typ == 0xD && q.eff.fld 0 12 == r.fld 0 12)
  | _ => false

/-- Unretired accession numbers. -/
def Work.accs (k : Work) : List Nat := k.items.map (fun i => i.acc)

/-- EUIs of the valid neighbours. -/
def Mesh.euis (m : Mesh) : List Nat := (m.nbs.filter (fun e => e.2.valid)).map (fun e => e.2.eui.toNat)

/-- Before a tail sector goes whose records hold the highest accession number, NEXT_ACCESSION is journaled (R224, R256; log 16): `k` is what
stays. -/
def Wing.jNext (k : Work) (x : Wing) : Wing :=
  if k.nextAcc < x.wrk.next then x.jPut 8 (natLe 2 0x2500 ++ [1, 6] ++ natLe 6 x.wrk.next) else x

/-- Carry one tail sector (R231): its live records move to the head, and the sector is erased in both copies. -/
def Wing.jCarry (x : Wing) : Wing :=
  if x.fls.blocked then x else
  let t := x.wrk.tail
  let inTail := fun (r : JRec) => r.at_ / 256 == t
  let old := x.wrk.jrn.filter inTail
  let move := fun (y : Wing) (r : JRec) =>
    let e := r.eff
    if !y.wrk.live y.wrk.accs y.msh.euis e then y
    else if e.typ = 2 && !y.wrk.accs.contains (e.fld 0 6) then
      (y.jPut 0xB (natLe 2 (e.fld 6 2) ++ slice e.body 16 6 ++ slice e.body 8 8)).bump 0 0x25200E
    else (y.jPut 9 ([o8 e.typ, o8 e.lines] ++ natLe 6 e.seq ++ e.body)).bump 0 0x25200E
  let stays := fun (r : JRec) => !inTail r || decide (x.wrk.jseq < r.seq)
  let y := old.foldl move x
  let y := y.jNext { y.wrk with jrn := y.wrk.jrn.filter stays }
  let f := ((y.fls.blank (464 + t)).blank (496 + t)).countErase (464 + t)
  { y with fls := f.countErase (496 + t)
           wrk := { y.wrk with jrn := y.wrk.jrn.filter stays,
                               tail := (t + 1) % 32 } }

/-- The carry goes on while the head stays within 4 sectors of the tail, at most `fuel` sectors (R231). -/
def Wing.jRoom : Nat → Wing → Wing
  | 0, x => x
  | fuel + 1, x => if x.wrk.free ≤ 1024 then Wing.jRoom fuel x.jCarry else x

/-- The Curator appends a record; a carry that is due runs ahead of it, over the whole circle at most (R231). -/
def Wing.jAppend (typ : Nat) (body : Octets) (x : Wing) : Wing := (x.jRoom 32).jPut typ body

/-- The standby journals copies of records of this type (R244), and of the record that holds the pair's one NEXT_ACCESSION (R224: DEDUCED,
log 16). -/
def copied (typ : Nat) (body : Octets) : Bool :=
  [1, 2, 3, 4, 5, 6, 0xA, 0xB, 0xC, 0xD].contains typ ||
    (typ == 8 && (leNat (slice body 0 3) == 0x072410 || leNat (slice body 0 3) == 0x012500))

/-- The accession number that a SEALED message names for a record, 0 for none (R247). -/
def sealedAcc (typ : Nat) (body : Octets) : Nat := if [1, 2, 3].contains typ then leNat (slice body 0 6) else 0

/-- The parts of a RECORD message (R247). -/
def recordParts (r : JRec) : List (List Word) :=
  let ps := chunks 28 80 r.octets
  (List.range ps.length).map (fun i => w16 (2 + 256 * i) :: w16 ps.length :: packW (ps.getD i []))

/-- Send a record to the twin (R246). -/
def State.sendRecord (w : Nat) (r : JRec) (s : State) : State := s.relaySend w (recordParts r)

/-- The Curator journals a record; in a DUAL pair the ACTIVE wing sends a copy and awaits SEALED (R235, R246, R248). The
ITEM record travels as BIND instead. -/
def State.jWrite (w typ : Nat) (body : Octets) (s : State) : State :=
  if (s.wing w).fls.blocked then s else
  let s := s.modWing w (Wing.jAppend typ body)
  if s.role w = .active && s.pairState w = .dual && copied typ body then
    let s := s.modWing w (fun x => { x with wrk := { x.wrk with sealWait := x.wrk.sealWait ++ [(typ, sealedAcc typ body)] } })
    if typ = 1 then s else
    match (s.wing w).wrk.jrn.getLast? with
    | none => s
    | some r => s.sendRecord w r
  else s

/-- Journal a JOURNALED Catalogue entry of realm n (R229, R277). -/
def State.jEntry (w idx sub len v : Nat) (s : State) : State :=
  s.jWrite w 8 (natLe 2 idx ++ [o8 sub, o8 len] ++ natLe len v)

/-- Count event `i` of the mesh's twenty-three counters, in the order of `n:2440` (R216, R217). -/
def Wing.mshCount (i : Nat) (x : Wing) : Wing := x.bump (0xFF9050 + i) (0x244001 + i)

/-- A journaled reservation comes into use (R186, R225, R248). -/
def Wing.resApply (x : Wing) : Wing :=
  match x.msh.res with
  | some (e, l, true) =>
    if e = x.msh.keyEpoch then { x with msh := { x.msh with limit := l, res := none } }
    else if 0xFFFF0000 ≤ x.msh.txFc then
      { x with msh := { x.msh with keyEpoch := e, txFc := 0, limit := l, res := none } }.mshCount 5
    else x
  | _ => x

/-- The next reservation is journaled when 1,024 counters or fewer remain (R225). At epoch 0xFFFF there is no next
epoch (R186). -/
def State.reserve (w : Nat) (s : State) : State :=
  let m := (s.wing w).msh
  if m.res.isSome || 1024 < m.limit - m.txFc || (s.wing w).fls.blocked then s else
  let past := decide (0xFFFF0000 < m.limit + 4096)
  if past && m.keyEpoch = 0xFFFF then s else
  let e := if past then m.keyEpoch + 1 else m.keyEpoch
  let l := if past then 4096 else m.limit + 4096
  let wait := decide (s.role w = .active) && decide (s.pairState w = .dual)
  let s := s.jWrite w (if past then 6 else 5) (natLe 2 e ++ natLe 4 l)
  s.modWing w (fun x => ({ x with msh := { x.msh with res := some (e, l, !wait) } }.bump 0 0x25200F).resApply)

/-- The next counter of the wing's sequence, inside its reservation (R185, R186, R225). -/
def State.drawFc (w : Nat) (s : State) : Option (Nat × Nat) × State :=
  let s := s.modWing w Wing.resApply
  let m := (s.wing w).msh
  if m.txFc < m.limit && m.txFc < 0xFFFF0000 then
    (some (m.keyEpoch, m.txFc),
      (s.modWing w (fun x => { x with msh := { x.msh with txFc := x.msh.txFc + 1 } })).reserve w)
  else (none, s.reserve w)

/-- JOURNAL_CARRY (R231): the head is within 4 sectors of the tail. -/
def execJournalCarry (w : WingId) (s : State) : Out :=
  .next (s.modWing w (fun x => if x.awake && decide (x.wrk.free ≤ 1024) then x.jCarry else x))

/-- BUCKET_JOURNAL (R130): outside WATCH and a brown-out (R46, R57), the Curator journals PENDING of a sub-band and acknowledges it. -/
def execBucketJournal (w : WingId) (sub : Fin 8) (s : State) : Out :=
  let v := s.limPending w sub
  .next (if (s.wing w).awake && !(s.wing w).fls.blocked && v ≠ 0 then
    (s.jWrite w 7 ([o8 sub] ++ natLe 4 v)).limAck w sub v else s)

end Sys2Proof.Machine
end

