-- ==== Sys2Proof/Machine/Frames.lean ====
section
/-! DEFINITION. Frames on the air (R141 to R144, R161, R473, R476): the three kinds of the IEEE 802.15.4 general frame
format, their keys and nonces, and the building of beacons and acknowledgements. Layouts that R141 leaves to the standard
(address order, PAN ID compression, the octets of IEs) are the standard's (PRESUMED, log 17). -/
namespace Sys2Proof.Machine
open Sys2Proof

/-- The MAC header of a frame and its auxiliary security header. -/
structure Mac where
  /-- Frame type: 0 beacon, 1 data, 2 acknowledgement. -/
  typ : Nat
  /-- Frame pending. -/
  pending : Bool
  /-- Acknowledgement request. -/
  ar : Bool
  /-- Destination addressing mode and address. -/
  dam : Nat
  /-- Destination. -/
  dst : Nat
  /-- Source addressing mode and address. -/
  sam : Nat
  /-- Source. -/
  src : Nat
  /-- Octets of the MAC header before the auxiliary security header. -/
  hdr : Nat
  /-- Octets of the auxiliary security header. -/
  aux : Nat
  /-- Security control. -/
  sc : Nat
  /-- Frame counter. -/
  fc : Nat
  /-- Key index. -/
  key : Nat
  deriving DecidableEq, Repr

/-- Octets of an address by its mode. -/
def addrLen (m : Nat) : Nat := match m with | 2 => 2 | 3 => 8 | _ => 0

/-- Whether the destination PAN ID and the source PAN ID are present, by the standard's rules for frame version 0b10. -/
def panPresent (dam sam : Nat) (comp : Bool) : Bool × Bool :=
  if dam = 0 && sam = 0 then (comp, false)
  else if dam = 0 then (false, !comp)
  else if sam = 0 then (!comp, false)
  else if dam = 3 && sam = 3 then (!comp, false)
  else (true, !comp)

/-- Read the MAC header of a PSDU, without judging it. -/
def parseMac (p : Octets) : Mac :=
  let w := leNat (p.take 2)
  let dam := bits w 11 10
  let sam := bits w 15 14
  let (dp, sp) := panPresent dam sam (bit w 6)
  let o1 := 2 + 2 * b2n dp
  let o2 := o1 + addrLen dam
  let o3 := o2 + 2 * b2n sp
  let o4 := o3 + addrLen sam
  let sc := (p.getD o4 0).toNat
  let fcLen := if bit sc 5 then 0 else 4
  let keyLen := if bits sc 4 3 = 1 then 1 else 0
  { typ := w % 8, pending := bit w 4, ar := bit w 5, dam := dam, dst := leNat (slice p o1 (addrLen dam)),
    sam := sam, src := leNat (slice p o3 (addrLen sam)), hdr := o4, aux := 1 + fcLen + keyLen, sc := sc,
    fc := leNat (slice p (o4 + 1) fcLen), key := leNat (slice p (o4 + 1 + fcLen) keyLen) }

/-- Frame Control matches one of the three columns of R141. -/
def formatOk (p : Octets) : Bool :=
  let w := leNat (p.take 2)
  let fixed := fun (mask v : Nat) => decide (Nat.land w mask = v)
  decide (2 ≤ p.length) &&
  (fixed 0xFFFF 0xE108 || fixed 0xFFFF 0x230A ||
   (fixed 0x338F 0x2109 && decide (2 ≤ bits w 11 10) && decide (2 ≤ bits w 15 14) &&
    !(bits w 11 10 == 2 && bit w 5 && decide ((parseMac p).dst = 0xFFFF))))

/-- The auxiliary security header is that of R142 for the frame's kind. -/
def auxOk (m : Mac) : Bool :=
  match m.typ with | 0 => decide (m.sc = 0x09) | 1 => decide (m.sc = 0x0D) | _ => decide (m.sc = 0x21)

/-- The key index of an epoch (R186). -/
def keyIndex (e : Nat) : Nat := e % 255 + 1

/-- An EUI-64 in canonical order, first octet first (R472). -/
def euiOct (e : Nat) : Octets := natBe 8 e

/-- The label of a PAIR key (R473). -/
def pairLabel (epoch sender receiver : Nat) : Octets := keyLabel 1 16 epoch (euiOct sender) (euiOct receiver) (zeros 16)

/-- The label of a GROUP key (R473). -/
def groupLabel (epoch sender : Nat) : Octets := keyLabel 2 16 epoch (euiOct sender) (zeros 8) (zeros 16)

/-- The CCM* nonce (R142, R476). -/
def ccmNonce (eui fc level : Nat) : Octets := euiOct eui ++ natBe 4 fc ++ [o8 level]

/-- Secure a data frame held in clear: the auxiliary header written, the payload encrypted, the MIC appended (R142, R154,
R476). -/
def secureData (key : Octets) (eui epoch fc : Nat) (p : Octets) : Octets :=
  let m := parseMac p
  let aad := p.take m.hdr ++ [0x0D] ++ natLe 4 fc ++ [o8 (keyIndex epoch)]
  let (c, t) := ccmEnc key (ccmNonce eui fc 5) aad (p.drop (m.hdr + 6)) 4
  aad ++ c ++ t

/-- The payload of a data frame, or none when its MIC does not verify (R142, R476). -/
def openData (key : Octets) (eui : Nat) (p : Octets) : Option Octets :=
  let m := parseMac p
  let n := m.hdr + m.aux
  ccmDec key (ccmNonce eui m.fc 5) (p.take n) (slice p n (p.length - n - 4)) (p.drop (p.length - 4))

/-- Append the MIC of a frame that is authenticated and not encrypted (R142, R476). -/
def signFrame (key : Octets) (eui fc : Nat) (p : Octets) : Octets := p ++ (ccmEnc key (ccmNonce eui fc 1) p [] 4).2

/-- The MIC of such a frame verifies. -/
def checkFrame (key : Octets) (eui fc : Nat) (p : Octets) : Bool :=
  let n := p.length - 4
  (ccmDec key (ccmNonce eui fc 1) (p.take n) [] (p.drop n)).isSome

/-- The acknowledgement up to its MIC (R141, R161). -/
def ackBody (sync : Nat) : Octets := natLe 2 0x230A ++ [0x21] ++ natLe 2 0x0F02 ++ natLe 2 sync

/-- The Time Sync Info of an acknowledgement (R161). -/
def ackInfo (p : Octets) : Nat := leNat (slice p 5 2)

/-- CORRECTION, ACK_STATUS and NACK as Time Sync Info (R161). -/
def syncInfo (correction : Int) (dup : Bool) : Nat :=
  ofSigned 12 (max (-2047) (min 2047 correction)) + 4096 * b2n dup

/-- The beacon up to its MIC (R141, R142, R144). -/
def beaconBody (eui epoch fc : Nat) (body : Octets) : Octets :=
  natLe 2 0xE108 ++ natLe 2 Config.panId.toNat ++ natLe 8 eui ++ [0x09] ++ natLe 4 fc ++ [o8 (keyIndex epoch)] ++ body

/-- The 36-octet body of a received beacon (R144). -/
def beaconOf (p : Octets) : Octets := slice p 18 36

/-- A field of a beacon body (R144). -/
def bcn (b : Octets) (off n : Nat) : Nat := leNat (slice b off n)

/-- The valid record of a source address (R159, R177). -/
def Mesh.find (m : Mesh) (sam src : Nat) : Option Nat :=
  (m.nbs.find? (fun e => e.2.valid &&
    (if sam = 3 then decide (e.2.eui.toNat = src) else decide (e.2.short.toNat = src) && decide (src < 0xFFFE)))).map
    (fun e => e.1)

/-- Neighbour record `i`. -/
def Wing.nb (x : Wing) (i : Nat) : Nb := tget {} x.msh.nbs i

/-- Give neighbour record `i` the value `n`. -/
def Wing.setNb (i : Nat) (n : Nb) (x : Wing) : Wing := { x with msh := { x.msh with nbs := tset {} i n x.msh.nbs } }

/-- Apply `f` to neighbour record `i`. -/
def Wing.modNb (i : Nat) (f : Nb → Nb) (x : Wing) : Wing := x.setNb i (f (x.nb i))

/-- A link key by its label, and the wing with its cache as the look-up leaves it; empty without a root (R474). -/
def Wing.keyOf (label : Octets) (x : Wing) : Option Octets × Wing :=
  match x.linkKey label with | none => (none, x) | some (k, y) => (some k, y)

/-- The order key of a lineage and the AUTH of R208 (R473). -/
def orderAuth (nrk : Octets) (epoch root : Nat) (header body : Octets) : Octets :=
  kmac256 (deriveKey nrk (keyLabel 3 32 epoch (euiOct root) (zeros 8) (zeros 16)))
    ([header.getD 0 0] ++ slice header 3 18 ++ body.take 9) 16 (ascii "VY-ORDER")

end Sys2Proof.Machine
end

