-- ==== Sys2Proof/Machine/Transmit.lean ====
section
/-! DEFINITION. Radio states and transmissions (04_transmitter_and_limits.md): the decision point with its checks,
the phases of a transmission, aborts, the return of the radio, test transmissions, receiver calibrations, and the
transmitter's registers. -/
namespace Sys2Proof.Machine
open Sys2Proof

/-- A test transmission runs (R131). -/
def Wing.testing (x : Wing) : Bool := x.tx.test

/-- A listen window is open now, or opens within `lead` ticks (R153, R158). -/
def Wing.windowBy (lead : Nat) (x : Wing) : Bool :=
  x.lnk.wins.any (fun v => decide (v.lo ≤ x.now + lead) && decide (x.now ≤ v.hi + v.ext)) ||
  (match x.lnk.own with
   | none => false
   | some o => decide (o.nominal ≤ x.now + x.ackTol + lead) &&
      decide (x.now ≤ o.nominal + x.ackTol + x.rx.live.tDet (x.rx.live.profOf o.ch)))

/-- A listen window is open, or opens within the 10 us that the entry to LISTEN takes (R107, R153). -/
def Wing.windowOpen (x : Wing) : Bool := x.windowBy (us 10)

/-- The link engine keeps the radio in LISTEN through this part of the schedule (R146, R153). -/
def Wing.holdListen (x : Wing) : Bool :=
  decide (x.lnk.sync = .searching) || (bit (x.reg 0xFF8000) 1 && !x.sys.watch && !x.lnk.txSlot)

/-- The radio is to be in LISTEN now. -/
def Wing.wantListen (x : Wing) : Bool :=
  x.canListen && !x.tx.test && !x.rx.calFirst && (x.holdListen || x.windowOpen)

/-- The next radio action lies within 1 ms (R153). -/
def Wing.actionSoon (x : Wing) : Bool :=
  let near := fun (t : Nat) => decide (x.now ≤ t) && decide (t ≤ x.now + us 1000)
  x.lnk.wins.any (fun v => near v.lo) || x.tx.reqs.any (fun q => near (q.start - x.tLead)) ||
  (match x.lnk.next with | none => false | some n => n.wins.any (fun v => near v.lo)) ||
  (match x.lnk.own with | none => false | some o => near o.nominal)

/-- The moment at which the radio leaves OFF for the earliest resolved or committed action that lies ahead (R153): 50 us before the transition to LISTEN
for a window, 52 us before the decision point for a transmission. -/
def Wing.wakeAt (x : Wing) : Option Nat :=
  let wins := x.lnk.wins ++ (match x.lnk.next with | none => [] | some n => n.wins)
  let ts := (wins.filter (fun v => decide (x.now ≤ v.hi + v.ext))).map (fun v => v.lo - us 60) ++
    x.tx.reqs.map (fun q => q.start - x.tLead - us 54) ++
    (match x.lnk.own with | none => [] | some o => [o.nominal - x.ackTol - us 60])
  ts.foldl (fun (b : Option Nat) t => match b with | none => some t | some u => some (min t u)) none

/-- Every window of the present slot has closed (R153). -/
def Wing.windowsShut (x : Wing) : Bool :=
  x.lnk.wins.all (fun v => decide (v.hi + v.ext < x.now)) &&
  (match x.lnk.own with
   | none => true
   | some o => decide (o.nominal + x.ackTol + x.rx.live.tDet (x.rx.live.profOf o.ch) < x.now))

/-- The radio rests: on into LISTEN if the schedule asks, else in STANDBY, or in OFF when nothing is near (R153). A
STOPPED wing rests in STANDBY (R15). -/
def Wing.radioRest (x : Wing) : Wing :=
  if x.rx.radio ≠ .standby || x.rx.going.isSome then x
  else if x.wantListen then x.radioTo .listen
  else if !x.isRunning || x.tx.test || x.tx.run.isSome || x.actionSoon || x.rx.calFirst then x
  else x.radioTo .off

/-- The state that a return or AUTO names when the return transition begins (R108). -/
def Wing.returnTo (q : TxReq) (x : Wing) : RadioState :=
  let want : RadioState := match q.ret with
    | 0 => .listen | 1 => .standby | 2 => .off
    | _ => if q.ar || x.windowBy 0 then .listen else .standby
  if want = .listen && !x.canListen then .standby else want

/-- The return transition begins; from TX the STANDBY state is in force at once (R107). -/
def Wing.radioBack (r : RadioState) (x : Wing) : Wing :=
  let x := x.radioTo r
  if r = .standby && x.rx.radio = .tx then x.radioDone else x

/-- Airtime in us of a number of ticks, rounded up. -/
def airUs (t : Nat) : Nat := (t + 399) / 400

/-- The airtime that a transmission has used by now, the PA being off 2 us from now (R109, R116, R128): nothing before its ramp-up. -/
def Wing.usedNow (r : TxRun) (x : Wing) : Nat :=
  if r.aborted then r.used
  else if r.onAir x.now x.tRamp then min r.airtime (airUs (x.now + us 2 + x.tRamp - r.req.start)) else 0

/-- The tick at which the return transition of a transmission begins (R113, R116). -/
def Wing.backFrom (r : TxRun) (x : Wing) : Nat := if r.aborted then r.backAt else r.req.start + r.dur + x.tRamp

/-- The tick of the next event of what is being transmitted (R113, R131). -/
def Wing.txNextAt (x : Wing) : Option Nat :=
  let next := fun (r : TxRun) => match r.phase with
    | .decided => r.req.start - x.tLead
    | .synthCal => r.req.start - x.tRamp - us 1
    | .locked => r.req.start
    | .ramping => r.req.start + r.dur
    | .rampDown => x.backFrom r
  match x.tx.run with
  | some r => some (next r)
  | none => x.tx.testRun.map (fun q => next q.blk)

/-- A row that carries no time comes at a free tick that is not later than `cap` nor than the next event of what is being transmitted; while nothing is,
the time reached stands (DESIGN CHOICE, log 7). -/
def State.freeTime (w cap : Nat) (s : State) : State :=
  match (s.wing w).txNextAt with
  | none => s
  | some t =>
    let (v, s) := s.draw
    s.modWing w (fun x => x.advance (v.toNat % max 1 (min t cap + 1 - x.now)))

/-- A result is written and counted, and its sources are raised (R126). -/
def Wing.txNote (res : TxResult) (x : Wing) : Wing :=
  let c := res.code
  let y := { x with tx := { x.tx with result := res } }.bump (0xFF7030 + c) (0x222001 + c)
  (y.raise 50).raiseIf (decide (res ≠ .sent)) 51

/-- A result is written, counted and reported (R126). -/
def Wing.txResult (q : TxReq) (res : TxResult) (dur : Nat) (x : Wing) : Wing := (x.txNote res).txReport q res dur

/-- A charge of which `used` us have been used is settled: what of it stands (R116, R128). -/
def State.settle (w : Nat) (r : TxRun) (used : Nat) (s : State) : Nat × State :=
  let back := if r.kept then 0 else r.airtime - used
  match s.refund w r back with
  | (true, s) => (r.airtime - back, s)
  | (false, s) => (r.airtime, s)

/-- A transmission that was decided ends with a result, having used `used` us of its charge (R116, R126, R128). -/
def State.txEnd (w : Nat) (r : TxRun) (res : TxResult) (used : Nat) (s : State) : State :=
  let (air, s) := s.settle w r used
  s.modWing w (fun x =>
    { x with tx := { x.tx with clamps := r.clamps, power := r.power, start := r.req.start % lapTicks,
                               airtime := air } }.txResult r.req res r.dur)

/-- A request is refused at its decision point: nothing else changes (R114, R126). -/
def Wing.txRefuse (q : TxReq) (res : TxResult) (x : Wing) : Wing :=
  { x with tx := { x.tx with clamps := 0 } }.txResult q res 0

/-- The PHY maximum of R117 in 0.5 dBm. -/
def Wing.phyMax (x : Wing) (p : Nat) : Int :=
  if x.band < 3 then (if x.rx.live.phy p = 3 then 28 else 40) else (if x.rx.live.phy p = 3 then 16 else 28)

/-- The power used and the flags of the bounds that lie below the request: LIMIT, PHY, WATCH (R118). -/
def Wing.txPower (x : Wing) (p sub : Nat) (want : Int) : Int × BitVec 3 :=
  let lim := x.limCeiling sub
  let phy := x.phyMax p
  let watch : Int := if x.sys.watch then 20 else 127
  let v := min want (min lim (min phy watch))
  (max v (-40), BitVec.ofNat 3 (b2n (decide (lim < want)) + 2 * b2n (decide (phy < want)) + 4 * b2n (decide (watch < want))))

/-- The MCS values that the standard defines for OFDM option `o` (PRESUMED, log 13). -/
def mcsOk (o m : Nat) : Bool :=
  match o with
  | 1 => decide (m ≤ 3) | 2 => decide (m ≤ 5) | 3 => decide (1 ≤ m) && decide (m ≤ 6)
  | _ => decide (2 ≤ m) && decide (m ≤ 6)

/-- Check 3 of R125 (R112). -/
def Wing.txProfOk (x : Wing) (q : TxReq) : Bool :=
  !x.bandOff && x.rx.live.profValid x.band q.prof && decide (q.ch < x.rx.live.n) &&
  (x.rx.live.phy q.prof != 3 || mcsOk (x.rx.live.rate q.prof + 1) q.mcs)

/-- The sub-band that check 4 of R125 finds. -/
def Wing.txSub (x : Wing) (q : TxReq) : Option Nat :=
  match x.limOf q.ch q.prof with
  | none => none
  | some i => if x.limDuty i ≠ 0 && decide (-40 ≤ x.limCeiling i) then some i else none

/-- Check 2 of R125 (R114). -/
def Wing.txOverlaps (x : Wing) (q : TxReq) : Bool :=
  let dep := q.start - x.tLead
  x.tx.test || (x.rx.calRun.isSome && decide (dep < x.rx.calEnd)) || x.tx.next.isSome ||
  (match x.tx.run with
   | none => false
   | some r => decide (dep < x.backFrom r))

/-- The checks 3 to 7 that requests and test transmissions share (R125, R131). -/
def State.txLimits (w : Nat) (q : TxReq) (air : Nat) (s : State) : Except TxResult Nat :=
  let x := s.wing w
  if !x.txProfOk q then .error .refusedProfile else
  match x.txSub q with
  | none => .error .refusedChannel
  | some i =>
    if x.tx.hold.getLsbD i then .error .refusedHold
    else if x.limDwell i ≠ 0 && decide (1000 * x.limDwell i < x.dwellUsed q.ch i + air) then .error .refusedDwell
    else .ok i

/-- Check 7 of R125, where a DUTY of 10,000 sets no limit (R121), and the refusals of R130. -/
def State.txDuty (w i air : Nat) (s : State) : Bool :=
  tget 0 (s.wing w).tx.heldOpen i == 0 &&
  (decide ((s.wing w).limDuty i = 10000) || decide (s.hourUsed w i + air ≤ (s.wing w).limBudget i))

/-- One octet of a CRC that is shifted least significant bit first. -/
def crcOctet (poly c : Nat) (o : Octet) : Nat :=
  iter 8 (fun c => if c % 2 = 1 then Nat.xor (c / 2) poly else c / 2) (Nat.xor c o.toNat)

/-- The FCS that the transmitter fills in (R111): the standard's CRC of 2 octets, or of 4 with FCS4 (PRESUMED, log 13). -/
def fcsOf (four : Bool) (p : Octets) : Octets :=
  if four then natLe 4 (Nat.xor (p.foldl (crcOctet 0xEDB88320) 0xFFFFFFFF) 0xFFFFFFFF) else natLe 2 (p.foldl (crcOctet 0x8408) 0)

/-- The checks of the decision point in order, and the charge when all pass (R125). -/
def State.txDecide (w : Nat) (q : TxReq) (late : Bool) (s : State) : State :=
  let x := s.wing w
  let refuse := fun (r : TxResult) (t : State) => t.modWing w (Wing.txRefuse q r)
  let dur := x.rx.live.frameTicks q.prof q.coded q.mcs q.len
  let air := airUs (dur + 2 * x.tRamp)
  if late then refuse .late s
  else if x.txOverlaps q then refuse .overlap s
  else match s.txLimits w q air with
  | .error r => refuse r s
  | .ok i =>
    if !s.txDuty w i air then refuse .refusedDuty s
    else if q.yield && x.rx.lanes.any (fun e => decide (e.2.state = .receiving)) then refuse .busyRx s
    else match s.charge w q.ch i air with
    | (false, s) => refuse .refusedDuty s
    | (true, s) =>
      let (p, c) := x.txPower q.prof i q.power
      let r : TxRun := { req := q, dur := dur, airtime := air, sub := i, power := p, clamps := c, air := q.psdu ++ fcsOf q.fcs4 q.psdu }
      s.modWing w (fun y => if y.tx.run.isSome then { y with tx := { y.tx with next := some r } }
        else { y with tx := { y.tx with run := some r } })

/-- The earliest committed request. -/
def Wing.txFirst (x : Wing) : Option TxReq :=
  x.tx.reqs.foldl (fun best q =>
    match best with | none => some q | some b => if q.start < b.start then some q else some b) none

/-- Commit a transmit request (R111). -/
def Wing.txCommit (q : TxReq) (x : Wing) : Wing := { x with tx := { x.tx with reqs := x.tx.reqs ++ [q] } }

/-- Forget the committed requests that satisfy `p`. -/
def Wing.txWithdraw (p : TxReq → Bool) (x : Wing) : Wing :=
  { x with tx := { x.tx with reqs := x.tx.reqs.filter (fun q => !p q) } }

/-- The decision point of request `q`, with its octets filled in (R113, R125). -/
def State.txPoint (w : Nat) (q : TxReq) (s : State) : State :=
  let x := s.wing w
  let late := decide (q.start < x.now + x.tLead + us 2) || decide (x.rx.radio = .off)
  s.txDecide w q late

/-- TX_DEPARTURE (R113): the synthesiser's calibration aims at the carrier, shifted as R97 says (R115). -/
def execTxDeparture (w : WingId) (s : State) : Out :=
  match (s.wing w).tx.run with
  | none => .next s
  | some r =>
    if r.phase ≠ .decided then .next s else
    let s := s.modWing w (fun x => x.reach (r.req.start - x.tLead))
    .next ((s.leaveListen w).modWing w (fun x =>
      ({ x with tx := { x.tx with run := some { r with phase := .synthCal, shift := x.carrierShift } } }.radioTo .cal).setFem
        (bits (x.reg 0xFF7002) 15 12)))

/-- The radio is in TX with the synthesiser locked (R113). -/
def Wing.toTx (x : Wing) : Wing :=
  { x with rx := { x.rx with radio := .tx, going := none }, tx := { x.tx with lock := true } }.setFem (x.reg 0xFF7003)

/-- The test transmission ends with a result, having used `used` us of its present block (R126, R128, R131). However it ends, TX_TEST.MODE
reads 0 from then on (DESIGN CHOICE, log 15). -/
def State.testEnd (w : Nat) (q : TestRun) (res : TxResult) (used : Nat) (s : State) : State :=
  let (air, s) := s.settle w q.blk used
  s.modWing w (fun x =>
    ({ x with tx := { x.tx with testRun := none, pa := false, lock := false, clamps := q.blk.clamps, power := q.blk.power,
                                start := q.first % lapTicks, airtime := q.past + air } }.setReg 0xFF7010 0).txNote res)

/-- The test transmission ends, and the radio goes to STANDBY (R131). -/
def State.testStop (w : Nat) (q : TestRun) (res : TxResult) (used : Nat) (s : State) : State :=
  (s.testEnd w q res used).modWing w (Wing.radioBack .standby)

/-- The synthesiser's calibration ends, 1 us before the ramp-up (R113, R115). -/
def State.synthDone (w : Nat) (ok : Bool) (s : State) : State :=
  let x := s.wing w
  match x.tx.testRun with
  | some q =>
    if q.blk.phase ≠ .synthCal then s else
    let y := x.reach (q.blk.req.start - x.tRamp - us 1)
    if ok then
      let z := { y with tx := { y.tx with testRun := some { q with blk := { q.blk with phase := .ramping } } } }.toTx
      s.setWing w { z with tx := { z.tx with pa := true } }
    else (s.setWing w y).testStop w q .synthFail 0
  | none =>
    match x.tx.run with
    | none => s
    | some r =>
      if r.phase ≠ .synthCal then s else
      let y := x.reach (r.req.start - x.tRamp - us 1)
      if ok then s.setWing w { y with tx := { y.tx with run := some { r with phase := .locked } } }.toTx
      else
        let s := s.setWing w { y with tx := { y.tx with run := none } }
        (s.txEnd w r .synthFail 0).modWing w (fun y => y.radioBack (y.returnTo r.req))

/-- A try of the frame of request `q` has radiated (R237). -/
def Wing.radiated (q : TxReq) (x : Wing) : Wing :=
  match q.what with
  | .data id => (match x.pendOf id with | none => x | some f => x.noteRadiated f.tag)
  | _ => x

/-- TX_RAMP_UP (R113): the PA ramps up and the first symbol starts at S, an event of the bells' source 7 (R333). -/
def execTxRampUp (w : WingId) (s : State) : Out :=
  let x := s.wing w
  .next (match x.tx.run with
  | none => s
  | some r =>
    if r.phase ≠ .locked then s
    else
      let y := ({ x with tx := { x.tx with run := some { r with phase := .ramping }, pa := true } }.reach
        r.req.start).carEvent 7
      s.setWing w (y.radiated r.req))

/-- TX_LAST_SYMBOL (R113). -/
def execTxLastSymbol (w : WingId) (s : State) : Out :=
  let x := s.wing w
  .next (match x.tx.run with
  | none => s
  | some r =>
    if r.phase ≠ .ramping then s
    else s.setWing w ({ x with tx := { x.tx with run := some { r with phase := .rampDown } } }.reach
      (r.req.start + r.dur)))

/-- The ramp-down ends, and the transmission with it (R108, R113, R116). -/
def State.rampDownEnd (w : Nat) (s : State) : State :=
  let x := s.wing w
  (match x.tx.run with
  | none => s
  | some r =>
    if r.phase ≠ .rampDown then s else
    let x := x.reach (x.backFrom r)
    let follow := match x.tx.next with | none => false | some n => decide (n.req.start ≤ x.now + x.tLead)
    let s := s.setWing w { x with tx := { x.tx with run := x.tx.next, next := none, pa := false, lock := false } }
    let s := s.txEnd w r (if r.aborted then .aborted else .sent) (if r.aborted then r.used else r.airtime)
    if follow then s else s.modWing w (fun y => y.radioBack (y.returnTo r.req)))

/-- An abort commits now (R116); `p` says which transmission it concerns. -/
def State.txAbort (w : Nat) (p : TxReq → Bool) (s : State) : State :=
  let x := s.wing w
  let late := fun (t : State) => t.modWing w (Wing.bump 0xFF703C 0x22200D)
  let waiting := fun (t : State) =>
    match x.tx.next with
    | none => late t
    | some n =>
      if p n.req then (t.modWing w (fun y => { y with tx := { y.tx with next := none } })).txEnd w n .aborted 0
      else late t
  match x.tx.run with
  | none => late s
  | some r =>
    if !p r.req then waiting s else
    let lim := r.req.start + (match r.req.abortTo with | some n => n | none => r.dur)
    if lim < x.now || r.aborted then late s else
    match r.phase with
    | .decided => (s.modWing w (fun y => { y with tx := { y.tx with run := none } })).txEnd w r .aborted 0
    | .synthCal =>
      let s := s.modWing w (fun y => { y with tx := { y.tx with run := none } })
      (s.txEnd w r .aborted 0).modWing w (fun y => y.radioBack (y.returnTo r.req))
    | .rampDown => late s
    | _ =>
      s.modWing w (fun y =>
        let z := { y with tx := { y.tx with
          run := some { r with phase := .rampDown, aborted := true, used := y.usedNow r, backAt := y.now + us 2 } } }
        if r.req.start ≤ y.now then z.radiated r.req else z)

/-- The radio is forced to OFF (R109), at a free time where the row carries none: what transmits ends with CUT and is charged what it used, lanes are
released, a calibration ends. -/
def State.radioCut (w : Nat) (s : State) : State :=
  let s := s.freeTime w (2 ^ 64)
  let x := s.wing w
  let s := s.leaveListen w
  let s := s.modWing w (fun y =>
    { y with rx := { y.rx with radio := .off, going := none, fem := 0, calRun := none }
             tx := { y.tx with run := none, next := none, pa := false, lock := false } })
  let s := match x.tx.run with | none => s | some r => s.txEnd w r .cut (x.usedNow r)
  let s := match x.tx.next with | none => s | some r => s.txEnd w r .cut 0
  match x.tx.testRun with | none => s | some q => s.testEnd w q .cut (x.usedNow q.blk)

/-- The lowest MCS of an OFDM option (R161; PRESUMED, log 13). -/
def Wing.lowMcs (p : Nat) (x : Wing) : Nat :=
  if x.rx.live.phy p ≠ 3 then 0 else match x.rx.live.rate p + 1 with | 1 => 0 | 2 => 0 | 3 => 1 | _ => 2

/-- The request that stands for a test transmission: the channel of TX_TEST_CH, the profile and power of TX_TEST_CFG
(R131). TX_TEST_CFG names no MCS, so an OFDM profile is tested with the lowest of its option (DESIGN CHOICE, log 15). -/
def Wing.testReq (x : Wing) : TxReq :=
  let p := x.reg 0xFF7012 % 8
  { what := .beacon, start := x.now + x.tLead, ch := x.reg 0xFF7011, prof := p, mcs := x.lowMcs p,
    power := toSigned 8 (x.reg 0xFF7012 / 256), ret := 1 }

/-- One block of 1 ms of a test transmission: checked against duty and charged (R131). -/
def State.testBlock (w ch i : Nat) (s : State) : Option State :=
  if !s.txDuty w i 1000 then none else
  match s.charge w ch i 1000 with
  | (true, s) => some s
  | (false, _) => none

/-- A test transmission that does not start (R131). -/
def Wing.testRefuse (res : TxResult) (x : Wing) : Wing :=
  ({ x with tx := { x.tx with clamps := 0 } }.setReg 0xFF7010 0).txNote res

/-- A write of TX_TEST (R131); accepted only in RUNNING, and from a wing that may transmit (R244, R249). MODE 3, to which the spec gives no meaning, acts as 0 (DESIGN CHOICE, log 15). A start that meets
a transmission in progress, or a radio that is not in STANDBY or LISTEN, is refused with OVERLAP or LATE (DEDUCED, log 15). -/
def State.txTest (w : Nat) (mode : Nat) (s : State) : State :=
  let x := s.wing w
  if !x.isRunning || !s.tokenOk w then s else
  let s := s.modWing w (Wing.setReg 0xFF7010 (mode % 4 % 3))
  match x.tx.testRun with
  | some q => if mode % 4 % 3 = 0 then s.testStop w q .sent q.blk.airtime else s
  | none =>
    if mode % 4 % 3 = 0 then s else
    let q := x.testReq
    let fail := fun (r : TxResult) (t : State) => t.modWing w (Wing.testRefuse r)
    if x.tx.run.isSome || x.rx.calRun.isSome then fail .overlap s
    else if x.rx.radio = .off then fail .late s
    else match s.txLimits w q 1000 with
    | .error r => fail r s
    | .ok i =>
      match s.testBlock w q.ch i with
      | none => fail .refusedDuty s
      | some s =>
        let (p, c) := x.txPower q.prof i q.power
        let blk : TxRun := { req := q, phase := .synthCal, dur := us 1000 - 2 * x.tRamp, airtime := 1000, sub := i, power := p, clamps := c,
                             shift := x.carrierShift }
        (s.leaveListen w).modWing w (fun y =>
          ({ y with tx := { y.tx with testRun := some { blk := blk, first := q.start } } }.radioTo .cal).setFem
            (bits (y.reg 0xFF7002) 15 12))

/-- TX_TEST (R131): a Keeper-mode write of MODE. -/
def execTxTest (w : WingId) (mode : BitVec 2) (s : State) : Out := byCore w s (s.txTest w mode.toNat)

/-- TEST_BLOCK (R131): the next block of a test transmission on air, charged as the one before ends. -/
def execTestBlock (w : WingId) (s : State) : Out :=
  let x := s.wing w
  .next (match x.tx.testRun with
  | none => s
  | some q =>
    if q.blk.phase ≠ .ramping then s else
    let b := q.blk.req.start + us 1000
    let s := s.setWing w (x.reach (b - x.tRamp))
    match s.testBlock w q.blk.req.ch q.blk.sub with
    | some s => s.modWing w (fun y => { y with tx := { y.tx with testRun := some { q with
        past := q.past + q.blk.airtime
        blk := { q.blk with req := { q.blk.req with start := b }, kept := false, aged := false, dwAge := 0 } } } })
    | none => s.testStop w q .refusedDuty q.blk.airtime)

/-- RADIO_TRANSITION_DONE (R107): the state is in force, and the radio goes on where the schedule asks. -/
def execRadioTransitionDone (w : WingId) (s : State) : Out :=
  let x := s.wing w
  .next (if x.rx.going.isSome then s.setWing w x.radioDone.radioRest else s)

/-- RADIO_WAKE_LEAD (R153): the transition from OFF to STANDBY begins, at the moment that the earliest action gives, or at once where LISTEN is to be held. -/
def execRadioWakeLead (w : WingId) (s : State) : Out :=
  let x := s.wing w
  let ok := x.isRunning && decide (x.rx.radio = .off) && x.rx.going.isNone && x.car.pllLocked && !s.dome.refLost
  .next (if !ok then s
  else if x.wantListen && x.holdListen then s.setWing w (x.radioTo .standby)
  else match x.wakeAt with
  | none => s
  | some t => s.setWing w ((x.reach t).radioTo .standby))

/-- LISTEN_WINDOW_START (R153): the radio enters LISTEN 10 us before the earliest window. -/
def execListenWindowStart (w : WingId) (dt : Nat) (s : State) : Out :=
  let x := (s.wing w).advance dt
  let ok := x.canListen && !x.tx.test && !x.rx.calFirst && decide (x.rx.radio = .standby) && x.rx.going.isNone &&
    x.tx.run.isNone && (x.windowOpen || x.holdListen)
  .next (if ok then s.setWing w (x.radioTo .listen) else s)

/-- LISTEN_WINDOW_END (R153): every window has closed and no lane is busy. -/
def execListenWindowEnd (w : WingId) (dt : Nat) (s : State) : Out :=
  let x := (s.wing w).advance dt
  let ok := x.listening && x.windowsShut && !x.holdListen && x.rx.lanes.isEmpty
  .next (if ok then ((s.setWing w x).leaveListen w).modWing w (Wing.radioTo .standby) else s)

/-- The calibrations that a reset or a band change asks for have all ended (R96). -/
def Receiver.calSettle (r : Receiver) : Receiver :=
  { r with calFirst := r.calFirst && decide (r.calDue &&& 0b1011 ≠ 0) }

/-- The duration in us of a foreground calibration (R96). -/
def calUs (kind : Nat) : Nat := match kind with | 0 => 1600 | 1 => 300 | _ => 50

/-- No listen or transmit window begins within `t` ticks, and none is open (R98). -/
def Wing.gapFor (t : Nat) (x : Wing) : Bool :=
  let clear := fun (v : Win) => decide (x.now + t < v.lo) || decide (v.hi + v.ext < x.now)
  !x.windowOpen && x.lnk.wins.all clear && (match x.lnk.next with | none => true | some n => n.wins.all clear) &&
  x.tx.reqs.all (fun q => decide (x.now + t < q.start - x.tLead)) &&
  (match x.lnk.own with | none => true | some o => decide (x.now + t < o.nominal - x.ackTol))

/-- CALIBRATION_START (R96, R98): 0 image rejection, 1 filter, 3 offset. A RUNNING wing (R15) takes it from STANDBY in a gap that is at least the
calibration's duration plus 20 us long, as far as windows are resolved; once deferred, from LISTEN in a slot without a transmission or a class
EXPECTED, and then that slot's LISTEN is lost. -/
def execCalibrationStart (w : WingId) (kind : Fin 4) (s : State) : Out :=
  let x := s.wing w
  let due := kind.val != 2 && (x.rx.calDue ||| x.rx.calReq).getLsbD kind
  let free := x.rx.calRun.isNone && x.rx.going.isNone && x.tx.run.isNone && !x.tx.test && x.isRunning
  let gap := decide (x.rx.radio = .standby) && x.gapFor (us (calUs kind + 20))
  let lost := decide (x.rx.radio = .listen) && x.rx.calDeferred && !x.lnk.txSlot && !x.lnk.wins.any (fun v => !v.search)
  .next (if due && free && (gap || lost) then
    (s.leaveListen w).modWing w (fun y =>
      let y := if lost then y.rxCount 7 else y
      { y with rx := { y.rx with calRun := some kind.val, calFrom := x.rx.radio, calEnd := y.now + us (2 + calUs kind) } }.radioTo .cal)
  else s)

/-- CALIBRATION_COMPLETE (R96, R99): the result is applied, or kept back and flagged, and CPU_TEMP of the run, a free value, is held for the temperature
triggers; kind 2 is the VCO band, which runs while the PLL locks and uses no radio state: it fails where the PLL does not lock in the band
chosen. -/
def execCalibrationComplete (w : WingId) (kind : Fin 4) (ok : Bool) (value : Octet) (s : State) : Out :=
  let x := s.wing w
  let v := value.toNat
  let clr := ~~~ BitVec.twoPow 4 kind.val
  let r := { x.rx with calReq := x.rx.calReq &&& clr }
  .next (if kind = 2 then
    if x.awake then
      s.setWing w ({ x with rx := if ok then { r with calVco := v % 64 } else { r with vcoFail := true } }.raiseIf (!ok) 49)
    else s
  else if x.rx.calRun = some kind.val then
    let (temp, s) := s.draw
    let x := x.reach x.rx.calEnd
    let r := { r with calRun := none, calDue := r.calDue &&& clr, calDeferred := false
                      calTemp := if kind.val < 2 then tset 0 kind.val (temp.toNat % 65536 + 1) r.calTemp else r.calTemp }
    let r := if ok then
        match kind.val with
        | 0 => { r with calIr := v }
        | 1 => { r with calFilt := v }
        | _ => { r with calOffs := v }
      else { r with calFail := r.calFail ||| (match kind.val with | 0 => 1 | 1 => 2 | _ => 4) }
    let y := ({ x with rx := r.calSettle }.raiseIf (!ok) 49)
    s.setWing w (y.radioTo (if x.rx.calFrom = .listen && y.canListen then .listen else .standby))
  else s)

/-- A read of the transmitter block at word offset `a` (R133). -/
def State.txRead (w a : Nat) (s : State) : Word × State :=
  let x := s.wing w
  let t := x.tx
  let i := x.reg 0xFF7021
  let multi := fun (low k val off : Nat) => let (v, y) := x.readMulti 0 low k val off; (v, s.setWing w y)
  if 0x30 ≤ a && a < 0x3D then let (v, y) := x.readRc (0xFF7000 + a); (v, s.setWing w y)
  else if 0x08 ≤ a && a < 0x0B then multi 0xFF7008 3 t.start (a - 8)
  else if 0x0B ≤ a && a < 0x0D then multi 0xFF700B 2 t.airtime (a - 0xB)
  else if 0x22 ≤ a && a < 0x24 then multi 0xFF7022 2 (s.hourUsed w i) (a - 0x22)
  else if 0x24 ≤ a && a < 0x26 then multi 0xFF7024 2 (x.limBudget i) (a - 0x24)
  else if 0x26 ≤ a && a < 0x28 then multi 0xFF7026 2 (s.limPending w i) (a - 0x26)
  else match a with
  | 0x01 =>
    let c : Nat := match x.rx.radio with | .off => 0 | .standby => 1 | .listen => 2 | .cal => 3 | .tx => 4
    (w16 (c + 8 * b2n t.lock + 16 * b2n t.pa + 32 * b2n t.test), s)
  | 0x06 => (w16 (t.result.code + 16 * t.clamps.toNat), s)
  | 0x07 => (w16 (ofSigned 8 t.power), s)
  | 0x20 => (w16 (b2n x.limValid + 2 * b2n (t.hold != 0) + 4 * (x.lim 0x0102 % 16) + 64 * (x.lim 0x0100 % 16)), s)
  | 0x05 => (0, s)
  | 0x28 => (0, s)
  | 0x29 => (0, s)
  | _ => (w16 (x.reg (0xFF7000 + a)), s)

/-- A write of the transmitter block at word offset `a` (R133). -/
def State.txWrite (w a : Nat) (v : Word) (s : State) : State :=
  let n := v.toNat
  match a with
  | 0x05 => if v = 0x5A5A then (s.freeTime w (2 ^ 64)).txAbort w (fun _ => true) else s
  | 0x10 => s.txTest w (n % 4)
  | 0x28 => s.modWing w (fun x => { x with tx := { x.tx with ackLo := v } })
  | 0x29 => s.limAck w ((s.wing w).reg 0xFF7021) ((s.wing w).tx.ackLo.toNat + 65536 * n)
  | 0x00 => s.modWing w (Wing.setReg 0xFF7000 n)
  | 0x02 => s.modWing w (Wing.setReg 0xFF7002 n)
  | 0x03 => s.modWing w (Wing.setReg 0xFF7003 n)
  | 0x04 => s.modWing w (Wing.setReg 0xFF7004 n)
  | 0x11 => s.modWing w (Wing.setReg 0xFF7011 n)
  | 0x12 => s.modWing w (Wing.setReg 0xFF7012 n)
  | 0x21 => s.modWing w (Wing.setReg 0xFF7021 n)
  | _ => s

end Sys2Proof.Machine
end

