-- ==== Sys2Proof/Machine/Grid.lean ====
section
/-! DEFINITION. The slot grid (R136 to R138), hopping (R147 to R149), cells (R150, R151), guard windows (R166 to R173) and
the neighbour record as words (R177). -/
namespace Sys2Proof.Machine
open Sys2Proof

/-- The number of ASNs (R136). -/
abbrev asnMod : Nat := 2 ^ 40

/-- A named ASN lies in the past of `present`, or is it (R207). -/
def asnPast (present named : Nat) : Bool := decide ((present + asnMod - named % asnMod) % asnMod < 2 ^ 39)

/-- Slots from `b` to `a`, signed, modulo 2^40 (R207). -/
def asnDiff (a b : Nat) : Int := toSigned 40 ((a + asnMod - b % asnMod) % asnMod)

/-- Ticks of one slot. -/
def Wing.slotTicks (x : Wing) : Nat := us x.slotUs

/-- T_S(a) in ticks of the 64-bit time (R137). -/
def Wing.tS (a : Nat) (x : Wing) : Int := x.lnk.tickRef + ((a : Int) - x.lnk.asnRef) * x.slotTicks

/-- T_S(a) + TX_OFFSET: the nominal start of a frame in slot `a`. -/
def Wing.tNom (a : Nat) (x : Wing) : Int := x.tS a + x.txOffset

/-- The slot of the wing's grid that contains tick `t`. -/
def Wing.slotAt (t : Int) (x : Wing) : Nat := (x.lnk.asnRef + (t - x.lnk.tickRef) / (x.slotTicks : Int)).toNat

/-- The slot whose nominal frame start lies nearest tick `t`, ties to the smaller (R145). -/
def Wing.slotNear (t : Int) (x : Wing) : Nat :=
  let l : Int := x.slotTicks
  let y := t - x.txOffset - x.lnk.tickRef
  (x.lnk.asnRef + -((l - 2 * y) / (2 * l))).toNat

/-- HOP_LENGTH. -/
def Wing.hopLen (x : Wing) : Nat := x.reg 0xFF8016

/-- The channel of channel offset `c` in slot `a`, when it is watched (R147). -/
def Wing.hopOf (a c : Nat) (x : Wing) : Option Nat :=
  if x.hopLen = 0 then none else
  let k := tget 0 x.lnk.hop ((a + c) % x.hopLen)
  if x.rx.live.watched k then some k else none

/-- Cell `i` is active in slot `a` (R151). -/
def Wing.cellActive (a : Nat) (c : Cell) (x : Wing) : Bool :=
  c.kind != 0 && x.hopLen != 0 && c.slot == a % x.sfSlots && a / x.sfSlots % 2 ^ c.period == c.phase

/-- Cells by index that satisfy `p`. -/
def Wing.cellsWith (p : Cell → Bool) (x : Wing) : List (Nat × Cell) := x.lnk.cells.filter (fun e => p e.2)

/-- The parent's beacon slot as a cell of the parent, numbered 4,096 (R145). -/
def Wing.parentCell (x : Wing) : List (Nat × Cell) :=
  match x.lnk.parent with
  | none => []
  | some p =>
    match (x.nb p).beaconAt with
    | none => []
    | some (pos, c) => [(4096, { slot := pos, ch := c, kind := 4, nb := p, prof := x.num 0x230205 0 })]

/-- Receive cells active in slot `a`, the parent's beacon slot among them. -/
def Wing.rxCells (a : Nat) (x : Wing) : List (Nat × Cell) :=
  (x.lnk.cells ++ x.parentCell).filter (fun e => (e.2.kind == 3 || e.2.kind == 4) && x.cellActive a e.2)

/-- Ticks from the start of the last contact of a record to tick `t` (R166); its slot stands in for a start that is not
held. -/
def Wing.sinceContact (n : Nb) (t : Int) (x : Wing) : Int :=
  t - (match n.lastTime with | some s => (s : Int) | none => x.tNom n.lastAsn)

/-- The predicted clock error of a record in ticks, `dt` ticks after its last contact (R166). -/
def Nb.predicted (n : Nb) (useDrift : Bool) (dt : Int) : Int :=
  if useDrift then n.offset + (n.drift * dt).tdiv (10 ^ 8) else n.offset

/-- The guard in us for a rate in 0.01 ppm (R166). -/
def Wing.guardUs (rate : Nat) (dt : Int) (x : Wing) : Nat :=
  let n := x.reg 0xFF8010 * 400 * 10 ^ 8 + rate * dt.toNat
  min (x.reg 0xFF8012) ((n + 400 * 10 ^ 8 - 1) / (400 * 10 ^ 8))

/-- A drift from which windows are predicted while the record is not NORMAL (R170). -/
def Nb.hasDrift (n : Nb) : Bool := (n.driftValid && decide (1 ≤ n.recov)) || decide (2 ≤ n.recov)

/-- A window can be predicted for the record: it is NORMAL, or recovering with a drift. -/
def Nb.windowed (n : Nb) : Bool := decide (n.timing = .normal) || n.hasDrift

/-- Centre in ticks and guard in us of the record's window for its cell in slot `b` (R166, R170). -/
def Wing.windowOf (n : Nb) (b : Nat) (x : Wing) : Int × Nat :=
  let dt := x.sinceContact n (x.tNom b)
  let normal := decide (n.timing = .normal)
  let rate := if normal && !n.driftValid then x.reg 0xFF8011 else x.reg 0xFF8014
  (x.tNom b - n.predicted (n.driftValid || !normal) dt, x.guardUs rate dt)

/-- Slots whose cells may have their window in slot `a`, for a record. -/
def Wing.windowSlots (n : Nb) (a : Nat) (x : Wing) : List Nat :=
  let (e, _) := x.windowOf n a
  let shift := (x.tNom a - e) / (x.slotTicks : Int)
  [-1, 0, 1, 2].map (fun d => ((a : Int) + shift + d).toNat)

/-- t_det of a cell's profile. -/
def Wing.cellDet (c : Cell) (x : Wing) : Nat := x.rx.live.tDet c.prof

/-- The window of a named neighbour's cell for slot `b`, when it lies in slot `a` (R166, R170). -/
def Wing.cellWin (a b i : Nat) (c : Cell) (n : Nb) (x : Wing) : List Win :=
  let (e, g) := x.windowOf n b
  match x.hopOf b c.ch with
  | none => []
  | some k =>
    if x.slotAt e = a then
      [{ ch := k, lo := (e - us g).toNat, hi := (e + us g).toNat, ext := x.cellDet c, search := false, nb := some c.nb,
         cell := i, predicted := n.timing ≠ .normal, owed := c.kind == 4 && decide (n.timing = .normal) }]
    else []

/-- The windows of one receive cell in slot `a`: of any neighbour, of a named one, and search windows (R153, R169). -/
def Wing.winsOf (a : Nat) (e : Nat × Cell) (x : Wing) : List Win :=
  let c := e.2
  if c.nb = 0xFFFF then
    match (if x.cellActive a c then x.hopOf a c.ch else none) with
    | none => []
    | some k =>
      let g := us (x.reg 0xFF8010)
      [{ ch := k, lo := (x.tNom a - g).toNat, hi := (x.tNom a + g).toNat, ext := x.cellDet c, search := false, nb := none,
         cell := e.1 }]
  else
    let n := x.nb c.nb
    if !n.valid then [] else
    let pred := if n.windowed then
        (x.windowSlots n a).eraseDups.flatMap (fun b => if x.cellActive b c then x.cellWin a b e.1 c n else [])
      else []
    let srch := if n.timing = .normal then [] else
      [a - 1, a, a + 1].eraseDups.flatMap (fun b =>
        match (if x.cellActive b c then x.hopOf b c.ch else none) with
        | none => []
        | some k => [({ ch := k, lo := (x.tS a).toNat, hi := (x.tS (a + 1) - x.slotTail).toNat, ext := 0, search := true,
                        nb := some c.nb, cell := e.1 } : Win)])
    pred ++ srch

/-- Every window of slot `a`. -/
def Wing.slotWins (a : Nat) (x : Wing) : List Win :=
  ((x.lnk.cells ++ x.parentCell).filter (fun e => e.2.kind == 3 || e.2.kind == 4)).flatMap (fun e => x.winsOf a e)

/-- A record leaves NORMAL, or its recovery starts again (R168, R173). -/
def Nb.lose (t : Timing) (n : Nb) : Nb := { n with timing := t, recov := 0 }

/-- Record `i` becomes ADRIFT (R168). -/
def Wing.goAdrift (i : Nat) (x : Wing) : Wing := ((x.modNb i (Nb.lose .adrift)).raise 54).lnkCount 13

/-- The first slot from `a` on in which a cell is active (R151). -/
def Wing.nextActive (a : Nat) (c : Cell) (x : Wing) : Nat :=
  let cycle := x.sfSlots * 2 ^ c.period
  a + (c.phase * x.sfSlots + c.slot + cycle - a % cycle) % cycle

/-- Neighbours whose guard for their next active cell, from slot `a` on, would reach GUARD_MAX become ADRIFT (R168). -/
def Wing.guardCheck (a : Nat) (x : Wing) : Wing :=
  ((x.lnk.cells ++ x.parentCell).filter (fun e => (e.2.kind == 3 || e.2.kind == 4) && x.hopLen != 0)).foldl (fun (y : Wing) e =>
    let n := y.nb e.2.nb
    if e.2.nb < 1024 && n.valid && decide (n.timing = .normal) && decide (y.reg 0xFF8012 ≤ (y.windowOf n (y.nextActive a e.2)).2)
    then y.goAdrift e.2.nb else y) x

/-- The believed ASN of a frame on channel `k` with channel offset `c` in slot `r`: nearest to `r`, ties to the smaller
(R149). -/
def Wing.believed (k c r : Nat) (x : Wing) : Option Int :=
  let len := x.hopLen
  let at_ := fun (p : Int) => decide (0 ≤ p) && decide (tget 0 x.lnk.hop ((p + (c : Int)).toNat % len) = k)
  if len = 0 then none else
  (List.range len).findSome? (fun (i : Nat) =>
    let d : Int := i
    if at_ ((r : Int) - d) then some ((r : Int) - d) else if at_ ((r : Int) + d) then some ((r : Int) + d) else none)

/-- The slip of a frame from record `i` in slot `r` on channel `k` (R149): by the cell of its window, or by the candidates
of all its receive cells. -/
def Wing.slipOf (i k r : Nat) (byCell : Option Nat) (x : Wing) : Int :=
  let all := (x.lnk.cells ++ x.parentCell).filter (fun e => (e.2.kind == 3 || e.2.kind == 4) && e.2.nb == i)
  let mine := match byCell with
    | none => all
    | some c => if all.any (fun e => e.1 == c) then all.filter (fun e => e.1 == c) else all
  let cands := mine.filterMap (fun e => x.believed k e.2.ch r)
  let best := cands.foldl (fun (b : Option Int) p =>
    match b with
    | none => some p
    | some q =>
      let dp := (p - r).natAbs
      let dq := (q - r).natAbs
      if dp < dq || (dp = dq && p < q) then some p else some q) none
  match best with | none => 0 | some p => p - r

/-- The 32 words of a neighbour record (R177). -/
def Nb.words (n : Nb) : List Word :=
  let t : Nat := match n.timing with | .normal => 0 | .adrift => 1 | .acquire => 2
  let two := fun (v : Nat) => [w16 v, w16 (v / 65536)]
  let f := b2n n.valid + 2 * b2n n.pinned + 4 * b2n n.beacons + 8 * b2n n.driftValid + 16 * t + 64 * min 15 n.misses +
    1024 * b2n n.pend.isSome + 2048 * b2n n.rxEmpty + 4096 * b2n n.bcEmpty
  two n.eui.toNat ++ two (n.eui.toNat / 2 ^ 32) ++ [n.short, w16 f] ++ two n.rxFc ++ two n.bcFc ++
    [w16 n.epoch, w16 n.bcEpoch] ++ two (n.pend.getD 0) ++ two n.lastAsn ++ [w16 (n.lastAsn / 2 ^ 32)] ++
    two (ofSigned 32 n.offset) ++ two (ofSigned 32 n.drift) ++ [w16 (ofSigned 8 n.rssi + 256 * n.prr), w16 n.rank,
    w16 (b2n n.lineage + 2 * n.age), w16 n.keyFails] ++ List.replicate 7 0

/-- Put word `i` of the record (R177), as a copy from the twin brings it (R247). -/
def Nb.putWord (i : Nat) (v : Word) (n : Nb) : Nb :=
  let half := fun (old lo : Nat) => old - old / 2 ^ lo % 65536 * 2 ^ lo + v.toNat * 2 ^ lo
  let f := v.toNat
  if i < 4 then { n with eui := BitVec.ofNat 64 (half n.eui.toNat (16 * i)) } else
  match i with
  | 4 => { n with short := v }
  | 5 => { n with valid := bit f 0, pinned := bit f 1, beacons := bit f 2, driftValid := bit f 3,
                  timing := (match bits f 5 4 with | 0 => .normal | 1 => .adrift | _ => .acquire), misses := bits f 9 6,
                  pend := (if bit f 10 then some (n.pend.getD 0) else none), rxEmpty := bit f 11, bcEmpty := bit f 12 }
  | 6 => { n with rxFc := half n.rxFc 0 } | 7 => { n with rxFc := half n.rxFc 16 }
  | 8 => { n with bcFc := half n.bcFc 0 } | 9 => { n with bcFc := half n.bcFc 16 }
  | 10 => { n with epoch := f } | 11 => { n with bcEpoch := f }
  | 12 => { n with pend := n.pend.map (fun p => half p 0) } | 13 => { n with pend := n.pend.map (fun p => half p 16) }
  | 14 => { n with lastAsn := half n.lastAsn 0 } | 15 => { n with lastAsn := half n.lastAsn 16 }
  | 16 => { n with lastAsn := half n.lastAsn 32 % asnMod }
  | 17 => { n with offset := toSigned 32 (half (ofSigned 32 n.offset) 0) }
  | 18 => { n with offset := toSigned 32 (half (ofSigned 32 n.offset) 16) }
  | 19 => { n with drift := toSigned 32 (half (ofSigned 32 n.drift) 0) }
  | 20 => { n with drift := toSigned 32 (half (ofSigned 32 n.drift) 16) }
  | 21 => { n with rssi := toSigned 8 (f % 256), prr := f / 256 }
  | 22 => { n with rank := f }
  | 23 => { n with lineage := bit f 0, age := f / 2 }
  | 24 => { n with keyFails := f % 256 }
  | _ => n

/-- STATE messages that carry record `i` (R247). -/
def Nb.stateMsgs (i : Nat) (n : Nb) : List (List Word) :=
  [0, 13].map (fun a => [4, w16 i, w16 a] ++ (n.words.drop a).take 13)

/-- The ACTIVE wing tells its twin of a change it made to record `i` itself (R245). -/
def State.nbTell (w i : Nat) (s : State) : State :=
  if s.role w = .active && s.pairState w ≠ .none then s.relaySend w (((s.wing w).nb i).stateMsgs i) else s

/-- Valid records (R217). -/
def Wing.nbCount (x : Wing) : Nat := (x.msh.nbs.filter (fun e => e.2.valid)).length

/-- Hop table generation (R148). -/
def hopSwap (list : List Nat) (i j : Nat) : List Nat :=
  (list.set i (list.getD j 0)).set j (list.getD i 0)

/-- Shuffle the first `i` + 1 entries, drawing from the stream (R148). -/
def hopShuffle : Nat → Octets → List Nat → List Nat
  | 0, _, l => l
  | i + 1, st, l => hopShuffle i (st.drop 2) (hopSwap l (i + 1) (leNat (st.take 2) % (i + 2)))

/-- The table of a seed over the watched channels of the plan (R148). -/
def hopTable (q : Plan) (seed : Nat) : List Nat :=
  let list := (List.range 512).filter q.watched
  hopShuffle (list.length - 1) (shake256 (ascii "VY-HOP" ++ natLe 2 seed) (2 * list.length)) list

/-- HOP_SEED takes effect (R148). -/
def Wing.hopSeed (seed : Nat) (x : Wing) : Wing :=
  let l := hopTable x.rx.plan seed
  let x := { x with cat := tset [] 0x231102 (natLe 2 seed) (tset [] 0x231101 (natLe 2 l.length) x.cat) }
  { x with lnk := { x.lnk with hop := tputs 0 0 l [] } }.setReg 0xFF8016 l.length

/-- Put neighbour `i` into ACQUIRE (R173). -/
def Wing.recover (i : Nat) (x : Wing) : Wing := if (x.nb i).valid then x.modNb i (Nb.lose .acquire) else x

/-- RECOVER (R173): a Keeper-mode write of LNK_RECOVER. -/
def execRecover (w : WingId) (nb : BitVec 10) (s : State) : Out := byCore w s (s.modWing w (Wing.recover nb.toNat))

end Sys2Proof.Machine
end

