-- ==== Sys2Proof/Machine/Items.lean ====
section
/-! DEFINITION. Accepted work (R219 to R242): intake, items on ring 10, completions, reports and their release, and the
events that the Curator puts on ring 5. -/
namespace Sys2Proof.Machine
open Sys2Proof

/-- ITEM_RING in force (R256). -/
def Wing.itemRing (x : Wing) : Nat := if x.num 0x250104 4 = 5 then 5 else 4

/-- The Curator passes its own descriptors of ring `r`, up to the first completion it has not acted on (R236, R452). -/
def Wing.passOwn (r : Nat) (x : Wing) : Wing :=
  let g := x.ring r
  let n := (g.put - g.pass).toNat
  let k := ((List.range n).find? (fun k => x.lnk.complAt.contains (r, g.pass + w16 k))).getD n
  x.setRing r { g with pass := g.pass + w16 k }

/-- The Curator writes a report to ITEM_RING; it waits while the ring is full (R234, R238, R454). -/
def Wing.putReport (ws : List Word) (x : Wing) : Wing :=
  let r := x.itemRing
  if x.wrk.reports.isEmpty && !(x.ring r).full then ((x.publish r false ws).2).passOwn r
  else { x with wrk := { x.wrk with reports := x.wrk.reports ++ [ws] } }

/-- Reports that waited go out while there is room. -/
def Wing.reportPump (x : Wing) : Wing :=
  let r := x.itemRing
  x.wrk.reports.foldl (fun (y : Wing) ws =>
    if (y.ring r).full then y
    else (({ y with wrk := { y.wrk with reports := y.wrk.reports.drop 1 } }.publish r false ws).2).passOwn r) x

/-- A MESH event on ring 5 (R307, R542): the descriptor names the code, and the port reads its data with it (DESIGN
CHOICE, log 22); a full ring 5 refuses it (R454). -/
def Wing.meshEvent (code : Nat) (data : Octets) (x : Wing) : Wing :=
  match x.publish 5 false (w16 (0x8000 + code) :: List.replicate 7 0) with
  | (true, y) => { y with wrk := { y.wrk with events := y.wrk.events ++ [(code, data)] } }.passOwn 5
  | (false, y) => y

/-- A report of an item (R239). -/
def Item.report (rep code : Nat) (reissue : Bool) (i : Item) : List Word :=
  let fin := rep == 2 || rep == 3
  [w16 (rep + 16 * b2n reissue + 32 * b2n (i.dup && rep == 2) + 64 * b2n (i.single && rep == 0) + 128 * b2n i.replayed +
      256 * code),
    w16 (if i.partner then 32 * i.nb else i.session + 8 * i.ring + 32 * i.nb),
    w16 i.acc, w16 (i.acc / 2 ^ 16), w16 (i.acc / 2 ^ 32), w16 i.tag, w16 (i.tag / 65536),
    w16 (if fin then i.tries % 256 + 256 * (i.used % 256) else 0)]

/-- The final report of an item: PARTNER, DONE or FAILED (R237, R239). -/
def Item.final (reissue : Bool) (i : Item) : List Word :=
  if i.partner then i.report 4 0 reissue else
  match i.outcome with
  | some 0 => i.report 2 0 reissue
  | some c => i.report 3 c reissue
  | none => i.report 0 0 reissue

/-- Item `j` stands before item `i` in the order of R238. -/
def Item.before (j i : Item) : Bool :=
  decide (j.acc < i.acc) && (j.partner == i.partner) && (i.partner || (j.session == i.session && j.ring == i.ring))

/-- The item's final report may be released: it is resolved, and every earlier one has been (R238). -/
def Work.mayRelease (k : Work) (i : Item) : Bool :=
  !i.released && !i.waits && (i.partner || i.outcome.isSome) && !k.items.any (fun j => j.before i && !j.released)

/-- Change the item with accession number `acc`. -/
def Wing.modItem (acc : Nat) (f : Item → Item) (x : Wing) : Wing :=
  { x with wrk := { x.wrk with items := x.wrk.items.map (fun i => if i.acc = acc then f i else i) } }

/-- The final report of an item has been released. -/
def Item.mark (i : Item) : Item := { i with released := true }

/-- Final reports are released in order (R238). -/
def Wing.releaseReports (x : Wing) : Wing :=
  x.wrk.items.foldl (fun (y : Wing) i =>
    if y.wrk.mayRelease i then (y.modItem i.acc Item.mark).putReport (i.final false) else y) x

/-- The ITEM record of an accession number. -/
def Work.itemRec (k : Work) (acc : Nat) : Option JRec := k.newest (fun r => r.typ == 1 && r.fld 0 6 == acc)

/-- The transmit buffer of handle `h` (DESIGN CHOICE, log 23). -/
def txBuf (h : Nat) : Nat := 0x100000 + 0x80 * h

/-- The descriptor of an item on ring 10 (R236). -/
def itemDesc (i : Item) (r : JRec) (h : Nat) : List Word :=
  let a := txBuf h
  [w16 (i.nb % 1024 + 0x800 + 0x1000 * (r.fld 32 1 % 16)), w16 a, w16 (a / 65536 + 256 * r.fld 36 1),
    w16 (r.fld 37 2 % 2048 + 0x800 + 0x1000 * (r.fld 9 1 % 2)), w16 i.fc, w16 (i.fc / 65536), w16 (0x8000 + h), 0]

/-- Place one item on ring 10 when there is room and a free buffer (R236). -/
def Wing.placeItem (i : Item) (x : Wing) : Wing :=
  let used := x.wrk.items.filterMap (fun j => j.handle)
  match x.wrk.itemRec i.acc, (List.range 160).find? (fun h => !used.contains h) with
  | some r, some h =>
    if (x.ring 10).full then x else
    let y := x.putOctets (txBuf h) 0 (slice r.body 48 (r.fld 37 2))
    ((y.publish 10 false (itemDesc i r h)).2).modItem i.acc (fun j => { j with handle := some h })
  | _, _ => x

/-- Items that are to be on the air and are not on ring 10 are placed, in accession order (R234, R236, R241). -/
def Wing.placePump (x : Wing) : Wing :=
  x.wrk.items.foldl (fun (y : Wing) i =>
    if !i.partner && i.outcome.isNone && i.handle.isNone && !i.waits then y.placeItem i else y) x

/-- The item is accepted by the wing: placed on ring 10, and its ACCEPT report written (R234). -/
def Wing.acceptItem (acc : Nat) (x : Wing) : Wing :=
  let x := (x.modItem acc (fun i => { i with waits := false })).placePump
  match x.wrk.items.find? (fun i => i.acc == acc) with
  | none => x
  | some i => (x.bump 0 0x252001).putReport (i.report 0 0 false)

/-- A DONE record and the item's outcome (R229, R237). -/
def State.itemDone (w : Nat) (i : Item) (outcome ackStatus start : Nat) (s : State) : State :=
  let s := s.jWrite w 3 (natLe 6 i.acc ++ [o8 outcome, o8 i.tries, o8 i.used, o8 ackStatus] ++ natLe 6 start)
  let dup := outcome == 0 && ackStatus == 1
  let c : Nat := match outcome with | 0 => 3 | 1 => 5 | _ => 6
  s.modWing w (fun x =>
    (((x.modItem i.acc (fun j => { j with outcome := some outcome, dup := dup, handle := none, tries := i.tries,
                                          used := i.used, left := i.left })).bump 0 (0x252000 + c)).bumpIf dup 0
      0x252004).releaseReports)

/-- The Curator acts on the completion of an item (R237). -/
def State.itemEnd (w : Nat) (i : Item) (d : List Word) (s : State) : State :=
  let x := s.wing w
  let word := fun (k : Nat) => (d.getD k 0).toNat
  let result := word 0 % 16
  let i := { i with used := i.used + 1, left := i.left - 1, tries := i.tries + bits (word 0) 11 8, handle := none }
  let late := match i.deadline with | none => false | some t => decide (t < x.now)
  let start := word 2 + 2 ^ 16 * word 3 + 2 ^ 32 * word 4
  match result with
  | 0 => s.itemDone w i 0 (bits (word 5) 14 12) start
  | 2 =>
    if 0 < i.left && !late then s.modWing w (fun y => (y.modItem i.acc (fun _ => i)).placePump)
    else s.itemDone w i 1 0 start
  | _ => s.itemDone w i (if i.radiated then 1 else 2) 0 start

/-- ITEM_COMPLETION (R236, R237): the Curator takes the oldest completion it has not passed. One of an item is consumed;
any other is passed on to the port, which has no use for it: on ITEM_RING it is voided too (DESIGN CHOICE, log 22). While the flash takes no
pulse the Curator acts on none, since it could not journal what it does (R46, R57). -/
def execItemCompletion (w : WingId) (s : State) : Out :=
  let x := s.wing w
  .next (if !x.awake || x.fls.blocked then s else
  match x.lnk.complAt with
  | [] => s
  | (r, idx) :: rest =>
    let d := x.lds ((x.ring r).slot idx) 8
    let tag := d.getD 6 0
    let x := if tag.getLsbD 15 || r = x.itemRing then x.sts ((x.ring r).slot idx) (List.replicate 8 0xFFFF) else x
    let s := s.setWing w ({ x with lnk := { x.lnk with complAt := rest } }.passOwn r)
    if !tag.getLsbD 15 then s else
    match x.wrk.items.find? (fun i => i.handle == some (tag.toNat % 0x8000)) with
    | none => s
    | some i => (s.itemEnd w i d).modWing w Wing.placePump)

/-- The destination of a data frame is the record's address (R159, R223). -/
def Nb.isDst (m : Mac) (n : Nb) : Bool :=
  (m.dam == 3 && decide (m.dst = n.eui.toNat)) || (m.dam == 2 && decide (m.dst = n.short.toNat))

/-- The refusals of R223, in table order, for a descriptor and its frame. -/
def State.intakeCheck (w : Nat) (d : List Word) (frame : Octets) (s : State) : Option Nat :=
  let x := s.wing w
  let word := fun (k : Nat) => (d.getD k 0).toNat
  let n := x.nb (word 0 % 1024)
  let len := word 3 % 512
  let m := parseMac frame
  let fcOk := formatOk frame && m.typ == 1 && m.ar
  if len < 12 || 256 < len || !fcOk || (n.valid && !n.isDst m) then some 1
  else if !n.valid then some 2
  else if x.num 0x250101 512 ≤ x.wrk.items.length then some 3
  else if x.wrk.free < 768 + 4 + (len + 15) / 16 then some 4
  else if 2 ^ 48 - 1 ≤ x.wrk.next then some 5
  else if x.msh.keyEpoch = 0xFFFF && 0xFFFF0000 ≤ x.msh.txFc then some 6
  else if s.role w = .standby then some 7
  else none

/-- The body of an ITEM record (R229). -/
def itemBody (acc ring idx epoch fc attempts deadline : Nat) (eui : Eui) (d : List Word) (frame : Octets) : Octets :=
  let word := fun (k : Nat) => (d.getD k 0).toNat
  natLe 6 acc ++ [o8 (word 4 % 8), o8 (bits (word 4) 7 3), o8 ring, o8 (b2n (bit (word 3) 9))] ++ natLe 2 idx ++
    natLe 2 (word 5) ++ natLe 2 (word 6) ++ natLe 2 (word 0 % 1024) ++ natLe 8 eui.toNat ++ natLe 2 epoch ++ natLe 4 fc ++
    [o8 (word 0 / 4096), o8 attempts] ++ natLe 2 deadline ++ [o8 (word 2 / 256)] ++ natLe 2 (word 3 % 512) ++
    List.replicate 9 0xFF ++ frame

/-- The item that an ITEM record stands for, with all its attempts, and its whole deadline from time `now`, in superframes of `sf` ticks. -/
def itemOf (r : JRec) (now sf : Nat) : Item :=
  { acc := r.fld 0 6, partner := false, nb := r.fld 16 2, tag := r.fld 12 4, session := r.fld 6 1 % 8, cred := r.fld 7 1,
    ring := r.fld 8 1, epoch := r.fld 26 2, fc := r.fld 28 4, eui := BitVec.ofNat 64 (r.fld 18 8), left := r.fld 33 1,
    deadline := some (now + r.fld 34 2 * sf) }

/-- The superframe in ticks (R138). -/
def Wing.sfTicks (x : Wing) : Nat := us (x.slotUs * x.sfSlots)

/-- The intake ring that the Curator takes from next (R222). -/
def Wing.intakeRing (x : Wing) : Option Nat := (List.range 4).find? (fun r => 0 < (x.ring r).count)

/-- The frame of an intake descriptor (R221). -/
def Wing.intakeFrame (d : List Word) (x : Wing) : Octets :=
  let word := fun (k : Nat) => (d.getD k 0).toNat
  x.octets (word 1 + 65536 * (word 2 % 256)) 0 (word 3 % 512)

/-- Accept the descriptor `d` of ring `r`: bind, journal, and place or await SEALED (R224, R226, R234, R246). -/
def State.intakeAccept (w r epoch fc : Nat) (d : List Word) (frame : Octets) (s : State) : State :=
  let x := s.wing w
  let word := fun (k : Nat) => (d.getD k 0).toNat
  let acc := x.wrk.next
  let idx := (x.ring r).take.toNat
  let dual := decide (s.role w = .active) && decide (s.pairState w = .dual)
  let attempts := if word 4 / 256 = 0 then x.num 0x250102 4 else word 4 / 256
  let deadline := if word 7 = 0 then x.num 0x250103 64 else word 7
  let body := itemBody acc r idx epoch fc attempts deadline (x.nb (word 0 % 1024)).eui d frame
  let single := decide (s.role w ≠ .single) && !dual
  let s := s.modWing w (fun y => { y with wrk := { y.wrk with next := acc + 1 } })
  let s := if dual then
      s.relaySend w [[1, w16 r, w16 idx, w16 acc, w16 (acc / 2 ^ 16), w16 (acc / 2 ^ 32), w16 epoch, w16 fc,
        w16 (fc / 65536)]]
    else s
  let s := s.jWrite w 1 body
  let item := { itemOf { typ := 1, seq := 0, at_ := 0, body := body } x.now x.sfTicks with
                single := single, waits := dual }
  let s := s.modWing w (fun y => { y with wrk := { y.wrk with items := y.wrk.items ++ [item] } })
  if dual then s else s.modWing w (Wing.acceptItem acc)

/-- The REFUSE report of R223. -/
def refuseReport (code r : Nat) (d : List Word) : List Word :=
  let word := fun (k : Nat) => (d.getD k 0).toNat
  [w16 (1 + 256 * code), w16 (word 4 % 8 + 8 * r + 32 * (word 0 % 1024)), 0, 0, 0, d.getD 5 0, d.getD 6 0, 0]

/-- One descriptor of an intake ring is handled (R222 to R226, R234): while no counter can be bound, it waits. -/
def State.intake (w : Nat) (s : State) : State :=
  let x := s.wing w
  match x.intakeRing with
  | none => s
  | some r =>
    match x.ringHead r with
    | none => s
    | some d =>
      let frame := x.intakeFrame d
      match s.intakeCheck w d frame with
      | some c => s.modWing w (fun y => ((y.bump 0 0x25200A).putReport (refuseReport c r d)).coreTake r)
      | none =>
        match s.drawFc w with
        | (none, s) => s
        | (some (e, fc), s) => (s.intakeAccept w r e fc d frame).modWing w (Wing.coreTake r)

/-- The Curator takes intake descriptors: its token line permits it (R249), and its flash takes pulses (R46, R57). -/
def State.mayIntake (w : Nat) (s : State) : Bool := (s.wing w).awake && s.tokenOk w && !(s.wing w).fls.blocked

/-- One wing's item is retired: it is no longer held (R240). -/
def Item.retirable (first last : Nat) (i : Item) : Bool := i.released && decide (first ≤ i.acc) && decide (i.acc ≤ last)

/-- RETIRE's effect on a wing: COUNT and the lowest unretired accession number (R240). -/
def State.retire (w first last : Nat) (s : State) : Nat × Nat × State :=
  let gone := (s.wing w).wrk.items.filter (Item.retirable first last)
  let s := s.jWrite w 4 (natLe 6 first ++ natLe 6 last ++ natLe 4 gone.length)
  let s := s.modWing w (fun x =>
    iter gone.length (Wing.bump 0 0x252007)
      { x with wrk := { x.wrk with items := x.wrk.items.filter (fun i => !i.retirable first last) } })
  (gone.length, ((s.wing w).wrk.items.headD { acc := (s.wing w).wrk.next, partner := false, nb := 0, tag := 0 }).acc, s)

end Sys2Proof.Machine
end

