-- ==== Sys2Proof/Machine/Lineage.lean ====
section
/-! DEFINITION. The lineage of time (R199 to R207): adoption, jumps, the choice of the time parent, loss of the time source
and promotion, and the time contacts of R145. -/
namespace Sys2Proof.Machine
open Sys2Proof

/-- Lineage 1 is better than lineage 2 (R199). -/
def better (e1 r1 e2 r2 : Nat) : Bool := decide (e2 < e1) || (e1 == e2 && decide (r1 < r2))

/-- ROOT_MODE and ROOT_PRIORITY (R201). -/
def Wing.rootMode (x : Wing) : Nat := x.reg 0xFF9047 % 4
/-- ROOT_PRIORITY. -/
def Wing.rootPrio (x : Wing) : Nat := bits (x.reg 0xFF9047) 5 2

/-- ROOT_EUI (R201): by default the wing's own. -/
def State.rootEui (w : Nat) (s : State) : Nat := (s.wing w).num 0x242003 (Config.wingEui w).toNat

/-- The wing takes a lineage, journaled (R199). -/
def State.setLineage (w epoch root : Nat) (s : State) : State :=
  let x := s.wing w
  if x.msh.epoch = epoch && x.msh.root = root then s else
  ((s.modWing w (fun y => { y with msh := { y.msh with epoch := epoch, root := root } })).jEntry w 0x2421 1 4 epoch).jEntry
    w 0x2421 2 8 root

/-- The codes of `n:2301.03`. -/
def Sync.code : Sync → Nat | .searching => 0 | .synced => 1 | .root => 2 | .orphaned => 3

/-- The LINEAGE event (R542). -/
def Wing.lineageEvent (x : Wing) : Wing :=
  x.meshEvent 6 ([o8 x.lnk.sync.code, 0] ++ natLe 4 x.msh.epoch ++ natBe 8 x.msh.root)

/-- Set the sync state; the quiet limit is the ASN of becoming SYNCED or ROOT, from whatever state (R197). -/
def Wing.setSync (t : Sync) (x : Wing) : Wing :=
  let quiet := if (t = .synced || t = .root) && x.lnk.sync ≠ t then some x.lnk.asn else x.msh.quiet
  { x with lnk := { x.lnk with sync := t }, msh := { x.msh with quiet := quiet } }

/-- The anchor that the next slot boundary will find. -/
def Wing.nextAnchor (x : Wing) : Anchor :=
  match x.lnk.move with
  | some m => m
  | none => { asnRef := x.lnk.asnRef, tickRef := x.lnk.tickRef, first := x.lnk.asn + 1 }

/-- The wing under that anchor. -/
def Wing.underNext (x : Wing) : Wing :=
  let m := x.nextAnchor
  { x with lnk := { x.lnk with asnRef := m.asnRef, tickRef := m.tickRef } }

/-- Set the coming anchor. -/
def Wing.setMove (m : Anchor) (x : Wing) : Wing := { x with lnk := { x.lnk with move := some m } }

/-- A time contact with offset `o` ticks (R145): applied at the next slot boundary. -/
def Wing.timeContact (o : Int) (x : Wing) : Wing :=
  let big := decide ((us (x.reg 0xFF8010) : Int) < o.natAbs)
  let m := x.nextAnchor
  (({ x with msh := { x.msh with noTime := 0 } }.setMove { m with tickRef := m.tickRef + o }).lnkCountIf big 19).raiseIf
    big 53

/-- The coming ASN is raised by `j`; a slot already resolved is renumbered (R205, R207; DEDUCED, log 24). -/
def Wing.jump (j : Nat) (x : Wing) : Wing :=
  let m := x.nextAnchor
  let next := x.lnk.next.map (fun n => if n.asn = m.first then { n with asn := m.first + j } else n)
  { x with lnk := { x.lnk with next := next } }.setMove { m with asnRef := m.asnRef + j, first := m.first + j }

/-- The last slot that runs on the old grid: the one resolved, or the present one (R204). -/
def Wing.lastSlot (x : Wing) : Nat := match x.lnk.next with | some n => n.asn | none => x.lnk.asn

/-- The anchor of a beacon's grid (R146, R204): `start` is END_TS - D, `endT` END_TS, `asn` the beacon's. -/
def Wing.takeGrid (start endT asn : Nat) (x : Wing) : Wing :=
  let srch := decide (x.lnk.sync = .searching)
  let tick : Int := (start : Int) - x.txOffset
  let l : Int := x.slotTicks
  let ready : Int := (endT + us 2000 : Nat)
  let bound : Int := if srch then (endT : Int) + 1 else max (x.tS (x.lastSlot + 1)) ready
  let f : Nat := ((asn : Int) + -((tick - bound) / l)).toNat
  let raise := if srch then 0 else (asnDiff (x.lastSlot + 1) f).toNat
  x.setMove { asnRef := asn + raise, tickRef := tick, first := f + raise, adopt := true }

/-- Forget which neighbours share the lineage, but for `i` (R177, R204). -/
def Wing.lineageOnly (i : Nat) (x : Wing) : Wing :=
  { x with msh := { x.msh with nbs := x.msh.nbs.map (fun e => (e.1, { e.2 with lineage := e.1 == i })) } }

/-- A parent's cost (R200). -/
def Nb.cost (n : Nb) : Nat := n.rank + 256 + (255 - n.prr)

/-- The grid values of a beacon body are the wing's own, and its version is known (R138, R144). -/
def Wing.gridMatch (b : Octets) (x : Wing) : Bool :=
  bcn b 0 1 == 1 && bcn b 20 2 == x.slotUs && bcn b 22 2 == x.sfSlots && us (bcn b 24 2) == x.txOffset &&
    us (bcn b 26 2) == x.ackGap

/-- A beacon's sender becomes time parent, and its lineage the wing's (R203, R204). -/
def State.follow (w i : Nat) (b : Octets) (start endT : Nat) (s : State) : State :=
  let s := s.modWing w (Wing.takeGrid start endT (bcn b 1 5))
  let s := s.setLineage w (bcn b 6 4) (bcn b 10 8)
  s.modWing w (fun x =>
    let x := x.lineageOnly i
    let known := decide (i < 1024)
    let x := if x.lnk.parent = some i then x else { x with rx := { x.rx with refLast := [] } }
    { x with lnk := { x.lnk with parent := if known then some i else none }
             msh := { x.msh with interim := false, lost := 0, orphan := 0, noTime := 0,
                                 rank := if known then min 0xFFFE (x.nb i).cost else 0xFFFF } })

/-- The wing becomes a root at rank 0; a root holds REF error at 0 (R96). -/
def Wing.toRoot (interim : Bool) (x : Wing) : Wing :=
  ({ x with lnk := { x.lnk with parent := none }, rx := { x.rx with calRef := 0, refLast := [] }
            msh := { x.msh with interim := interim, rank := 0, lost := 0, orphan := 0 } }.setSync .root)

/-- A searching wing hears a beacon (R146, R203); a better lineage counts in this sync state too (R204). -/
def State.searchHear (w i : Nat) (b : Octets) (start endT : Nat) (s : State) : State :=
  let x := s.wing w
  let conf := decide (x.rootMode = 2)
  if !x.gridMatch b || bcn b 18 2 = 0xFFFF || x.lnk.move.isSome || (conf && bcn b 10 8 ≠ s.rootEui w) then s
  else
    let s := if better (bcn b 6 4) (bcn b 10 8) x.msh.epoch x.msh.root then s.modWing w (Wing.mshCount 17) else s
    let s := s.follow w i b start endT
    if conf then s.modWing w (fun y => { y with lnk := { y.lnk with parent := none }, msh := { y.msh with rank := 0 } })
    else s

/-- A wing with a grid hears a beacon of record `i` that passes its checks (R145, R204, R205, R207). -/
def State.lineageHear (w i : Nat) (b : Octets) (start endT : Nat) (s : State) : State :=
  let x := s.wing w
  let m := x.msh
  let e := bcn b 6 4
  let r := bcn b 10 8
  let asn := bcn b 1 5
  let slot := x.slotNear start
  let o : Int := (start : Int) - x.tNom slot
  let ahead := (asnDiff asn slot).toNat
  if !x.gridMatch b then s
  else if x.rootMode = 2 && x.lnk.sync = .root && r ≠ m.root && m.epoch ≤ e then
    let s := s.setLineage w (e + 1) m.root
    s.modWing w (fun y => (y.mshCount 22).jump ahead)
  else if x.rootMode = 2 && x.lnk.sync = .root && r = m.root && m.epoch < e then s.setLineage w e r
  else if better e r m.epoch m.root then
    let s := s.follow w i b start endT
    s.modWing w (fun y => ((y.setSync .synced).mshCount 17).lineageEvent)
  else if e = m.epoch && r = m.root then
    let near := decide (o.natAbs ≤ us (x.reg 0xFF8012))
    if 0 < ahead then (if near then s.modWing w (fun y => (y.jump ahead).mshCount 18) else s)
    else if asn % asnMod = slot % asnMod && x.lnk.parent = some i && x.lnk.sync ≠ .root then
      s.modWing w (Wing.timeContact o)
    else s
  else s

/-- What a beacon of record `i` means for the time, by the wing's sync state. -/
def State.beaconHear (w i : Nat) (b : Octets) (start endT : Nat) (s : State) : State :=
  if !(s.wing w).isRunning then s
  else if (s.wing w).lnk.sync = .searching then s.searchHear w i b start endT
  else s.lineageHear w i b start endT

/-- The candidates of R200. -/
def Wing.candidates (x : Wing) : List Nat :=
  (x.msh.nbs.filter (fun e => e.2.valid && e.2.beacons && e.2.lineage && decide (e.2.age ≤ 2) &&
    decide (e.2.rank < x.msh.rank))).map (fun e => e.1)

/-- The cheapest candidate, ties to the lower index (R200). -/
def Wing.cheapest (x : Wing) : Option Nat :=
  x.candidates.foldl (fun best i =>
    match best with
    | none => some i
    | some j => if (x.nb i).cost < (x.nb j).cost then some i else some j) none

/-- Take record `i` as time parent. -/
def Wing.setParent (i : Nat) (x : Wing) : Wing :=
  let x := if x.lnk.parent = some i then x
    else { x with lnk := { x.lnk with parent := some i }, rx := { x.rx with refLast := [] } }.mshCount 20
  { x with msh := { x.msh with rank := min 0xFFFE (x.nb i).cost } }

/-- The choice of the time parent (R200). -/
def Wing.chooseParent (x : Wing) : Wing :=
  match x.cheapest with
  | none => x
  | some c =>
    match x.lnk.parent with
    | none => x.setParent c
    | some p =>
      if !x.candidates.contains p then x.setParent c
      else if (x.nb c).cost + x.num 0x242005 256 ≤ (x.nb p).cost then x.setParent c else x.setParent p

/-- The wing loses its time source (R202). -/
def Wing.toOrphan (x : Wing) : Wing :=
  let x := { x with lnk := { x.lnk with parent := none, sync := .orphaned }
                    msh := { x.msh with rank := 0xFFFF, orphan := 0 } }
  ((x.mshCount 21).raise 57).lineageEvent

/-- Promotion of an ELIGIBLE wing in ORPHANED (R202). -/
def State.promote (w : Nat) (s : State) : State :=
  let x := s.wing w
  if x.lnk.sync = .orphaned && x.rootMode = 1 && 2 * (x.rootPrio - 1) ≤ x.msh.orphan then
    let s := s.setLineage w (x.msh.epoch + 1) (s.identity w).toNat
    s.modWing w (fun y => (y.lineageOnly 1024).toRoot true)
  else s

/-- A superframe boundary (R178, R200, R202). -/
def State.superframe (w : Nat) (s : State) : State :=
  let aged := fun (n : Nb) => { n with age := min 32767 (n.age + 1) }
  let s := s.modWing w (fun x =>
    { x with msh := { x.msh with noTime := sat16 x.msh.noTime,
                                 nbs := x.msh.nbs.map (fun e => (e.1, if e.2.valid then aged e.2 else e.2)) } })
  let x := s.wing w
  match x.lnk.sync with
  | .synced =>
    if x.candidates.isEmpty then
      let lost := x.msh.lost + 1
      let y := { x with msh := { x.msh with lost := lost } }
      if x.reg 0xFF9048 ≤ lost then (s.setWing w y.toOrphan).promote w else s.setWing w y
    else s.setWing w ({ x with msh := { x.msh with lost := 0 } }.chooseParent)
  | .orphaned =>
    if x.candidates.isEmpty then
      (s.setWing w { x with msh := { x.msh with orphan := x.msh.orphan + 1 } }).promote w
    else s.setWing w (({ x with msh := { x.msh with lost := 0, orphan := 0 } }.chooseParent).setSync .synced)
  | _ => s

/-- Journal ASN_HWM at the boundary of slot `a` (R203). -/
def State.hwm (w a : Nat) (s : State) : State :=
  let h := (s.wing w).msh.hwm
  let v := a / 4096 * 4096
  if h + 4096 ≤ v then
    (s.modWing w (fun x => { x with msh := { x.msh with hwm := v } })).jEntry w 0x2421 4 5 v
  else s

/-- Timed frames of the pending table whose target lies from `a` to `b` and that wait. -/
def Wing.timedIn (a b : Nat) (x : Wing) : Nat :=
  (x.lnk.table.filter (fun f => match f.at_ with | none => false | some t => asnPast t a && asnPast b t)).length

/-- ASNs `a` to `b` are skipped (R206). -/
def Wing.skipped (a b : Nat) (x : Wing) : Wing :=
  let n := b + 1 - a
  let x := { x with cnt16 := tmod 0 0xFF9063 (fun v => min (v + n) 0xFFFF) x.cnt16
                    cnt32 := tmod 0 0x244014 (fun v => (v + n) % 2 ^ 32) x.cnt32 }
  (x.meshEvent 1 (natLe 5 a ++ natLe 5 b ++ natLe 2 (x.timedIn a b))).raise 57

/-- The windows that still matter after tick `t`: open, or owed a contact. -/
def Wing.keepWins (x : Wing) : List Win := x.lnk.wins.filter (fun v => v.owed || decide (x.now ≤ v.hi + v.ext))

/-- The anchor as it stands once the ASN has wrapped past 2^40 - 1 (R136, R207): ASN 0 lies where slot `n` x 2^40 would. -/
def Wing.wrapAt (n : Nat) (x : Wing) : Wing :=
  if n = 0 then x else { x with lnk := { x.lnk with tickRef := x.tS (n * asnMod), asnRef := 0 }, msh := { x.msh with hwm := 0 } }

/-- Slot `a` begins under the anchor in force (R136, R137, R152). -/
def Wing.beginSlot (a : Nat) (x : Wing) : Wing :=
  let n := x.lnk.next
  let tx := match n with | some v => decide (v.purpose = .transmit) | none => false
  let wins := x.keepWins ++ (match n with | some v => v.wins | none => [])
  { x with lnk := { x.lnk with asn := a, slotStart := (x.tS a).toNat, txSlot := tx, wins := wins, next := none } }

/-- Records made while the wing had no grid take its first ASN as their last contact (R180). -/
def Wing.stampFirst (a : Nat) (x : Wing) : Wing :=
  { x with msh := { x.msh with nbs := x.msh.nbs.map (fun e =>
    (e.1, if e.2.valid && e.2.lastTime.isNone && decide (e.2.timing = .normal) && e.2.lastAsn = 0 then { e.2 with lastAsn := a }
      else e.2)) } }

/-- SLOT_BOUNDARY (R137, R145, R203 to R207). -/
def State.slotBoundary (w : Nat) (s : State) : State :=
  let x := s.wing w
  let m := x.nextAnchor
  let old : Bool := match x.lnk.next with
    | some n => decide (x.lnk.sync ≠ .searching) && m.adopt && decide (n.asn ≠ m.first)
    | none => false
  let a := if old then x.lnk.asn + 1 else m.first
  let y := if old then x else { x.underNext with lnk := { x.underNext.lnk with move := none } }
  let y := y.reach (y.tS a).toNat
  let srch := decide (x.lnk.sync = .searching)
  -- the wrap past 2^40 - 1 (R207)
  let wrap := decide (asnMod ≤ a)
  let y := y.wrapAt (a / asnMod)
  let b := a % asnMod
  let y := if !srch && x.lnk.asn + 1 < a then y.skipped (x.lnk.asn + 1) (a - 1) else y
  let y := y.beginSlot b
  let y := if srch then (y.setSync (if y.rootMode = 2 then .root else .synced)).stampFirst b else y
  let s := s.setWing w y
  let s := if wrap then (s.setLineage w (y.msh.epoch + 1) y.msh.root).jEntry w 0x2421 4 5 0 else s.hwm w b
  if b % y.sfSlots = 0 then s.superframe w else s

/-- SLOT_BOUNDARY (R137). -/
def execSlotBoundary (w : WingId) (s : State) : Out :=
  let x := s.wing w
  .next (if x.isRunning && bit (x.reg 0xFF8000) 0 && (x.lnk.sync ≠ .searching || x.lnk.move.isSome) then s.slotBoundary w
    else s)

/-- SEARCH_TIMEOUT (R203): no beacon has been accepted in the time of the wing's mode; an ELIGIBLE or CONFIGURED wing
becomes root of a new epoch, its first slot 2,000 us from now. -/
def execSearchTimeout (w : WingId) (s : State) : Out :=
  let x := s.wing w
  .next (if x.isRunning && x.lnk.sync = .searching && x.lnk.move.isNone && (x.rootMode = 1 || x.rootMode = 2) then
    let eui := if x.rootMode = 2 then s.rootEui w else (s.identity w).toNat
    let s := s.setLineage w (x.msh.epoch + 1) eui
    let a := x.msh.hwm + 4096
    s.modWing w (fun y =>
      ((({ y with lnk := { y.lnk with asn := a - 1 } }.setMove
        { asnRef := a, tickRef := (y.now + us 2000 : Nat), first := a }).lineageOnly 1024).toRoot
        (decide (x.rootMode = 1))).stampFirst (a % asnMod))
  else s)

end Sys2Proof.Machine
end

