-- ==== Sys2Proof/Machine/Checks.lean ====
section
/-! DEFINITION. The checks of received frames up to the sequence check (R159, R188, R190), contacts (R167, R170 to R172,
R178), the commit and roll-back of a frame (R165, R189), and its delivery (R160). -/
namespace Sys2Proof.Machine
open Sys2Proof

/-- ADMIT_MODE (R179). -/
def Wing.admitMode (x : Wing) : Nat := x.reg 0xFF9000 % 4

/-- The destination of a data frame is this wing or every wing (R159). -/
def State.isMine (w : Nat) (m : Mac) (s : State) : Bool :=
  (m.dam == 3 && decide (m.dst = (s.identity w).toNat)) ||
  (m.dam == 2 && (decide (m.dst = 0xFFFF) || (decide (m.dst < 0xFFFE) && decide (m.dst = (Config.wingShort w).toNat))))

/-- The key epoch that a key index stands for: E or E + 1 (R188). -/
def epochOf (e idx : Nat) : Option Nat :=
  if idx = keyIndex e then some e else if idx = keyIndex (e + 1) then some (e + 1) else none

/-- The class of a permitted frame at the Sequence check (R188); none fails. -/
def Nb.seqClass (group : Bool) (epoch fc : Nat) (n : Nb) : Option SeqClass :=
  let e := if group then n.bcEpoch else n.epoch
  let have_ := if group then n.bcFc else n.rxFc
  let empty := if group then n.bcEmpty else n.rxEmpty
  if 0xFFFF0000 ≤ fc then none
  else if epoch = e + 1 then some .new
  else if have_ < fc || (empty && have_ ≤ fc) then some .new
  else some .duplicate

/-- LINK_STATUS (R160). -/
def RxFrame.status (f : RxFrame) : Nat :=
  let ack : Nat := if !f.ar then 0 else if f.ack = some true then 1 else 2
  ack + 4 * b2n (f.mic == some true) + 8 * b2n f.inWin + 16 * f.kind + 64 * b2n f.recovery

/-- The receive ring of a frame (R160). -/
def RxFrame.ring (f : RxFrame) : Nat :=
  if f.kind ≠ 0 then 8 else if bits (f.desc.getD 2 0).toNat 10 9 = 2 then 6 else 7

/-- The frame's descriptor as delivered (R88, R160). -/
def RxFrame.descriptor (f : RxFrame) : List Word :=
  f.desc.take 7 ++ [w16 ((f.desc.getD 7 0).toNat % 256 + 256 * f.status)]

/-- The receive buffer of a frame. -/
def RxFrame.buf (f : RxFrame) : Nat := (f.desc.getD 0 0).toNat % 4096

/-- RSSI of a frame. -/
def RxFrame.rssi (f : RxFrame) : Int := toSigned 8 ((f.desc.getD 3 0).toNat % 256)

/-- FREQ_OFFSET of a frame. -/
def RxFrame.freq (f : RxFrame) : Int := toSigned 8 ((f.desc.getD 7 0).toNat % 256)

/-- The start of a frame: END_TS - D (R145). -/
def RxFrame.start (f : RxFrame) : Nat := f.endT - f.dur

/-- The frame's octets without its FCS. -/
def RxFrame.mac (f : RxFrame) : Octets := f.psdu

/-- Publish a frame on its ring; a full ring refuses it, and the buffer goes back (R160, R454). -/
def Wing.deliver (f : RxFrame) (x : Wing) : Wing :=
  match x.publish f.ring true f.descriptor with
  | (true, y) => y
  | (false, y) => y.bufReturn f.buf

/-- The frame is dropped: its buffer returns to the pool (R488). -/
def Wing.dropRx (f : RxFrame) (x : Wing) : Wing :=
  { x with lnk := { x.lnk with rx := x.lnk.rx.filter (fun g => g.id ≠ f.id) } }.bufReturn f.buf

/-- Put a frame's new state back. -/
def Wing.putRx (f : RxFrame) (x : Wing) : Wing :=
  { x with lnk := { x.lnk with rx := x.lnk.rx.map (fun g => if g.id = f.id then f else g) } }

/-- The frame with number `id` whose checks run. -/
def Wing.rxOf (id : Nat) (x : Wing) : Option RxFrame := x.lnk.rx.find? (fun f => f.id == id)

/-- Slots of ring `r` that frames under check have reserved (R454). -/
def Wing.reserved (r : Nat) (x : Wing) : Nat :=
  (x.lnk.rx.filter (fun f => f.ring == r && decide (f.cls = .new) && !f.noRoom)).length

/-- A slot of ring `r` can be reserved (R454). -/
def Wing.ringRoom (r : Nat) (x : Wing) : Bool := decide ((x.ring r).count + x.reserved r < (x.ring r).depth)

/-- The window of record `i` on channel `k` that a frame starting at `t` lies in (R166, R169). -/
def Wing.winAt (i k t : Nat) (x : Wing) : Option Win :=
  let mine := x.lnk.wins.filter (fun v => v.nb == some i && v.ch == k && decide (v.lo ≤ t) && decide (t ≤ v.hi))
  match mine.find? (fun v => !v.search) with
  | some v => some v
  | none => mine.head?

/-- A Key check fails (R159, R190). -/
def Nb.keyFail (idx : Nat) (n : Nb) : Nb :=
  if n.failIndex = idx then { n with keyFails := min 255 (n.keyFails + 1) }
  else { n with keyFails := 1, failIndex := idx }

/-- The frame is handed to admission: ring 8, KIND 3 (R160, R179). -/
def Wing.toAdmission (f : RxFrame) (x : Wing) : Wing := x.deliver { f with kind := 3, ar := false, mic := none }

/-- A unicast frame that passes becomes pending (R165). -/
def Nb.hold (fc : Nat) (n : Nb) : Nb := { n with pend := some fc }

/-- The Key and Sequence checks of a frame of record `i` (R159, R188, R190, R454); `may`: the wing may admit (R244). -/
def Wing.keySeq (may : Bool) (i : Nat) (m : Mac) (f : RxFrame) (x : Wing) : Wing :=
  let n := x.nb i
  let group := f.kind != 0
  let fail := fun (y : Wing) => (y.lnkCount 8).bufReturn f.buf
  if !auxOk m then fail x else
  match epochOf (if group then n.bcEpoch else n.epoch) m.key with
  | none =>
    if 4 ≤ n.keyFails && n.failIndex = m.key && x.admitMode = 1 && may then x.toAdmission f
    else fail (x.modNb i (Nb.keyFail m.key))
  | some e =>
    let x := x.modNb i (fun q => { q with keyFails := 0 })
    if !group && n.pend.isSome && decide (m.fc < 0xFFFF0000) then (x.lnkCount 11).bufReturn f.buf else
    match n.seqClass group e m.fc with
    | none => fail x
    | some c =>
      let f := { f with nb := i, cls := c, epoch := e, fc := m.fc }
      let room := decide (c = .duplicate) || x.ringRoom f.ring
      if !room && f.kind ≠ 2 then fail (x.ringRefuse f.ring) else
      let x := if room then x else x.ringRefuse f.ring
      let v := x.winAt i f.ch f.start
      let r := x.slotAt f.start
      let f := { f with
        noRoom := !room, slot := r, cell := v.map (fun u => u.cell),
        inWin := (match v with | none => false | some u => !u.search),
        predicted := (match v with | none => false | some u => u.predicted),
        recovery := decide (n.timing ≠ .normal),
        slip := x.slipOf i f.ch r (v.bind (fun u => if u.search then none else some u.cell)) }
      let x := if group then x else x.modNb i (Nb.hold m.fc)
      { x with lnk := { x.lnk with rx := x.lnk.rx ++ [f] } }

/-- The checks at the end of the MAC header and of the auxiliary header (R159). -/
def State.headerChecks (w : Nat) (f : RxFrame) (s : State) : State :=
  let x := s.wing w
  let p := f.mac
  let m := parseMac p
  let drop := fun (c : Nat) => s.setWing w ((x.lnkCount c).bufReturn f.buf)
  if !formatOk p then drop 9
  else if m.typ ≠ 0 && !s.isMine w m then drop 10
  else
    let kind : Nat := if m.typ = 0 then 2 else if m.dam = 2 && m.dst = 0xFFFF then 1 else 0
    let f := { f with kind := kind, ar := m.ar && kind == 0 }
    match x.msh.find m.sam m.src with
    | some i => s.setWing w (x.keySeq (decide (s.role w ≠ .standby)) i m f)
    | none =>
      if x.admitMode != 0 && s.role w ≠ .standby then s.setWing w (x.toAdmission f) else s.setWing w (x.bufReturn f.buf)

/-- END_TS on the wing's 64-bit time (R90): the SFD detection tick less the path delay of the band and profile, plus the nominal duration of
the PHR and of `len` octets of PSDU. -/
def Wing.endTs (l : RLane) (mcs len : Nat) (x : Wing) : Nat :=
  let q := x.rx.live
  l.sfd - Config.pathDelay x.band (q.profWord l.prof 0) + q.bodyTicks l.prof l.coded mcs len

/-- FRAME_END (R88 to R90, R92, R159). A standby delivers no frame (R244). -/
def State.frameEnd (w lane : Nat) (psdu : Octets) (fcsOk fcs4 : Bool) (mcs freq snr : Nat) (s : State) : State :=
  let x := s.wing w
  let l := x.rlane lane
  match l.buf with
  | none => s
  | some b =>
    let len := psdu.length
    let endT := x.endTs l mcs len
    let t := endT % lapTicks
    let desc : List Word := [w16 (b + 4096 * lane),
      w16 (len + 2048 * l.prof + 16384 * b2n l.ovl + 32768 * b2n fcsOk),
      w16 (l.ch + 512 * l.prio + 2048 * b2n l.merged + 4096 * b2n l.coded + 8192 * b2n l.preempted),
      w16 (ofSigned 8 l.rssi + 256 * snr), w16 t, w16 (t / 2 ^ 16), w16 (t / 2 ^ 32), w16 freq]
    let x := (x.putOctets (x.bufAddr b) 0 psdu).setLane lane {}
    if !fcsOk then
      let x := x.rxCount 4
      s.setWing w (if bit (x.reg 0xFF6000) 6 && s.role w ≠ .standby then
        (match x.publish 9 true desc with | (true, y) => y | (false, y) => y.bufReturn b)
      else x.bufReturn b)
    else
      let p := psdu.take (len - (if fcs4 then 4 else 2))
      let f : RxFrame := { id := x.lnk.seq, desc := desc, psdu := p, kind := 0, nb := 0, cls := .new, epoch := 0, fc := 0,
                           ar := false, endT := endT, dur := x.rx.live.frameTicks l.prof l.coded mcs len,
                           ch := l.ch, prof := l.prof, coded := l.coded }
      let x := { x with lnk := { x.lnk with seq := (x.lnk.seq + 1) % 65536 } }
      if l.ackWin && formatOk p && (parseMac p).typ = 2 && x.lnk.own.isSome && x.lnk.ackIn.isNone then
        s.setWing w { x with lnk := { x.lnk with ackIn := some f } }
      else (s.setWing w x).headerChecks w f

/-- FRAME_END (R88): the last PSDU symbol ends; the PSDU, its FCS outcome, the MCS of an OFDM frame, and the measured
frequency offset and SNR come from the air. -/
def execFrameEnd (w : WingId) (lane : Fin 16) (psdu : Octets) (fcsOk fcs4 : Bool) (mcs : BitVec 3) (freq snr : Octet)
    (dt : Nat) (s : State) : Out :=
  let x := (s.wing w).advance dt
  let l := x.rlane lane
  .next (if l.state = .receiving && psdu.length = l.len && x.listening then
    (s.setWing w x).frameEnd w lane psdu fcsOk fcs4 mcs.toNat freq.toNat snr.toNat
  else s)

/-- RSSI_AVG and MISSES on a contact (R167, R178). -/
def Nb.meet (rssi : Int) (n : Nb) : Nb := { n with rssi := n.rssi + (rssi - n.rssi).tdiv 8, misses := 0 }

/-- The timing of a contact in slot `r` that starts at `t` with clock error `e` ticks: a NORMAL record takes the error, any other
learns its drift (R167, R170, R172). -/
def Nb.learn (limit r t : Nat) (e : Int) (n : Nb) : Nb :=
  let n' := { n with lastAsn := r % asnMod, offset := e, lastTime := some t }
  if n.timing = .normal then n'
  else if n.recov = 0 then { n' with recov := 1 }
  else
    let t1 := n.lastTime.getD t
    let meas : Int := if t ≤ t1 then n.drift else ((e - n.offset) * 10 ^ 8).tdiv ((t - t1 : Nat) : Int)
    if limit < meas.natAbs then { n' with recov := 1 }
    else if !n.driftValid && n.recov = 1 then { n' with drift := meas, recov := 2 }
    else { n' with drift := n.drift + (meas - n.drift).tdiv 4, recov := 2 }

/-- A frame of record `f.nb` that passes every check is a contact (R167); its window owes none any more. A searching wing has no slots, so
that its contacts have no slot and no error until a beacon has set its anchor: that beacon starts at the nominal start of the ASN it carries
(DEDUCED, log 38). -/
def Wing.contact (f : RxFrame) (x : Wing) : Wing :=
  let start := f.start
  let e : Int := f.slip * x.slotTicks + x.txOffset - ((start : Int) - x.tS f.slot)
  let wins := x.lnk.wins.map (fun (v : Win) =>
    if v.nb = some f.nb && v.lo ≤ start && start ≤ v.hi then { v with owed := false } else v)
  { x with lnk := { x.lnk with wins := wins } }.modNb f.nb
    (fun n => if x.lnk.sync = Sync.searching then n.meet f.rssi else (n.meet f.rssi).learn (x.reg 0xFF8015) f.slot start e)

/-- A full contact (R171). -/
def Wing.fullContact (i : Nat) (x : Wing) : Wing :=
  if (x.nb i).timing = .normal then x
  else ((x.modNb i (fun n => { n with timing := .normal, driftValid := true, recov := 0 })).lnkCount 14).raise 55

/-- The commit of a unicast frame (R165, R189). -/
def Nb.commitUni (f : RxFrame) (n : Nb) : Nb :=
  if f.cls = .new then { n with pend := none, rxFc := f.fc, rxEmpty := false, epoch := f.epoch } else { n with pend := none }

/-- The commit of a group-key frame (R189): one that was under the epoch before the record's present one changes nothing (DEDUCED, log 40). -/
def Nb.commitGroup (f : RxFrame) (n : Nb) : Nb :=
  if f.epoch < n.bcEpoch then n else { n with bcFc := f.fc, bcEmpty := false, bcEpoch := f.epoch }

/-- Commit a frame's sequence, counting an epoch advance (R165, R189). -/
def Wing.commitSeq (f : RxFrame) (x : Wing) : Wing :=
  let n := x.nb f.nb
  let up := decide (f.cls = .new) && decide ((if f.kind = 0 then n.epoch else n.bcEpoch) < f.epoch)
  let x := if up then x.mshCount 6 else x
  x.modNb f.nb (if f.kind = 0 then Nb.commitUni f else Nb.commitGroup f)

/-- The acknowledgement of frame `id` has been asked for, and nothing has cut it yet. -/
def Wing.ackOut (id : Nat) (x : Wing) : Bool :=
  x.tx.reqs.any (fun q => decide (q.what = .ack id)) ||
  (match x.tx.run with | some r => decide (r.req.what = .ack id) && !r.aborted | none => false) ||
  (match x.tx.next with | some r => decide (r.req.what = .ack id) | none => false)

/-- The acknowledgement of frame `id` is aborted (R116, R164). -/
def State.ackAbort (w id : Nat) (s : State) : State :=
  let p := fun (q : TxReq) => decide (q.what = .ack id)
  let x := s.wing w
  let cap := match x.tx.run with | some r => r.req.start + r.req.abortTo.getD r.dur | none => 0
  if x.tx.reqs.any p then s.setWing w (x.txWithdraw p) else (s.freeTime w cap).txAbort w p

/-- A check of a frame fails: its acknowledgement is aborted, its sequence rolled back, and it is dropped (R164, R165). -/
def State.failRx (w : Nat) (f : RxFrame) (count : Nat → Wing → Wing) (s : State) : State :=
  let out := (s.wing w).ackOut f.id
  let s := if out then (s.ackAbort w f.id).modWing w (Wing.lnkCount 2) else s
  s.modWing w (fun x =>
    let x := if f.kind = 0 then x.modNb f.nb (fun n => { n with pend := none }) else x
    (count 8 x).dropRx f)

/-- The acknowledgement's outcome is known: none was asked for, it was sent, or it will not be (R164). -/
def RxFrame.ackKnown (f : RxFrame) : Bool := !f.ar || f.noAck || f.ack == some true

/-- Every check of the frame has passed (R164). -/
def RxFrame.passed (f : RxFrame) : Bool := f.mic == some true && (f.jrn == some true || f.cls == .duplicate)

/-- A partner item whose acknowledgement has been sent in full is accepted (R220). -/
def Wing.partnerAck (f : RxFrame) (x : Wing) : Wing :=
  if f.ack ≠ some true then x else
  match x.wrk.items.find? (fun i => i.partner && i.nb == f.nb && i.epoch == f.epoch && i.tag == f.fc && !i.acked) with
  | none => x
  | some i => (x.modItem i.acc (fun j => { j with acked := true })).bump 0 0x252002

/-- A unicast frame whose checks have passed and whose acknowledgement is known: delivered if NEW (R159, R160, R171). -/
def Wing.finishRx (f : RxFrame) (x : Wing) : Wing :=
  let x := x.partnerAck f
  let x := if f.predicted && f.ack = some true then x.fullContact f.nb else x
  let y := { x with lnk := { x.lnk with rx := x.lnk.rx.filter (fun g => g.id ≠ f.id) } }
  if f.cls = .new then (y.lnkCount 6).deliver f else (y.lnkCount 7).bufReturn f.buf

/-- Frames whose outcome has become known are finished, oldest first. -/
def Wing.rxSweep (x : Wing) : Wing :=
  x.lnk.rx.foldl (fun (y : Wing) f => if f.kind = 0 && f.passed && f.ackKnown then y.finishRx f else y) x

end Sys2Proof.Machine
end

