-- ==== Sys2Proof/Machine/Receive.lean ====
section
/-! DEFINITION. The MIC and Journal checks and what they commit (R159 to R165, R235), beacons (R145, R178), floods (R191 to
R197), orders that arrive (R208 to R210), the run-ahead acknowledgement (R161 to R164), and the acknowledgements of the
wing's own frames (R156, R158). -/
namespace Sys2Proof.Machine
open Sys2Proof

/-- The flood header and what follows it (R191, R208). -/
structure Flood where
  /-- VERSION_CLASS [3:0]. -/
  version : Nat
  /-- CLASS. -/
  cls : Nat
  /-- TTL. -/
  ttl : Nat
  /-- HOPS. -/
  hops : Nat
  /-- ORIGINATOR and FLOOD_SEQ. -/
  key : Nat × Nat
  /-- ORIGIN_ASN. -/
  asn : Nat
  /-- The 21 octets. -/
  header : Octets
  /-- What follows. -/
  body : Octets
  deriving DecidableEq, Repr

/-- Read the flood header of a payload. -/
def floodOf (p : Octets) : Flood :=
  { version := (p.getD 0 0).toNat % 16, cls := (p.getD 0 0).toNat / 16, ttl := (p.getD 1 0).toNat,
    hops := (p.getD 2 0).toNat, key := (leNat (slice p 4 8), leNat (slice p 12 4)), asn := leNat (slice p 16 5),
    header := p.take 21, body := p.drop 21 }

/-- CACHE_LIFE_SF in slots (R196). -/
def Wing.cacheLife (x : Wing) : Nat := x.reg 0xFF9035 * x.sfSlots

/-- The entries of the cache that have not expired (R196). -/
def Wing.cacheLive (x : Wing) : List (Nat × Nat × Nat) :=
  x.msh.cache.filter (fun e => decide (asnDiff x.lnk.asn (e.2.2 + x.cacheLife) < 0))

/-- Enter a flood in the cache, in a free or expired entry; where there is none nothing is overwritten (R196). -/
def Wing.cachePut (key : Nat × Nat) (asn : Nat) (x : Wing) : Wing :=
  if 4096 ≤ x.cacheLive.length then x
  else { x with msh := { x.msh with cache := x.cacheLive ++ [(key.1, key.2, asn)] } }

/-- The key of a flood is in the cache. -/
def Wing.cached (key : Nat × Nat) (x : Wing) : Bool := x.cacheLive.any (fun e => e.1 == key.1 && e.2.1 == key.2)

/-- Step 3 of R194: the flood is stale or lies before the quiet limit (R197). -/
def Wing.floodStale (asn : Nat) (x : Wing) : Bool :=
  let d := asnDiff x.lnk.asn asn
  let quiet := match x.msh.quiet with
    | none => false
    | some q => decide (asnDiff x.lnk.asn q ≤ x.cacheLife) && decide (asnDiff asn q < 0)
  decide ((x.cacheLife : Int) < d) || decide (d < -(x.sfSlots : Int)) || quiet

/-- A copy of the flood counts towards suppression; enough copies cancel an unsent relay (R195). -/
def Wing.floodCopy (key : Nat × Nat) (x : Wing) : Wing :=
  let lim := bits (x.reg 0xFF9034) 7 4
  let hitT := fun (f : PendTx) => f.ring == 2 && f.key == some key
  let hitR := fun (r : Relay) => r.key == key && !r.gone
  let cancel := fun (n : Nat) => lim != 0 && decide (lim ≤ n + 1)
  let inAir := match x.tx.run with | some r => (match r.req.what with | .data id => some id | _ => none) | none => none
  let t := x.lnk.table.filterMap (fun f =>
    if hitT f && inAir != some f.id then (if cancel f.copies then none else some { f with copies := f.copies + 1 })
    else some f)
  let r := x.lnk.relays.map (fun (q : Relay) => if hitR q then { q with copies := q.copies + 1, gone := cancel q.copies } else q)
  let n := (x.lnk.table.length - t.length) + ((r.filter (fun q => q.gone)).length - (x.lnk.relays.filter (fun q => q.gone)).length)
  let ids := t.map (fun f => f.id)
  let y := { x with lnk := { x.lnk with table := t, relays := r } }.txWithdraw (fun q =>
    match q.what with | .data id => !ids.contains id | _ => false)
  iter n (Wing.mshCount 12) y

/-- The MAC header of a frame of this wing, up to the auxiliary security header: to record `n`, or to every wing (R141). -/
def macHeader (short : Nat) (eui : Nat) (ar : Bool) (n : Option Nb) : Octets :=
  let sam : Nat := if short < 0xFFFE then 2 else 3
  let src := if sam = 2 then natLe 2 short else natLe 8 eui
  let pan := natLe 2 Config.panId.toNat
  match n with
  | none => natLe 2 (0x2149 + 0x800 + 0x4000 * sam) ++ pan ++ natLe 2 0xFFFF ++ src
  | some q =>
    let fc := 0x2149 + 0xC00 + 0x4000 * sam + 32 * b2n ar
    if sam = 3 then natLe 2 fc ++ natLe 8 q.eui.toNat ++ src
    else natLe 2 fc ++ pan ++ natLe 8 q.eui.toNat ++ src

/-- A data frame of this wing in clear, with room for the auxiliary header (R154). -/
def State.dataFrame (w : Nat) (ar : Bool) (n : Option Nb) (payload : Octets) (s : State) : Octets :=
  macHeader (Config.wingShort w).toNat (s.identity w).toNat ar n ++ zeros 6 ++ payload

/-- Ring 12 or the pending table holds an unsent relay (R195). -/
def Wing.relayPending (x : Wing) : Bool := x.lnk.relays.any (fun r => !r.gone) || x.lnk.table.any (fun f => f.ring == 2)

/-- A flood is relayed: a copy on ring 12 (R195). -/
def State.floodRelay (w : Nat) (f : Flood) (s : State) : State :=
  let x := s.wing w
  let (v, t) := s.draw
  let payload := f.header.take 1 ++ [o8 (f.ttl - 1), o8 (f.hops + 1)] ++ f.header.drop 3 ++ f.body
  let clear := s.dataFrame w false none payload
  let r : Relay := { pos := (x.ring 12).put, key := f.key, skip := v.toNat % (x.reg 0xFF9034 % 16 + 1), clear := clear }
  match x.publish 12 false [w16 0x400, 0, 0, w16 (clear.length % 2048), 0, 0, 0, 0] with
  | (false, y) => s.setWing w (y.mshCount 13)
  | (true, y) => t.setWing w ({ y with lnk := { y.lnk with relays := y.lnk.relays ++ [r] } }.mshCount 11)

/-- The order body of a flood (R208). -/
def orderOf (f : Flood) : Order :=
  { orig := f.key.1, seq := f.key.2, cls := f.cls, asn := leNat (slice f.body 0 5), oid := leNat (slice f.body 5 2),
    action := (f.body.getD 7 0).toNat, param := (f.body.getD 8 0).toNat }

/-- The order is one to be executed: a RESET of any ACTION but RESYNC and RESTART is not (R212). -/
def Order.acts (o : Order) : Bool := o.cls != 2 || o.action == 1 || o.action == 2

/-- The body of an ORDER record (R229). -/
def Order.body (epoch : Nat) (o : Order) : Octets :=
  natLe 8 o.orig ++ natLe 4 o.seq ++ [o8 o.cls] ++ natLe 5 o.asn ++ natLe 2 o.oid ++ [o8 o.action, o8 o.param] ++
    natLe 4 epoch ++ List.replicate 6 0xFF

/-- A wing holds an order that has arrived (R209, R210). -/
def State.holdOrder (w : Nat) (o : Order) (s : State) : State :=
  let x := s.wing w
  if 16 ≤ x.msh.orders.length then s.modWing w (Wing.mshCount 15)
  else (s.jWrite w 0xC (o.body x.msh.epoch)).modWing w (fun y =>
    { y with msh := { y.msh with orders := y.msh.orders ++ [{ o with late := asnPast x.lnk.asn o.asn }] } })

/-- AUTH of an order verifies under the order key of the wing's lineage (R208). -/
def Wing.orderAuthOk (f : Flood) (x : Wing) : Bool :=
  match x.cph.root with
  | none => false
  | some k => decide (25 ≤ f.body.length) &&
      decide (orderAuth k x.msh.epoch x.msh.root f.header f.body = slice f.body 9 16)

/-- A NEW broadcast frame that has passed every check of R159, in the steps of R194; `g` is the frame, `p` its payload. -/
def State.floodHear (w : Nat) (g : RxFrame) (p : Octets) (s : State) : State :=
  let x := s.wing w
  let f := floodOf p
  let mine := decide (f.key.1 = (s.identity w).toNat)
  let order := decide (1 ≤ f.cls) && decide (f.cls ≤ 3)
  let drop := fun (c : Nat) (y : Wing) => s.setWing w ((y.mshCount c).bufReturn g.buf)
  if p.length < 21 || f.version ≠ 1 || 5 ≤ f.cls then s.setWing w (x.deliver g)
  else if f.ttl = 0 then drop 9 x
  else if x.floodStale f.asn then drop 9 x
  else if mine || x.cached f.key then drop 8 (x.floodCopy f.key)
  else if 4096 ≤ x.cacheLive.length then drop 10 x
  else
    let x := x.cachePut f.key f.asn
    if order && !x.orderAuthOk f then drop 14 x
    else
      let s := s.setWing w ((x.mshCount 7).deliver g)
      let s := if order && (orderOf f).acts then s.holdOrder w (orderOf f) else s
      if bit (x.reg 0xFF9000) 2 && 2 ≤ f.ttl then s.floodRelay w f else s

/-- The wing's quality fields on a beacon that passes its checks (R178), and where it lies in the superframe (R143). -/
def Wing.beaconNote (f : RxFrame) (x : Wing) : Wing :=
  let b := beaconOf f.mac
  let asn := bcn b 1 5
  let same := bcn b 6 4 == x.msh.epoch && bcn b 10 8 == x.msh.root
  let len := x.hopLen
  let off := (List.range len).find? (fun c => tget 0 x.lnk.hop ((asn + c) % len) == f.ch)
  let sf := max 1 x.sfSlots
  x.modNb f.nb (fun n => { n with
    age := 0, beacons := true, rank := bcn b 18 2, lineage := same,
    beaconAt := (match off with | some c => some (asn % sf, c) | none => n.beaconAt) })

/-- The carrier error against the time parent, from its last 16 beacons (R96). -/
def Wing.refNote (f : RxFrame) (x : Wing) : Wing :=
  if x.lnk.parent ≠ some f.nb then x else
  let l := (f.freq :: x.rx.refLast).take 16
  let mean := (l.foldl (· + ·) 0 * 25).tdiv (l.length : Int)
  { x with rx := { x.rx with refLast := l, calRef := mean } }

/-- The beacon by which a searching wing has set its anchor is a contact in the slot that it names, with no error (R146, R167). -/
def Wing.firstContact (srch : Bool) (f : RxFrame) (x : Wing) : Wing :=
  if srch && x.lnk.move.isSome then
    x.modNb f.nb (fun n => n.learn (x.reg 0xFF8015) (bcn (beaconOf f.mac) 1 5) f.start 0)
  else x

/-- What a NEW beacon that passes its checks tells of its sender and of the time (R96, R145, R167, R178). -/
def State.beaconTime (w : Nat) (f : RxFrame) (s : State) : State :=
  let srch := decide ((s.wing w).lnk.sync = .searching) && (s.wing w).lnk.move.isNone
  let s := s.modWing w (fun x => ((x.contact f).beaconNote f).refNote f)
  (s.beaconHear w f.nb (beaconOf f.mac) f.start f.endT).modWing w (Wing.firstContact srch f)

/-- A NEW beacon that passes its checks. -/
def State.beaconDone (w : Nat) (f : RxFrame) (s : State) : State :=
  let s := (s.modWing w (fun x => x.commitSeq f)).beaconTime w f
  s.modWing w (fun x =>
    let f := { f with mic := some true }
    let y := { x with lnk := { x.lnk with rx := x.lnk.rx.filter (fun g => g.id ≠ f.id) } }
    if f.noRoom then y.bufReturn f.buf else y.deliver f)

/-- The key of a frame of record `n` (R142, R473). -/
def State.rxKey (w : Nat) (f : RxFrame) (s : State) : Option Octets × State :=
  let n := (s.wing w).nb f.nb
  let label := if f.kind = 0 then pairLabel f.epoch n.eui.toNat (s.identity w).toNat else groupLabel f.epoch n.eui.toNat
  let (k, x) := (s.wing w).keyOf label
  (k, s.setWing w x)

/-- The outcome of the MIC check: the payload when it verifies (R142, R476). -/
def RxFrame.openWith (k : Octets) (eui : Nat) (f : RxFrame) : Option Octets :=
  if f.kind = 2 then (if checkFrame k eui f.fc f.mac then some [] else none) else openData k eui f.mac

/-- The body of a PARTNER record (R229). -/
def partnerBody (acc : Nat) (eui : Eui) (f : RxFrame) (p : Octets) : Octets :=
  natLe 6 acc ++ natLe 2 f.nb ++ natLe 8 eui.toNat ++ natLe 2 f.epoch ++ natLe 4 f.fc ++
    [o8 f.ring, o8 (b2n (bit (f.desc.getD 1 0).toNat 14) + 2 * b2n f.recovery)] ++ natLe 6 (f.endT % lapTicks) ++
    natLe 2 p.length ++ p

/-- The Journal check of a partner frame starts: its PARTNER record is written, or the check fails: the journal is too full (R232, R235), the
flash takes no pulse (R46, R57), or no accession number is left (R224: DEDUCED, log 16). -/
def State.partnerStart (w : Nat) (f : RxFrame) (p : Octets) (s : State) : State :=
  let x := s.wing w
  let acc := x.wrk.next
  if x.fls.blocked || 2 ^ 48 - 1 ≤ acc then s.failRx w f (fun _ => id)
  else if x.wrk.free < 256 + 3 + (p.length + 15) / 16 then s.failRx w f (fun _ => Wing.bump 0 0x25200D) else
  let item : Item :=
    { acc := acc, partner := true, nb := f.nb, tag := f.fc, epoch := f.epoch, fc := f.fc, eui := (x.nb f.nb).eui, waits := true }
  let s := s.modWing w (fun y => { y with wrk := { y.wrk with next := acc + 1 } })
  let s := s.jWrite w 2 (partnerBody acc (x.nb f.nb).eui f p)
  s.modWing w (fun y =>
    { y with wrk := { y.wrk with items := y.wrk.items ++ [item] } }.putRx { f with mic := some true, acc := acc })

/-- MIC_CHECK_DONE (R164, R165) of frame `f`. -/
def State.micDone (w : Nat) (f : RxFrame) (s : State) : State :=
  let n := (s.wing w).nb f.nb
  match s.rxKey w f with
  | (none, s) => s.failRx w f Wing.lnkCount
  | (some k, s) =>
    match f.openWith k n.eui.toNat with
    | none =>
      let m := parseMac f.mac
      let off := m.hdr + m.aux
      let s := if f.kind = 2 then s else s.modWing w (fun x =>
        x.putOctets (x.bufAddr f.buf) off (zeros (f.mac.length - off - 4)))
      s.failRx w f Wing.lnkCount
    | some p =>
      let m := parseMac f.mac
      let s := if f.kind = 2 then s else s.modWing w (fun x => x.putOctets (x.bufAddr f.buf) (m.hdr + m.aux) p)
      let g := { f with mic := some true }
      if s.role w = .standby then
        let s := if f.kind = 2 && f.cls = .new then s.beaconTime w g
          else if f.cls = .new then s.modWing w (Wing.contact g) else s
        s.modWing w (fun x => (if f.kind = 0 then x.modNb f.nb (fun q => { q with pend := none }) else x).dropRx f)
      else match f.kind, f.cls with
      | 0, .new => s.partnerStart w g p
      | 0, .duplicate =>
        s.modWing w (fun x => ((((x.putRx g).commitSeq g).contact g).rxSweep))
      | 2, .new => s.beaconDone w g
      | _, .new =>
        let s := s.modWing w (fun x =>
          let y := ((x.commitSeq g).contact g).lnkCount 6
          { y with lnk := { y.lnk with rx := y.lnk.rx.filter (fun q => q.id ≠ f.id) } })
        s.floodHear w g p
      | k, .duplicate => s.modWing w (fun x => (x.lnkCountIf (k == 1) 7).dropRx f)

/-- MIC_CHECK_DONE (R164). -/
def execMicCheckDone (w : WingId) (id : Word) (s : State) : Out :=
  .next (match (s.wing w).rxOf id.toNat with
  | none => s
  | some f => if f.mic.isNone then s.micDone w f else s)

/-- The Journal check of frame `f` passes: its sequence is committed and its report may be released (R164, R165, R235). -/
def Wing.partnerDone (f : RxFrame) (x : Wing) : Wing :=
  let f := { f with jrn := some true }
  let y := ((x.putRx f).commitSeq f).contact f
  ((y.modItem f.acc (fun i => { i with waits := false })).releaseReports).rxSweep

/-- JOURNAL_CHECK_DONE (R164, R235): the record is journaled, and sealed by the twin where one must. -/
def execJournalCheckDone (w : WingId) (id : Word) (s : State) : Out :=
  let x := s.wing w
  .next (match x.rxOf id.toNat with
  | none => s
  | some f =>
    if f.kind = 0 && f.cls = .new && f.mic = some true && f.jrn.isNone && !x.wrk.sealWait.contains (2, f.acc) then
      s.setWing w (x.partnerDone f)
    else s)

/-- The transmit request of an acknowledgement (R161). -/
def Wing.ackReq (f : RxFrame) (psdu : Octets) (x : Wing) : TxReq :=
  { what := .ack f.id, start := f.endT + x.ackGap, ch := f.ch, prof := f.prof, coded := f.coded, mcs := x.lowMcs f.prof,
    power := toSigned 8 (x.reg 0xFF801E), ret := 0, yield := false, abortTo := some (x.rx.live.preTicks f.prof - us 1),
    fcs4 := false, whiten := true, len := 13, psdu := psdu }

/-- The ticks on air of a request. -/
def Wing.reqTicks (q : TxReq) (x : Wing) : Nat := x.rx.live.frameTicks q.prof q.coded q.mcs q.len

/-- Two requests that the radio cannot carry both (R114, R162). -/
def Wing.clash (a b : TxReq) (x : Wing) : Bool :=
  decide (a.start < b.start + x.reqTicks b + x.tRamp + x.tLead) && decide (b.start < a.start + x.reqTicks a + x.tRamp + x.tLead)

/-- The acknowledgement conflicts with a transmission or with the slot's tail (R140, R162). -/
def Wing.ackConflict (q : TxReq) (x : Wing) : Bool :=
  let a := x.slotAt q.start
  let tail := decide (x.tS (a + 1) - x.slotTail < (q.start + x.reqTicks q + x.tRamp : Nat))
  let others := x.tx.reqs ++ (match x.tx.run with | some r => [r.req] | none => []) ++
    (match x.tx.next with | some r => [r.req] | none => [])
  x.tx.test || x.rx.calRun.isSome || tail || others.any (fun o => x.clash q o)

/-- The signed acknowledgement of frame `f` (R142, R161). -/
def State.ackPsdu (w : Nat) (f : RxFrame) (s : State) : Option Octets × State :=
  let x := s.wing w
  let corr : Int := (x.tNom f.slot - f.start).tdiv 400
  match s.rxKey w f with
  | (none, s) => (none, s)
  | (some k, s) => (some (signFrame k (s.identity w).toNat f.fc (ackBody (syncInfo corr (decide (f.cls = .duplicate))))), s)

/-- ACK_EVALUATION (R162): a wing that is SEARCHING transmits nothing (R146). -/
def State.ackEvaluate (w : Nat) (f : RxFrame) (s : State) : State :=
  let x := s.wing w
  let no := fun (c : Option Nat) => s.setWing w
    (((match c with | some i => x.lnkCount i | none => x).putRx { f with noAck := true }).rxSweep)
  if s.role w = .standby || x.lnk.sync = .searching || x.sys.watch then no none
  else if x.rx.lanes.any (fun e => decide (e.2.state = .receiving) && decide (1 ≤ e.2.prio)) then no (some 4)
  else match s.ackPsdu w f with
  | (none, _) => no none
  | (some p, s) =>
    let q := x.ackReq f p
    if x.ackConflict q then no (some 5)
    else s.modWing w (fun y => (y.txCommit q).putRx { f with ack := some false })

/-- Frame `a` is evaluated before frame `b` in one tick: priority, RSSI, channel (R84, R162). -/
def RxFrame.evalBefore (a b : RxFrame) : Bool :=
  let p := fun (f : RxFrame) => bits (f.desc.getD 2 0).toNat 10 9
  decide (p b < p a) || (p a == p b && (decide (b.rssi < a.rssi) || (decide (a.rssi = b.rssi) && decide (a.ch < b.ch))))

/-- The frame's acknowledgement is still to be evaluated. -/
def RxFrame.toEvaluate (f : RxFrame) : Bool := f.ar && f.ack.isNone && !f.noAck

/-- The frames whose evaluation falls in the tick of `f`'s and comes before it, in order (R162). -/
def Wing.evalQueue (f : RxFrame) (x : Wing) : List RxFrame :=
  let l := x.lnk.rx.filter (fun g => g.toEvaluate && decide (g.endT = f.endT) && g.evalBefore f)
  l.foldr (fun g o => (o.takeWhile (fun h => h.evalBefore g)) ++ g :: (o.dropWhile (fun h => h.evalBefore g))) []

/-- ACK_EVALUATION (R162): of frame `id`, at END_TS + ACK_GAP - T_LEAD - 3 us, after those of the same tick that precede it. -/
def execAckEvaluation (w : WingId) (id : Word) (s : State) : Out :=
  let x := s.wing w
  .next (match x.rxOf id.toNat with
  | none => s
  | some f =>
    if f.toEvaluate then
      (x.evalQueue f ++ [f]).foldl (fun (t : State) g => t.ackEvaluate w g)
        (s.setWing w (x.reach (f.endT + x.ackGap - x.tLead - us 3)))
    else s)

/-- ACK_CHECK_DEADLINE (R163, R164): checks that still run withhold the acknowledgement. -/
def execAckCheckDeadline (w : WingId) (id : Word) (s : State) : Out :=
  let x := s.wing w
  .next (match x.rxOf id.toNat with
  | none => s
  | some f =>
    let x := x.reach (f.endT + x.ackGap + (x.rx.live.preTicks f.prof - us 1))
    if f.ack = some false && !f.noAck && !f.passed && x.ackOut f.id then
      let s := ((s.setWing w x).ackAbort w f.id).modWing w (Wing.lnkCount 3)
      s.modWing w (fun y => match y.rxOf f.id with
        | none => y
        | some g => (y.putRx { g with noAck := true }).rxSweep)
    else s)

/-- CORRECTION of an acknowledgement in us (R161). -/
def corrOf (info : Nat) : Int := toSigned 12 (info % 4096)

/-- A valid acknowledgement of the frame `f` (R145, R156, R158, R167, R178). -/
def Wing.ackGood (f : PendTx) (g : RxFrame) (x : Wing) : Wing :=
  let info := ackInfo g.mac
  let x := { x with lnk := { x.lnk with own := none, ackIn := none } }.bufReturn g.buf
  let o := corrOf info * 400
  let x := if !(x.nb f.nb).valid then x else x.modNb f.nb (fun n =>
    { n.meet g.rssi with lastAsn := x.lnk.asn % asnMod, offset := -o, lastTime := some g.start })
  let x := if x.lnk.parent = some f.nb && x.lnk.sync = .synced then x.timeContact o else x
  if bit info 15 then x.failTry f
  else (x.prrNote true f).complete { f with tries := f.tries + 1 } 0 info

/-- ACK_RECEIVED (R158): the frame of acknowledgement kind that arrived in the window is checked. One that does not verify is
no frame for this wing (R159). -/
def execAckReceived (w : WingId) (s : State) : Out :=
  let x := s.wing w
  .next (match x.lnk.ackIn, x.lnk.own with
  | some g, some o =>
    let bad := { x with lnk := { x.lnk with ackIn := none } }
    match x.pendOf o.id with
    | none => s.setWing w (bad.bufReturn g.buf)
    | some f =>
      let n := x.nb f.nb
      let (e, fc) := f.fc.getD (0, 0)
      match x.keyOf (pairLabel e (s.identity w).toNat n.eui.toNat) with
      | (none, _) => s.setWing w ((bad.lnkCount 10).bufReturn g.buf)
      | (some k, y) =>
        if g.mac.length = 11 && checkFrame k n.eui.toNat fc g.mac then s.setWing w (y.ackGood f g)
        else s.setWing w ((bad.lnkCount 10).bufReturn g.buf)
  | _, _ => s)

/-- ACK_WINDOW_EXPIRY (R156, R158): no frame was detected in the window of the wing's own frame. -/
def execAckWindowExpiry (w : WingId) (s : State) : Out :=
  let x := s.wing w
  .next (match x.lnk.own with
  | none => s
  | some o =>
    if x.lnk.ackIn.isSome || x.rx.lanes.any (fun e => e.2.ackWin) then s else
    let x := { x.reach (o.nominal + x.ackTol + x.rx.live.tDet (x.rx.live.profOf o.ch)) with lnk := { x.lnk with own := none } }
    s.setWing w (match x.pendOf o.id with | none => x | some f => x.failTry f))

/-- WINDOW_MISS (R167, R168): the RX_EXPECT window of cell `cell` has closed without a contact; 4,096 is the parent's
beacon slot. -/
def Wing.windowMiss (cell : Nat) (x : Wing) : Wing :=
  match x.lnk.wins.find? (fun v => v.owed && v.cell == cell) with
  | none => x
  | some v =>
    let x := x.reach v.hi
    let x := { x with lnk := { x.lnk with wins := x.lnk.wins.map (fun u => if u = v then { u with owed := false } else u) } }
    match v.nb with
    | none => x
    | some i =>
      let n := { x.nb i with misses := min 15 ((x.nb i).misses + 1) }
      let x := (x.setNb i n).lnkCount 12
      if x.reg 0xFF8013 ≤ n.misses && n.timing = .normal then x.goAdrift i else x

/-- WINDOW_MISS (R167). -/
def execWindowMiss (w : WingId) (cell : Fin 4097) (s : State) : Out :=
  .next (if (s.wing w).isRunning then s.modWing w (Wing.windowMiss cell.val) else s)

end Sys2Proof.Machine
end

