-- ==== Sys2Proof/Machine/Slots.lean ====
section
/-! DEFINITION. The choice of each slot (R151 to R155, R187, R195), the first send of a frame (R141, R142, R154, R185, R192),
the reading of transmit descriptors, and the transmitter's rows that report to the link engine. -/
namespace Sys2Proof.Machine
open Sys2Proof

/-- A frame of the pending table is with the transmitter, or awaits its acknowledgement. -/
def Wing.busyTx (f : PendTx) (x : Wing) : Bool :=
  x.tx.reqs.any (fun q => decide (q.what = .data f.id)) ||
  (match x.tx.run with | some r => decide (r.req.what = .data f.id) | none => false) ||
  (match x.tx.next with | some r => decide (r.req.what = .data f.id) | none => false) ||
  (match x.lnk.own with | some o => o.id == f.id | none => false)

/-- The frame in clear, as its buffer holds it (R154). -/
def Wing.clearOf (f : PendTx) (x : Wing) : Octets :=
  if f.clear.isEmpty then x.octets f.buf 0 f.len else f.clear

/-- The wing is to originate a flood with this frame (R192). -/
def Wing.originates (f : PendTx) (x : Wing) : Bool :=
  f.bcast && f.ring != 2 && f.sent.isEmpty &&
  (let p := x.clearOf f
   let pay := p.drop ((parseMac p).hdr + 6)
   decide (21 ≤ pay.length) && leNat (slice pay 4 8) == 0)

/-- Epoch and counter in one order (R187). -/
def fcBefore (a b : Nat × Nat) : Bool := decide (a.1 < b.1) || (a.1 == b.1 && decide (a.2 < b.2))

/-- An incomplete unicast frame to the same neighbour holds an earlier epoch or a lower counter (R187). -/
def Wing.fcBlocked (f : PendTx) (x : Wing) : Bool :=
  let others := (x.lnk.table.filter (fun g => g.id ≠ f.id && !g.bcast && g.nb == f.nb)).filterMap (fun g => g.fc)
  let items := (x.wrk.items.filter (fun i => !i.partner && i.outcome.isNone && i.nb == f.nb)).map (fun i => (i.epoch, i.fc))
  match f.fc with
  | none => !(others ++ items).isEmpty
  | some c => (others ++ items).any (fun d => fcBefore d c)

/-- The oldest pending frame of its neighbour and ring, or of its ring's broadcasts (R155): timed frames are pending too. -/
def Wing.oldest (f : PendTx) (x : Wing) : Bool :=
  match x.lnk.table.find? (fun g => g.ring == f.ring && g.bcast == f.bcast && (f.bcast || g.nb == f.nb)) with
  | none => false
  | some g => g.id == f.id

/-- The item that a frame of ring 10 carries (R236). -/
def Wing.itemOfTag (ring : Nat) (tag : Word) (x : Wing) : Option Item :=
  if ring = 0 && tag.getLsbD 15 then x.wrk.items.find? (fun i => i.handle == some (tag.toNat % 0x8000)) else none

/-- An item goes only to the neighbour that it is bound to: the record holds its NB_EUI (R8, R226, R229). -/
def Wing.boundHere (f : PendTx) (x : Wing) : Bool :=
  match x.itemOfTag f.ring f.tag with | none => true | some i => decide ((x.nb f.nb).eui = i.eui)

/-- The frame may go out at all: its neighbour's record is not absent (R177; such a frame waits, DEDUCED, log 41) and is still that of the item, and a flood that the wing would originate
waits while no number is left (R193). -/
def Wing.sendable (f : PendTx) (x : Wing) : Bool :=
  !x.busyTx f && (f.bcast || (x.nb f.nb).valid) && x.boundHere f && !(x.originates f && x.msh.floodSeq == x.msh.floodLimit)

/-- The frame is eligible (R155, R187, R193). -/
def Wing.eligible (f : PendTx) (x : Wing) : Bool :=
  f.at_.isNone && x.oldest f && x.sendable f && (f.bcast || !x.fcBlocked f) && f.skip == 0

/-- The frame fits a cell of profile `p` (R140). -/
def Wing.fitsCell (f : PendTx) (p : Nat) (x : Wing) : Bool :=
  let coded := x.rx.live.phy p < 2 && bits (x.rx.live.profWord p 0) 8 7 == 1
  let d := x.rx.live.frameTicks p coded (x.lowMcs p) (f.len + 6)
  let ack := if f.ar then x.ackGap + x.rx.live.frameTicks p coded (x.lowMcs p) 13 else 0
  decide (x.txOffset + d + ack + x.tRamp + x.slotTail ≤ x.slotTicks)

/-- A cell may carry the frame (R150, R151). -/
def Cell.carries (c : Cell) (f : PendTx) : Bool :=
  if f.bcast then c.kind == 2 else c.kind == 1 && (c.nb == 0xFFFF || c.nb == f.nb)

/-- The lowest cell that could carry the frame: a timed frame uses its channel offset and profile (DESIGN CHOICE, log 25). -/
def Wing.timedCell (f : PendTx) (x : Wing) : Cell := ((x.lnk.cells.find? (fun e => e.2.carries f)).map (fun e => e.2)).getD {}

/-- The frame fits none of the cells that may carry it, and there is one (R140). A timed frame must fit the cell whose profile it takes: no
transmission of a slot may reach into its tail (DEDUCED, log 25). -/
def Wing.tooLong (f : PendTx) (x : Wing) : Bool :=
  let cs := x.lnk.cells.filter (fun e => e.2.carries f)
  if f.at_.isSome then !x.fitsCell f (x.timedCell f).prof
  else !cs.isEmpty && cs.all (fun e => !x.fitsCell f e.2.prof)

/-- Frames too long for any cell complete with TOO_LONG (R140). -/
def Wing.longSweep (x : Wing) : Wing :=
  x.lnk.table.foldl (fun (y : Wing) f => if y.tooLong f && !y.busyTx f then y.complete f 5 0 else y) x

/-- The wing may resolve slots to a transmit purpose (R146, R244, R249, R252, R283). -/
def State.mayTransmit (w : Nat) (s : State) : Bool :=
  let switching := match s.pairOf w with | none => false | some p => (s.port.pair p).switching
  s.tokenOk w && !switching && !(s.wing w).sys.stopReq && ((s.wing w).lnk.sync ≠ .searching || (s.wing w).lnk.move.isSome)

/-- The request of a data frame in slot `a` (R111, R154). -/
def Wing.dataReq (f : PendTx) (a k p : Nat) (x : Wing) : TxReq :=
  let coded := x.rx.live.phy p < 2 && bits (x.rx.live.profWord p 0) 8 7 == 1
  { what := .data f.id, start := (x.tNom a).toNat, ch := k, prof := p, coded := coded, mcs := x.lowMcs p,
    power := f.power, yield := f.yield, ar := f.ar, buf := if f.clear.isEmpty then some f.buf else none, len := f.len + 6, psdu := f.sent }

/-- Row 1 of R152: the timed frame of slot `a`, or the oldest displaced one (R206); it uses the channel offset and profile of
the lowest cell that could carry it (DESIGN CHOICE, log 25). -/
def Wing.timedReq (a : Nat) (x : Wing) : Option TxReq :=
  let due := x.lnk.table.filter (fun f => x.sendable f && (match f.at_ with | some t => asnPast a t | none => false))
  let first := due.foldl (fun (b : Option PendTx) f =>
    match b with
    | none => some f
    | some g => if asnDiff (f.at_.getD 0) (g.at_.getD 0) < 0 then some f else some g) none
  first.bind (fun f =>
    let c := x.timedCell f
    (x.hopOf a c.ch).map (fun k => x.dataReq f a k c.prof))

/-- The beacon falls in slot `a` and is not withheld for the parent's position (R143, R152). -/
def Wing.beaconDue (a : Nat) (x : Wing) : Bool := bit (x.reg 0xFF8000) 3 && decide (a % x.sfSlots = x.reg 0xFF8019)

/-- The wing's beacon position is its parent's (R143). -/
def Wing.beaconHeldBack (x : Wing) : Bool :=
  match x.lnk.parent with
  | none => false
  | some p => (match (x.nb p).beaconAt with | none => false | some (pos, _) => pos == x.reg 0xFF8019)

/-- Row 2 of R152: the beacon (R143). -/
def Wing.beaconReq (a : Nat) (x : Wing) : Option TxReq :=
  if !x.beaconDue a || x.beaconHeldBack then none else
  (x.hopOf a (x.reg 0xFF801A)).map (fun k =>
    let p := x.num 0x230205 0
    { what := .beacon, start := (x.tNom a).toNat, ch := k, prof := p,
      coded := decide (x.rx.live.phy p < 2) && bits (x.rx.live.profWord p 0) 8 7 == 1, mcs := x.lowMcs p,
      power := toSigned 8 (x.num 0x230206 40), len := 60 })

/-- The frame that a cell sends: ring 10 before ring 11 before ring 12, oldest first (R152). -/
def Wing.cellFrame (c : Cell) (x : Wing) : Option PendTx :=
  let can := fun (r : Nat) (f : PendTx) => f.ring == r && c.carries f && x.eligible f && x.fitsCell f c.prof
  [0, 1, 2].findSome? (fun r => x.lnk.table.find? (can r))

/-- Row 3 of R152: the ready cell of lowest index. -/
def Wing.cellReq (a : Nat) (x : Wing) : Option TxReq :=
  (x.lnk.cells.filter (fun e => (e.2.kind == 1 || e.2.kind == 2) && x.cellActive a e.2)).findSome? (fun e =>
    match x.hopOf a e.2.ch, x.cellFrame e.2 with
    | some k, some f => some (x.dataReq f a k e.2.prof)
    | _, _ => none)

/-- Opportunities of slot `a` pass for the relays that wait (R195). -/
def Wing.passRelays (a : Nat) (x : Wing) : Wing :=
  let n := (x.lnk.cells.filter (fun e => e.2.kind == 2 && x.cellActive a e.2)).length
  { x with lnk := { x.lnk with table := x.lnk.table.map (fun (f : PendTx) =>
    if f.ring = 2 then { f with skip := f.skip - n } else f) } }

/-- Receive cells of slot `a`, the parent's beacon slot apart, whose channel is not watched (R147). -/
def Wing.deafCells (a : Nat) (x : Wing) : Nat :=
  ((x.rxCells a).filter (fun e => e.1 < 4096 && (x.hopOf a e.2.ch).isNone)).length

/-- Resolve slot `a` (R152, R153): the wing is under the anchor that the slot will have. -/
def State.resolveSlot (w a : Nat) (s : State) : State :=
  let x := ((s.wing w).guardCheck a).longSweep
  let may := s.mayTransmit w
  let held := may && x.beaconDue a && x.beaconHeldBack
  let x := x.lnkCountIf held 16
  let req := if !may then none else
    match x.timedReq a with
    | some q => some q
    | none => match x.beaconReq a with
      | some q => some q
      | none => x.cellReq a
  let x := x.passRelays a
  match req with
  | some q =>
    let skippedRx := ((x.rxCells a).filter (fun e => e.1 < 4096)).length
    let srch := ((x.slotWins a).filter (fun v => v.search)).length
    let x := iter srch (Wing.lnkCount 15) (iter skippedRx (Wing.lnkCount 16) x)
    s.setWing w ({ x with lnk := { x.lnk with next := some { asn := a, purpose := .transmit, wins := [] } } }.txCommit q)
  | none =>
    let wins := x.slotWins a
    let x := iter (x.deafCells a) (Wing.lnkCount 16) x
    let listen := !wins.isEmpty || !(x.rxCells a).isEmpty || bit (x.reg 0xFF8000) 1
    s.setWing w { x with lnk := { x.lnk with
      next := some { asn := a, purpose := if listen then .listen else .idle, wins := wins } } }

/-- SLOT_RESOLVE (R152): of the slot that comes next, 2,000 us before its boundary; past 2^40 - 1 that is slot 0 (R136). -/
def execSlotResolve (w : WingId) (s : State) : Out :=
  let x := s.wing w
  let ok := x.isRunning && bit (x.reg 0xFF8000) 0 && x.lnk.next.isNone && (x.lnk.sync ≠ .searching || x.lnk.move.isSome)
  .next (if ok then
    let m := x.nextAnchor
    let y := x.underNext
    let y := y.reach (y.tS m.first - us 2000).toNat
    let t := (s.setWing w (y.wrapAt (m.first / asnMod))).resolveSlot w (m.first % asnMod)
    t.modWing w (fun z => { z with lnk := { z.lnk with
      asnRef := x.lnk.asnRef, tickRef := x.lnk.tickRef, next := z.lnk.next.map (fun n => { n with asn := m.first }) }
                                   msh := { z.msh with hwm := x.msh.hwm } })
  else s)

/-- A descriptor of ring 10 + `r` as an entry of the pending table (R154, R155). -/
def Wing.pendFrom (r : Nat) (d : List Word) (x : Wing) : PendTx :=
  let word := fun (k : Nat) => (d.getD k 0).toNat
  let bc := bit (word 0) 10
  let given := bit (word 3) 11 && !bc
  let tag := d.getD 6 0
  let item := x.itemOfTag r tag
  let e := match item with | some i => i.epoch | none => x.msh.keyEpoch
  let target := (x.lnk.asn : Int) + toSigned 16 (word 7 + 65536 - x.lnk.asn % 65536)
  let pos := (x.ring (10 + r)).take
  let relay := if r = 2 then x.lnk.relays.find? (fun q => q.pos == pos) else none
  { id := x.lnk.seq, ring := r, pos := pos, nb := word 0 % 1024, bcast := bc, ar := bit (word 0) 11 && !bc,
    maxTries := word 0 / 4096, power := toSigned 8 (word 2 / 256), buf := word 1 + 65536 * (word 2 % 256),
    len := word 3 % 2048, given := given, yield := bit (word 3) 12,
    at_ := if bit (word 3) 13 then some (target % (asnMod : Int)).toNat else none, tag := tag,
    fc := if given then some (e, word 4 + 65536 * word 5) else none,
    skip := (relay.map (fun q => q.skip)).getD 0, key := relay.map (fun q => q.key),
    copies := (relay.map (fun q => q.copies)).getD 0, clear := (relay.map (fun q => q.clear)).getD [] }

/-- The link engine takes a descriptor (R154, R155): a timed frame whose slot has been resolved completes with LATE; a
cancelled relay goes nowhere (R195). -/
def Wing.takeTx (r : Nat) (x : Wing) : Wing :=
  match x.ringHead (10 + r) with
  | none => x
  | some d =>
    if 64 ≤ x.lnk.table.length || !x.lnk.heldCompl.isEmpty then x else
    let f := x.pendFrom r d
    let gone := x.lnk.relays.any (fun q => r == 2 && q.pos == f.pos && q.gone)
    let y := { x with lnk := { x.lnk with
      seq := (x.lnk.seq + 1) % 65536,
      relays := x.lnk.relays.filter (fun q => !(r == 2 && q.pos == f.pos)) } }.ringTook (10 + r)
    let late := match f.at_ with | some t => asnPast x.lastSlot t | none => false
    let y := if gone then y
      else if late then { y with lnk := { y.lnk with table := y.lnk.table ++ [f] } }.complete f 4 0
      else { y with lnk := { y.lnk with table := y.lnk.table ++ [f] } }
    y.placePump

/-- TX_DESCRIPTOR_TAKE (R154): from ring 10 + `r`. -/
def execTxDescriptorTake (w : WingId) (r : Fin 3) (s : State) : Out :=
  .next (if (s.wing w).isRunning then s.modWing w (Wing.takeTx r.val) else s)

/-- The AUTH of an order that the wing originates, over the header that the flood goes out with (R208, R313: DEDUCED, log 32). -/
def State.floodAuth (w : Nat) (pay : Octets) (s : State) : Octets :=
  let x := s.wing w
  let cls := (pay.getD 0 0).toNat / 16
  match x.cph.root with
  | none => pay
  | some nrk =>
    if 1 ≤ cls && cls ≤ 3 && 46 ≤ pay.length then
      splice pay 30 (orderAuth nrk x.msh.epoch x.msh.root (pay.take 21) (pay.drop 21))
    else pay

/-- The flood header of a frame that the wing originates (R192). An order that it originates it holds as every other wing does, so that a root has its
own report and the barrier's totals (R213, R314: DEDUCED, log 33). -/
def State.floodFill (w : Nat) (p : Octets) (s : State) : Octets × State :=
  let x := s.wing w
  let h := (parseMac p).hdr + 6
  let pay := p.drop h
  let orig := (s.identity w).toNat
  let n := x.msh.floodSeq
  let ttl := if (pay.getD 1 0).toNat = 0 then o8 (x.reg 0xFF9033) else pay.getD 1 0
  let pay := pay.take 1 ++ [ttl] ++ slice pay 2 2 ++ natLe 8 orig ++ natLe 4 n ++ natLe 5 x.lnk.asn ++ pay.drop 21
  let out := s.floodAuth w pay
  let s := s.setWing w ({ x with msh := { x.msh with floodSeq := (n + 1) % 2 ^ 32 } }.cachePut (orig, n) x.lnk.asn)
  let f := floodOf out
  let mine := decide (1 ≤ f.cls) && decide (f.cls ≤ 3) && (orderOf f).acts && (s.wing w).orderAuthOk f
  (p.take h ++ out, if mine then s.holdOrder w (orderOf f) else s)

/-- The counter a frame is sent under: its own, or the next of the wing (R154, R185). -/
def State.counterFor (w : Nat) (f : PendTx) (s : State) : Option (Nat × Nat) × State :=
  match f.fc with | some c => (some c, s) | none => s.drawFc w

/-- No epoch remains: every frame that would need one completes REFUSED (R186). -/
def Wing.epochOut (x : Wing) : Bool := decide (x.msh.keyEpoch = 0xFFFF) && decide (0xFFFF0000 ≤ x.msh.txFc)

/-- The octets of a data frame at its first send (R141, R142, R154, R192): secured in place, the same on every try. None
when it cannot be sent now. -/
def State.firstSend (w : Nat) (f : PendTx) (s : State) : Option Octets × State :=
  if !f.sent.isEmpty then (some f.sent, s) else
  match s.counterFor w f with
  | (none, s) => (none, if (s.wing w).epochOut then s.modWing w (fun x => x.complete f 3 0) else s)
  | (some (e, fc), s) =>
    let x := s.wing w
    let p := x.clearOf f
    let more := !f.given && !f.bcast && x.lnk.table.any (fun g => g.id != f.id && !g.bcast && g.nb == f.nb && x.eligible g)
    let b0 := (p.getD 0 0).toNat
    let b0 := b0 - 32 * b2n (bit b0 5) + 32 * b2n f.ar
    let p := o8 (if f.given then b0 else b0 - 16 * b2n (bit b0 4) + 16 * b2n more) :: p.drop 1
    let (p, s) := if x.originates f then s.floodFill w p else (p, s)
    let me := (s.identity w).toNat
    let label := if f.bcast then groupLabel e me else pairLabel e me (x.nb f.nb).eui.toNat
    let (k, y) := (s.wing w).keyOf label
    match k with
    | none => (none, s.modWing w (fun x => x.complete f 3 0))
    | some k =>
      let q := secureData k me e fc p
      let g := { f with fc := some (e, fc), sent := q }
      let y := if f.clear.isEmpty then y.putOctets f.buf 0 q else y
      (some q, s.setWing w (y.putPend g))

/-- The beacon body (R144); mode CONFIGURED clears FLAGS[1] (R201). -/
def State.beaconNow (w : Nat) (s : State) : Octets :=
  let x := s.wing w
  let flags := b2n (decide (s.role w ≠ .single)) + 2 * b2n (x.msh.interim && x.rootMode != 2) + 4 * b2n x.relayPending
  [1] ++ natLe 5 x.lnk.asn ++ natLe 4 x.msh.epoch ++ natLe 8 x.msh.root ++ natLe 2 x.msh.rank ++ natLe 2 x.slotUs ++
    natLe 2 x.sfSlots ++ natLe 2 (x.reg 0xFF8004) ++ natLe 2 (x.reg 0xFF8005) ++ natLe 2 x.hopLen ++
    natLe 2 (x.num 0x231102 0xFFFF) ++ natLe 2 x.msh.keyEpoch ++ [o8 flags, o8 ((1024 - x.nbCount) / 8)]

/-- The beacon, secured (R142, R144, R185); none while no counter or key can be had. -/
def State.beaconSend (w : Nat) (s : State) : Option Octets × State :=
  match s.drawFc w with
  | (none, s) => (none, s)
  | (some (e, fc), s) =>
    let me := (s.identity w).toNat
    match (s.wing w).keyOf (groupLabel e me) with
    | (none, _) => (none, s)
    | (some k, x) => (some (signFrame k me fc (beaconBody me e fc (s.beaconNow w))), s.setWing w x)

/-- The octets of a request. -/
def State.fillReq (w : Nat) (q : TxReq) (s : State) : Option Octets × State :=
  match q.what with
  | .ack _ => (some q.psdu, s)
  | .beacon => s.beaconSend w
  | .data id => match (s.wing w).pendOf id with | none => (none, s) | some f => s.firstSend w f

/-- The decision point of the earliest request (R113, R125, R142, R185). -/
def State.decisionPoint (w : Nat) (s : State) : State :=
  let x := s.wing w
  match x.txFirst with
  | none => s
  | some q =>
    let x := (x.reach (q.start - (x.tLead + us 2))).txWithdraw (fun p => p == q)
    match (s.setWing w x).fillReq w q with
    | (none, s) => s
    | (some p, s) => s.txPoint w { q with psdu := p }

/-- Frames whose acknowledgement has become known are finished. -/
def State.sweep (w : Nat) (s : State) : State := s.modWing w Wing.rxSweep

/-- TX_DECISION_POINT (R125): of the earliest committed request. -/
def execTxDecisionPoint (w : WingId) (s : State) : Out := .next ((s.decisionPoint w).sweep w)

/-- SYNTH_CAL_DONE (R113, R115). -/
def execSynthCalDone (w : WingId) (ok : Bool) (s : State) : Out := .next ((s.synthDone w ok).sweep w)

/-- TX_RAMP_DOWN_END (R113, R116). -/
def execTxRampDownEnd (w : WingId) (s : State) : Out := .next ((s.rampDownEnd w).sweep w)

/-- TX_ABORT (R116): a Keeper-mode write of 0x5A5A to the register. -/
def execTxAbort (w : WingId) (v : Word) (dt : Nat) (s : State) : Out :=
  byCore w s (if v = 0x5A5A then ((s.modWing w (Wing.advance dt)).txAbort w (fun _ => true)).sweep w else s)

/-- The radio is forced to OFF, and what it carried is settled (R109). -/
def State.radioOff (w : Nat) (s : State) : State := (s.radioCut w).sweep w

end Sys2Proof.Machine
end

