-- ==== Sys2Proof/Machine/Reset.lean ====
section
/-! DEFINITION. Entering RESET from any source, and leaving it for BOOT (R16, R20, R60, R384, R392, R451,
R460): one shared operation each. -/
namespace Sys2Proof.Machine
open Sys2Proof

/-- The bit of a reset source in CPU_RESET_CAUSE (R62). -/
def ResetSource.no : ResetSource → Nat
  | .domePor => 0 | .brownout => 1 | .pin => 2 | .host => 3 | .self => 4 | .watchdog => 5 | .lockup => 6
  | .thermal => 7 | .watchEnd => 8

/-- The flash of a wing that enters RESET (R384): the pulse is cut, the queue and the completions held are
discarded, and the registers take their reset values. What the cells hold stays. -/
def Flash.atReset (k : Nat) (f : Flash) : Flash :=
  let f := f.cutPulse k false
  { f with queue := [], mine := [], jobs := [], run := none, held := [], protect := 0, refused := false, submitLo := 0,
           rdCorrected := false, rdTorn := false, rdUncorrectable := false, readAddr := 0, sel := 0,
           blocked := false }

/-- What is kept of an item over a reset (log 16): its deadline as the time that remains. -/
def Item.keep (now : Nat) (i : Item) : Item :=
  { i with deadline := i.deadline.map (fun t => t - now), handle := none, waits := true }

/-- What a wing is after its reset from source `src` (R60): everything at its reset value, but for what the
spec keeps: flash and what lies in it, the departed list, the journal, the store image and the sealed files among them, and what R241 needs of the
items besides their records (log 16).
SRAM keeps its words (DESIGN CHOICE, log 4). A source that comes while the wing is already in RESET adds its cause bit to those of the reset that
runs, and that reset is not counted again (DESIGN CHOICE, log 18). The stop request is VOLATILE (R13, R283), and ALIGN_LOST is set (R26). -/
def Wing.atReset (k : Nat) (src : ResetSource) (x : Wing) : Wing :=
  let fresh := decide (x.sys.state ≠ .reset)
  let m := BitVec.twoPow 9 src.no
  { sys := { x.sys with
      state := x.sys.state
      asserted := (if fresh then 0 else x.sys.asserted) ||| m
      cause := (if fresh then 0 else x.sys.cause) ||| m
      count := if src = .domePor then 0 else if fresh then sat16 x.sys.count else x.sys.count
      lifeResets := if fresh then wrap32 x.sys.lifeResets else x.sys.lifeResets
      stopReq := false, alignLost := true, watch := false }
    core := { lockupPc := if src = .domePor then 0 else x.core.lockupPc }
    gpio := { ext := x.gpio.ext }
    sram := x.sram
    car := { pllLocked := x.car.pllLocked }
    fls := x.fls.atReset k
    msh := { departed := x.msh.departed }
    wrk := { jrn := x.wrk.jrn, jseq := x.wrk.jseq, head := x.wrk.head, tail := x.wrk.tail, stored := x.wrk.stored,
             gen := x.wrk.gen, older := x.wrk.older, portCopy := x.wrk.portCopy, portOlder := x.wrk.portOlder,
             memo := if x.wrk.memo.isEmpty then x.wrk.items.map (Item.keep x.now) else x.wrk.memo }
    tru := { judged := x.tru.judged, file := x.tru.file, successor := x.tru.successor, certs := x.tru.certs } }

/-- A session forgets requests handed to wing `w` (R460). -/
def Port.forget (w : Nat) (p : Port) : Port :=
  let gone := fun n => (p.waits.filter (fun q => q.wing == w && q.session == n)).map (fun q => q.seq)
  { p with
    waits := p.waits.filter (fun q => q.wing ≠ w)
    sessions := p.sessions.map (fun n x =>
      { x with waiting := x.waiting.filter (fun q => !(gone n).contains q)
               seen := x.seen.filter (fun q => !(gone n).contains q) }) }

/-- DOMAIN transfers of wing `w` are abandoned; one that has timed out stays so until its session begins anew or closes (R274). -/
def Port.dropTransfers (w : Nat) (p : Port) : Port :=
  { p with sessions := p.sessions.map (fun _ x => { x with transfers := x.transfers.filter (fun t => t.timedOut || t.realm ≠ w) }) }

/-- The requests that the port answers itself as wing `w` resets (R18, R460): those whose notice still stands in a mailbox, and those that
wait for their session's previous one. -/
def State.refuseWaiting (w : Nat) (s : State) : State :=
  let full := (List.range 4).filterMap (fun m =>
    let b := (s.wing w).mb m
    match b.state, b.party with | .full, some (.session n) => some n | _, _ => none)
  let s := full.foldl (fun (t : State) n => t.answer w n .wingUnavailable []) s
  let (gone, left) := s.port.queue.partition (fun (q : WaitReq × Octets) => q.1.wing == w)
  gone.foldl (fun (t : State) (q : WaitReq × Octets) => t.reply q.1 .wingUnavailable false [])
    { s with port := { s.port with queue := left } }

/-- Wing `w` enters RESET from source `src` (R60): its radio goes OFF at once (R109), its halt and shadow are released (R20),
its mailboxes are abandoned (R460), its flash pulse is cut (R384), and the port sees the change. -/
def State.enterReset (w : Nat) (src : ResetSource) (s : State) : State :=
  let s := ((s.radioOff w).calDrop w).refuseWaiting w
  let s := { s with cal := s.cal.modPort w (fun _ => {}), port := (s.port.forget w).dropTransfers w }
  let s := { s.modWing w (Wing.atReset s.free src) with free := s.free + 1 }
  s.toState w .reset 0

/-- The port resets a wing with cause HOST (R60); a wing in RESET stays there, and no source asserts in a FAULTED one (R61). -/
def State.hostReset (w : Nat) (s : State) : State :=
  if (s.wing w).sys.state = .reset || (s.wing w).sys.state = .faulted then s else s.enterReset w .host

/-- The reset sources of a wing that are levels and still stand (R60, R63, R65). -/
def State.levels (s : State) : BitVec 9 :=
  (if s.dome.mainGood then 0 else if s.dome.domePor then 1 else 2) ||| (if s.dome.resetLow then 4 else 0)

/-- The latches of the backup domain set their sources as the wing leaves RESET (R451). -/
def State.latches (w : Nat) (s : State) : State :=
  let s := if s.cal.alarmLatch.contains w then s.raise w 61 else s
  if s.cal.osfLatch.contains w then s.raise w 62 else s

/-- The last reset source of wing `w` is released: BOOT, with the option area loaded, the core at the ROM
reset vector, the stop request as the strap says (R37), and the time started if the PLL is locked (R16, R319, R392, R419). -/
def State.leaveReset (w : Nat) (s : State) : State :=
  let go := fun (x : Wing) =>
    let lock := x.car.pllLocked && !s.dome.refLost
    { x with
      sys := { x.sys with asserted := 0, causeEnd := x.sys.cause, alignLost := true,
                          stopReq := s.dome.bootsel.getLsbD 0 }
      core := { x.core with pc := BitVec.ofNat 24 ((Config.romWord 0).toNat + 65536 * (Config.romWord 1).toNat) }
      car := { x.car with started := lock, fine := lock }
      fls := { x.fls.optLoad with blocked := s.dome.brownout } }
  let s := s.modWing w go
  (s.latches w).toState w .boot (s.wing w).sys.cause.toNat

/-- WING_RESET_RELEASE (R16): the wing's momentary sources have stood for their minimum time; it leaves RESET
unless a level source still stands. -/
def execWingResetRelease (w : WingId) (s : State) : Out :=
  .next (if (s.wing w).sys.state = .reset then
    if s.levels = 0 then s.leaveReset w
    else s.modWing w (fun x => { x with sys := { x.sys with asserted := s.levels } })
  else s)

/-- CPU_SELF_RESET (R60): a Keeper-mode write of the register. -/
def execCpuSelfReset (w : WingId) (value : Word) (s : State) : Out :=
  byCore w s (if value = 0xA5C3 then s.enterReset w .self else s)

end Sys2Proof.Machine
end

