-- ==== Sys2Proof/Machine/Orders.lean ====
section
/-! DEFINITION. Admission and departure of neighbours (R179 to R184, R190), the flood limit (R193), orders, census records and
barriers (R208 to R213, R254, R314), and the mesh messages of the Curator (R311, R312). -/
namespace Sys2Proof.Machine
open Sys2Proof

/-- A record leaves: its departed-list entry, with its larger epoch and the larger counter under it (R181). -/
def Nb.departs (n : Nb) : Nat × Nat × Nat :=
  let e := max n.epoch n.bcEpoch
  let c := max (if n.epoch = e then n.rxFc else 0) (if n.bcEpoch = e then n.bcFc else 0)
  (n.eui.toNat, e, c)

/-- Enter a record in the departed list of 2,048 entries, the oldest overwritten (R181). -/
def Wing.depart (n : Nb) (x : Wing) : Wing :=
  let l := x.msh.departed.filter (fun e => e.1 ≠ n.eui.toNat) ++ [n.departs]
  { x with msh := { x.msh with departed := l.drop (l.length - 2048) } }

/-- The departed-list entry of an EUI: epoch and counter. -/
def Wing.departedOf (eui : Nat) (x : Wing) : Option (Nat × Nat) :=
  (x.msh.departed.find? (fun e => e.1 == eui)).map (fun e => e.2)

/-- Record `i` is released: entered in the departed list and cleared (R181). -/
def Wing.releaseNb (i : Nat) (x : Wing) : Wing := if (x.nb i).valid then (x.depart (x.nb i)).setNb i {} else x

/-- A unicast frame to record `i` is pending in the link engine or on rings 10 and 11 (R182). -/
def Wing.frameTo (i : Nat) (x : Wing) : Bool :=
  let onRing := fun (r : Nat) =>
    let g := x.ring r
    (List.range g.count).any (fun k =>
      let d := (x.ld (g.slot (g.take + w16 k))).toNat
      !bit d 10 && d % 1024 == i)
  x.lnk.table.any (fun f => !f.bcast && f.nb == i) || onRing 10 || onRing 11

/-- Accepted work bound to record `i` is incomplete (R182). -/
def Wing.workFor (i : Nat) (x : Wing) : Bool := x.wrk.items.any (fun j => !j.partner && j.nb == i && j.outcome.isNone)

/-- The conditions of R182 other than the age. -/
def Wing.mayRelease (i : Nat) (x : Wing) : Bool :=
  !(x.nb i).pinned && !x.lnk.cells.any (fun e => e.2.kind != 0 && e.2.nb == i) && decide (x.lnk.parent ≠ some i) &&
  !x.frameTo i && !x.workFor i

/-- Record `i` is evictable (R182). -/
def Wing.evictable (i : Nat) (x : Wing) : Bool :=
  (x.nb i).valid && x.mayRelease i && decide (x.lnk.sync ≠ .searching) &&
  decide ((x.num 0x240002 64 * x.sfSlots : Int) ≤ asnDiff x.lnk.asn (x.nb i).lastAsn)

/-- The evictable record with the oldest contact, lowest index first on a tie (R182). -/
def Wing.oldestEvictable (x : Wing) : Option Nat :=
  ((x.msh.nbs.map (fun e => e.1)).filter (fun i => x.evictable i)).foldl (fun (b : Option Nat) i =>
    match b with
    | none => some i
    | some j => if asnDiff x.lnk.asn (x.nb j).lastAsn < asnDiff x.lnk.asn (x.nb i).lastAsn then some i else some j) none

/-- The lowest free record. -/
def Wing.freeNb (x : Wing) : Option Nat := (List.range 1024).find? (fun i => !(x.nb i).valid)

/-- A record for a candidate: a free one, or an evicted one, which departs (R180 step 3, R182). -/
def State.roomNb (w : Nat) (s : State) : Option (Nat × State) :=
  let x := s.wing w
  match x.freeNb with
  | some i => some (i, s)
  | none => x.oldestEvictable.map (fun i => (i, s.setWing w ((x.releaseNb i).mshCount 4)))

/-- The body of an NBFC record that keeps what a record starts with (R180, R229, R272). -/
def nbfcBody (i : Nat) (n : Nb) : Octets :=
  natLe 2 (i + 0x8000 * b2n n.rxEmpty) ++ natLe 2 n.epoch ++ natLe 4 n.rxFc ++ natLe 8 n.eui.toNat

/-- A record is made: journaled, written, and told to the twin (R180, R245, R272). -/
def State.makeNb (w i : Nat) (n : Nb) (s : State) : State :=
  ((s.jWrite w 0xB (nbfcBody i n)).modWing w (Wing.setNb i n)).nbTell w i

/-- An admission candidate as the Curator reads it from its descriptor on ring 8 (R88, R180). -/
structure Cand where
  /-- The descriptor. -/
  d : List Word
  /-- The MAC header. -/
  mac : Mac
  /-- The frame, without an FCS of two octets and of four. -/
  forms : List Octets
  /-- A beacon or broadcast: under the group key. -/
  group : Bool
  /-- END_TS and D on the wing's 64-bit time. -/
  endT : Nat
  /-- D. -/
  dur : Nat
  deriving DecidableEq, Repr

/-- The receive buffer of a descriptor (R88). -/
def descBuf (d : List Word) : Nat := (d.getD 0 0).toNat % 4096

/-- Read a candidate. The descriptor does not say how long the FCS is: both lengths are tried (DEDUCED, log 26). -/
def Wing.candidate (d : List Word) (x : Wing) : Cand :=
  let word := fun (k : Nat) => (d.getD k 0).toNat
  let len := word 1 % 2048
  let psdu := x.octets (x.bufAddr (descBuf d)) 0 len
  let ts := word 4 + 2 ^ 16 * word 5 + 2 ^ 32 * word 6
  let lap := if ts ≤ x.car.tb then x.car.lap else x.car.lap - 1
  let prof := bits (word 1) 13 11
  let m := parseMac psdu
  { d := d, mac := m, forms := [psdu.take (len - 2), psdu.take (len - 4)],
    group := m.typ == 0 || (m.dam == 2 && m.dst == 0xFFFF), endT := lap * lapTicks + ts,
    dur := x.rx.live.frameTicks prof (bit (word 2) 12) (x.lowMcs prof) len }

/-- The key of a candidate under epoch `e` (R473, R475): the Curator derives it on a page of its own. -/
def State.candKey (w : Nat) (eui e : Nat) (c : Cand) (s : State) : Option Octets :=
  ((s.wing w).cph.root).map (fun k =>
    deriveKey k (if c.group then groupLabel e eui else pairLabel e eui (s.identity w).toNat))

/-- The MIC of a candidate verifies under epoch `e`: the form that verifies (R476). -/
def State.candForm (w : Nat) (eui e : Nat) (c : Cand) (s : State) : Option Octets :=
  match s.candKey w eui e c with
  | none => none
  | some k => c.forms.find? (fun p =>
      if c.mac.typ = 0 then checkFrame k eui c.mac.fc p else (openData k eui p).isSome)

/-- Candidate epochs: at most four from `e0` whose key index is the frame's (R180 step 1). -/
def candEpochs (e0 idx : Nat) : List Nat :=
  let first := e0 + (idx + 254 - e0 % 255) % 255
  ([0, 1, 2, 3].map (fun k => first + 255 * k)).filter (fun e => e ≤ 0xFFFF)

/-- The record that admission writes (R180 step 4). -/
def Wing.admitted (eui e : Nat) (gone : Option (Nat × Nat)) (c : Cand) (x : Wing) : Nb :=
  let same : Bool := match gone with | some (ed, _) => ed == e | none => false
  let fc := if same then (gone.map (fun g => g.2)).getD 0 else 0
  let start := c.endT - c.dur
  let r := x.slotAt start
  let srch := decide (x.lnk.sync = .searching)
  { eui := BitVec.ofNat 64 eui, short := if c.mac.sam = 2 then w16 c.mac.src else 0xFFFE, valid := true,
    rxEmpty := !same, bcEmpty := !same, rxFc := fc, bcFc := fc, epoch := e, bcEpoch := e,
    lastAsn := if srch then 0 else r % asnMod, offset := if srch then 0 else x.txOffset - ((start : Int) - x.tS r),
    prr := 128, rank := 0xFFFF, lastTime := if srch then none else some start }

/-- What a replaced record keeps (R190). -/
def Nb.keepFrom (old n : Nb) : Nb :=
  { n with lastAsn := old.lastAsn, offset := old.offset, drift := old.drift, driftValid := old.driftValid,
           timing := old.timing, pinned := old.pinned, rssi := old.rssi, prr := old.prr, lastTime := old.lastTime,
           recov := old.recov }

/-- Steps 1 and 2 of R180 for a candidate of a known EUI, against the departure `gone`: the epoch and the form that
verifies, or the counter of the refusal. -/
def State.admitCheck (w : Nat) (eui e0 : Nat) (gone : Option (Nat × Nat)) (c : Cand) (s : State) :
    Except Nat (Nat × Octets) :=
  match (candEpochs e0 c.mac.key).findSome? (fun e => (s.candForm w eui e c).map (fun p => (e, p))) with
  | none => .error 1
  | some (e, p) =>
    match gone with
    | none => .ok (e, p)
    | some (ed, cd) => if ed < e || (e == ed && cd < c.mac.fc) then .ok (e, p) else .error 3

/-- A searching wing's admission sets LAST_CONTACT_ASN to the wing's first ASN once it is known (R180). -/
def Wing.firstAsn (i : Nat) (x : Wing) : Wing :=
  match x.lnk.sync, x.lnk.move with
  | .searching, some m => if i < 1024 then x.modNb i (fun n => { n with lastAsn := m.first % asnMod }) else x
  | _, _ => x

/-- Admission of a candidate of EUI `eui`, whose present record is `old` (R180, R190). -/
def State.admitCand (w eui : Nat) (old : Option Nat) (c : Cand) (s : State) : State :=
  let x := s.wing w
  let gone : Option (Nat × Nat) := match old with
    | some i => let n := x.nb i
                let e := if c.group then n.bcEpoch else n.epoch
                some (e, max (if n.epoch = e then n.rxFc else 0) (if n.bcEpoch = e then n.bcFc else 0))
    | none => x.departedOf eui
  match s.admitCheck w eui ((gone.map (fun g => g.1)).getD 0) gone c with
  | .error k => if x.admitMode = 1 then s.modWing w (Wing.mshCount k) else s
  | .ok (e, p) =>
    let n := x.admitted eui e gone c
    let hear := fun (i : Nat) (t : State) =>
      if c.mac.typ = 0 && (t.wing w).lnk.sync = .searching then
        (t.beaconHear w i (beaconOf p) (c.endT - c.dur) c.endT).modWing w (Wing.firstAsn i)
      else t
    let made := fun (i : Nat) (t : State) => hear i (t.modWing w (fun y => (y.mshCount 0).raise 56))
    match old with
    | some i => made i ((s.modWing w (Wing.depart (x.nb i))).makeNb w i ((x.nb i).keepFrom n))
    | none =>
      if x.admitMode ≠ 1 then hear 1024 s else
      match s.roomNb w with
      | none => (hear 1024 s).modWing w (Wing.mshCount 2)
      | some (i, s) => made i (s.makeNb w i n)

/-- The CANDIDATE event of mode HOST (R179, R542). -/
def Cand.event (c : Cand) : Octets :=
  let word := fun (k : Nat) => (c.d.getD k 0).toNat
  (if c.mac.sam = 3 then natBe 8 c.mac.src else zeros 8) ++ natLe 2 (if c.mac.sam = 2 then c.mac.src else 0xFFFE) ++
    [o8 (b2n (c.mac.typ ≠ 0)), o8 c.mac.key] ++ natLe 2 (word 2 % 512) ++ [o8 (word 3)] ++
    natLe 2 (word 4) ++ natLe 2 (word 5) ++ natLe 2 (word 6)

/-- ADMISSION (R179, R180, R190): the Curator takes the KIND 3 frame at the head of ring 8, once it can journal a record (R46, R57); a standby admits
nobody (R244). A candidate that names only a
short address has no EUI to verify it by, unless a record of that address stands (DEDUCED, log 26). -/
def execAdmission (w : WingId) (s : State) : Out :=
  let x := s.wing w
  .next (match x.ringHead 8 with
  | none => s
  | some d =>
    if !x.awake || x.fls.blocked || bits (d.getD 7 0).toNat 13 12 ≠ 3 then s else
    let c := x.candidate d
    let old := x.msh.find c.mac.sam c.mac.src
    let s := s.setWing w ((x.ringTook 8).bufReturn (descBuf d))
    let srch := x.lnk.sync = .searching && c.mac.typ = 0
    if x.admitMode = 0 || s.role w = .standby then s
    else if x.admitMode = 2 && old.isNone && !srch then s.modWing w (fun y => y.meshEvent 4 c.event)
    else match (if c.mac.sam = 3 then some c.mac.src else old.map (fun i => (x.nb i).eui.toNat)) with
    | none => if x.admitMode = 1 then s.modWing w (Wing.mshCount 1) else s
    | some eui =>
      let s := if x.admitMode = 2 && old.isNone then s.modWing w (fun y => y.meshEvent 4 c.event) else s
      if x.admitMode = 1 || srch then s.admitCand w eui old c else s)

/-- The limit of flood numbers is raised by 256 once it is journaled, and sealed by the twin of a DUAL pair (R193). -/
def Wing.floodRaise (x : Wing) : Wing :=
  match x.wrk.newest (fun r => r.typ == 8 && r.fld 0 3 == 0x072410) with
  | none => x
  | some r => { x with msh := { x.msh with floodLimit := r.fld 4 4 } }

/-- FLOOD_LIMIT_RAISE (R193). -/
def execFloodLimitRaise (w : WingId) (s : State) : Out :=
  let m := (s.wing w).msh
  let waits := (s.wing w).wrk.sealWait.contains (8, 0)
  .next (if (s.wing w).awake && !waits && (m.floodLimit + 2 ^ 32 - m.floodSeq) % 2 ^ 32 ≤ 64 then
    let s := s.jEntry w 0x2410 7 4 ((m.floodLimit + 256) % 2 ^ 32)
    if s.role w = .active && s.pairState w = .dual then s else s.modWing w Wing.floodRaise
  else s)

/-- The words of SRAM that frames still pending from ring 11 stand in, with their room (R154). -/
def Wing.ownUsed (x : Wing) : List Area :=
  let g := x.ring 11
  let onRing := (List.range g.count).map (fun k =>
    let word := fun (i : Nat) => (x.ld (g.slot (g.take + w16 k) + i)).toNat
    ((word 1 + 65536 * (word 2 % 256), (word 3 % 2048 + 7) / 2) : Area))
  onRing ++ ((x.lnk.table.filter (fun f => f.ring == 1)).map (fun f => ((f.buf, (f.len + 7) / 2) : Area)))

/-- A buffer for a frame of `len` octets that the Curator puts on ring 11 (DESIGN CHOICE, log 23). -/
def Wing.ownBuf (len : Nat) (x : Wing) : Option Nat :=
  let n := (len + 7) / 2
  ((List.range 96).map (fun k => 0x105000 + 0x80 * k)).find? (fun a => decide (a + n ≤ 0x108000) && !x.ownUsed.any (areaMeets (a, n)))

/-- A frame of the Curator goes on ring 11, at the power of acknowledgements (DESIGN CHOICE, log 27); false when it finds no room. -/
def Wing.ownSend (word0 : Nat) (p : Octets) (x : Wing) : Bool × Wing :=
  match x.ownBuf p.length with
  | none => (false, x.ringRefuse 11)
  | some a =>
    let (ok, y) := (x.putOctets a 0 p).publish 11 false
      [w16 word0, w16 a, w16 (a / 65536 + 256 * x.reg 0xFF801E), w16 (p.length % 2048), 0, 0, 0, 0]
    if ok then (true, y) else (false, x.ringRefuse 11)

/-- A mesh message goes on ring 11, with AR and MAX_TRIES 8 (R311); false when it finds no room. -/
def State.meshSend (w nb : Nat) (payload : Octets) (s : State) : Bool × State :=
  let x := s.wing w
  let (ok, y) := x.ownSend (nb % 1024 + 0x800 + 0x8000) (s.dataFrame w true (some (x.nb nb)) payload)
  (ok, s.setWing w y)

/-- A mesh message of a type and transaction (R312). -/
def meshMsg (typ trans : Nat) (body : Octets) : Octets := [0xF5, o8 typ] ++ natLe 2 trans ++ body

/-- TRANSACTION of a report or confirmation, which the spec leaves open: a free value (log 2). -/
def State.meshTell (w nb typ : Nat) (body : Octets) (s : State) : State :=
  let (v, s) := s.draw
  (s.meshSend w nb (meshMsg typ (v.toNat % 65536) body)).2

/-- The accepted-work figures of a census record (R254). -/
def State.censusWork (w : Nat) (s : State) : Octets :=
  let x := s.wing w
  let c := fun (i : Nat) => x.total (0x252000 + i)
  let role : Nat := match s.role w with | .single => 0 | .active => 1 | .standby => 2
  let st : Nat := match s.pairState w with | .none => 0 | .seeding => 1 | .dual => 2 | .degraded => 3
  natLe 4 (c 1) ++ natLe 4 (c 2) ++ natLe 4 (c 3) ++ natLe 4 (c 5 + c 6) ++ natLe 4 (c 7) ++ natLe 4 (c 8) ++
    natLe 2 x.wrk.items.length ++ [o8 role, o8 st] ++ natLe 4 x.wrk.next

/-- `n` 32-bit Catalogue counters from subindex 1 of an index. -/
def Wing.totals (idx n : Nat) (x : Wing) : Octets :=
  (List.range n).flatMap (fun i => natLe 4 (x.total (idx * 256 + 1 + i)))

/-- The census record of an order (R211). -/
def State.censusRecord (w : Nat) (o : Order) (late : Bool) (s : State) : Octets :=
  let x := s.wing w
  natLe 2 o.oid ++ [o8 (b2n late)] ++ natLe 5 x.lnk.asn ++ natLe 8 x.lnk.slotStart ++ x.totals 0x2130 12 ++
    x.totals 0x2220 13 ++ x.totals 0x2330 20 ++ x.totals 0x2440 23 ++ s.censusWork w

/-- The census report of a wing (R314). -/
def State.censusReport (w : Nat) (o : Order) (late : Bool) (s : State) : Octets :=
  let x := s.wing w
  natBe 8 (s.identity w).toNat ++ natLe 2 o.oid ++ [o8 (b2n late)] ++ natLe 4 x.msh.txFc ++ natLe 4 (x.total 0x233007) ++
    natLe 4 (x.total 0x252001)

/-- A report goes to the time parent; a root delivers it (R314). -/
def State.censusPass (w : Nat) (rep : Octets) (s : State) : State :=
  match (s.wing w).lnk.parent with
  | some p => s.meshTell w p 3 rep
  | none => if (s.wing w).lnk.sync = .root then s.modWing w (fun x => x.meshEvent 5 rep) else s

/-- The wing enters SEARCHING, keeping its records and cells (R146, R212). -/
def Wing.toSearch (x : Wing) : Wing :=
  let dropped := fun (f : RxFrame) => x.tx.reqs.any (fun q => decide (q.what = .ack f.id))
  ({ x with lnk := { x.lnk with sync := .searching, move := none, next := none, parent := none, txSlot := false, own := none
                                rx := x.lnk.rx.map (fun (f : RxFrame) => if dropped f then { f with noAck := true } else f) }
            msh := { x.msh with rank := 0xFFFF, interim := false, lost := 0, orphan := 0 } }.txWithdraw (fun _ => true))

/-- Order `o` lies before `p` (R209). -/
def Order.before (present : Nat) (o p : Order) : Bool :=
  decide (asnDiff present p.asn < asnDiff present o.asn) || (o.asn == p.asn && decide (o.oid < p.oid))

/-- The due order that executes next (R209). -/
def Wing.dueOrder (x : Wing) : Option Order :=
  (x.msh.orders.filter (fun o => asnPast x.lnk.asn o.asn)).foldl (fun (b : Option Order) o =>
    match b with | none => some o | some p => if o.before x.lnk.asn p then some o else some p) none

/-- The action of an order (R211 to R213). -/
def State.orderAct (w : Nat) (o : Order) (late : Bool) (s : State) : State :=
  match o.cls with
  | 1 =>
    let rec_ := s.censusRecord w o late
    let rep := s.censusReport w o late
    (s.modWing w (fun x => { x with msh := { x.msh with census := (rec_ :: x.msh.census).take 4 } })).censusPass w rep
  | 2 =>
    match o.action with
    | 1 => s.modWing w Wing.toSearch
    | 2 => s.enterReset w .host
    | _ => s
  | _ => s.modWing w (fun x => { x with msh := { x.msh with
      barriers := x.msh.barriers ++ [{ oid := o.oid, asn := o.asn, param := o.param, puts := ((x.ring 10).put, (x.ring 11).put),
                                       heard := (x.msh.early.filter (fun e => e.1 == o.oid)).map (fun e => e.2) }]
      early := x.msh.early.filter (fun e => e.1 != o.oid) } })

/-- A held order executes: journaled as done first (R209, R210). -/
def State.orderRun (w : Nat) (o : Order) (s : State) : State :=
  let late := o.late || decide (o.asn ≠ (s.wing w).lnk.asn)
  let s := s.jWrite w 0xD (natLe 8 o.orig ++ natLe 4 o.seq ++ List.replicate 4 0xFF)
  let s := s.modWing w (fun x =>
    let y := (x.raise 58)
    let y := if late then y.mshCount 16 else y
    { y with msh := { y.msh with orders := y.msh.orders.filter (fun p => p ≠ o) } })
  s.orderAct w o late

/-- ORDER_EXECUTE (R209): the first of the orders due at the present slot's boundary, once its ORDER_DONE record can be written (R46, R57). -/
def execOrderExecute (w : WingId) (s : State) : Out :=
  let x := s.wing w
  .next (if x.isRunning && x.lnk.sync ≠ .searching && !x.fls.blocked then
    match x.dueOrder with | none => s | some o => s.orderRun w o
  else s)

/-- The children of a wing: the neighbours named by its RX_EXPECT cells (R213). -/
def Wing.children (x : Wing) : List Nat :=
  ((x.lnk.cells.filter (fun e => e.2.kind == 4 && decide (e.2.nb < 1024))).map (fun e => e.2.nb)).eraseDups

/-- Every unicast frame that stood on rings 10 and 11 before the barrier has completed (R213). -/
def Wing.barrierFrames (b : Barrier) (x : Wing) : Bool :=
  let before := fun (r : Nat) (put : Word) =>
    let g := x.ring (10 + r)
    let behind := fun (pos : Word) => decide (0 < (put - pos).toNat) && decide ((put - pos).toNat ≤ 4096)
    (List.range g.count).any (fun k =>
      let pos := g.take + w16 k
      behind pos && !bit (x.ld (g.slot pos)).toNat 10) ||
    x.lnk.table.any (fun f => f.ring == r && !f.bcast && behind f.pos)
  !before 0 b.puts.1 && !before 1 b.puts.2

/-- The conditions of a barrier hold (R213). -/
def Wing.barrierReady (b : Barrier) (x : Wing) : Bool :=
  asnPast x.lnk.asn b.asn && !x.msh.orders.any (fun o => asnPast b.asn o.asn) && x.barrierFrames b &&
  (x.children.all (fun i => b.heard.any (fun h => h.1 == i)) ||
    decide ((b.param * x.sfSlots : Int) ≤ asnDiff x.lnk.asn b.asn))

/-- BARRIER_MISSING events of a list of children, at most 128 in each (R542). -/
def Wing.missingEvents (oid : Nat) (x : Wing) (euis : List Nat) : Wing :=
  (List.range ((euis.length + 127) / 128)).foldl (fun (y : Wing) k =>
    let part := (euis.drop (128 * k)).take 128
    y.meshEvent 2 (natLe 2 oid ++ natLe 2 part.length ++ part.flatMap (natBe 8))) x

/-- The barrier is confirmed (R213, R313). -/
def State.barrierEnd (w : Nat) (b : Barrier) (s : State) : State :=
  let x := s.wing w
  let kids := x.children
  let heard := b.heard.filter (fun h => kids.contains h.1)
  let gone := kids.filter (fun i => !heard.any (fun h => h.1 == i))
  let conf := 1 + heard.foldl (fun n h => n + h.2.1) 0
  let miss := heard.foldl (fun n h => n + h.2.2) 0 + gone.length
  let x := { x with msh := { x.msh with barriers := x.msh.barriers.filter (fun c => c ≠ b) } }
  let x := x.missingEvents b.oid (gone.map (fun i => (x.nb i).eui.toNat))
  let body := natLe 2 b.oid ++ natLe 2 conf ++ natLe 2 miss
  match x.lnk.parent with
  | some p => (s.setWing w x).meshTell w p 4 body
  | none => s.setWing w (if x.lnk.sync = .root then x.meshEvent 3 body else x)

/-- BARRIER_CONFIRM (R213): the oldest barrier whose conditions hold. -/
def execBarrierConfirm (w : WingId) (s : State) : Out :=
  let x := s.wing w
  .next (if x.isRunning && x.lnk.sync ≠ .searching then
    match x.msh.barriers.find? (fun b => x.barrierReady b) with | none => s | some b => s.barrierEnd w b
  else s)

end Sys2Proof.Machine
end

