-- ==== Sys2Proof/Machine/RegBlocks.lean ====
section
/-! DEFINITION. The registers of the link engine (R174), the mesh tables (R216, R183), accepted work (R255) and the port
window (R315). -/
namespace Sys2Proof.Machine
open Sys2Proof

/-- A multi-word register of the Keeper reader. -/
def State.multi (w low k val off : Nat) (s : State) : Word × State :=
  let (v, y) := (s.wing w).readMulti 0 low k val off
  (v, s.setWing w y)

/-- A counter register that clears when read. -/
def State.rc (w reg : Nat) (s : State) : Word × State :=
  let (v, y) := (s.wing w).readRc reg
  (v, s.setWing w y)

/-- A read of the link-engine block at word offset `a` (R174). -/
def State.lnkRead (w a : Nat) (s : State) : Word × State :=
  let x := s.wing w
  if 0x20 ≤ a && a < 0x34 then s.rc w (0xFF8000 + a)
  else if 0x08 ≤ a && a < 0x0B then s.multi w 0xFF8008 3 x.lnk.asn (a - 0x08)
  else if 0x0B ≤ a && a < 0x0F then s.multi w 0xFF800B 4 x.lnk.slotStart (a - 0x0B)
  else match a with
  | 0x01 => (w16 (x.lnk.sync.code % 4 + 4 * b2n x.lnk.txSlot), s)
  | 0x18 => (w16 (tget 0 x.lnk.hop (x.reg 0xFF8017 % 512)), s)
  | 0x1B => (match x.lnk.parent with | none => 0 | some p => w16 (p + 0x8000), s)
  | _ => (if a < 0x1F && a ≠ 0x0F && a ≠ 0x1C then w16 (x.reg (0xFF8000 + a)) else 0, s)

/-- The values that a write of a link-engine register accepts (R138, R174). -/
def Wing.lnkOk (a v : Nat) (x : Wing) : Bool :=
  match a with
  | 0x02 => decide (1000 ≤ v) && decide (v ≤ 40000)
  | 0x03 => decide (8 ≤ v) && decide (v ≤ 1024)
  | 0x04 => decide (200 ≤ v) && decide (v + 1000 ≤ x.slotUs)
  | 0x05 => decide (200 ≤ v) && decide (v ≤ 2000)
  | 0x06 => decide (4 ≤ v) && decide (v ≤ 500)
  | 0x07 => decide (100 ≤ v) && decide (v ≤ 2000)
  | 0x13 => decide (1 ≤ v)
  | 0x16 => decide (v ≤ 512)
  | 0x1D => v == 4 || v == 5
  | _ => true

/-- Registers of the link engine that hold a value as written. -/
def lnkPlain (a : Nat) : Bool :=
  [0x00, 0x02, 0x03, 0x04, 0x05, 0x06, 0x07, 0x10, 0x11, 0x12, 0x13, 0x14, 0x15, 0x16, 0x17, 0x19, 0x1A, 0x1D, 0x1E].contains a

/-- Registers of the link engine that only a STOPPED wing accepts. -/
def lnkStopped (a : Nat) : Bool := [0x02, 0x03, 0x04, 0x05, 0x07, 0x16].contains a

/-- A write of the link-engine block at word offset `a` (R174). -/
def Wing.lnkWrite (a : Nat) (v : Word) (x : Wing) : Wing :=
  let n := v.toNat % ((regInfo (0xFF8000 + a)).2 + 1)
  if a = 0x18 then { x with lnk := { x.lnk with hop := tset 0 (x.reg 0xFF8017 % 512) (v.toNat % 512) x.lnk.hop } }
  else if a = 0x1C then x.recover (v.toNat % 1024)
  else if !lnkPlain a || (lnkStopped a && x.sys.state ≠ .stopped) || !x.lnkOk a n then x
  else x.setReg (0xFF8000 + a) n

/-- A read of the mesh-tables block at word offset `a` (R216). -/
def State.mshRead (w a : Nat) (s : State) : Word × State :=
  let x := s.wing w
  let m := x.msh
  if 0x50 ≤ a && a < 0x67 then s.rc w (0xFF9000 + a)
  else if 0x10 ≤ a && a < 0x30 then ((x.nb (x.reg 0xFF9002)).words.getD (a - 0x10) 0, s)
  else if a = 0x30 || a = 0x31 then s.multi w 0xFF9030 2 m.txFc (a - 0x30)
  else if a = 0x37 || a = 0x38 then s.multi w 0xFF9037 2 m.floodSeq (a - 0x37)
  else if a = 0x39 || a = 0x3A then s.multi w 0xFF9039 2 m.floodLimit (a - 0x39)
  else if a = 0x40 || a = 0x41 then s.multi w 0xFF9040 2 m.epoch (a - 0x40)
  else if 0x42 ≤ a && a < 0x46 then s.multi w 0xFF9042 4 m.root (a - 0x42)
  else match a with
  | 0x01 => (w16 (x.nbCount + 2048 * b2n x.relayPending + 4096 * b2n m.interim), s)
  | 0x32 => (w16 m.keyEpoch, s)
  | 0x36 => (w16 x.cacheLive.length, s)
  | 0x46 => (w16 m.rank, s)
  | 0x49 => (w16 m.noTime, s)
  | _ => (if [0x00, 0x02, 0x33, 0x34, 0x35, 0x47, 0x48].contains a then w16 (x.reg (0xFF9000 + a)) else 0, s)

/-- Another valid record than `i` has the EUI (R183). -/
def Wing.euiTaken (i : Nat) (eui : Eui) (x : Wing) : Bool :=
  x.msh.nbs.any (fun e => e.1 != i && e.2.valid && e.2.eui == eui)

/-- A record may take the value `n` (R183): no second valid record of its EUI, and VALID cleared only where R182 lets it. -/
def Wing.nbMayBe (i : Nat) (n : Nb) (x : Wing) : Bool :=
  !(n.valid && x.euiTaken i n.eui) && !((x.nb i).valid && !n.valid && !x.mayRelease i)

/-- A write of the record window (R183, R216). -/
def Wing.nbWindow (k : Nat) (v : Word) (x : Wing) : Wing :=
  let i := x.reg 0xFF9002
  let n := (x.nb i).putWord k v
  if x.nbMayBe i n then x.setNb i n else x

/-- One half of a 32-bit register replaced. -/
def half (old off : Nat) (v : Word) : Nat := if off = 0 then old / 65536 * 65536 + v.toNat else old % 65536 + 65536 * v.toNat

/-- A write of the mesh-tables block at word offset `a` (R216). -/
def Wing.mshWrite (a : Nat) (v : Word) (x : Wing) : Wing :=
  let n := v.toNat
  let early := decide (x.sys.state = .boot) || decide (x.sys.state = .stopped)
  if 0x10 ≤ a && a < 0x30 then x.nbWindow (a - 0x10) v
  else if a = 0x37 || a = 0x38 then
    if early then { x with msh := { x.msh with floodSeq := half x.msh.floodSeq (a - 0x37) v } } else x
  else if a = 0x39 || a = 0x3A then { x with msh := { x.msh with floodLimit := half x.msh.floodLimit (a - 0x39) v } }
  else match a with
  | 0x35 => if 1 ≤ n % 128 && n % 128 ≤ 64 then x.setReg 0xFF9035 n else x
  | 0x47 =>
    let old := x.reg 0xFF9047
    let mode := if n % 4 = 3 then old % 4 else n % 4
    let prio := if bits n 5 2 = 0 then bits old 5 2 else bits n 5 2
    x.setReg 0xFF9047 (mode + 4 * prio)
  | _ => if [0x00, 0x02, 0x33, 0x34, 0x48].contains a then x.setReg (0xFF9000 + a) n else x

/-- ACC_STATUS (R255). -/
def State.accStatus (w : Nat) (s : State) : Nat :=
  let role : Nat := match s.role w with | .single => 0 | .active => 1 | .standby => 2
  let st : Nat := match s.pairState w with | .none => 0 | .seeding => 1 | .dual => 2 | .degraded => 3
  role + 4 * st + 16 * b2n (decide (s.role w = .active)) + 32 * ((s.twin w).getD 0 % 8)

/-- A read of the registers at 0xFF_2800, by offset (R255). -/
def State.accRead (w a : Nat) (s : State) : Word × State :=
  let k := (s.wing w).wrk
  (match a with
  | 0 => w16 (s.accStatus w)
  | 1 => w16 (b2n k.open_ + 2 * b2n k.release)
  | 3 => w16 k.pairGen
  | _ => 0, s)

/-- A beat of a paired wing (R250, R253): the port notes when it was written. -/
def State.twinBeat (w : Nat) (s : State) : State :=
  match s.pairOf w with
  | none => s
  | some p =>
    let t := some (s.wing w).now
    let q := s.port.pair p
    s.setPair p (if s.role w = .active then { q with beat := t } else { q with standbyBeat := t })

/-- A write of the registers at 0xFF_2800, by offset (R255). -/
def State.accWrite (w a : Nat) (v : Word) (s : State) : State :=
  match a with
  | 1 => s.modWing w (fun x => { x with wrk := { x.wrk with open_ := v.getLsbD 0, release := x.wrk.release || v.getLsbD 1 } })
  | 2 => s.twinBeat w
  | 3 => s.modWing w (fun x => { x with wrk := { x.wrk with pairGen := v.toNat } })
  | _ => s

/-- Open sessions. -/
def Port.openCount (p : Port) : Nat := ((List.range 8).filter (fun n => (p.sessions.get n).isOpen)).length

/-- A read of the port window at word offset `a` (R315). -/
def State.portRead (w a : Nat) (s : State) : Word × State :=
  let q := (s.wing w).win
  if 1 ≤ a && a < 5 then s.multi w 0xFFA001 4 q.ts (a - 1)
  else if 5 ≤ a && a < 8 then s.multi w 0xFFA005 3 q.asn (a - 5)
  else match a with
  | 0 => (w16 (b2n (s.port.linkUp || s.spi) + 2 * b2n s.spi + 4 * s.port.openCount + 64 * b2n s.port.imageFinal), s)
  | 8 => (w16 q.count, s)
  | _ => (0, s)

end Sys2Proof.Machine
end

