-- ==== Sys2Proof/Machine/CatTable.lean ====
section
/-! DEFINITION. The entries of the Catalogues (08_catalogue.md and the entry tables of every chapter): type, access code, roles,
persistence, default and range of each, and the addresses that exist (R260 to R266). -/
namespace Sys2Proof.Machine
open Sys2Proof

/-- The types of R264. -/
inductive Ty
  | bool | u (n : Nat) | i (n : Nat) | bcd (n : Nat) | octets (n : Nat) | text (n : Nat) | stamp | asn | calendar | eui
  /-- An octet block of `n` octets, or of at most `n`. -/
  | domain (n : Nat) (fixed : Bool)
  deriving DecidableEq, Repr

/-- The access codes of 00_scope.md. -/
inductive Acc | ro | const | rc | rw | rws | wo | wl
  deriving DecidableEq, Repr

/-- One entry. -/
structure Ent where
  /-- Type. -/
  ty : Ty
  /-- Access. -/
  acc : Acc := .ro
  /-- Write role. -/
  wr : SRole := .operator
  /-- Read role. -/
  rd : SRole := .observer
  /-- RETAINED. -/
  keep : Bool := false
  /-- The default, as the number its octets spell. -/
  dflt : Nat := 0
  /-- The ranges permitted; none listed means every value of the type. -/
  rng : List (Int × Int) := []
  deriving DecidableEq, Repr

/-- A read-only entry. -/
def eRo (t : Ty) (d : Nat := 0) : Ent := { ty := t, dflt := d }
/-- A constant. -/
def eConst (t : Ty) (d : Nat := 0) : Ent := { ty := t, acc := .const, dflt := d }
/-- A RETAINED RW entry. -/
def eRw (r : SRole) (t : Ty) (d : Nat := 0) (rng : List (Int × Int) := []) : Ent :=
  { ty := t, acc := .rw, wr := r, keep := true, dflt := d, rng := rng }
/-- A RETAINED RWS entry. -/
def eRws (r : SRole) (t : Ty) (d : Nat := 0) (rng : List (Int × Int) := []) : Ent :=
  { ty := t, acc := .rws, wr := r, keep := true, dflt := d, rng := rng }
/-- A write-only entry. -/
def eWo (r : SRole) (t : Ty) (rng : List (Int × Int) := []) : Ent := { ty := t, acc := .wo, wr := r, rng := rng }
/-- A VOLATILE RW entry. -/
def eVol (r : SRole) (t : Ty) (d : Nat := 0) (rng : List (Int × Int) := []) : Ent :=
  { ty := t, acc := .rw, wr := r, dflt := d, rng := rng }

/-- The values of a list, each alone. -/
def only (vs : List Int) : List (Int × Int) := vs.map (fun v => (v, v))

/-- Subindices 1 to `n` of an index, all alike. -/
def subs (idx n : Nat) (e : Ent) : List (Nat × Ent) := (List.range n).map (fun k => (catKey idx (k + 1), e))

/-- The identity and version entries that every realm holds (R282). -/
def entsAll : List (Nat × Ent) :=
  [(0x100001, eConst (.u 4)), (0x100002, eConst (.text 16)), (0x100003, eConst (.u 1)), (0x100004, eConst (.u 1)),
   (0x100005, eConst (.u 1)), (0x100205, eConst (.u 2))]

/-- Catalogue control of a realm (R285). -/
def entsControl (idx : Nat) : List (Nat × Ent) :=
  [(catKey idx 1, eWo .operator (.u 1) (only [1])), (catKey idx 2, eRo (.u 1)), (catKey idx 3, eRo (.u 4)),
   (catKey idx 4, eWo .owner (.u 2) (only [1, 3])), (catKey idx 5, eRo (.u 2)), (catKey idx 6, eRo .bool)]

/-- Identity, wing state and Catalogue control of a wing (R66, R282, R283, R285). -/
def entsWing0 : List (Nat × Ent) :=
  entsAll ++
  [(0x100101, eConst .eui), (0x100102, eRo .eui), (0x100201, eConst (.u 4)), (0x100202, eRo (.u 4)), (0x100203, eRo (.u 1)),
   (0x100301, eRo .bool), (0x200001, eRo (.u 1)), (0x200002, eVol .keeper .bool), (0x200003, eRo .bool 1),
   (0x200101, eRo (.u 2)), (0x200102, eRo (.u 4)), (0x200103, eWo .keeper (.u 2) (only [0xA5C3])), (0x200201, eRo (.i 2)),
   (0x200202, eRo (.u 4)), (0x200300, eRo (.u 4))] ++ entsControl 0x2004

/-- The receiver (R104, R541); `n:2110` stands for the eight profiles. F0_KHZ above 0x3FFFFF and POOL_BASE above 0xFFFFFF, which their
registers cannot hold, are refused with RANGE (DESIGN CHOICE, log 40). -/
def entsRx : List (Nat × Ent) :=
  [(0x210001, eRws .operator (.u 1) 0xFF [(0, 3), (255, 255)]), (0x210002, eRws .operator (.u 2) 200 (only [100, 200, 400, 600, 800])),
   (0x210003, eRw .operator (.u 4) 0 [(0, 0x3FFFFF)]), (0x210004, eRw .operator (.u 2) 0 [(0, 512)]),
   (0x210005, eRw .operator (.u 1) 1 [(0, 1)]), (0x210006, eRw .operator (.u 1) 0 (only [0, 6, 12, 18, 24, 30])),
   (0x210007, eRw .operator (.u 1) 0 (only [0, 6, 12, 18, 24, 30])), (0x210008, eRw .operator (.u 1) 30 (only [0, 6, 12, 18, 24, 30])),
   (0x210009, eVol .operator .bool), (0x210200, eRw .operator (.domain 512 true)),
   (0x211001, eRw .operator (.u 1) 0 [(0, 3)]),
   (0x211002, eRw .operator (.u 2) 50 (only [50, 100, 150, 200, 250, 300, 400, 1, 2, 3, 4])),
   (0x211003, eRw .operator (.u 1) 50 (only [0, 33, 50, 100])), (0x211004, eRw .operator (.u 1) 0 [(0, 2)]),
   (0x211005, eRw .operator (.u 1) 0 [(0, 1)]), (0x211006, eRw .operator .bool), (0x211007, eRw .operator (.u 1) 0 [(0, 1)]),
   (0x211008, eRw .operator (.u 1) 0 [(0, 31)]), (0x211009, eRw .operator (.u 1)), (0x21100A, eRw .operator (.i 1)),
   (0x21100B, eRw .operator (.u 1)), (0x21100C, eRo .bool),
   (0x212001, eRws .operator (.u 4) 0x120000 [(0, 0xFFFFFF)]), (0x212002, eRws .operator (.u 2) 64 [(0, 4096)]),
   (0x212003, eRws .operator (.u 2) 1024 [(64, 1024)])] ++ subs 0x2130 12 (eRo (.u 4)) ++
  [(0x214001, eRo (.u 1)), (0x214002, eRo (.u 1)), (0x214003, eRo (.u 1)), (0x214004, eRo (.i 2)), (0x214005, eRo (.i 2)),
   (0x214006, eRo (.u 1)), (0x214007, eRo (.u 1)), (0x214008, eRo .bool), (0x214009, eWo .keeper (.u 1) [(0, 15)]),
   (0x21400A, eRw .operator .bool 1)]

/-- A WL entry (R266). -/
def eWl (t : Ty) (d : Nat) (rng : List (Int × Int) := []) : Ent :=
  { ty := t, acc := .wl, wr := .owner, keep := true, dflt := d, rng := rng }

/-- The transmitter and limiter (R121, R134); `n:2201` stands for the eight sub-bands. -/
def entsTx : List (Nat × Ent) :=
  [(0x220001, eWl (.u 1) 0xFF), (0x220002, eWl (.i 1) 0xFF), (0x220003, eWl (.u 1) 0xFF),
   (0x220101, eWl (.u 4) 0xFFFFFFFF), (0x220102, eWl (.u 4) 0xFFFFFFFF), (0x220103, eWl (.i 1) 0xFF),
   (0x220104, eWl (.u 2) 0xFFFF), (0x220105, eWl (.u 2) 0xFFFF), (0x220106, eWl (.u 2) 0xFFFF),
   (0x220900, eRo .bool), (0x221001, eRw .operator (.u 1) 4 (only [2, 4, 8, 16])), (0x221002, eRw .operator .bool),
   (0x221003, eRw .operator (.u 4) 0x91020 [(0, 0xFFFFF)]), (0x221004, eRw .operator (.u 1) 255)] ++
  subs 0x2220 13 (eRo (.u 4)) ++ subs 0x2230 8 (eRo (.u 4)) ++ subs 0x2231 8 (eRo (.u 4)) ++
  [(0x223200, eRo .bool), (0x224001, eVol .keeper (.u 1) 0 [(0, 2)]), (0x224002, eVol .keeper (.u 2) 0 [(0, 511)]),
   (0x224003, eVol .keeper (.u 1) 0 [(0, 7)]), (0x224004, eVol .keeper (.i 1))]

/-- Link timing and schedule (R175, R138, R150); `n:6000` stands for the cells. -/
def entsLnk : List (Nat × Ent) :=
  [(0x230001, eRws .operator (.u 2) 0 [(0, 0), (1000, 40000)]), (0x230002, eRws .operator (.u 2) 64 [(8, 1024)]),
   (0x230003, eRws .operator (.u 2) 0 [(0, 0), (200, 39000)]), (0x230004, eRws .operator (.u 2) 0 [(0, 0), (200, 2000)]),
   (0x230005, eRw .operator (.u 2) 100 [(4, 500)]), (0x230006, eRws .operator (.u 2) 200 [(100, 2000)]),
   (0x230007, eRw .operator .bool 1), (0x230008, eRw .operator .bool 1), (0x230101, eRo .asn), (0x230102, eRo .stamp),
   (0x230103, eRo (.u 1)), (0x230201, eRw .operator .bool 1), (0x230202, eRw .operator (.u 2) 0 [(0, 1023)]),
   (0x230203, eRw .operator (.u 2) 0 [(0, 511)]), (0x230204, eRo (.u 2) 0xFFFF), (0x230205, eRw .operator (.u 1) 0 [(0, 7)]),
   (0x230206, eRw .operator (.i 1) 40), (0x230301, eRw .operator (.u 1) 5 [(4, 5)]), (0x230302, eRw .operator (.i 1) 40),
   (0x231000, eRws .operator (.domain 1024 true)), (0x231101, eRws .operator (.u 2) 0 [(0, 512)]),
   (0x231102, eRws .operator (.u 2) 0xFFFF), (0x232001, eRw .operator (.u 2) 160), (0x232002, eRw .operator (.u 2) 2200),
   (0x232003, eRw .operator (.u 2) 6000), (0x232004, eRw .operator (.u 1) 3 [(1, 15)]), (0x232005, eRw .operator (.u 2) 200),
   (0x232006, eRw .operator (.u 2) 20000), (0x232007, eWo .keeper (.u 2) [(0, 1023)])] ++ subs 0x2330 20 (eRo (.u 4)) ++
  [(0x600001, eRw .operator (.u 2)), (0x600002, eRw .operator (.u 2)), (0x600003, eRw .operator (.u 1) 0 [(0, 4)]),
   (0x600004, eRw .operator (.u 2) 0 [(0, 1023), (65535, 65535)]), (0x600005, eRw .operator (.u 1) 0 [(0, 7)]),
   (0x600006, eRw .operator (.u 1) 0 [(0, 8)]), (0x600007, eRw .operator (.u 2))]

/-- The mesh (R177, R217); `n:5000` stands for the neighbour records and `n:2431` for the census records. -/
def entsMsh : List (Nat × Ent) :=
  [(0x240001, eRw .operator (.u 1) 1 [(0, 2)]), (0x240002, eRw .operator (.u 2) 64), (0x240003, eRo (.u 2)), (0x240004, eRo (.u 2)),
   (0x240101, eRo (.u 4)), (0x240102, eRo (.u 2)), (0x241001, eRw .operator (.u 1) 16 [(1, 255)]),
   (0x241002, eRw .operator (.u 1) 1 [(0, 15)]), (0x241003, eRw .operator (.u 1) 3 [(0, 15)]),
   (0x241004, eRw .operator (.u 1) 8 [(1, 64)]), (0x241005, eRw .operator .bool 1), (0x241006, eRo (.u 2)), (0x241007, eRo (.u 4)),
   (0x242001, eRw .keeper (.u 1) 0 [(0, 2)]), (0x242002, eRw .keeper (.u 1) 8 [(1, 15)]), (0x242003, eRw .keeper .eui),
   (0x242004, eRw .keeper (.u 1) 8 [(1, 255)]), (0x242005, eRw .keeper (.u 2) 256), (0x242101, eRo (.u 4)), (0x242102, eRo .eui),
   (0x242103, eRo (.u 2) 0xFFFF), (0x242104, eRo .asn)] ++
  [(0x242201, { ty := .u 4, acc := .rws, wr := .keeper }), (0x242202, { ty := .asn, acc := .rws, wr := .keeper }),
   (0x242203, { ty := .stamp, acc := .rws, wr := .keeper }), (0x242204, { ty := .bool, acc := .rws, wr := .keeper }),
   (0x243000, eRo (.u 1)), (0x243100, eRo (.domain 320 false))] ++ subs 0x2440 23 (eRo (.u 4)) ++
  [(0x245000, eRw .operator (.u 1) 0xFF), (0x500001, eRw .operator .eui), (0x500002, eRw .operator (.u 2)),
   (0x500003, eRw .operator (.u 2)), (0x500004, eRo (.u 4)), (0x500005, eRo (.u 4)), (0x500006, eRo (.u 2)),
   (0x500007, eRo (.u 2)), (0x500008, eRo .asn), (0x500009, eRo (.i 4)), (0x50000A, eRw .operator (.i 4)), (0x50000B, eRo (.i 1)),
   (0x50000C, eRo (.u 1)), (0x50000D, eRo (.u 2)), (0x50000E, eRo (.u 2))]

/-- Accepted work, Carillon and flash (R256, R344, R397). -/
def entsWork : List (Nat × Ent) :=
  [(0x250001, eRo (.u 6) 1), (0x250002, eRo (.u 4)), (0x250003, eRo (.u 2)), (0x250004, eRo (.u 2)), (0x250005, eRo (.u 6)),
   (0x250101, eRw .keeper (.u 2) 512 [(16, 1024)]), (0x250102, eRw .keeper (.u 1) 4 [(1, 255)]),
   (0x250103, eRw .keeper (.u 2) 64 [(1, 65535)]), (0x250104, eRw .keeper (.u 1) 4 [(4, 5)]), (0x250201, eRo (.u 1)),
   (0x250202, eRo (.u 1) 0xFF), (0x250203, eRo (.u 2))] ++ subs 0x2520 16 (eRo (.u 4)) ++
  [(0x260001, eRo .stamp), (0x260002, eRo (.u 1)), (0x260003, eRw .keeper .bool 1), (0x260004, eRw .keeper (.u 1) 4 [(3, 15)])] ++
  subs 0x2601 3 (eRo (.u 4)) ++
  [(0x260200, eRw .keeper (.u 4)), (0x270001, eRo (.u 1)), (0x270002, eRo (.u 1)), (0x270003, eRo (.u 1)),
   (0x270100, eRo (.domain 8192 true)), (0x270200, eWl (.u 2) 0xFFFF (only [0x4C4B]))] ++ subs 0x2710 7 (eRo (.u 4)) ++
  [(0x271100, eRo (.domain 4096 true)), (0x271200, eRo (.domain 1024 true)), (0x271301, eRo (.u 4)), (0x271302, eRo (.u 2)),
   (0x271303, eRo (.u 2)), (0x271304, eRo (.u 1)), (0x271305, eRo (.u 4))] ++ subs 0x2720 14 (eRo (.u 4))

/-- Core, applets, Docent and mailboxes (R439, R465); `n:2A40` stands for the sixteen rings. -/
def entsCore : List (Nat × Ent) :=
  [(0x280001, eRw .keeper (.u 1) 14 [(5, 21)]), (0x280002, eRw .keeper .bool)] ++ subs 0x2801 7 (eRo (.u 4)) ++
  [(0x280201, eRo (.u 1)), (0x280202, eRo (.u 4)), (0x280203, eRo (.u 2)), (0x280204, eRo (.u 2)), (0x280205, eRo (.u 2)),
   (0x280206, eRo (.u 1)), (0x281001, eRo (.u 1)), (0x281002, eWo .keeper (.u 1) [(1, 2)]), (0x281003, eRw .keeper .bool),
   (0x281004, eRws .keeper (.u 4) 0x118000), (0x281005, eRw .keeper .bool), (0x281006, eRo (.u 2)), (0x281007, eRo (.u 1)),
   (0x281008, eRo (.u 4)), (0x281009, eRo (.u 4)), (0x28100A, eRo (.u 2)), (0x28100B, eRw .keeper (.u 1) 0 [(0, 63)])] ++
  [(0x282001, { eVol .owner .bool with rd := .owner }), (0x282002, { eVol .owner .bool with rd := .owner }),
   (0x282003, { eVol .owner (.u 4) with rd := .owner }), (0x282100, { eVol .owner (.domain 50 true) with rd := .owner }),
   (0x282200, { eVol .owner (.domain 4096 false) with rd := .owner })] ++ subs 0x2900 2 (eRo (.u 4)) ++
  [(0x290100, eRw .keeper (.octets 16)), (0x290200, eRo (.octets 16)), (0x290300, eRo (.octets 16)),
   (0x290400, eRo (.domain 256 true))] ++ subs 0x2A00 4 (eRo (.u 4)) ++
  [(0x2A0100, eRws .keeper (.u 4) 0x114000), (0x2A0200, eRw .keeper .bool 1), (0x2A0300, eWo .operator (.octets 16)),
   (0x2A4001, eRws .keeper (.u 4)), (0x2A4002, eRws .keeper (.u 2) 0 (only [16, 32, 64, 128, 256, 512, 1024, 2048, 4096])),
   (0x2A4003, eRws .keeper (.u 4)), (0x2A4004, eRo (.u 2)), (0x2A4005, eRo (.u 4))]

/-- Cipher engine, trust and update (R493, R516). -/
def entsTrust : List (Nat × Ent) :=
  subs 0x2B00 7 (eRo (.u 4)) ++
  [(0x2B0100, eRo (.domain 128 true)), (0x2B1001, eWo .owner (.octets 32)), (0x2B1002, eRo (.octets 4)), (0x2B1003, eRo .bool),
   (0x2B1100, eRw .keeper (.u 8) 0x00FF000000000000), (0x2B1200, eRw .keeper (.u 1) 56 [(16, 56)]),
   (0x2B2000, eWo .operator (.octets 32)), (0x2B3001, eRo .bool), (0x2B3002, eRo .bool),
   (0x2C0001, eRo (.u 8)), (0x2C0002, eRo (.u 1)), (0x2C0003, eRo (.u 1)), (0x2C0004, eRo (.u 4)), (0x2C0005, eRo (.u 4)),
   (0x2C0006, eRw .keeper (.u 2) 300 [(60, 3600)]), (0x2C0007, eRo (.u 4)), (0x2C0100, eVol .keeper .bool),
   (0x2C0201, eConst (.octets 68)), (0x2C0202, eVol .owner (.octets 32) (2 ^ 256 - 1)),
   (0x2C0203, eVol .owner (.u 2) 0xFFFF [(0xFFFC, 0xFFFF)]), (0x2C0300, eRo (.u 2)), (0x2C1001, eRo (.u 1)), (0x2C1002, eRo (.u 8)),
   (0x2C1003, eRo (.octets 68)), (0x2C1004, eWo .owner (.u 2) (only [0x4745])), (0x2C1005, eRw .keeper (.u 2) 60 [(1, 3600)]),
   (0x2C1101, eVol .keeper (.u 4)), (0x2C1200, eRo (.domain 2784 false)), (0x2C2000, eWo .keeper (.octets 32)),
   (0x2C2100, eRo (.domain 2920 false))]

/-- Realm D (R66, R367). -/
def entsDome : List (Nat × Ent) :=
  entsAll ++ entsControl 0x12F0 ++
  [(0x100103, eConst (.octets 16)), (0x120001, eRo (.u 1)), (0x120002, eRo (.u 1)), (0x120003, eRo (.u 2)), (0x120004, eRo (.u 2)),
   (0x120005, eRo .bool), (0x120101, eRw .keeper (.u 1) 1 [(0, 1)]),
   (0x120102, eRw .keeper (.u 2) 900 (only ((List.range 31).map (fun k => 750 + 5 * Int.ofNat k)))), (0x120103, eRo (.u 2)),
   (0x120201, eRw .keeper (.u 1) 0xFF [(0, 7), (255, 255)]), (0x120202, eRo (.u 1)), (0x120301, eRo (.u 4)),
   (0x120302, { ty := .u 2, acc := .rc }), (0x120303, eRo (.u 2)), (0x120401, eRo (.u 2)), (0x120402, eRo .bool),
   (0x120403, eVol .keeper .bool), (0x120405, eRo (.u 2)), (0x121001, eVol .keeper .calendar), (0x121002, eRo (.u 2)),
   (0x121101, eVol .keeper .bool 1), (0x121102, eVol .keeper .bool), (0x121103, eVol .keeper .bool), (0x121104, eVol .keeper .bool),
   (0x121105, eRo (.u 1) 0xFF), (0x121106, eRo (.u 2)), (0x121107, eRo (.u 2)), (0x121108, eRo (.u 2)), (0x121109, eRo (.u 2)),
   (0x121201, eRw .keeper (.u 1) 2 [(0, 3)]), (0x121202, eRw .keeper (.i 2) 0 [(-32000, 32000)]), (0x121203, eRw .keeper (.u 1) 0 [(0, 7)]),
   (0x121204, eRo (.i 2)), (0x121301, eVol .operator .calendar), (0x121302, eVol .operator (.u 1) 0 [(0, 63)]),
   (0x121303, eVol .operator .bool), (0x121304, eVol .operator (.u 1) 60 [(1, 255)]), (0x121305, eVol .operator .bool)]

/-- Realm P (R257, R284, R316); `P:1120` stands for the credentials and `P:1180` for the pairs. -/
def entsPort : List (Nat × Ent) :=
  entsAll ++ entsControl 0x11F0 ++
  [(0x100104, eConst (.octets 6)), (0x100201, eConst (.u 4)), (0x100204, eConst (.u 2)), (0x110001, eRo (.u 1)), (0x110002, eRo .bool),
   (0x110003, eRo (.u 4))] ++ subs 0x1101 8 (eRo (.u 1)) ++
  [(0x110109, eRo (.u 1) 0xFF), (0x110201, eRw .keeper (.u 2) 60 [(10, 3600)]), (0x110203, eRw .keeper (.u 2) 10 [(2, 600)]),
   (0x110204, eRo (.u 4)), (0x110205, eRo (.u 4))] ++ subs 0x1103 8 (eRo (.u 2) 0xFF) ++
  [(0x111001, eRw .owner (.u 2) 49731), (0x111002, eRw .owner (.octets 16)), (0x111003, eRw .owner (.octets 16)),
   (0x111004, eRo (.octets 16)), (0x111005, eRw .owner (.u 1) 64 [(1, 255)]), (0x111006, eRo (.u 1)),
   (0x112001, eRw .owner (.u 1) 0 [(0, 2)]), (0x112002, eRw .owner (.u 1) 0 [(0, 3)]), (0x112003, eRw .owner (.text 16)),
   (0x112004, { eWo .owner (.octets 32) with keep := true }), (0x112005, eRw .owner (.octets 16)), (0x112006, eRo (.u 2)),
   (0x112007, eRo (.u 4)), (0x118001, eRw .owner (.u 1) 0xFF [(0, 7), (255, 255)]),
   (0x118002, eRw .owner (.u 1) 0xFF [(0, 7), (255, 255)]), (0x118003, eRo (.u 1)), (0x118004, eRo (.u 1) 0xFF),
   (0x118005, eRw .owner (.u 2) 0 [(0, 0), (10, 60000)]), (0x118006, eWo .keeper (.u 1)), (0x118007, { eRo (.u 4) with keep := true }),
   (0x118400, eRo (.domain 120 false)), (0x118501, eRo (.u 4)), (0x118801, eRo (.u 4)), (0x118802, eRo (.u 4)),
   (0x119001, eRw .keeper .bool 1), (0x119002, eRw .keeper (.u 1) 0 [(0, 1)]), (0x119003, eRw .keeper (.u 1) 8 [(1, 255)])] ++
  subs 0x1198 9 (eRo (.u 4))

/-- The entries of a wing realm. -/
def entsWing : List (List (Nat × Ent)) :=
  [entsWing0, entsRx, entsTx, entsLnk, entsMsh, entsWork, entsCore, entsTrust]

/-- The tables of a realm. -/
def Realm.tables : Realm → List (List (Nat × Ent))
  | .wing _ => entsWing | .dome => [entsDome] | .port => [entsPort]

/-- The index whose entries stand for those of an array (R272, R273). -/
def Realm.canon (r : Realm) (idx : Nat) : Nat :=
  match r with
  | .wing _ =>
    if 0x2110 ≤ idx && idx < 0x2118 then 0x2110 else if 0x2201 ≤ idx && idx < 0x2209 then 0x2201
    else if 0x2431 ≤ idx && idx < 0x2435 then 0x2431 else if 0x2A40 ≤ idx && idx < 0x2A50 then 0x2A40
    else if 0x5000 ≤ idx && idx < 0x5400 then 0x5000 else if 0x6000 ≤ idx && idx < 0x7000 then 0x6000 else idx
  | .dome => idx
  | .port =>
    if 0x1120 ≤ idx && idx < 0x1140 then 0x1120 else if 0x1180 ≤ idx && idx < 0x1184 then 0x1180 else idx

/-- The listed entry of a key, in the first table that has it. -/
def findEnt (k : Nat) : List (List (Nat × Ent)) → Option Ent
  | [] => none
  | t :: ts => match t.find? (fun e => e.1 == k) with | some e => some e.2 | none => findEnt k ts

/-- Insert a number in an ascending list. -/
def insUp (n : Nat) : List Nat → List Nat
  | [] => [n]
  | a :: t => if n < a then n :: a :: t else a :: insUp n t

/-- The subindices of an index, ascending (R270). -/
def Realm.subs (r : Realm) (idx : Nat) : List Nat :=
  ((r.tables.flatMap (fun t => t.filter (fun e => e.1 / 256 == r.canon idx))).map (fun e => e.1 % 256)).foldl (fun l n => insUp n l) []

/-- The highest subindex of an index. -/
def Realm.top (r : Realm) (idx : Nat) : Nat := (r.subs idx).foldl max 0

/-- The entry of an address, or none where it does not exist (R263); subindex 0 of a RECORD tells the highest (R260). -/
def Realm.entry (r : Realm) (idx sub : Nat) : Option Ent :=
  match findEnt (catKey (r.canon idx) sub) r.tables with
  | some e =>
    -- defaults that depend on the element of an array
    match r, r.canon idx, sub with
    | .wing _, 0x2110, n =>
      if idx ≠ 0x2110 then some e else
      some { e with dflt := match n with
        | 3 => 100 | 4 => 2 | 5 => 1 | 6 => 1 | 8 => 8 | 9 => 8 | 0xA => 0x83 | 0xB => 2 | _ => e.dflt }
    | .wing _, 0x2A40, n =>
      let g := ringReset (idx - 0x2A40)
      some { e with dflt := match n with | 1 => g.base | 2 => g.depth | 3 => g.ibuf | _ => e.dflt
                    rng := if n = 3 && 0x2A44 ≤ idx then only [0] else e.rng }
    | .wing w, 0x2420, 3 => some { e with dflt := (Config.wingEui w).toNat }
    | _, _, _ => some e
  | none => if sub = 0 && r.top idx ≠ 0 then some { ty := .u 1, acc := .const, dflt := r.top idx } else none

/-- The octets of a type's fixed length. -/
def Ty.len : Ty → Nat
  | .bool => 1 | .u n => n | .i n => n | .bcd n => n | .octets n => n | .text n => n | .stamp => 8 | .asn => 5 | .calendar => 8
  | .eui => 8 | .domain n _ => n

/-- The octets of a number in a type, as the state holds it: an EUI-64 as a number, least significant octet first. -/
def Ty.enc (t : Ty) (n : Nat) : Octets :=
  match t with | .text _ => [] | .domain k f => if f then natLe k n else [] | t => natLe t.len n

/-- Between the octets the state holds and those Feran carries (R264): an EUI-64 goes most significant octet first. -/
def Ty.wire (t : Ty) (os : Octets) : Octets := match t with | .eui => os.reverse | _ => os

/-- The length of a value fits its type (R265). -/
def Ty.fits (t : Ty) (k : Nat) : Bool :=
  match t with | .text n => decide (k ≤ n) | .domain n f => if f then decide (k = n) else decide (k ≤ n) | t => decide (k = t.len)

/-- The number a value stands for. -/
def Ty.val (t : Ty) (os : Octets) : Int := match t with | .i n => toSigned (8 * n) (leNat os) | _ => (leNat os : Int)

/-- A BCD octet string has no nibble above 9. -/
def bcdAll (os : Octets) : Bool := os.all (fun o => bcdOk o.toNat)

/-- The seven fields of a CALENDAR value (R264). -/
def calOf (v : Octets) : CalTime :=
  let o := fun i => (v.getD i 0).toNat
  { sec := o 0, min := o 1, hour := o 2, day := o 3, month := o 4, year := o 5 + 256 * o 6, wday := o 7 }

/-- A CALENDAR value names a valid date and time from 2000 to 2099 (R265), octet 7 aside. -/
def calDateOk (v : Octets) : Bool :=
  let t := calOf v
  bcdAll (v.take 7) && decide (bcdVal t.sec < 60) && decide (bcdVal t.min < 60) && decide (bcdVal t.hour < 24) &&
  decide (1 ≤ t.month) && decide (t.month ≤ 0x12) && decide (0x2000 ≤ t.year) && decide (t.year ≤ 0x2099) &&
  decide (1 ≤ t.day) && decide (t.day ≤ monthLen t.month t.year)

/-- The value is in its type's and its entry's range (R265). -/
def Ent.inRange (e : Ent) (os : Octets) : Bool :=
  (match e.ty with
   | .bool => decide (leNat os ≤ 1)
   | .bcd _ => bcdAll os
   | .calendar => calDateOk os && decide (1 ≤ (calOf os).wday) && decide ((calOf os).wday ≤ 7)
   | _ => true) &&
  (e.rng.isEmpty || e.rng.any (fun r => decide (r.1 ≤ e.ty.val os) && decide (e.ty.val os ≤ r.2)))

/-- The rank of a role (R266). -/
def SRole.rank : SRole → Nat | .observer => 0 | .operator => 1 | .keeper => 2 | .owner => 3

/-- A role by its code. -/
def roleOf (n : Nat) : SRole := match n with | 0 => .observer | 1 => .operator | 2 => .keeper | _ => .owner

/-- Whether entry `e` takes writes. -/
def Ent.writable (e : Ent) : Bool := match e.acc with | .ro => false | .const => false | .rc => false | _ => true

end Sys2Proof.Machine
end

