-- ==== Sys2Proof/Machine/CatRead.lean ====
section
/-! DEFINITION. The value of every Catalogue entry (R268, and the entry tables of every chapter): as written or its default, or
read from the unit whose state it shows. -/
namespace Sys2Proof.Machine
open Sys2Proof

/-- The hash of 32 octets of every XMSS structure and image (16). -/
abbrev hash32 (m : Octets) : Octets := shake256 m 32

/-- BOOT_STATE.ACTIVE_SLOT (R499). -/
def Trust.slot (t : Trust) : Nat := t.boot % 4

/-- ANNEX_VERSION of the annex that runs (R282, R516). -/
def Trust.annex (t : Trust) : Nat := match t.slot with | 1 => t.verA | 2 => t.verB | _ => 0

/-- A stored option word, with a line that does not read giving ones (R397). -/
def Flash.optStored (f : Flash) (a : Nat) : Word :=
  let l := f.at_ (.inr (a / 8))
  match l.status with | .sealed => l.word (a % 8) | .corrected => l.word (a % 8) | _ => 0xFFFF

/-- The first option word of a WL field and its octets (R121, R496): none for other entries. -/
def optField (idx sub : Nat) : Option (Nat × Nat) :=
  match idx with
  | 0x2200 => if sub = 1 then some (0x100, 1) else if sub = 2 then some (0x101, 1) else some (0x102, 1)
  | 0x2702 => some (0, 2)
  | 0x2C02 => if sub = 2 then some (0x20, 32) else if sub = 3 then some (0x30, 2) else none
  | _ =>
    if 0x2201 ≤ idx && idx < 0x2209 then
      let b := 0x110 + 8 * (idx - 0x2201)
      match sub with
      | 1 => some (b, 4) | 2 => some (b + 2, 4) | 3 => some (b + 4, 1) | 4 => some (b + 5, 2) | 5 => some (b + 6, 2)
      | _ => some (b + 7, 2)
    else none

/-- The stored octets of a WL field. -/
def Flash.optOctets (f : Flash) (a n : Nat) : Octets := (unpackW ((List.range ((n + 1) / 2)).map (fun i => f.optStored (a + i)))).take n

/-- STORE_STATE (R279, R285): FAILED until the next store succeeds. -/
def Work.storeState (k : Work) : Nat := if k.failed then 3 else if k.queued then 2 else if k.storing.isSome then 1 else 0

/-- The code of an applet state (R439). -/
def AppletState.code : AppletState → Nat | .none => 0 | .installed => 1 | .running => 2 | .terminated => 3 | .faulted => 4

/-- The code of a pair state (R255). -/
def PairState.code : PairState → Nat | .none => 0 | .seeding => 1 | .dual => 2 | .degraded => 3

/-- The code of a twin role (R255). -/
def Role.code : Role → Nat | .single => 0 | .active => 1 | .standby => 2

/-- RUN_MODE (R344). -/
def Wing.runMode (refLost : Bool) (x : Wing) : Nat := if x.car.fine then 0 else if !x.car.pllLocked || refLost then 2 else 1

/-- OLDEST_UNRESOLVED (R256): the lowest accession number whose report has not been released. -/
def Work.oldestOpen (k : Work) : Nat := ((k.items.filter (fun i => !i.released)).map (fun i => i.acc)).headD 0

/-- The sectors of a partition, in the order of `n:2710` (R370). -/
def partSectors (k : Nat) : Nat × Nat :=
  match k with
  | 1 => (0, 128) | 2 => (128, 128) | 3 => (256, 128) | 4 => (384, 64) | 5 => (448, 16) | 6 => (464, 64) | _ => (528, 496)

/-- The numeric value of an entry of wing `w` that shows its state. -/
def State.wingNum (w idx sub : Nat) (s : State) : Option Nat :=
  let x := s.wing w
  let k := x.wrk
  match idx with
  | 0x1000 => match sub with | 1 => some 0x800 | 3 => some Config.grade | 4 => some Config.siliconStep.toNat | 5 => some w | _ => none
  | 0x1001 => some (if sub = 1 then (Config.wingEui w).toNat else (s.identity w).toNat)
  | 0x1002 => match sub with | 1 => some Config.romVersion.toNat | 2 => some x.tru.annex | 3 => some x.tru.slot | _ => some 0x100
  | 0x1003 => some (b2n x.fls.locked)
  | 0x2000 => match sub with | 1 => some x.sys.state.code | 2 => some (b2n x.sys.stopReq) | _ => some (b2n x.sys.alignLost)
  | 0x2001 => match sub with | 1 => some x.sys.causeEnd.toNat | 2 => some x.sys.lifeResets | _ => some 0
  | 0x2002 => if sub = 2 then some x.sys.trips else none
  | 0x2003 => some x.sys.bootTime
  | 0x2004 =>
    match sub with
    | 2 => some k.storeState | 3 => some k.gen | 5 => some k.storeMs | 6 => some (b2n k.missing) | _ => some 0
  | 0x2140 =>
    match sub with
    | 1 => some x.rx.calIr | 2 => some x.rx.calFilt | 3 => some x.rx.calVco | 4 => some (ofSigned 16 x.rx.calLf)
    | 5 => some (ofSigned 16 x.rx.calRef) | 6 => some x.rx.calOffs | 7 => some (x.rx.calFail.toNat + 8 * b2n x.rx.vcoFail)
    | 8 => some (b2n x.rx.calDeferred) | _ => none
  | 0x2209 => some (b2n x.limValid)
  | 0x2230 => some (s.hourUsed w (sub - 1))
  | 0x2231 => some (x.limBudget (sub - 1))
  | 0x2232 => some (b2n (x.tx.hold != 0))
  | 0x2240 => if sub = 1 then some (x.reg 0xFF7010) else none
  | 0x2301 => match sub with | 1 => some x.lnk.asn | 2 => some x.lnk.slotStart | _ => some x.lnk.sync.code
  | 0x2302 => if sub = 4 then some (x.lnk.parent.getD 0xFFFF) else none
  | 0x2400 => match sub with | 3 => some x.nbCount | 4 => some x.msh.departed.length | _ => none
  | 0x2401 => some (if sub = 1 then x.msh.txFc else x.msh.keyEpoch)
  | 0x2410 => match sub with | 6 => some x.cacheLive.length | 7 => some ((x.wrk.entryOf 0x2410 7).getD 0) | _ => none
  | 0x2421 => match sub with | 1 => some x.msh.epoch | 2 => some x.msh.root | 3 => some x.msh.rank | _ => some x.msh.hwm
  | 0x2430 => some x.msh.orders.length
  | 0x2500 =>
    match sub with
    | 1 => some k.next | 2 => some x.msh.limit | 3 => some k.items.length | 4 => some k.free | _ => some k.oldestOpen
  | 0x2502 => match sub with | 1 => some (s.role w).code | 2 => some ((s.twin w).getD 0xFF) | _ => some k.pairGen
  | 0x2600 =>
    match sub with
    | 1 => some (x.car.tb + lapTicks * x.car.lap) | 2 => some (x.runMode s.dome.refLost) | _ => none
  | 0x2700 => match sub with | 1 => some (32 - x.fls.load) | 2 => some x.fls.protect.toNat | _ => some x.fls.optErrors
  | 0x2710 => let (b, n) := partSectors sub; some ((List.range n).foldl (fun a i => a + tget 0 x.fls.erases (b + i)) 0)
  | 0x2713 =>
    match sub with
    | 1 => some x.fls.archErases | 2 => some x.fls.gap | 3 => some x.fls.start | 4 => some x.fls.spares.length
    | _ => some x.fls.moves
  | 0x2802 =>
    let g := fun off n => some (leNat (s.bramGet w off n))
    match sub with | 1 => g 0x42 1 | 2 => g 0x43 4 | 3 => g 0x47 2 | 4 => g 0x49 2 | 5 => g 0x4B 2 | _ => g 0x4D 1
  | 0x2810 =>
    match sub with
    | 1 => some x.apl.state.code | 6 => some x.apl.exitCode.toNat | 7 => some x.apl.cause | 8 => some x.apl.version
    | 9 => some x.apl.codeWords | 0xA => some x.apl.dataWords | _ => none
  | 0x2820 => if sub = 2 then some (b2n (decide (x.core.run = .halted))) else none
  | 0x2B10 => match sub with | 2 => some (leNat x.cph.kcv) | 3 => some (b2n x.cph.root.isSome) | _ => some 0
  | 0x2B30 => some (b2n (if sub = 1 then x.cph.randReady else x.cph.randFail))
  | 0x2C00 =>
    match sub with
    | 1 => some x.tru.boot | 2 => some x.tru.slotA | 3 => some x.tru.slotB | 4 => some x.tru.verA | 5 => some x.tru.verB
    | 7 => some x.tru.applyMs | _ => none
  | 0x2C01 => some (b2n (bit x.tru.boot 3))
  | 0x2C03 => some x.tru.rootGen
  | 0x2C10 => match sub with | 1 => some x.tru.attest | 2 => some x.tru.position | _ => none
  | _ =>
    if 0x2110 ≤ idx && idx < 0x2118 && sub = 0xC then some (b2n (x.rx.plan.profValid x.band (idx - 0x2110)))
    else if 0x2A40 ≤ idx && idx < 0x2A50 && sub = 4 then some (x.ring (idx - 0x2A40)).count
    else none

/-- Subindex `sub` of neighbour record `i` (R177, R217); a record that is not VALID reads 0 (R272). -/
def Nb.entry (n : Nb) (sub : Nat) : Nat :=
  if !n.valid then 0 else
  let w := fun i => (n.words.getD i 0).toNat
  match sub with
  | 1 => n.eui.toNat | 2 => n.short.toNat | 3 => w 5 | 4 => n.rxFc | 5 => n.bcFc | 6 => n.epoch | 7 => n.bcEpoch | 8 => n.lastAsn
  | 9 => ofSigned 32 n.offset | 0xA => ofSigned 32 n.drift | 0xB => ofSigned 8 n.rssi | 0xC => n.prr | 0xD => n.rank | _ => w 23

/-- Subindex `sub` of a cell (R150). -/
def Cell.entry (c : Cell) (sub : Nat) : Nat :=
  match sub with | 1 => c.slot | 2 => c.ch | 3 => c.kind | 4 => c.nb | 5 => c.prof | 6 => c.period | _ => c.phase

/-- The octets of an entry of wing `w` that is no number, and shows the wing's state. -/
def State.wingOct (w idx sub : Nat) (s : State) : Option Octets :=
  let x := s.wing w
  match idx with
  | 0x1000 => if sub = 2 then some (ascii "VY-H800") else none
  | 0x2102 => some ((List.range 512).map (fun k => (tget [] x.cat 0x210200).getD k 0))
  | 0x2310 => some ((List.range 1024).map (fun k => (tget [] x.cat 0x231000).getD k 0))
  | 0x2701 => some ((List.range 4096).flatMap (fun a => natLe 2 (x.fls.optStored a).toNat))
  | 0x2711 => some ((List.range 1024).flatMap (fun k => natLe 4 (tget 0 x.fls.erases k)))
  | 0x2712 => some ((List.range 1024).map (fun k => o8 (x.fls.secState k)))
  | 0x2821 =>
    let c := x.core
    let sp := if c.st.getLsbD 6 then c.aSp else c.kSp
    some (unpackW ((List.range 15).map (fun r => tget 0 c.w r) ++ [sp, c.st, w16 c.pc.toNat, w16 (c.pc.toNat / 65536),
      w16 c.b0.toNat, w16 c.b1.toNat, w16 c.b2.toNat, w16 c.b3.toNat, c.vbase, c.aSp]))
  | 0x2902 => some (natLe 16 x.doc.pend.toNat)
  | 0x2903 => some (natLe 16 x.doc.mask.toNat)
  | 0x2904 => some ((List.range 128).flatMap (fun n => natLe 2 (s.docRead w (0x100 + n)).1.toNat))
  | 0x2B01 => some ((List.range 64).flatMap (fun p => natLe 2 (x.page p).word.toNat))
  | 0x2C02 => if sub = 1 then some (natBe 4 0x00000012 ++ natBe 64 Config.vendorRoot.toNat) else none
  | 0x2C10 =>
    if sub = 3 then some (match x.tru.file with
      | some (_, seeds, root) => natBe 4 0x00000011 ++ root ++ slice seeds 64 32 | none => zeros 68) else none
  | 0x2C12 =>
    some (((x.tru.certs.find? (fun c => c.1 == x.num 0x2C1101 0)).map (fun c => c.2)).getD [])
  | 0x2C21 => some x.tru.prov
  | _ => if 0x2431 ≤ idx && idx < 0x2435 then some (x.msh.census.getD (idx - 0x2431) []) else none

/-- A value of a wing entry that the spec leaves to an analogue reading is drawn (log 2). -/
def wingDrawn (idx sub : Nat) : Bool := idx = 0x2002 && sub = 1

/-- The value of an entry of wing `w`, as the state holds it. -/
def State.wingVal (w idx sub : Nat) (e : Ent) (s : State) : Octets × State :=
  let x := s.wing w
  if wingDrawn idx sub then let (v, t) := s.draw; (natLe 2 v.toNat, t) else
  (if e.acc = .const && sub = 0 then [o8 e.dflt]
  else if e.acc = .wo then (if e.ty = .text 0 then [] else zeros e.ty.len)
  else match optField idx sub with
  | some (a, n) => x.fls.optOctets a n
  | none =>
    if 0x5000 ≤ idx && idx < 0x5400 then natLe e.ty.len ((x.nb (idx - 0x5000)).entry sub)
    else if 0x6000 ≤ idx && idx < 0x7000 then natLe e.ty.len ((tget {} x.lnk.cells (idx - 0x6000)).entry sub)
    else match s.wingOct w idx sub with
    | some os => os
    | none =>
      match s.wingNum w idx sub with
      | some n => e.ty.enc n
      | none =>
        if e.acc = .ro then e.ty.enc (x.total (catKey idx sub))
        else match tget [] x.cat (catKey idx sub) with | [] => e.ty.enc e.dflt | os => os, s)

/-- POWER_MODE (R54). -/
def PowerMode.code : PowerMode → Nat | .line => 0 | .watch => 1 | .keep => 2 | .dark => 3

/-- The numeric value of an entry of realm D that shows state. -/
def State.domeNum (idx sub : Nat) (s : State) : Option Nat :=
  let d := s.dome
  let c := s.cal
  match idx with
  | 0x1000 => match sub with | 1 => some 0x800 | 3 => some Config.grade | 4 => some Config.siliconStep.toNat | 5 => some 0xD | _ => none
  | 0x1001 => some Config.dieId.toNat
  | 0x1002 => some 0x100
  | 0x1200 =>
    match sub with
    | 1 => some d.bootsel.toNat | 2 => some (if d.bootsel.getLsbD 1 then 0xFF else d.podlClass.toNat)
    | 5 => some (b2n d.mainGood) | _ => none
  | 0x1201 => if sub = 3 then some d.vcore else none
  | 0x1202 => if sub = 2 then some d.mode.code else none
  | 0x1203 => match sub with | 1 => some d.brownouts | 2 => some d.holdupShorts | _ => some d.railFaults
  | 0x1204 =>
    match sub with
    | 1 => some d.vbak | 2 => some (b2n d.cellLow) | 3 => some (b2n d.cellEmpty) | _ => some d.frozenWrites
  | 0x1210 => if sub = 2 then some c.divider else none
  | 0x1211 =>
    match sub with
    | 1 => some (b2n c.osf) | 2 => some (b2n c.haltLost) | 3 => some (b2n c.rollover) | 4 => some (b2n c.badDate)
    | 5 => some (c.owner.getD 0xFF) | 6 => some c.unhalted | 7 => some c.invalid | 8 => some c.discarded | _ => some c.lfStops
  | 0x1212 => if sub = 4 then some (ofSigned 16 c.trim) else none
  | 0x1213 =>
    let a := c.alarm
    match sub with
    | 2 => some (b2n (a.sec.getLsbD 7) + 2 * b2n (a.min.getLsbD 7) + 4 * b2n (a.hour.getLsbD 7) + 8 * b2n (a.day.getLsbD 7) +
        16 * b2n (a.wday.getLsbD 7) + 32 * b2n (a.month.getLsbD 7))
    | 3 => some (b2n a.pwron) | 4 => some a.window.toNat | 5 => some (b2n c.alarmFlag) | _ => none
  | _ => none

/-- A CALENDAR value. -/
def calOctets (t : CalTime) : Octets := [o8 t.sec, o8 t.min, o8 t.hour, o8 t.day, o8 t.month] ++ natLe 2 t.year ++ [o8 t.wday]

/-- The alarm as a CALENDAR value (R367). -/
def CalAlarm.octets (a : CalAlarm) : Octets :=
  [a.sec &&& 0x7F, a.min &&& 0x7F, a.hour &&& 0x7F, a.day &&& 0x7F, a.month &&& 0x7F] ++ natLe 2 a.year.toNat ++ [a.wday &&& 0x7F]

/-- The state of a store of realm D or P (R285). -/
def Port.storeState (p : Port) (realm : Nat) : Nat :=
  if p.num (dpKey (realm == 0xE) (if realm = 0xE then 0x11F0 else 0x12F0) 2) 0 = 1 then 3 else
  match p.storing.filter (fun q => q.realm == realm) with | [] => 0 | [_] => 1 | _ => 2

/-- The numeric value of an entry of realm P that shows state. -/
def State.portNum (idx sub : Nat) (s : State) : Option Nat :=
  let p := s.port
  match idx with
  | 0x1000 => match sub with | 1 => some 0x800 | 3 => some Config.grade | 4 => some Config.siliconStep.toNat | 5 => some 0xE | _ => none
  | 0x1002 => match sub with | 1 => some Config.portVersion.toNat | _ => some 0x100
  | 0x1100 => match sub with | 1 => some (b2n s.spi) | 2 => some (b2n (p.linkUp || s.spi)) | _ => some p.linkLosses
  | 0x1101 =>
    if sub = 9 then some ((List.range 8).foldl (fun n w => n + 2 ^ w * b2n (s.wing w).sys.alignLost) 0)
    else some (s.wing (sub - 1)).sys.state.code
  | 0x1102 => match sub with | 4 => some p.openFailures | 5 => some p.dropped | _ => none
  | 0x1103 =>
    let q := p.sessions.get (sub - 1)
    some (if q.isOpen then q.cred % 256 + 256 * q.role.rank + 1024 + 2048 * b2n q.prov else 0xFF)
  | 0x1110 => if sub = 6 then some p.duplicate.toNat else none
  | 0x1185 => some p.aligns
  | 0x1188 => some (if sub = 1 then p.relayed else p.relayHolds)
  | 0x1198 => some (if sub = 9 then p.undelivered else tget 0 p.eventsLost (sub - 1))
  | _ =>
    if 0x1120 ≤ idx && idx < 0x1140 then
      match sub with | 6 => some (tget 0 p.failures (idx - 0x1120)) | 7 => some (tget 0 p.opens (idx - 0x1120)) | _ => none
    else if 0x1180 ≤ idx && idx < 0x1184 then
      let q := p.pair (idx - 0x1180)
      match sub with | 3 => some q.state.code | 4 => some (q.token.getD 0xFF) | _ => none
    else none

/-- Octets of an entry of realm D or P that shows state and is no number. -/
def State.dpOct (p : Bool) (idx sub : Nat) (s : State) : Option Octets :=
  match p, idx, sub with
  | _, 0x1000, 2 => some (ascii "VY-H800")
  | true, 0x1001, 4 => some (natBe 6 Config.macAddress.toNat)
  | true, 0x1110, 4 => some linkLocal
  | true, 0x1184, 0 => some s.port.lastCensus
  | false, 0x1213, 1 => some s.cal.alarm.octets
  | _, _, _ => none

/-- The value of an entry of realm D or P: reading `D:1203.02` clears HOLDUP_SHORT, and a read of TIME freezes, reads and
releases at once (R48, R367). -/
def State.dpVal (p : Bool) (idx sub : Nat) (e : Ent) (s : State) : Octets × State :=
  let realm := if p then 0xE else 0xD
  let ctl := if p then 0x11F0 else 0x12F0
  if !p && idx = 0x1200 && sub = 3 then (natLe 2 (min (s.dome.lineMv / 10) 0xFFFF), s)
  else if !p && idx = 0x1200 && sub = 4 then let (v, t) := s.draw; (natLe 2 v.toNat, t)
  else if !p && idx = 0x1210 && sub = 1 then (calOctets s.cal.time, { s with cal := s.cal.release 8 })
  else
    let t := if !p && idx = 0x1203 && sub = 2 then { s with dome := { s.dome with holdupShort := false } } else s
    (if e.acc = .const && sub = 0 then [o8 e.dflt]
    else if e.acc = .wo then zeros e.ty.len
    else if idx = ctl then
      e.ty.enc (match sub with
        | 2 => s.port.storeState realm | 3 => s.port.gen | 5 => s.port.num (dpKey p ctl 5) 0
        | 6 => s.port.num (dpKey p ctl 6) 0 | _ => 0)
    else match s.dpOct p idx sub with
    | some os => os
    | none =>
      match (if p then s.portNum idx sub else s.domeNum idx sub) with
      | some n => e.ty.enc n
      | none => match tget [] s.port.cat (dpKey p idx sub) with | [] => e.ty.enc e.dflt | os => os, t)

/-- The value of an entry in Feran's encoding. -/
def State.catVal (r : Realm) (idx sub : Nat) (e : Ent) (s : State) : Octets × State :=
  let (v, t) := match r with
    | .wing w => s.wingVal w idx sub e | .dome => s.dpVal false idx sub e | .port => s.dpVal true idx sub e
  (e.ty.wire v, t)

/-- A whole-record read (R270): the values from subindex 1 up, or of subindex 0 where the index holds one value; a TEXT goes
after its length. -/
def State.catRecord (r : Realm) (idx : Nat) (s : State) : Octets × State :=
  let subs := (r.subs idx).filter (fun n => n ≠ 0)
  (if subs.isEmpty then [0] else subs).foldl (fun (a : Octets × State) sub =>
    match r.entry idx sub with
    | none => a
    | some e =>
      let (v, t) := a.2.catVal r idx sub e
      (a.1 ++ (match e.ty with | .text _ => [o8 v.length] | _ => []) ++ v, t)) ([], s)

end Sys2Proof.Machine
end

