-- ==== Sys2Proof/Machine/Trust.lean ====
section
/-! DEFINITION. Trust and update (16): XMSS verification and signing (RFC 8391), annex images and slots (R497 to R500), Thazipo
deltas (R503 to R507), attestation keys (R508 to R513), applet images (R433, R434, R498), and the change of the network root (R514). -/
namespace Sys2Proof.Machine
open Sys2Proof

/-- A hash-function address with the words given, from word 3 up (RFC 8391, 2.5). -/
def adrsOf (ws : List Nat) : Octets := zeros 12 ++ (ws ++ List.replicate (5 - ws.length) 0).flatMap (natBe 4)

/-- The 67 base-16 digits that WOTS+ signs: those of the message, then of its checksum (RFC 8391, 3.1.5). -/
def wotsDigits (m : Octets) : List Nat :=
  let ds := m.flatMap (fun o => [o.toNat / 16, o.toNat % 16])
  let c := ds.foldl (fun a d => a + (15 - d)) 0
  ds ++ [c / 256 % 16, c / 16 % 16, c % 16]

/-- One level of an L-tree: pairs are joined, and an odd last node stands (RFC 8391, 4.1.5). -/
def ltreeLevel (seed : Octets) (ots h : Nat) : Nat → List Octets → List Octets
  | k, l :: r :: t => xmssH seed (adrsOf [1, ots, h, k]) l r :: ltreeLevel seed ots h (k + 1) t
  | _, l => l

/-- The root of an L-tree: `f` levels from level `h`. -/
def ltree (seed : Octets) (ots : Nat) : Nat → Nat → List Octets → Octets
  | 0, _, l => l.headD []
  | f + 1, h, l => ltree seed ots f (h + 1) (ltreeLevel seed ots h 0 l)

/-- The leaf that a WOTS+ signature of message `m` stands for (RFC 8391, 3.1.6 and 4.1.5). -/
def wotsLeaf (seed : Octets) (idx : Nat) (m sig : Octets) : Octets :=
  let ds := wotsDigits m
  ltree seed idx 7 0 ((List.range 67).map (fun i =>
    let d := ds.getD i 0
    xmssChain seed (adrsOf [0, idx, i]) (15 - d) d (slice sig (32 * i) 32)))

/-- The root that node `n` of height `k` leads to, over the siblings that follow (RFC 8391, 4.1.10). -/
def pathRoot (seed : Octets) (idx : Nat) : Nat → List Octets → Octets → Octets
  | _, [], n => n
  | k, a :: t, n =>
    let up := idx / 2 ^ (k + 1)
    let adrs := adrsOf [2, 0, k, up]
    pathRoot seed idx (k + 1) t (if bit idx k then xmssH seed adrs a n else xmssH seed adrs n a)

/-- The height of the tree that an OID names (R495; the OIDs are PRESUMED, log 42: SP 800-208). -/
def oidHeight (oid : Nat) : Option Nat := if oid = 0x11 then some 16 else if oid = 0x12 then some 20 else none

/-- The octets of a signature of a key with this OID (R495). -/
def sigLen (oid : Nat) : Nat := if oid = 0x11 then 2692 else 2820

/-- An XMSS signature verifies: `pk` is the OID, the root and the public seed (R495). -/
def xmssVerify (pk m sig : Octets) : Bool :=
  match oidHeight (beNat (pk.take 4)) with
  | none => false
  | some h =>
    let root := slice pk 4 32
    let seed := slice pk 36 32
    let idx := beNat (sig.take 4)
    let hm := xmssHash 2 (slice sig 4 32 ++ root ++ natBe 32 idx) m
    decide (pk.length = 68) && decide (sig.length = 4 + 32 + 67 * 32 + 32 * h) && decide (idx < 2 ^ h) &&
    decide (pathRoot seed idx 0 (chunks 32 h (sig.drop 2180)) (wotsLeaf seed idx hm (slice sig 36 2144)) = root)

/-- One secret of a WOTS+ key (SP 800-208, 6.2; PRESUMED, log 42). -/
def wotsSecret (seeds : Octets) (idx i : Nat) : Octets :=
  xmssHash 4 (seeds.take 32) (slice seeds 64 32 ++ adrsOf [0, idx, i])

/-- A leaf of the attestation tree. -/
def attLeaf (seeds : Octets) (idx : Nat) : Octets :=
  let seed := slice seeds 64 32
  ltree seed idx 7 0 ((List.range 67).map (fun i => xmssChain seed (adrsOf [0, idx, i]) 15 0 (wotsSecret seeds idx i)))

/-- Node `i` at height `h` of the attestation tree. -/
def attNode (seeds : Octets) : Nat → Nat → Octets
  | 0, i => attLeaf seeds i
  | h + 1, i => xmssH (slice seeds 64 32) (adrsOf [2, 0, h, i]) (attNode seeds h (2 * i)) (attNode seeds h (2 * i + 1))

/-- An attestation signature of `m` with leaf `idx`: `seeds` are SK_SEED, SK_PRF and the public seed (R508, RFC 8391 4.1.9). -/
def attSign (seeds root m : Octets) (idx : Nat) : Octets :=
  let r := xmssPrf (slice seeds 32 32) (natBe 32 idx)
  let hm := xmssHash 2 (r ++ root ++ natBe 32 idx) m
  let ds := wotsDigits hm
  natBe 4 idx ++ r ++
  (List.range 67).flatMap (fun i =>
    xmssChain (slice seeds 64 32) (adrsOf [0, idx, i]) (ds.getD i 0) 0 (wotsSecret seeds idx i)) ++
  (List.range 16).flatMap (fun k => attNode seeds k (Nat.xor (idx / 2 ^ k) 1))

/-- The public key of an attestation key (R495, R508). -/
def attPublic (seeds root : Octets) : Octets := natBe 4 0x11 ++ root ++ slice seeds 64 32

/-- `n` octets at octet `off` of the flash that starts at sector `sec`. -/
def Flash.oct (sec off n : Nat) (f : Flash) : Octets :=
  slice ((List.range ((off % 16 + n + 15) / 16)).flatMap (fun i =>
    natLe 16 (f.line (sec * 256 + off / 16 + i)).data.toNat)) (off % 16) n

/-- Every line of the first `n` octets reads SEALED or CORRECTED (R500). -/
def Flash.linesOk (sec n : Nat) (f : Flash) : Bool :=
  (List.range ((n + 15) / 16)).all (fun i =>
    match (f.line (sec * 256 + i)).status with | .sealed => true | .corrected => true | _ => false)

/-- The Curator erases `n` sectors from `sec`; a retired one stays as it is (R379). -/
def Flash.curErase (sec n : Nat) (f : Flash) : Flash :=
  (List.range n).foldl (fun g i => if g.retired.contains (sec + i) then g else (g.blank (sec + i)).countErase (sec + i)) f

/-- The Curator programs octets, as whole lines, from the start of sector `sec`; a retired sector takes none (R379). -/
def Flash.curWrite (sec : Nat) (os : Octets) (f : Flash) : Flash :=
  let ls := chunks 16 (os.length / 16 + 1) os
  (List.range ls.length).foldl (fun g i =>
    if g.retired.contains (sec + i / 256) then g
    else g.setLine (sec * 256 + i) { data := BitVec.ofNat 128 (leNat (padLine (ls.getD i []))), status := .sealed }) f

/-- The first sector of a slot: 1 A, 2 B (R499). -/
def slotSector (slot : Nat) : Nat := if slot = 2 then 256 else 0

/-- The slot that is not this one; A where none is active (R499, R504). -/
def otherSlot (slot : Nat) : Nat := if slot = 1 then 2 else 1

/-- The signer's public key and its signature's length (R497): the vendor's from ROM, the owner's after the code. -/
def annexKey (img : Nat → Nat → Octets) : Octets × Nat × Nat :=
  let code := leNat (img 20 4)
  if img 6 1 = [1] then
    let pk := img (32 + code) 68
    (pk, 32 + code + 68, sigLen (beNat (pk.take 4)))
  else (natBe 4 0x12 ++ natBe 64 Config.vendorRoot.toNat, 32 + code, 2820)

/-- The image length (R497). -/
def annexLen (img : Nat → Nat → Octets) : Nat :=
  let (_, off, n) := annexKey img
  (off + n + 15) / 16 * 16

/-- The header of an annex image meets R497. -/
def annexHeader (img : Nat → Nat → Octets) : Bool :=
  let code := leNat (img 20 4)
  decide (img 0 4 = ascii "VYAX") && decide (leNat (img 4 2) = 1) && decide (leNat (img 6 1) ≤ 1) && decide (img 7 1 = [0]) &&
  decide (leNat (img 14 2) = 0) && decide (code % 2 = 0) && decide (2 ≤ code) && decide (code ≤ 524288) &&
  decide (leNat (img 24 4) < code / 2) && decide (leNat (img 28 4) = 0) && decide (annexLen img ≤ 524288)

/-- OWNER_ROOT_HASH as loaded (R496). -/
def Wing.ownerRoot (x : Wing) : Octets := unpackW ((List.range 16).map (fun i => w16 (x.lim (0x20 + i))))

/-- An owner root is set (R496). -/
def Wing.ownerSet (x : Wing) : Bool := x.ownerRoot.any (fun o => o != 0xFF)

/-- An owner public key is accepted (R495). -/
def Wing.ownerKeyOk (pk : Octets) (x : Wing) : Bool :=
  x.ownerSet && decide (hash32 pk = x.ownerRoot) && (oidHeight (beNat (pk.take 4))).isSome

/-- The first check of R500 that the image in a slot fails, by its code of R505; 0 when it is acceptable. A line that does not
read gives FLASH. -/
def Wing.annexCheck (slot : Nat) (x : Wing) : Nat :=
  let img := fun off n => x.fls.oct (slotSector slot) off n
  let (pk, off, n) := annexKey img
  if !annexHeader img then 2
  else if Config.romVersion.toNat < leNat (img 16 4) then 9
  else if leNat (img 12 2) < bits x.tru.boot 31 16 then 8
  else if img 6 1 = [0] then
    if !bit (x.lim 0x30) 0 then 7
    else if !xmssVerify pk (img 0 off) (img off n) then 6
    else if x.fls.linesOk (slotSector slot) (annexLen img) then 0 else 10
  else if !bit (x.lim 0x30) 1 || !x.ownerKeyOk pk then 7
  else if !xmssVerify pk (img 0 (off - 68)) (img off n) then 6
  else if x.fls.linesOk (slotSector slot) (annexLen img) then 0 else 10

/-- A slot may run: acceptable, and not judged INVALID (R500, R501, R506). -/
def Wing.slotOk (slot : Nat) (x : Wing) : Bool := !x.tru.judged.getLsbD (slot - 1) && decide (x.annexCheck slot = 0)

/-- SLOT_A_STATE or SLOT_B_STATE (R516): EMPTY when no line of the slot is programmed. -/
def Wing.slotState (slot : Nat) (x : Wing) : Nat :=
  if x.slotOk slot then 1
  else if (x.fls.lines.any (fun e => decide (slotSector slot * 256 ≤ e.1) && decide (e.1 < slotSector slot * 256 + 32768))) then 2 else 0

/-- The image hash of the annex in a slot (R497). -/
def Wing.slotHash (slot : Nat) (x : Wing) : Octets :=
  let img := fun off n => x.fls.oct (slotSector slot) off n
  hash32 (img 0 (annexLen img))

/-- Judge a slot INVALID, or lift that. -/
def Wing.judge (slot : Nat) (bad : Bool) (x : Wing) : Wing :=
  let m := BitVec.twoPow 2 (slot - 1)
  { x with tru := { x.tru with judged := if bad then x.tru.judged ||| m else x.tru.judged &&& ~~~ m } }

/-- Run a Thazipo stream (R504): the octets it appends, and whether it is well formed; with fuel. -/
def thazipo (base : Option Octets) (target : Nat) : Nat → Octets → Octets → Octets × Bool
  | 0, _, out => (out, false)
  | f + 1, ops, out =>
    let go := fun (used : Nat) (add : Octets) =>
      if add.isEmpty || target < out.length + add.length then (out, false)
      else thazipo base target f (ops.drop used) (out ++ add)
    let src := leNat (slice ops 1 4)
    match (ops.headD 0).toNat with
    | 1 =>
      let n := leNat (slice ops 5 4)
      match base with
      | some b => if 9 ≤ ops.length && src + n ≤ b.length then go 9 (slice b src n) else (out, false)
      | none => (out, false)
    | 2 =>
      let n := leNat (slice ops 1 2)
      if 3 + n ≤ ops.length then go (3 + n) (slice ops 3 n) else (out, false)
    | 3 =>
      let n := leNat (slice ops 1 4)
      if 6 ≤ ops.length && n ≤ target then go 6 (List.replicate n (ops.getD 5 0)) else (out, false)
    | 4 =>
      let n := leNat (slice ops 5 2)
      match base with
      | some b =>
        if 7 + n ≤ ops.length && src + n ≤ b.length then
          go (7 + n) (List.zipWith (fun x y => x + y) (slice b src n) (slice ops 7 n)) else (out, false)
      | none => (out, false)
    | 5 => (out, decide (ops.length = 1) && decide (out.length = target))
    | _ => (out, false)

/-- The staged delta is applied to the inactive slot (R506, steps 1 to 5): the wing, and 0 or the code of the failure. -/
def Wing.updateTry (x : Wing) : Wing × Nat :=
  let d := fun off n => x.fls.oct 384 off n
  let len := leNat (d 8 4)
  let ops := leNat (d 12 4)
  let active := x.tru.slot
  let slot := otherSlot active
  let sec := slotSector slot
  if !(decide (d 0 4 = ascii "THZP") && decide (leNat (d 4 2) = 1) && decide (leNat (d 6 2) = 0) && decide (len % 16 = 0) &&
      decide (64 ≤ len) && decide (len ≤ 524288) && decide (80 + ops ≤ 262144)) then (x, 2) else
  let hasBase := decide (d 16 32 ≠ zeros 32)
  if hasBase && (active = 0 || decide (d 16 32 ≠ x.slotHash active)) then (x, 3) else
  let s := (len + 4095) / 4096
  let x := { x with fls := x.fls.curErase sec s }.judge slot false
  if (List.range s).any (fun i => x.fls.retired.contains (sec + i)) then (x, 10) else
  let img := fun off n => x.fls.oct (slotSector active) off n
  let base := if hasBase then some (img 0 (annexLen img)) else none
  let (out, good) := thazipo base len (ops + 1) (d 80 ops) []
  let x := { x with fls := x.fls.curWrite sec (out.take (out.length / 16 * 16)) }
  if !good then (x, 4)
  else if hash32 (x.fls.oct sec 0 len) ≠ d 48 32 then (x, 5)
  else (x, x.annexCheck slot)

/-- BOOT_STATE with its fields replaced (R499). -/
def bootState (old active trial pending result : Nat) : Nat :=
  old / 65536 * 65536 + bits old 4 4 * 16 + active + 4 * trial + 8 * pending + 256 * result

/-- The Curator changes BOOT_STATE, in one ENTRY record (R499). -/
def State.putBoot (w v : Nat) (s : State) : State :=
  (s.modWing w (fun x => { x with tru := { x.tru with boot := v } })).jEntry w 0x2C00 1 8 v

/-- An UPDATE_RESULT other than APPLIED is told to the host (R501, R542). -/
def State.tellUpdate (w code : Nat) (s : State) : State :=
  if code = 1 then s else
  let t := (s.wing w).tru
  s.event 7 w 3 ([o8 code, o8 t.slot] ++ natLe 4 t.annex)

/-- A pending update (R506). -/
def State.bootUpdate (w : Nat) (s : State) : State :=
  let x := s.wing w
  if !bit x.tru.boot 3 then s else
  let (y, code) := x.updateTry
  let slot := otherSlot x.tru.slot
  let s := s.setWing w (if code = 0 then y else y.judge slot true)
  let b := y.tru.boot
  if code = 0 then s.putBoot w (bootState b slot 1 0 1)
  else (s.putBoot w (bootState b (b % 4) (b / 4 % 2) 0 code)).tellUpdate w code

/-- A trial that ended in WATCHDOG or LOCKUP is rolled back (R501, step 1). -/
def State.bootRollback (w : Nat) (s : State) : State :=
  let x := s.wing w
  let b := x.tru.boot
  if bit b 2 && (x.sys.causeEnd.getLsbD 5 || x.sys.causeEnd.getLsbD 6) then
    ((s.modWing w (Wing.judge x.tru.slot true)).putBoot w (bootState b (otherSlot x.tru.slot) 0 (b / 8 % 2) 11)).tellUpdate w 11
  else s

/-- The active slot is checked, and the other tried (R501, step 4). -/
def State.bootSlot (w : Nat) (s : State) : State :=
  let x := s.wing w
  let b := x.tru.boot
  let a := x.tru.slot
  if a = 0 || x.slotOk a then s else
  let o := otherSlot a
  let next := if x.slotOk o then o else 0
  (s.putBoot w (bootState b next (b / 4 % 2) (b / 8 % 2) 12)).tellUpdate w 12

/-- The slots as this BOOT judges them (R516), and the protection of both (R501, step 5). -/
def Wing.bootJudge (x : Wing) : Wing :=
  let ver := fun slot st => if st = 1 then leNat (x.fls.oct (slotSector slot) 8 4) else 0
  let a := x.slotState 1
  let b := x.slotState 2
  { x with tru := { x.tru with slotA := a, slotB := b, verA := ver 1 a, verB := ver 2 b }
           fls := { x.fls with protect := x.fls.protect ||| 0b0000101 } }

/-- LEAF_NEXT and KEY_GEN (R509). -/
def Trust.leaf (t : Trust) : Nat := t.position / 2 ^ 32
/-- KEY_GEN. -/
def Trust.keyGen (t : Trust) : Nat := t.position % 2 ^ 32

/-- The Curator journals POSITION (R509). -/
def State.putPosition (w gen leaf : Nat) (s : State) : State :=
  let v := gen + 2 ^ 32 * leaf
  (s.modWing w (fun x => { x with tru := { x.tru with position := v } })).jEntry w 0x2C10 2 8 v

/-- A new attestation key from the random source: seeds and root (R510). -/
def State.newKey (s : State) : (Octets × Octets) × State :=
  let (seeds, s) := s.drawOctets 96
  ((seeds, attNode seeds 16 0), s)

/-- A key of generation `gen` is made and written (R510, R511); UNAVAILABLE while the random source fails. -/
def State.provision (w gen : Nat) (s : State) : State :=
  if (s.wing w).cph.randFail then s.modWing w (fun x => { x with tru := { x.tru with attest := 4 } }) else
  let ((seeds, root), s) := s.newKey
  let s := s.modWing w (fun x => { x with tru := { x.tru with file := some (gen, seeds, root), successor := none, attest := 1 } })
  s.putPosition w gen 0

/-- The successor's certificate, and the successor in force (R512, steps 3 and 4). -/
def State.certify (w : Nat) (s : State) : State :=
  let t := (s.wing w).tru
  match t.file, t.successor with
  | some (og, seeds, root), some (ng, nseeds, nroot) =>
    let body := ascii "VY-SUCC1" ++ natBe 8 (Config.wingEui w).toNat ++ natLe 4 og ++ natLe 4 ng ++ attPublic nseeds nroot
    let cert := body ++ attSign seeds root body 65535
    let s := s.modWing w (fun x => { x with tru := { x.tru with
      certs := (x.tru.certs ++ [(ng, cert)]).drop (x.tru.certs.length - 15), file := some (ng, nseeds, nroot), successor := none, attest := 1 } })
    s.putPosition w ng 0
  | _, _ => s

/-- The attestation key at BOOT (R501 step 3, R510 to R512): REGENERATE, the first key, or the certificate that a reset cut. -/
def State.bootAttest (w : Nat) (s : State) : State :=
  let x := s.wing w
  let b := x.tru.boot
  if bit b 4 then
    let s := (s.provision w (x.tru.keyGen + 1))
    if (s.wing w).tru.attest = 1 then s.putBoot w (b - 16) else s
  else if x.tru.file.isNone then (if x.fls.locked then s.provision w 1 else s)
  else if x.tru.leaf = 65536 && x.tru.successor.isSome then s.certify w
  else s.modWing w (fun x => { x with tru := { x.tru with attest := 1, successor := none } })

/-- The length in words of the applet image at octet reader `img`: header, code and signature block (R433, R498). -/
def appletWords (img : Nat → Nat → Octets) : Nat :=
  let code := leNat (img 4 4)
  16 + code + 34 + sigLen (beNat (img (32 + 2 * code) 4)) / 2

/-- The header of an applet image meets R433. -/
def appletHeader (img : Nat → Nat → Octets) : Bool :=
  let code := leNat (img 4 4)
  let data := leNat (img 12 2)
  decide (leNat (img 0 2) = 0x4150) && decide (leNat (img 2 2) = 1) && decide (1 ≤ code) && decide (code ≤ 131072) &&
  decide (leNat (img 8 4) < code) && decide (1024 ≤ data) && decide (data ≤ 32768) && decide (img 18 14 = zeros 14) &&
  decide (appletWords img ≤ 131072)

/-- The signature of an applet image verifies (R498). -/
def Wing.appletSigned (img : Nat → Nat → Octets) (x : Wing) : Bool :=
  let n := 32 + 2 * leNat (img 4 4)
  let pk := img n 68
  x.ownerKeyOk pk && xmssVerify pk (img 0 n) (img (n + 68) (sigLen (beNat (pk.take 4))))

/-- An area lies in SRAM (R29). -/
def areaInSram (a : Area) : Bool := decide (0x100000 ≤ a.1) && decide (a.1 + a.2 ≤ 0x130000)

/-- The area of a ring and, for an intake ring, of its buffers (R452, R455). -/
def Ring.areas (r : Nat) (g : Ring) : List Area := (g.base, 8 * g.depth) :: (if r < 4 then [(g.ibuf, 128 * g.depth)] else [])

/-- The exchange area (R461). -/
def Wing.exchange (x : Wing) : Area := (x.num 0x2A0100 0x114000, 0x1800)

/-- The receive pool (R87). -/
def Wing.poolArea (x : Wing) : Area := (x.reg 0xFF6020 + 65536 * x.reg 0xFF6021, x.reg 0xFF6022 * x.reg 0xFF6023)

/-- The Curator's own SRAM. -/
def curatorArea : Area := (0x100000, 0x8000)

/-- The applet's data window: DATA_BASE and `words` (R434). -/
def Wing.dataArea (words : Nat) (x : Wing) : Area := (x.num 0x281004 0x118000, words)

/-- The areas of every ring but `r`. -/
def Wing.ringAreas (r : Nat) (x : Wing) : List Area := ((List.range 16).filter (· ≠ r)).flatMap (fun k => (x.ring k).areas k)

/-- A data window may stand (R434). -/
def Wing.windowOk (a : Area) (x : Wing) : Bool :=
  areaInSram a && !((curatorArea :: x.poolArea :: x.exchange :: x.ringAreas 16).any (areaMeets a))

/-- INSTALL 1 (R434): refused, or the wing with the applet installed; STATE is NONE where the read-back differs. -/
def Wing.appletInstall (x : Wing) : Bool × Wing :=
  let img := fun off n => x.fls.oct 384 off n
  let data := leNat (img 12 2)
  if !(decide (x.sys.state = .stopped) && appletHeader img && x.windowOk (x.dataArea data) &&
      decide (x.num 0x281004 0x118000 % 0x4000 = 0) && !bit x.tru.boot 3 && x.appletSigned img) then (false, x) else
  let os := img 0 (2 * appletWords img)
  let y := { x with fls := (x.fls.curErase 128 128).curWrite 128 os }
  if y.fls.oct 128 0 os.length = os then
    (true, { y with apl := { y.apl with state := .installed, version := leNat (img 14 4), codeWords := leNat (img 4 4), dataWords := data,
                                        entry := leNat (img 8 4), barred := false, restartDue := false } })
  else (false, { y with apl := { y.apl with state := .none } })

/-- INSTALL 2 (R434): the Applet partition is erased. -/
def Wing.appletRemove (x : Wing) : Wing :=
  { x with fls := x.fls.curErase 128 128
           apl := { x.apl with state := .none, version := 0, codeWords := 0, dataWords := 0, entry := 0 } }

/-- A provenance record for a challenge (R513): whether it is made. -/
def State.provenance (w : Nat) (challenge : Octets) (s : State) : Bool × State :=
  let x := s.wing w
  let t := x.tru
  let since := match t.provAt with | none => true | some p => decide (p + x.num 0x2C1005 60 * 400000000 ≤ x.now)
  match t.file with
  | none => (false, s)
  | some (gen, seeds, root) =>
    if t.attest = 0 || t.attest = 4 || 65535 ≤ t.leaf || !since then (false, s) else
    let flags := b2n s.cal.osf + 2 * b2n (bit t.boot 2) + 4 * b2n x.fls.locked + 8 * b2n x.sys.alignLost + 16 * b2n x.ownerSet +
      32 * b2n (!bit (x.lim 0x30) 0)
    let app := fun off n => x.fls.oct 128 off n
    let body := ascii "VYPR" ++ [1, o8 w] ++ natLe 2 flags ++ natBe 8 (Config.wingEui w).toNat ++ natBe 8 (s.identity w).toNat ++
      natLe 16 Config.dieId.toNat ++ natLe 4 Config.romVersion.toNat ++ natLe 4 t.annex ++ [o8 t.slot, o8 x.apl.state.code] ++
      natLe 2 (bits t.boot 31 16) ++ (if t.slot = 0 then zeros 32 else x.slotHash t.slot) ++
      (if x.apl.state = .none then zeros 32 else hash32 (app 0 (2 * appletWords app))) ++
      hash32 (unpackW ((List.range 0x150).map (fun a => w16 (x.lim a)))) ++ x.cph.kcv ++ calOctets s.cal.time ++
      natLe 8 x.now ++ natLe 5 x.lnk.asn ++ natLe 4 x.msh.epoch ++ natBe 8 x.msh.root ++ zeros 3 ++ challenge ++ natLe 4 gen ++ natLe 4 t.leaf
    let s := s.putPosition w gen (t.leaf + 1)
    (true, s.modWing w (fun x => { x with tru := { x.tru with
      prov := body ++ attSign seeds root body t.leaf, provAt := some x.now } }))

/-- Every ITEM record has its DONE record (R514). -/
def Work.allDone (k : Work) : Bool := k.items.all (fun i => i.partner || i.outcome.isSome)

/-- Neighbour counters start afresh under a new root (R514, step 4). -/
def Nb.afresh (n : Nb) : Nb :=
  if n.valid then { n with rxFc := 0, bcFc := 0, epoch := 0, bcEpoch := 0, rxEmpty := true, bcEmpty := true } else n

/-- A change of the root is accepted (R514): its steps. -/
def State.rerootSteps (w : Nat) (s : State) : State :=
  let gen := ((s.wing w).tru.rootGen + 1) % 65536
  let s := (s.modWing w (fun x => { x with tru := { x.tru with rootGen := gen } })).jEntry w 0x2C03 0 2 gen
  let s := s.jWrite w 6 (natLe 2 0 ++ natLe 4 4096)
  s.modWing w (fun x => { x with
    msh := { x.msh with keyEpoch := 0, txFc := 0, limit := 4096, res := none, departed := []
                        nbs := x.msh.nbs.map (fun e => (e.1, e.2.afresh)) } })

/-- A write of NETWORK_ROOT (R471, R514): whether it is accepted. The store that follows is the caller's. -/
def State.rootWrite (w : Nat) (value : Octets) (s : State) : Bool × State :=
  let x := s.wing w
  let gone := decide (value = zeros 32)
  let differs := if gone then x.cph.root.isSome else decide (x.cph.root.isNone) || decide (rootKcv value ≠ x.cph.kcv)
  if x.sys.state ≠ .stopped || (differs && !x.wrk.allDone) || (!gone && x.cph.randFail) then (false, s) else
  let s := if differs then s.rerootSteps w else s
  if gone then
    (true, s.modWing w (fun x => ({ x with cat := tset [] 0x2B1001 [] x.cat } : Wing).loadRoot none))
  else
    let (iv, s) := s.drawOctets 12
    let (c, t) := gcmEnc (wrapKey w) iv [] value 16
    (true, s.modWing w (fun x => ({ x with cat := tset [] 0x2B1001 (iv ++ c ++ t) x.cat } : Wing).loadRoot (some value)))

end Sys2Proof.Machine
end

