-- ==== Sys2Proof/Machine/Net.lean ====
section
/-! DEFINITION. The close of a session (R302, R460, R481). -/
namespace Sys2Proof.Machine
open Sys2Proof

/-- The pages of session `n` in every wing are zeroed (R481). -/
def Wing.sessionPages (n : Nat) (x : Wing) : Wing :=
  (List.range 64).foldl (fun (y : Wing) p =>
    if (y.page p).owner = 3 && (y.page p).session = n then (fun (z : Wing) => z.setPage p (z.page p).empty) (y.pageGone p) else y) x

/-- Session `n` closes (R302, R460, R481): its transfers, events, waiting requests and number go, its key and pages are zeroed,
and a mailbox that holds its message is abandoned. -/
def State.closeSession (n : Nat) (s : State) : State :=
  let s := s.modSession n (fun _ => {})
  let s := { s with port := { s.port with
    waits := s.port.waits.filter (fun q => q.session ≠ n), queue := s.port.queue.filter (fun q => q.1.session ≠ n)
    fwds := s.port.fwds.filter (fun f => f.session ≠ n)
    storing := s.port.storing.map (fun (e : PortStore) => { e with waits := e.waits.filter (· ≠ n) }) } }
  s.forWings (fun w t => t.modWing w (fun (x : Wing) =>
    let x := { x with wrk := { x.wrk with
      waiting := x.wrk.waiting.filter (· ≠ n), waitNext := x.wrk.waitNext.filter (· ≠ n), replies := x.wrk.replies.filter (· ≠ n),
      queries := x.wrk.queries.filter (fun q => q.session ≠ n) },
                      fls := { x.fls with jobs := x.fls.jobs.map (fun (e : FlsJob) => if e.who = some n then { e with who := none } else e) } }
    (if (x.mb (n % 4)).party = some (Party.session n) then x.mbAbandon (n % 4) else x).sessionPages n))

end Sys2Proof.Machine
end

