-- ==== Sys2Proof/Machine/Bus.lean ====
section
/-! DEFINITION. The memory map of a wing as its core sees it (R29 to R33, R405): which access is permitted, and what each read and
write does, with the registers of the GPIO and wing-state block (R62, R438) and the mailboxes' writes (R457 to R459, R464). -/
namespace Sys2Proof.Machine
open Sys2Proof

/-- What an access is (R414). -/
inductive AccKind | fetch | load | store | stack
  deriving DecidableEq, Repr

/-- The core ends a message as its receiver (R459): the port answers the request of a notice that is not taken, and a twin's
next message may follow. -/
def State.mbAck (w m : Nat) (code : Octet) (s : State) : State :=
  let x := s.wing w
  let b := x.mb m
  if !coreReceives (s.role w) m || b.state ≠ .full then s.modWing w (Wing.mbRefuse m 3) else
  let c := ackStored code
  let s := s.modWing w (Wing.mbEnd m c)
  match b.party with
  | some (.session n) => if c = 1 then s.answer w n .busy [] else if c = 2 then s.answer w n .badMessage [] else s
  | some (.relay _) => s.relayDrain w
  | _ => s

/-- A write of the mailboxes block at word offset `a` (R464). -/
def State.mbxWrite (w a : Nat) (v : Word) (s : State) : State :=
  let x := s.wing w
  if a = 0x100 then
    s.setWing w ((List.range 8).foldl (fun (y : Wing) m =>
      if bit v.toNat (8 + m) then y.setMb m { y.mb m with ackEvent := false } else y) x)
  else if 0x100 ≤ a then s else
  let m := a / 0x20
  let b := x.mb m
  let i := a % 0x20
  if i < 16 then (if b.heldByCore then s.setWing w (x.setMb m { b with data := tset 0 i v b.data }) else s) else
  match i with
  | 0x11 => s.modWing w (Wing.mbPost m)
  | 0x13 => s.mbAck w m (o8 v.toNat)
  | 0x14 => if bit v.toNat 2 then s.setWing w (x.setMb m { b with acked := false }) else s
  | 0x15 => s.modWing w (Wing.mbRelease m)
  | _ => s

/-- The pin levels (R437). -/
def Gpio.levels (g : Gpio) : BitVec 6 := (g.out &&& g.dir) ||| (g.ext &&& ~~~ g.dir)

/-- CPU_WDT_REMAIN (R438). -/
def Wdt.remain (d : Wdt) : Nat := if d.en then min ((2 ^ d.period - d.count) / 32) 0xFFFF else 0xFFFF

/-- CPU_PWR_STATUS (R62). -/
def State.pwrStatus (w : Nat) (s : State) : Nat :=
  let d := s.dome
  b2n d.mainGood + 2 * b2n d.brownout + 4 * b2n (s.wing w).sys.watch + 8 * b2n d.cellLow + 16 * b2n d.cellEmpty +
    32 * b2n d.refLost + 64 * b2n d.holdupShort

/-- A read of the GPIO and wing-state block at word offset `a` (R62, R438). -/
def State.cpuRead (applet : Bool) (w a : Nat) (s : State) : Word × State :=
  let x := s.wing w
  let g := x.gpio
  let mask := if applet then x.apl.pins else BitVec.allOnes 6
  let pair := fun (low val : Nat) => let (v, y) := x.readMulti 0 (0xFFC000 + low) 2 val (a - low); (v, s.setWing w y)
  match a with
  | 0x000 => (w16 g.levels.toNat, s)
  | 0x001 => (w16 (g.out &&& mask).toNat, s)
  | 0x002 => (w16 (g.dir &&& mask).toNat, s)
  | 0x003 => (w16 g.func.toNat, s)
  | 0x004 => (w16 g.pull.toNat, s)
  | 0x100 => (w16 (s.pwrStatus w), s)
  | 0x101 => (w16 x.sys.cause.toNat, s)
  | 0x102 => (w16 x.sys.count, s)
  | 0x104 => let (v, t) := s.draw; (w16 v.toNat, t)
  | 0x105 => (w16 s.dome.vcore, s)
  | 0x200 => (w16 (b2n x.wdt.en + 2 * x.wdt.period + 64 * b2n x.wdt.sleepRun), s)
  | 0x202 => (w16 x.wdt.remain, s)
  | 0x203 => pair 0x203 x.core.lockupPc.toNat
  | 0x204 => pair 0x203 x.core.lockupPc.toNat
  | 0x300 => pair 0x300 x.apl.codeLo
  | 0x301 => pair 0x300 x.apl.codeLo
  | 0x302 => pair 0x302 x.apl.codeHi
  | 0x303 => pair 0x302 x.apl.codeHi
  | 0x304 => pair 0x304 x.apl.dataLo
  | 0x305 => pair 0x304 x.apl.dataLo
  | 0x306 => pair 0x306 x.apl.dataHi
  | 0x307 => pair 0x306 x.apl.dataHi
  | 0x308 => (w16 x.apl.pins.toNat, s)
  | _ => (0, s)

/-- A write of CPU_WDT_CTRL (R431, R438). -/
def Wdt.control (v : Word) (d : Wdt) : Wdt :=
  if d.en then d else
  let p := bits v.toNat 5 1
  { d with period := if 5 ≤ p && p ≤ 21 then p else d.period, sleepRun := v.getLsbD 6, en := v.getLsbD 0, count := 0, warned := false }

/-- The watchdog expires (R431). -/
def State.wdtExpire (w : Nat) (s : State) : State := s.enterReset w .watchdog

/-- A write of CPU_WDT_KICK (R431). -/
def State.wdtKick (w : Nat) (v : Word) (s : State) : State :=
  if v = 0xC35A then s.modWing w (fun x => { x with wdt := { x.wdt with count := 0, warned := false } })
  else if (s.wing w).wdt.en then s.wdtExpire w else s

/-- A write of the GPIO and wing-state block at word offset `a` (R62, R438). -/
def State.cpuWrite (applet : Bool) (w a : Nat) (v : Word) (s : State) : State :=
  let n := v.toNat
  let b := BitVec.ofNat 6 n
  let put := fun (f : Wing → Wing) => s.modWing w f
  let apl := fun (f : Applet → Applet) => put (fun x => { x with apl := f x.apl })
  let mask := fun (x : Wing) => if applet then x.apl.pins else BitVec.allOnes 6
  let mix := fun (m old : BitVec 6) => (old &&& ~~~ m) ||| (b &&& m)
  let h := fun (old off : Nat) => half old off v % 2 ^ 24
  match a with
  | 0x001 => put (fun x => { x with gpio := { x.gpio with out := mix (mask x &&& ~~~ (x.gpio.dir &&& x.gpio.func)) x.gpio.out } })
  | 0x002 => put (fun x => { x with gpio := { x.gpio with dir := mix (mask x) x.gpio.dir } })
  | 0x003 => put (fun x => { x with gpio := { x.gpio with func := b } })
  | 0x004 => put (fun x => { x with gpio := { x.gpio with pull := BitVec.ofNat 12 n } })
  | 0x101 => put (fun x => { x with sys := { x.sys with cause := x.sys.cause &&& ~~~ BitVec.ofNat 9 n } })
  | 0x103 => if v = 0xA5C3 then s.enterReset w .self else s
  | 0x200 => put (fun x => { x with wdt := x.wdt.control v })
  | 0x201 => s.wdtKick w v
  | 0x300 => apl (fun p => { p with codeLo := h p.codeLo 0 })
  | 0x301 => apl (fun p => { p with codeLo := h p.codeLo 1 })
  | 0x302 => apl (fun p => { p with codeHi := h p.codeHi 0 })
  | 0x303 => apl (fun p => { p with codeHi := h p.codeHi 1 })
  | 0x304 => apl (fun p => { p with dataLo := h p.dataLo 0 })
  | 0x305 => apl (fun p => { p with dataLo := h p.dataLo 1 })
  | 0x306 => apl (fun p => { p with dataHi := h p.dataHi 0 })
  | 0x307 => apl (fun p => { p with dataHi := h p.dataHi 1 })
  | 0x308 => apl (fun p => { p with pins := b })
  | _ => s

/-- An access that R30, R32 or R405 forbids: `some` of whether the address is unmapped. -/
def Wing.deny (x : Wing) (applet : Bool) (k : AccKind) (a : Nat) : Option Bool :=
  let wr := decide (k = .store) || decide (k = .stack)
  let no := fun (b : Bool) => if b then some false else none
  if a < 0x40000 then no (applet || wr)
  else if 0x100000 ≤ a && a < 0x130000 then
    no (applet && (decide (k = .fetch) || !(decide (x.apl.dataLo ≤ a) && decide (a ≤ x.apl.dataHi))))
  else if 0x400000 ≤ a && a < 0x600000 then
    no (wr || (applet && !(decide (x.apl.codeLo ≤ a) && decide (a ≤ x.apl.codeHi))))
  else if 0xFE0000 ≤ a && a < 0xFE1000 then no (applet || decide (k ≠ .load))
  else if 0xFF0000 ≤ a && a < 0xFFD000 then
    let off := a % 0x1000
    if k = .fetch then some false
    else if !applet then none
    else match a / 0x1000 % 16 with
      | 0 => no (!(wr && off == 0))
      | 1 => no (!x.carApplet off wr)
      | 12 => no (!(off == 1 || off == 2 || (!wr && (off == 0 || off == 0x100 || off == 0x104))))
      | _ => some false
  else some true

/-- A read of a peripheral register of wing `w` (R31). -/
def State.regRead (applet : Bool) (w a : Nat) (s : State) : Word × State :=
  let off := a % 0x1000
  let own := fun (r : Word × Wing) => (r.1, s.setWing w r.2)
  match a / 0x1000 % 16 with
  | 0 => s.docRead w off
  | 1 => own ((s.wing w).carRead applet s.dome.refLost off)
  | 2 => if off < 0x200 then own ((s.wing w).ringRead (off / 0x20) (off % 0x20))
         else if 0x800 ≤ off && off < 0x804 then s.accRead w (off - 0x800) else (0, s)
  | 3 => s.mbxRead w off
  | 4 => s.cphRead w off
  | 5 => own ((s.wing w).flsRegRead off)
  | 6 => s.rxRead w off
  | 7 => s.txRead w off
  | 8 => s.lnkRead w off
  | 9 => s.mshRead w off
  | 10 => s.portRead w off
  | 11 => s.calRead w off
  | 12 => s.cpuRead applet w off
  | _ => (0, s)

/-- A write of ring 15 by the core is also the Curator's bridge (R453). -/
def State.bridgeOut (w : Nat) (s : State) : State :=
  let x := s.wing w
  if !x.flag 0x2A0200 true then s else
  (List.range (x.ring 15).count).foldl (fun (t : State) _ =>
    match (t.wing w).ringHead 15 with
    | none => t
    | some d => (t.modWing w (Wing.ringTook 15)).event 2 w 0x0200 (unpackW d)) s

/-- A write of the rings block at word offset `off` (R463, R255). -/
def State.ringRegWrite (w off : Nat) (v : Word) (s : State) : State :=
  if off < 0x200 then
    let t := s.modWing w (Wing.ringWrite (off / 0x20) (off % 0x20) v)
    if off = 0x1EF then t.bridgeOut w else t
  else if 0x800 ≤ off && off < 0x804 then s.accWrite w (off - 0x800) v else s

/-- A write of a peripheral register of wing `w` (R31). -/
def State.regWrite (applet : Bool) (w a : Nat) (v : Word) (s : State) : State :=
  let off := a % 0x1000
  match a / 0x1000 % 16 with
  | 0 => s.docWrite applet w off v
  | 1 => s.modWing w (Wing.carWrite off v)
  | 2 => s.ringRegWrite w off v
  | 3 => s.mbxWrite w off v
  | 4 => s.modWing w (Wing.cphWrite off v)
  | 5 => s.modWing w (Wing.flsRegWrite off v)
  | 6 => s.modWing w (fun x => x.rxWrite x.bandMay off v)
  | 7 => (s.txWrite w off v).sweep w
  | 8 => s.modWing w (Wing.lnkWrite off v)
  | 9 => s.modWing w (Wing.mshWrite off v)
  | 11 => s.calWrite w off v
  | 12 => s.cpuWrite applet w off v
  | _ => s

/-- A permitted read of a word of wing `w`'s map (R29, R380). -/
def State.busRead (applet : Bool) (w a : Nat) (s : State) : Word × State :=
  let x := s.wing w
  if a < 0x40000 then (Config.romWord a, s)
  else if 0x100000 ≤ a && a < 0x130000 then (x.ld a, s)
  else if 0x400000 ≤ a && a < 0x600000 then
    let (v, y, es) := x.flsDirect a
    (v, es.foldl (fun (t : State) e => t.event 7 w e.1 e.2) (s.setWing w y))
  else if 0xFE0000 ≤ a && a < 0xFE1000 then (tget 0xFFFF x.fls.window (a - 0xFE0000), s)
  else if 0xFF0000 ≤ a && a < 0xFFD000 then s.regRead applet w a
  else (0, s)

/-- A permitted write of a word of wing `w`'s map. -/
def State.busWrite (applet : Bool) (w a : Nat) (v : Word) (s : State) : State :=
  if 0x100000 ≤ a && a < 0x130000 then s.modWing w (Wing.st a v)
  else if 0xFF0000 ≤ a && a < 0xFFD000 then s.regWrite applet w a v
  else s

/-- RING_PUBLISH (R452, R453): the write of DOC_RING_IN7. -/
def execRingPublish (w : WingId) (r : Fin 16) (v : Word) (s : State) : Out :=
  byCore w s (s.ringRegWrite w (0x20 * r + 0xF) v)

/-- MBX_ACK (R459): a write of the core to MBX_ACK of mailbox `m`. -/
def execMbxAck (w : WingId) (m : Fin 8) (code : Octet) (s : State) : Out := byCore w s (s.mbAck w m code)

/-- WATCHDOG_ENABLE (R431): a write of CPU_WDT_CTRL. -/
def execWatchdogEnable (w : WingId) (v : Word) (s : State) : Out := byCore w s (s.cpuWrite false w 0x200 v)

/-- WATCHDOG_KICK (R431): a write of CPU_WDT_KICK. -/
def execWatchdogKick (w : WingId) (v : Word) (s : State) : Out := byCore w s (s.wdtKick w v)

/-- WATCHDOG_WARN (R431): half the period has been counted. -/
def execWatchdogWarn (w : WingId) (s : State) : Out :=
  .next (s.modWing w (fun x =>
    if x.awake && x.wdt.en && !x.wdt.warned && decide (2 ^ (x.wdt.period - 1) ≤ x.wdt.count) then
      { x with wdt := { x.wdt with warned := true } }.raise 46
    else x))

/-- WATCHDOG_EXPIRY (R431): the period has been counted. -/
def execWatchdogExpiry (w : WingId) (s : State) : Out :=
  let x := s.wing w
  .next (if x.awake && x.wdt.en && 2 ^ x.wdt.period ≤ x.wdt.count then s.wdtExpire w else s)

/-- REGISTER_WRITE (R31): a store to a register of wing `w`'s peripheral blocks that R405 permits in the mode. -/
def execRegisterWrite (w : WingId) (applet : Bool) (addr : BitVec 24) (v : Word) (s : State) : Out :=
  let a := addr.toNat
  byCore w s (if 0xFF0000 ≤ a && a < 0xFFD000 && ((s.wing w).deny applet .store a).isNone then s.regWrite applet w a v else s)

/-- The word that a read of register `a` returns is noted (log 5). -/
def State.regLook (applet : Bool) (w a : Nat) (s : State) : State :=
  if 0xFF0000 ≤ a && a < 0xFFD000 && ((s.wing w).deny applet .load a).isNone then
    let (v, t) := s.regRead applet w a
    t.modWing w (fun x => { x with rdata := v })
  else s

/-- RC_COUNTER_READ (R103): a Keeper-mode read of a read-to-clear register. -/
def execRcCounterRead (w : WingId) (addr : BitVec 24) (s : State) : Out := byCore w s (s.regLook false w addr.toNat)

/-- LOW_WORD_LATCH_READ (R103): a read of the low word of a multi-word register. -/
def execLowWordLatchRead (w : WingId) (applet : Bool) (addr : BitVec 24) (s : State) : Out :=
  byCore w s (s.regLook applet w addr.toNat)

end Sys2Proof.Machine
end

