-- ==== Sys2Proof/Machine/Flags.lean ====
section
/-! DEFINITION. The flag computations of the core (R401, R407, R412, R413, R415): each gives a result and the
status word with exactly the flags changed that its instruction names. -/
namespace Sys2Proof.Machine
open Sys2Proof

/-- Bit `i` of a status word set to `b` (R401). -/
def putBit (i : Nat) (b : Bool) (st : Word) : Word :=
  if b then st ||| BitVec.twoPow 16 i else st &&& ~~~ BitVec.twoPow 16 i

/-- C, Z, N, V, H (R401). -/
abbrev fC : Nat := 0
/-- Zero. -/
abbrev fZ : Nat := 1
/-- Negative. -/
abbrev fN : Nat := 2
/-- Overflow. -/
abbrev fV : Nat := 3
/-- Half carry. -/
abbrev fH : Nat := 4
/-- Interrupts enabled. -/
abbrev fIE : Nat := 5
/-- Applet mode. -/
abbrev fAM : Nat := 6
/-- A synchronous trap is being handled. -/
abbrev fTA : Nat := 7

/-- Z and N of a result. -/
def flagsZN (r st : Word) : Word := putBit fN r.msb (putBit fZ (r == 0) st)

/-- The sum with carry-in, and C, Z, N, V, H of it; `chain` makes Z as ADDC does (R407). -/
def addF (a b : Word) (cin chain : Bool) (st : Word) : Word × Word :=
  let n := a.toNat + b.toNat + b2n cin
  let r := w16 n
  let z := if chain then r == 0 && st.getLsbD fZ else r == 0
  (r, putBit fH (decide (16 ≤ a.toNat % 16 + b.toNat % 16 + b2n cin))
    (putBit fV (a.msb == b.msb && r.msb != a.msb) (putBit fN r.msb (putBit fZ z (putBit fC (decide (65536 ≤ n)) st)))))

/-- The difference with borrow-in, and C, Z, N, V, H of it (R401, R407). -/
def subF (a b : Word) (bin chain : Bool) (st : Word) : Word × Word :=
  let r := a - b - w16 (b2n bin)
  let z := if chain then r == 0 && st.getLsbD fZ else r == 0
  (r, putBit fH (decide (a.toNat % 16 < b.toNat % 16 + b2n bin))
    (putBit fV (a.msb != b.msb && r.msb != a.msb)
      (putBit fN r.msb (putBit fZ z (putBit fC (decide (a.toNat < b.toNat + b2n bin)) st)))))

/-- INC and DEC: Z, N, V, H only (R408). -/
def incF (down : Bool) (a st : Word) : Word × Word :=
  let (r, f) := if down then subF a 1 false false st else addF a 1 false false st
  (r, putBit fC (st.getLsbD fC) f)

/-- One of the seven shifts and rotations (R412). -/
inductive Shift | shzL | shzR | shsR | rotL | rotR | rtcL | rtcR
  deriving DecidableEq, Repr

/-- One step of a shift: the word, and the bit that goes out. -/
def Shift.step (k : Shift) (a : Word) (c : Bool) : Word × Bool :=
  match k with
  | .shzL => (a <<< 1, a.msb)
  | .shzR => (a >>> 1, a.getLsbD 0)
  | .shsR => (a.sshiftRight 1, a.getLsbD 0)
  | .rotL => (a.rotateLeft 1, a.msb)
  | .rotR => (a.rotateRight 1, a.getLsbD 0)
  | .rtcL => ((a <<< 1) ||| w16 (b2n c), a.msb)
  | .rtcR => ((a >>> 1) ||| w16 (32768 * b2n c), a.getLsbD 0)

/-- `n` steps: the word, the last bit out, and whether bit 15 changed at any step. -/
def Shift.steps (k : Shift) : Nat → Word × Bool × Bool → Word × Bool × Bool
  | 0, x => x
  | n + 1, (a, c, v) =>
    let (r, o) := k.step a c
    Shift.steps k n (r, o, v || (r.msb != a.msb))

/-- A shift by `n` (R412): a count of 0 leaves C and V. -/
def shiftF (k : Shift) (n : Nat) (a st : Word) : Word × Word :=
  if n = 0 then (a, flagsZN a st) else
  let (r, c, v) := k.steps n (a, st.getLsbD fC, false)
  (r, putBit fV (k == .shzL && v) (flagsZN r (putBit fC c st)))

/-- One digit of ADDD or SUBD (R415): the digit, and the carry or borrow out. -/
def bcdDigit (sub : Bool) (a b : Nat) (c : Bool) : Nat × Bool :=
  if sub then
    if a < b + b2n c then ((a + 10 + 16 - b - b2n c) % 16, true) else (a - b - b2n c, false)
  else
    let t := a + b + b2n c
    if 10 ≤ t then ((t - 10) % 16, true) else (t, false)

/-- ADDD and SUBD (R415). -/
def bcdF (sub : Bool) (a b st : Word) : Word × Word :=
  let d := fun (w : Word) i => bits w.toNat (4 * i + 3) (4 * i)
  let (r0, c0) := bcdDigit sub (d a 0) (d b 0) (st.getLsbD fC)
  let (r1, c1) := bcdDigit sub (d a 1) (d b 1) c0
  let (r2, c2) := bcdDigit sub (d a 2) (d b 2) c1
  let (r3, c3) := bcdDigit sub (d a 3) (d b 3) c2
  let r := w16 (r0 + 16 * r1 + 256 * r2 + 4096 * r3)
  let bad := (List.range 4).any (fun i => decide (9 < d a i) || decide (9 < d b i))
  (r, putBit fC c3 (putBit fH c0 (putBit fZ (r == 0) (putBit fN false (putBit fV bad st)))))

/-- DAA and DAS (R415). -/
def adjustF (sub : Bool) (w st : Word) : Word × Word :=
  let a := w.toNat % 256
  let c := w.getLsbD 8
  let low := if st.getLsbD fH || decide (9 < a % 16) then 0x06 else 0
  let high := c || decide (0x99 < a)
  let k := low + (if high then 0x60 else 0)
  let r := w16 (if sub then (a + 256 - k) % 256 else (a + k) % 256)
  (r, putBit fC (if sub then c else high) (putBit fH false (flagsZN r st)))

/-- The condition of a Bcc (R410). -/
def condHolds (cc : BitVec 4) (st : Word) : Bool :=
  let c := st.getLsbD fC
  let z := st.getLsbD fZ
  let n := st.getLsbD fN
  let v := st.getLsbD fV
  let h := st.getLsbD fH
  match cc.toNat with
  | 0 => z | 1 => !z | 2 => c | 3 => !c | 4 => n | 5 => !n | 6 => v | 7 => !v
  | 8 => !c && !z | 9 => c || z | 10 => n == v | 11 => n != v
  | 12 => !z && n == v | 13 => z || n != v | 14 => h | _ => !h

end Sys2Proof.Machine
end

