-- ==== Sys2Proof/Machine/Operands.lean ====
section
/-! DEFINITION. The operands of the core's instructions (R399 to R405, R414): registers with the two copies of W15, system
registers, effective addresses through the bays, and the check of each access before it is made. -/
namespace Sys2Proof.Machine
open Sys2Proof

/-- Applet mode (R402). -/
def Core.applet (c : Core) : Bool := c.st.getLsbD fAM

/-- Register `r` as an instruction names it (R399, R400). -/
def Core.get (c : Core) (r : Reg) : Word :=
  if r = 15 then (if c.applet then c.aSp else c.kSp) else tget 0 c.w r

/-- Write register `r` (R399, R400). -/
def Core.put (r : Reg) (v : Word) (c : Core) : Core :=
  if r = 15 then (if c.applet then { c with aSp := v } else { c with kSp := v }) else { c with w := tset 0 r v c.w }

/-- Write register `r` and ST. -/
def Core.putF (r : Reg) (x : Word × Word) (c : Core) : Core := { c.put r x.1 with st := x.2 }

/-- BASE of bay `b` (R33). -/
def Core.bay (c : Core) (b : Nat) : BitVec 10 :=
  match b with | 0 => c.b0 | 1 => c.b1 | 2 => c.b2 | _ => c.b3

/-- The physical word address of an effective address (R33). -/
def Core.phys (c : Core) (ea : Word) : Nat := (c.bay (ea.toNat / 0x4000)).toNat * 0x4000 + ea.toNat % 0x4000

/-- What stops an instruction before it has any effect (R419, R421): for an access, its kind in FINFO, its effective address
and whether the address is unmapped. -/
inductive Trap
  | reserved
  | access (kind : Nat) (ea : Word) (unmapped : Bool)
  | divide
  deriving DecidableEq, Repr

/-- The kind of an access in FINFO (R414). -/
def AccKind.code : AccKind → Nat | .fetch => 0 | .load => 1 | .store => 2 | .stack => 3

/-- The fault that a load or a store at `ea` raises in the core's mode (R405). -/
def Wing.eaFault (x : Wing) (wr : Bool) (ea : Word) : Option Trap :=
  let k : AccKind := if wr then .store else .load
  (x.deny x.core.applet k (x.core.phys ea)).map (fun u => .access k.code ea u)

/-- The fault that a push or a pop through W15 raises: kind 3 in FINFO (DEDUCED, log 29). -/
def Wing.stackFault (x : Wing) (wr : Bool) (ea : Word) : Option Trap :=
  let k : AccKind := if wr then .store else .load
  (x.deny x.core.applet k (x.core.phys ea)).map (fun u => .access 3 ea u)

/-- A permitted load at an effective address. -/
def State.eaRead (w : Nat) (ea : Word) (s : State) : Word × State :=
  let c := (s.wing w).core
  s.busRead c.applet w (c.phys ea)

/-- A permitted store at an effective address. -/
def State.eaWrite (w : Nat) (ea v : Word) (s : State) : State :=
  let c := (s.wing w).core
  s.busWrite c.applet w (c.phys ea) v

/-- Apply `f` to the core of wing `w`. -/
def State.modCore (w : Nat) (f : Core → Core) (s : State) : State := s.modWing w (fun x => { x with core := f x.core })

/-- A near transfer (R403): PC[15:0] in the segment `seg` of the instruction. -/
def Core.near (seg : Nat) (t : Word) (c : Core) : Core := { c with pc := BitVec.ofNat 24 (seg * 0x10000 + t.toNat) }

/-- The low word of PC. -/
def Core.pcLow (c : Core) : Word := w16 c.pc.toNat

/-- The segment of PC. -/
def Core.seg (c : Core) : Nat := c.pc.toNat / 0x10000

/-- An 8-bit constant, sign-extended. -/
def sx8 (k : Octet) : Word := k.signExtend 16

/-- MFS of system register `n` of a core whose instruction lies in segment `seg` (R414): none where RESERVED_OP arises. -/
def Core.mfs (n seg : Nat) (c : Core) : Option Word :=
  if c.applet && decide (6 ≤ n) then none else
  some (match n with
    | 0 => c.st | 1 => c.b0.zeroExtend 16 | 2 => c.b1.zeroExtend 16 | 3 => c.b2.zeroExtend 16 | 4 => c.b3.zeroExtend 16
    | 5 => w16 seg | 6 => c.vbase | 7 => c.aSp | 8 => c.faddr | 9 => c.finfo | 10 => c.trapnum | 11 => c.spare | _ => 0)

/-- MTS of system register `n` (R414): none where RESERVED_OP arises. -/
def Core.mts (n : Nat) (v : Word) (c : Core) : Option Core :=
  if c.applet && decide (6 ≤ n) then none else
  let b := BitVec.ofNat 10 v.toNat
  let m : Word := if c.applet then 0x1F else 0xBF
  some (match n with
    | 0 => { c with st := (c.st &&& ~~~ m) ||| (v &&& m) }
    | 1 => { c with b0 := b } | 2 => { c with b1 := b } | 3 => { c with b2 := b } | 4 => { c with b3 := b }
    | 6 => { c with vbase := v } | 7 => { c with aSp := v } | 11 => { c with spare := v } | _ => c)

/-- The encodings that no table lists (R406, R408, R412, R413), an odd d in MULU, MULS and DIVU among them. -/
def coreReserved (e : Word) : Bool :=
  let n := e.toNat
  let g := bits n 11 8
  let low := bits n 3 0
  match bits n 15 12 with
  | 0 => if g = 0 then decide (0xA < bits n 7 0) else if g = 1 then false else if g = 2 then decide (7 < bits n 7 4) else true
  | 1 => decide (9 < g)
  | 7 => decide (4 < g)
  | 8 => g / 4 == 1 && !bit n 9
  | 13 => bit n 8
  | 14 =>
    if g < 3 then bit n 4
    else match g with
      | 7 => decide (1 < low) | 10 => low != 0 || decide (3 < bits n 7 4) | 11 => decide (8 < low) | 14 => decide (1 < low)
      | 15 => true | _ => false
  | 15 => true
  | _ => false

end Sys2Proof.Machine
end

