-- ==== Sys2Proof/Machine/Traps.lean ====
section
/-! DEFINITION. Traps, interrupts and lock-up (R417 to R425), debug halt (R432), what the Curator does with an applet's traps
(R418, R435, R436), and the frame in which every instruction of the core runs. -/
namespace Sys2Proof.Machine
open Sys2Proof

/-- LAST_FAULT as the Curator keeps it in backup RAM (R439; which traps it records: log 29). -/
def State.lastFault (w vec pc : Nat) (op : Word) (applet : Bool) (s : State) : State :=
  let c := (s.wing w).core
  (s.bramPut w 0x42 (o8 vec :: natLe 4 pc ++ natLe 2 op.toNat ++ natLe 2 c.faddr.toNat ++ natLe 2 c.finfo.toNat ++ [o8 (b2n applet)])).2

/-- Lock-up (R423): the PC of the instruction is latched and the wing resets. -/
def State.lockUp (w vec : Nat) (at_ : BitVec 24) (op : Word) (s : State) : State :=
  let am := (s.wing w).core.applet
  ((s.lastFault w vec at_.toNat op am).modCore w (fun c => { c with lockupPc := at_ })).enterReset w .lockup

/-- A word of the Keeper stack below `sp` that a push may not reach. -/
def Wing.pushFault (x : Wing) (ea : Word) : Bool := (x.deny false .stack (x.core.phys ea)).isSome

/-- The three words of a trap frame at `sp`, the last pushed first (R420). -/
def trapFrame (vec : Nat) (saved : BitVec 24) (st : Word) : List Word :=
  [w16 (saved.toNat / 0x10000 + 256 * vec), w16 saved.toNat, st]

/-- Trap entry through vector `vec` (R420): the saved PC is `saved`, and the instruction being handled stands at `at_`. -/
def State.trapEnter (w vec : Nat) (saved at_ : BitVec 24) (op : Word) (s : State) : State :=
  let x := s.wing w
  let c := x.core
  let sp := c.kSp
  let va := c.vbase.toNat * 256 + 2 * vec
  if (c.st.getLsbD fTA && decide (vec < 6)) || x.pushFault (sp - 1) || x.pushFault (sp - 2) || x.pushFault (sp - 3) ||
      (x.deny false .load va).isSome || (x.deny false .load (va + 1)).isSome then s.lockUp w vec at_ op else
  let s := s.modCore w (fun c => { c with kSp := sp - 3, trapnum := w16 vec, st := putBit fAM false (putBit fIE false
    (if vec < 6 then putBit fTA true c.st else c.st)) })
  let f := trapFrame vec saved c.st
  let s := s.busWrite false w (c.phys (sp - 1)) (f.getD 0 0)
  let s := s.busWrite false w (c.phys (sp - 2)) (f.getD 1 0)
  let s := s.busWrite false w (c.phys (sp - 3)) (f.getD 2 0)
  let (lo, s) := s.busRead false w va
  let (hi, s) := s.busRead false w (va + 1)
  s.modCore w (fun c => { c with pc := BitVec.ofNat 24 (lo.toNat + 0x10000 * hi.toNat) })

/-- The Docent's request is taken at this boundary (R424). -/
def Wing.intDue (x : Wing) : Bool := x.doc.request && (x.core.applet || x.core.st.getLsbD fIE)

/-- The INTERRUPT entry (R420, R424). -/
def State.interrupt (w : Nat) (s : State) : State :=
  let pc := (s.wing w).core.pc
  s.trapEnter w 6 pc pc 0

/-- The handler leaves the topmost frame for good: the stack is as before the trap, and TA is 0 (log 29). -/
def State.dropFrame (w : Nat) (s : State) : State :=
  s.modCore w (fun c => { c with kSp := c.kSp + 3, st := putBit fTA false c.st })

/-- Zero the applet's pages and return them to KEEPER (R481). -/
def Wing.appletPages (x : Wing) : Wing :=
  (List.range 48).foldl (fun (y : Wing) i =>
    let p := 16 + i
    if (y.page p).owner = 2 then (fun (z : Wing) => z.setPage p { (z.page p).empty with owner := 1 }) (y.pageGone p) else y) x

/-- The APPLET_END event (R542). -/
def State.appletTell (w : Nat) (s : State) : State :=
  let a := (s.wing w).apl
  s.event 2 w 5 ([o8 a.state.code, o8 a.cause] ++ natLe 2 a.exitCode.toNat)

/-- The applet ends (R436): the core is in Keeper mode, its pages are zeroed, its mark is cleared, and the event is sent. -/
def State.appletEnd (w : Nat) (st : AppletState) (cause : Nat) (exit : Word) (s : State) : State :=
  let s := if (s.wing w).core.applet then s.interrupt w else s
  if !(s.wing w).awake then s else
  let s := if (s.wing w).apl.waitUntil.isSome then s else s.dropFrame w
  let s := s.modWing w (fun x =>
    let y := x.appletPages
    { y with apl := { y.apl with state := st, cause := cause, exitCode := exit, waitUntil := none, saved := none,
                                 restartDue := decide (st = .faulted) && x.flag 0x281005 false } })
  ((s.bramPut w 0x40 [0]).2).appletTell w

/-- Counters of R439 by vector: RESERVED_OPS, ACCESS_FAULTS, DIVIDE_TRAPS, SVC_CALLS. -/
def Wing.trapCount (vec : Nat) (x : Wing) : Wing := if 1 ≤ vec && vec ≤ 4 then x.bump 0 (0x280100 + vec) else x

/-- The vector of a trap (R419). -/
def Trap.vec : Trap → Nat | .reserved => 1 | .access .. => 2 | .divide => 3

/-- FAULT_CAUSE of a trap of an applet (R439). -/
def Trap.cause : Trap → Nat | .reserved => 2 | .access .. => 3 | .divide => 4

/-- FADDR and FINFO of an access fault (R414). -/
def Core.noteFault (t : Trap) (c : Core) : Core :=
  match t with
  | .access kind ea u =>
    { c with faddr := ea, finfo := w16 (kind + 4 * b2n c.applet + 8 * (ea.toNat / 0x4000) + 32 * b2n u) }
  | _ => c

/-- Raise the trap `t` of the instruction `op` at PC (R420, R421); an applet that raises it ends (R436). -/
def State.raiseTrap (w : Nat) (op : Word) (t : Trap) (s : State) : State :=
  let am := (s.wing w).core.applet
  let pc := (s.wing w).core.pc
  let s := (s.modWing w (Wing.trapCount t.vec)).modCore w (Core.noteFault t)
  let s := s.trapEnter w t.vec pc pc op
  if !(s.wing w).awake then s else
  let s := s.lastFault w t.vec pc.toNat op am
  if am then s.appletEnd w .faulted t.cause (s.wing w).apl.exitCode else s

/-- The fetch of `len` words at PC faults (R405, R421): FADDR and the bay, which a fetch does not have, are free (log 29). -/
def State.fetchFault (w len : Nat) (s : State) : Option (Trap × State) :=
  let x := s.wing w
  let am := x.core.applet
  let pc := x.core.pc
  let at_ := fun i => x.deny am .fetch (pc + BitVec.ofNat 24 i).toNat
  match (if (at_ 0).isSome then at_ 0 else if len = 2 then at_ 1 else none) with
  | none => none
  | some u => let (v, t) := s.draw; some (.access 0 (w16 v.toNat) u, t)

/-- The core executes at this boundary: it runs, and no interrupt is due (R421, R424). -/
def Wing.ready (x : Wing) : Bool := x.awake && decide (x.core.run = .running) && !x.intDue

/-- One instruction (R399, R421): `op` is its first word, `len` its words; `f` gets the state with PC at the next instruction.
A trap of its own leaves everything else as it was. -/
def coreRun (w : Nat) (op : Word) (len : Nat) (f : State → Except Trap State) (s : State) : Out :=
  .next (if !(s.wing w).ready then s else
    match s.fetchFault w len with
    | some (t, s') => s'.raiseTrap w op t
    | none =>
      match f (s.modCore w (fun c => { c with pc := c.pc + BitVec.ofNat 24 len })) with
      | .ok s' => s'
      | .error t => s.raiseTrap w op t)

/-- An instruction that changes the core only. -/
def coreStep (w : Nat) (op : Word) (len : Nat) (f : Core → Core) (s : State) : Out :=
  coreRun w op len (fun t => .ok (t.modCore w f)) s

/-- A Keeper-only instruction (R407). -/
def keeperRun (w : Nat) (op : Word) (f : State → Except Trap State) (s : State) : Out :=
  coreRun w op 1 (fun t => if (t.wing w).core.applet then .error .reserved else f t) s

/-- The core enters debug halt (R432). -/
def State.halt (w : Nat) (s : State) : State :=
  s.modCore w (fun c => { c with run := .halted, wasAsleep := decide (c.run = .asleep) })

/-- DEBUG_ENABLE (R432). -/
def Wing.debug (x : Wing) : Bool := x.flag 0x282001 false

/-- SVC #n (R419): the trap; an applet's call kicks the watchdog (R431), and one of no service ends it (R435). -/
def State.svc (w : Nat) (n : Nat) (op : Word) (s : State) : State :=
  let c := (s.wing w).core
  let s := (s.modWing w (Wing.trapCount 4)).trapEnter w 4 c.pc (c.pc - 1) op
  if !c.applet || !(s.wing w).awake then s else
  let s := s.wdtKick w 0xC35A
  if 4 < n then s.appletEnd w .faulted 5 (s.wing w).apl.exitCode else s

/-- BRK with debug disabled (R432): the trap; it ends an applet (R436). -/
def State.brk (w : Nat) (op : Word) (s : State) : State :=
  let c := (s.wing w).core
  let s := s.trapEnter w 5 c.pc (c.pc - 1) op
  if !c.applet || !(s.wing w).awake then s else s.appletEnd w .faulted 8 (s.wing w).apl.exitCode

/-- RETI (R422): ST, PC and the segment are popped, and ST is restored whole. -/
def State.reti (w : Nat) (s : State) : Except Trap State :=
  let x := s.wing w
  let sp := x.core.kSp
  match (x.stackFault false sp <|> x.stackFault false (sp + 1) <|> x.stackFault false (sp + 2)) with
  | some t => .error t
  | none =>
    let (st, s) := s.eaRead w sp
    let (lo, s) := s.eaRead w (sp + 1)
    let (seg, s) := s.eaRead w (sp + 2)
    .ok (s.modCore w (fun c => { c with kSp := sp + 3, st := st &&& 0xFF, pc := BitVec.ofNat 24 (lo.toNat + 0x10000 * (seg.toNat % 256)) }))

/-- The word of the topmost trap frame at place `i`: 0 ST, 1 PC, 2 segment and vector. -/
def State.frameWord (w i : Nat) (s : State) : Word :=
  let c := (s.wing w).core
  (s.busRead false w (c.phys (c.kSp + w16 i))).1

/-- The Curator handles an SVC of the applet: the core is in the SVC trap that applet mode raised (R419, R435). -/
def State.inSvc (w : Nat) (s : State) : Bool :=
  let x := s.wing w
  x.awake && decide (x.apl.state = .running) && decide (x.core.run = .running) && !x.core.applet && x.core.st.getLsbD fTA &&
    x.core.trapnum == 4 && (s.frameWord w 0).getLsbD fAM

/-- The Curator returns to the applet after a service, with Z as `z` gives it (R422, R435). -/
def State.svcReturn (w : Nat) (z : Option Bool) (s : State) : State :=
  match s.reti w with
  | .error _ => s
  | .ok t => match z with
    | none => t
    | some b => t.modCore w (fun c => { c with st := putBit fZ b c.st })

/-- The eight words at W1 of the applet lie where it may read or write them (R405; else the access ends it: log 29). -/
def Wing.svcFault (x : Wing) (wr : Bool) : Bool :=
  let a := tget 0 x.core.w 1
  (List.range 8).any (fun i => (x.deny true (if wr then .store else .load) (x.core.phys (a + w16 i))).isSome)

/-- The window of an applet that is to be started overlaps none of the areas of R434. -/
def Wing.appletFits (x : Wing) : Bool := x.windowOk (x.dataArea x.apl.dataWords)

/-- The applet starts (R435), or is not started because its window no longer stands free. -/
def State.appletStart (w : Nat) (s : State) : State :=
  let x := s.wing w
  let base := x.num 0x281004 0x118000
  let a := x.apl
  if !x.appletFits then
    (s.modWing w (fun x => { x with apl := { x.apl with state := .faulted, cause := 10, due := false, restartDue := false } })).appletTell w else
  let (v, s) := s.draw
  let give := x.num 0x2B1100 0x00FF000000000000
  let b1 := BitVec.ofNat 10 (base / 0x4000)
  let s := s.modWing w (fun x =>
    let y := (List.range 48).foldl (fun (y : Wing) i =>
      let p := 16 + i
      if bit give p then (fun (z : Wing) => z.setPage p { z.page p with owner := 2 }) (y.pageGone p) else y) x
    { y with
      sram := (List.range a.dataWords).foldl (fun t i => tset 0 (base + i) 0 t) y.sram
      apl := { y.apl with
        state := .running, due := false, restartDue := false, waitUntil := none, saved := none, startAt := x.now,
        codeLo := 0x440010, codeHi := 0x440010 + a.codeWords - 1, dataLo := base, dataHi := base + a.dataWords - 1,
        pins := BitVec.ofNat 6 (x.num 0x28100B 0) }
      core := { y.core with
        w := [], aSp := w16 (0x4000 + a.dataWords), b0 := 0x110, b1 := b1, b2 := b1 + 1, b3 := 0x3FC, run := .running,
        st := putBit fAM true (w16 (v.toNat % 64)), pc := BitVec.ofNat 24 (0x440010 + a.entry) } })
  (s.bramPut w 0x40 [1]).2

/-- An applet that waits resumes (R435): its registers return to the core. -/
def State.appletResume (w : Nat) (s : State) : State :=
  s.modWing w (fun x =>
    match x.apl.saved with
    | none => x
    | some c =>
      if x.core.run = .halted then x else
      { x with
        apl := { x.apl with waitUntil := none, saved := none }
        core := { x.core with w := c.w, aSp := c.aSp, st := c.st, pc := c.pc, b0 := c.b0, b1 := c.b1, b2 := c.b2, b3 := c.b3, run := .running } })

/-- Ring 14 has received a descriptor: an applet that waits resumes (R435). -/
def State.ring14In (w : Nat) (s : State) : State := if (s.wing w).apl.waitUntil.isSome then s.appletResume w else s

/-- FETCH_ACCESS_FAULT (R421): the fetch at PC. -/
def execFetchAccessFault (w : WingId) (s : State) : Out :=
  .next (if !(s.wing w).ready then s else
    match s.fetchFault w 1 with | none => s | some (t, s') => s'.raiseTrap w 0 t)

/-- INTERRUPT_ENTRY (R424). -/
def execInterruptEntry (w : WingId) (s : State) : Out :=
  let x := s.wing w
  .next (if x.awake && decide (x.core.run = .running) && x.intDue then s.interrupt w else s)

/-- CORE_WAKE (R425): a request wakes the core, which takes the interrupt while IE is 1; a wake request of R340. -/
def execCoreWake (w : WingId) (s : State) : Out :=
  let x := s.wing w
  .next (if !(x.awake && decide (x.core.run = .asleep) && x.doc.request) then s else
    let s := s.modWing w (fun x => { x with core := { x.core with run := .running },
                                            car := { x.car with wakeReq := x.car.wakeReq || !x.car.fine } })
    if (s.wing w).intDue then s.interrupt w else s)

/-- RESERVED_ENCODING (R406): a word that no table lists. -/
def execReservedEncoding (w : WingId) (e : Word) (s : State) : Out :=
  if coreReserved e then coreRun w e 1 (fun _ => .error .reserved) s else .next s

/-- APPLET_START (R435): on entry to RUNNING with RUN set. -/
def execAppletStart (w : WingId) (s : State) : Out :=
  let x := s.wing w
  .next (if x.isRunning && x.apl.due && x.flag 0x281003 false && !x.apl.barred &&
      (decide (x.apl.state = .installed) || decide (x.apl.state = .terminated)) then s.appletStart w else s)

/-- APPLET_YIELD (R435): SVC 0; the Curator's pending work is done by its own commands. -/
def execAppletYield (w : WingId) (s : State) : Out := .next (if s.inSvc w then s.svcReturn w none else s)

/-- APPLET_EXIT (R435): SVC 1. -/
def execAppletExit (w : WingId) (s : State) : Out :=
  .next (if s.inSvc w then s.appletEnd w .terminated 1 (tget 0 (s.wing w).core.w 0) else s)

/-- APPLET_PUT (R435): SVC 2; the bridge follows (R453). -/
def execAppletPut (w : WingId) (s : State) : Out :=
  let x := s.wing w
  .next (if !s.inSvc w then s
    else if x.svcFault false then s.appletEnd w .faulted 3 x.apl.exitCode
    else
      let a := tget 0 x.core.w 1
      let (d, s) := (List.range 8).foldl (fun (acc : List Word × State) i =>
        let (v, t) := acc.2.busRead true w (x.core.phys (a + w16 i)); (acc.1 ++ [v], t)) ([], s)
      if (x.ring 15).full then s.svcReturn w (some true)
      else ((s.modWing w (fun x => (x.publish 15 true d).2)).bridgeOut w).svcReturn w (some false))

/-- APPLET_GET (R435): SVC 3. -/
def execAppletGet (w : WingId) (s : State) : Out :=
  let x := s.wing w
  .next (if !s.inSvc w then s
    else match x.ringHead 14 with
      | none => s.svcReturn w (some true)
      | some d =>
        if x.svcFault true then s.appletEnd w .faulted 3 x.apl.exitCode else
        let a := tget 0 x.core.w 1
        let s := s.modWing w (Wing.ringTook 14)
        let s := (List.range 8).foldl (fun (t : State) i => t.busWrite true w (x.core.phys (a + w16 i)) (d.getD i 0)) s
        s.svcReturn w (some false))

/-- APPLET_WAIT (R435): SVC 4; the registers that the return would restore are kept. -/
def execAppletWait (w : WingId) (s : State) : Out :=
  .next (if !s.inSvc w then s else
    match s.reti w with
    | .error _ => s
    | .ok t =>
      let c := (t.wing w).core
      let ms := (tget 0 c.w 0).toNat
      (s.dropFrame w).modWing w (fun x =>
        { x with apl := { x.apl with saved := some c, waitUntil := some (x.now + us (1000 * ms)) } }))

/-- APPLET_WAIT_EXPIRY (R435): W0 ms have passed. -/
def execAppletWaitExpiry (w : WingId) (s : State) : Out :=
  let x := s.wing w
  .next (match x.apl.waitUntil with
    | some t => if x.awake && decide (t ≤ x.now) then s.appletResume w else s
    | none => s)

/-- APPLET_RESTART (R436): no sooner than 1 s after the previous start, while RUN is set. -/
def execAppletRestart (w : WingId) (s : State) : Out :=
  let x := s.wing w
  .next (if x.isRunning && x.apl.restartDue && x.flag 0x281003 false && decide (x.apl.startAt + us 1000000 ≤ x.now) &&
      !x.core.applet then
    (s.modWing w (Wing.bump 0 0x280107)).appletStart w else s)

end Sys2Proof.Machine
end

