-- ==== Sys2Proof/Machine/Dome.lean ====
section
/-! DEFINITION. The Dome's commands (02, R520, R527): the line switch, main good and the brown-out, the backup domain's supply, the
resets of the device, thermal trips, and the reference with the wings' PLLs; and the reset of the port (R23, R249, R302, R360). -/
namespace Sys2Proof.Machine
open Sys2Proof

/-- Start and stop thresholds of the line switch in mV, by BOOTSEL[1] at its ball (R40, R520). -/
def Dome.lineStart (d : Dome) : Nat := if d.bootselPins.getLsbD 1 then 10800 else 18000
/-- The stop threshold. -/
def Dome.lineStop (d : Dome) : Nat := if d.bootselPins.getLsbD 1 then 10200 else 17000

/-- GATE is pulled low: the buck stops and the qualification of VINT ends (R40, R45). -/
def Dome.gateLow (p : LinePhase) (d : Dome) : Dome := { d with line := p, buck := false, vintQual := false }

/-- The line switch looks at the line (R40, R520): the debounce lasts only while the line stays at the start threshold or above. -/
def Dome.lineLook (d : Dome) : Dome :=
  if d.line = .off then (if d.lineStart ≤ d.lineMv then { d with line := .debounce } else d)
  else if d.line = .overV then d
  else if d.line = .debounce then (if d.lineMv < d.lineStart then d.gateLow .off else d)
  else if d.lineMv < d.lineStop then d.gateLow .off
  else d

/-- Apply `f` to the Dome. -/
def State.modDome (f : Dome → Dome) (s : State) : State := { s with dome := f s.dome }

/-- The Catalogue values of realms D and P after a reset of the port (R13): those of realm D stay, and those of realm P are the last stored
ones. -/
def Port.lastStored (p : Port) : Tab Octets :=
  p.cat.filter (fun (e : Nat × Octets) => decide (e.1 < 2 ^ 24)) ++ p.stored.filter (fun (e : Nat × Octets) => decide (2 ^ 24 ≤ e.1))

/-- The reset of the port (R23, R302, R360): its sessions close, the host's halt and shadow are released, and its counters
start again. The token lines keep their value (R249). -/
def State.portReset (s : State) : State :=
  let s := (List.range 8).foldl (fun (t : State) n => t.closeSession n) s
  let s := { s with cal := s.cal.release 8 }.calDrop 8
  let p := s.port
  { s with port :=
      { powerFail := p.powerFail, imageFinal := p.imageFinal, sent := p.sent, pairs := p.pairs.map (fun (e : Nat × Pair) => (e.1, { e.2 with switching := false, failed := none, holdA := [], holdB := [] })),
        cat := p.lastStored, stored := p.stored,
        gen := p.gen, copies := p.copies, randFail := false } }

/-- The port's start after a Dome power-on, a brown-out or RESET_N (R251, R278): no token is given and no image is read yet. -/
def State.portStart (s : State) : State :=
  let s := s.portReset
  { s with port := { s.port with imageFinal := false, pairs := [], cat := [], stored := [], gen := 0, copies := [] } }

/-- The VBAK comparators read `mv` (R50): CELL_LOW with its hysteresis, CELL_EMPTY sticky, and the event of a change (R542). -/
def State.cellLook (mv : Nat) (s : State) : State :=
  if s.dome.bpor then s else
  let d := s.dome
  let low := decide (mv < 2100) || (d.cellLow && decide (mv < 2200))
  let empty := d.cellEmpty || decide (mv < 2000)
  let s := s.modDome (fun d => { d with vbak := mv, cellLow := low, cellEmpty := empty })
  if low = d.cellLow && empty = d.cellEmpty then s else s.event 3 0xFF 2 [o8 (b2n low), o8 (b2n empty)]

/-- The wing that a brown-out keeps, if WATCH was armed at T_B and the wing still runs (R56, R57). -/
def State.watchKept (s : State) : Option Nat :=
  if s.dome.watchArmed && decide (s.dome.watchWing < 8) && (s.wing s.dome.watchWing).isRunning then some s.dome.watchWing else none

/-- WATCH is armed (R56): `vbak` is VBAK in mV. -/
def State.watchMay (vbak : Nat) (s : State) : Bool :=
  let w := s.dome.watchWing
  decide (w < 8) && (s.wing w).isRunning && decide (s.role w = .single) && decide (3000 ≤ vbak)

/-- T_B (R45, R46, R57): main good is withdrawn, the port stops, the Docents are told, the radios go OFF and the pulses end; `wild`
when VINT collapsed while a pulse still ran (R48). `up` when VINT itself has stayed at or above 4.50 V, as in a rail fault: its
qualification then goes on, and start-up resumes from main good once the sequence has ended (R43, R46). -/
def State.brownoutBegin (up : Bool) (vbak : Nat) (wild : Bool) (s : State) : State :=
  if !s.dome.mainGood then s else
  let armed := s.watchMay vbak
  let s := s.modDome (fun d => { d with mainGood := false, vintQual := up && d.buck, brownout := true, watchArmed := armed,
                                        brownouts := wrap32 d.brownouts })
  let s := { s with port := { s.port with powerFail := true, out := [] } }
  s.forWings (fun w t =>
    if (t.wing w).sys.state = .reset then t else
    let t := (t.raise w 45).radioOff w
    { t.modWing w (Wing.flsBrownout t.free wild) with free := t.free + 1 })

/-- The wings but `keep` enter RESET from source `src`, unpowered, so that their PLLs lock afresh. -/
def State.resetWings (keep : Option Nat) (src : ResetSource) (s : State) : State :=
  s.forWings (fun w t => if keep = some w then t else
    (t.enterReset w src).modWing w (fun x => { x with car := { x.car with pllLocked := false } }))

/-- The class that the device requests: the lowest whose PD power is at least 4.5 W (R3, R38). -/
def podlRequest : Nat := 12

/-- PODL_CLASSIFICATION (R38): in the PoDL modes the exchange is answered with the request of class 12, and `granted` is the class
granted. Classes 0 to 9 are never reported: a grant of one leaves PODL_CLASS as it was (DEDUCED, log 18). -/
def execPodlClassification (granted : Octet) (s : State) : Out :=
  .next (if s.dome.bootselPins.getLsbD 1 then s else s.modDome (fun d =>
    { d with podlAsked := some podlRequest, podlClass := if granted.toNat < 10 then d.podlClass else granted }))

/-- LINE_RISE (R40): the line stands at `mv`. -/
def execLineRise (mv : Nat) (s : State) : Out := .next (s.modDome (fun d => { d with lineMv := mv }.lineLook))

/-- LINE_DEBOUNCE_EXPIRY (R40). -/
def execLineDebounceExpiry (s : State) : Out :=
  .next (if s.dome.line = .debounce && decide (s.dome.lineStart ≤ s.dome.lineMv) then s.modDome (fun d => { d with line := .ramp }) else s)

/-- GATE_RAMP_COMPLETE (R41): the buck starts. A start from KEEP or DARK is a power-on of the Dome (R37, R60; DESIGN CHOICE,
log 30). -/
def execGateRampComplete (s : State) : Out :=
  .next (if s.dome.line ≠ .ramp then s else
    let s := s.modDome (fun d => { d with line := .on, buck := true })
    if s.dome.mainGood || s.dome.brownout || s.dome.mode = .watch || s.dome.mode = .line then s else
    let after := s.port.afterBrownout
    let s := (s.modDome (fun d => { d with domePor := true, bootselTaken := false, watchWing := 0xFF, watchReq := 0xFF, watchWait := [],
                                           refLost := false })).resetWings none .domePor
    let s := s.portStart
    { s with port := { s.port with afterBrownout := after } })

/-- LINE_FALL (R40). -/
def execLineFall (mv : Nat) (s : State) : Out := .next (s.modDome (fun d => { d with lineMv := mv }.lineLook))

/-- LINE_OVERVOLTAGE (R40): GATE is pulled low. -/
def execLineOvervoltage (mv : Nat) (s : State) : Out :=
  .next (if 64000 < mv then s.modDome (fun d => { d with lineMv := mv }.gateLow .overV) else s)

/-- OVERVOLTAGE_RELEASE_EXPIRY (R40): the line, at `mv`, has stayed below 62.0 V for 0.5 ms. -/
def execOvervoltageReleaseExpiry (mv : Nat) (s : State) : Out :=
  .next (if s.dome.line = .overV && decide (mv < 62000) then s.modDome (fun d => { d with lineMv := mv, line := .ramp }.lineLook) else s)

/-- BOOTSEL_CHANGE (R520): the balls change, and the thresholds with them; what was sampled stays (R37). -/
def execBootselChange (level : BitVec 2) (s : State) : Out :=
  .next (s.modDome (fun d => { d with bootselPins := level }.lineLook))

/-- VINT_RISE (R45): VINT rises through 4.50 V. -/
def execVintRise (s : State) : Out :=
  .next (if s.dome.buck && !s.dome.mainGood then s.modDome (fun d => { d with vintQual := true }) else s)

/-- MAIN_GOOD_REPORTED (R37, R44, R45, R58, R63): BOOTSEL is sampled once, a Watch wing returns to the main rails, and start-up
goes on; the VBAK comparators read `vbak` (R53). -/
def execMainGoodReported (vbak : Nat) (s : State) : Out :=
  .next (if !(s.dome.vintQual && !s.dome.mainGood && !s.dome.brownout) then s else
    let s := s.modDome (fun d =>
      { d with mainGood := true, vintQual := false, domePor := false, mode := .line, vcore := 900, vcoreRead := false,
               watchArmed := false,
               bootsel := if d.bootselTaken then d.bootsel else d.bootselPins, bootselTaken := true })
    let s := { s with port := { s.port with powerFail := false }, cal := { s.cal with drive := false } }
    let s := s.forWings (fun w t =>
      if (t.wing w).sys.watch then
        t.modWing w (fun x => { x with sys := { x.sys with watch := false }, fls := { x.fls with blocked := false } })
      else t)
    s.cellLook vbak)

/-- BROWNOUT_BEGIN (R45, R46). -/
def execBrownoutBegin (vbak : Nat) (wild : Bool) (s : State) : Out := .next (s.brownoutBegin false vbak wild)

/-- BROWNOUT_RESET (R46, R48, R55, R57): at 300 us after T_B, or by VINT, which breaks the hold-up requirement. -/
def execBrownoutReset (byVint : Bool) (s : State) : Out :=
  .next (if !s.dome.brownout then s else
    let keep := s.watchKept
    let s := s.modDome (fun d =>
      { d with brownout := false, watchArmed := false, holdupShort := byVint
               holdupShorts := if byVint then sat16 d.holdupShorts else d.holdupShorts
               mode := if keep.isSome then .watch else if d.bpor then .dark else .keep })
    let s := s.resetWings keep .brownout
    let s := match keep with
      | none => s
      | some w => s.modWing w (fun x => { x with sys := { x.sys with watch := true } })
    let s := s.portStart
    { s with port := { s.port with powerFail := true, afterBrownout := true } })

/-- RAIL_FAULT (R43): counted, and treated as a brown-out. It is counted also where main good is absent, so that no brown-out can
begin: the spec leaves that open (DESIGN CHOICE, log 18). -/
def execRailFault (vbak : Nat) (wild : Bool) (s : State) : Out :=
  .next ((s.modDome (fun d => { d with railFaults := sat16 d.railFaults })).brownoutBegin true vbak wild)

/-- The Watch wing's VCORE is raised: from 20 us before each listen or transmit window to its end (R57). -/
def Wing.watchRaised (x : Wing) : Bool :=
  x.sys.watch && (x.windowBy (us 20) || (x.tx.run.toList ++ x.tx.next.toList).any (fun r => decide (r.req.start ≤ x.now + us 20)))

/-- The setpoint that R44 and R57 ask for, `step` being the lowest 5 mV step from 0.75 V at which every monitor passes. -/
def State.vcoreAim (step : Nat) (s : State) : Nat :=
  let ws := (List.range 8).map s.wing
  let fine := ws.any (fun x => x.car.fine || x.car.wakeReq)
  let busy := ws.any (fun x => x.awake && decide (x.core.run = .running))
  if s.dome.mode = .watch then (if ws.any Wing.watchRaised then 750 else 550)
  else if s.port.num (dpKey false 0x1201 1) 1 = 0 then s.port.num (dpKey false 0x1201 2) 900
  else if fine then min (750 + 5 * step) 900
  else if busy then 600 else 550

/-- VCORE_ADAPT (R44). -/
def execVcoreAdapt (step : Nat) (s : State) : Out :=
  .next (if s.dome.mainGood || s.dome.mode = .watch then s.modDome (fun d => { d with vcore := s.vcoreAim step, vcoreRead := true }) else s)

/-- BACKUP_POR (R52, R53, R55): the whole backup domain is reset. The count of hold-up violations, which lies in the Dome reserve, is cleared;
the flag HOLDUP_SHORT, to which the spec gives no place there, is kept (DESIGN CHOICE, log 18). -/
def execBackupPor (s : State) : Out :=
  .next (if s.dome.bpor then s else
    let s := { s with
      cal := {}
      dome := { s.dome with bpor := true, writeFrozen := true, brownouts := 0, holdupShorts := 0, railFaults := 0, frozenWrites := 0,
                            cellLow := false, cellEmpty := false
                            mode := if s.dome.mode = PowerMode.keep then PowerMode.dark else s.dome.mode }
      port := { s.port with afterBrownout := s.port.afterBrownout && s.dome.mainGood } }
    s.setOsf 0)

/-- BACKUP_POR_RELEASE (R52). -/
def execBackupPorRelease (s : State) : Out :=
  .next (if !s.dome.bpor then s else
    s.modDome (fun d => { d with bpor := false, mode := if d.mode = .dark then .keep else d.mode }))

/-- CELL_EMPTY is set without a sample of VBAK (R53), and the change told (R542). -/
def State.cellEmptied (s : State) : State :=
  if s.dome.cellEmpty then s else
  (s.modDome (fun d => { d with cellEmpty := true })).event 3 0xFF 2 [o8 (b2n s.dome.cellLow), 1]

/-- WRITE_FREEZE (R51, R53, R360): VBAK lies below 2.00 V, so CELL_EMPTY is set; a halt is released. VBAK_MV and CELL_LOW wait for their
comparators' next sample. -/
def execWriteFreeze (s : State) : Out :=
  .next (if s.dome.writeFrozen then s else
    let s := s.modDome (fun d => { d with writeFrozen := true })
    let s := if s.dome.bpor then s else s.cellEmptied
    if s.cal.owner.isSome then s.calRelease false else s)

/-- WRITE_FREEZE_RELEASE (R51): writes are accepted, and what the limiters hold goes to backup RAM (R130). -/
def execWriteFreezeRelease (s : State) : Out :=
  .next (if !s.dome.writeFrozen || s.dome.bpor then s else
    (s.modDome (fun d => { d with writeFrozen := false })).forWings (fun w t => if (t.wing w).awake then t.limFlush w else t))

/-- VBAK_SAMPLE (R50): once per second while main good is not reported. -/
def execVbakSample (mv : Nat) (s : State) : Out := .next (if s.dome.mainGood then s else s.cellLook mv)

/-- CELL_LOW_CROSSING (R50): a comparator that runs while main good is reported. -/
def execCellLowCrossing (mv : Nat) (s : State) : Out := .next (if s.dome.mainGood then s.cellLook mv else s)

/-- WATCH_END (R58): VBAK falls below 2.90 V. -/
def execWatchEnd (s : State) : Out :=
  .next (if s.dome.mode ≠ .watch then s else
    let s := s.modDome (fun d => { d with mode := .keep })
    s.forWings (fun w t => if (t.wing w).sys.watch then
      (t.enterReset w .watchEnd).modWing w (fun x => { x with car := { x.car with pllLocked := false } }) else t))

/-- RESET_N_ASSERT (R58, R60): every wing, a Watch wing included, and the port. -/
def execResetNAssert (s : State) : Out :=
  .next (if s.dome.resetLow then s else
    let s := s.modDome (fun d => { d with resetLow := true, mode := if d.mode = .watch then .keep else d.mode })
    let s := s.forWings (fun w t => t.enterReset w .pin)
    s.portStart)

/-- RESET_N_RELEASE (R65): step 8 may proceed, by WING_RESET_RELEASE. -/
def execResetNRelease (s : State) : Out := .next (s.modDome (fun d => { d with resetLow := false }))

/-- THERMAL_TRIP (R61, R274): `temp` is the reading in 0.125 degrees. -/
def execThermalTrip (w : WingId) (temp : BitVec 16) (s : State) : Out :=
  .next (if !(s.wing w).awake || temp.toInt < 1160 then s else
    let s := (s.radioOff w).modWing w (fun x => { x with sys := { x.sys with trips := wrap32 x.sys.trips } })
    let s := { s with port := s.port.dropTransfers w }
    (s.toState w .faulted 0).event 2 w 2 (natLe 2 temp.toNat))

/-- THERMAL_RECOVERY (R61): the thermal reset source asserts. -/
def execThermalRecovery (w : WingId) (temp : BitVec 16) (s : State) : Out :=
  .next (if (s.wing w).sys.state = .faulted && decide (temp.toInt < 1040) then s.enterReset w .thermal else s)

/-- The wing's PLL is unlocked (R22): the radio goes OFF, the time goes on from LF, ALIGN_LOST is set, and the host is told why. -/
def State.pllLost (w : Nat) (why : Nat) (s : State) : State :=
  let s := s.radioOff w
  let s := s.modWing w (fun x =>
    let y := if x.car.started then x.lfEnter x.rx.calLf else x
    { y with car := { y.car with pllLocked := false, lostTold := true }, sys := { y.sys with alignLost := true } })
  s.event 2 w 3 [o8 why]

/-- PLL_LOCK (R44, R319, R340, R96): the first lock after RESET starts the time; a later one of a wing whose core executes asks for fine
running, for which VCORE rises at once. The VCO band that the lock's
calibration has chosen is a free value. -/
def execPllLock (w : WingId) (s : State) : Out :=
  let x := s.wing w
  .next (if x.car.pllLocked || s.dome.refLost || !(s.dome.mainGood || x.sys.watch) then s else
    let told := x.car.lostTold
    let start := x.awake && !x.car.started
    let s := s.modWing w (fun x => { x with car := { x.car with pllLocked := true, lostTold := false, started := x.car.started || start,
                                                                fine := x.car.fine || start
                                                                wakeReq := x.car.wakeReq || (x.car.started && !x.car.fine && decide (x.core.run = .running)) } })
    let (v, s) := s.draw
    let s := if x.awake then s.modWing w (fun x =>
      { x with rx := { x.rx with calVco := v.toNat % 64, calReq := x.rx.calReq &&& 0b1011 } }) else s
    if told then s.event 2 w 4 [] else s)

/-- PLL_UNLOCK (R22). -/
def execPllUnlock (w : WingId) (s : State) : Out := .next (if (s.wing w).car.pllLocked then s.pllLost w 0 else s)

/-- REF_LOST (R62, R527): every wing behaves as for loss of PLL lock. -/
def execRefLost (s : State) : Out :=
  .next (if s.dome.refLost then s else (s.modDome (fun d => { d with refLost := true })).forWings (fun w t => t.pllLost w 1))

/-- REF_IN_RETURN (R62): the PLLs can relock. -/
def execRefInReturn (s : State) : Out := .next (s.modDome (fun d => { d with refLost := false }))

/-- PORT_RESET (R23): a fault in the host port logic. -/
def execPortReset (s : State) : Out := .next s.portReset

/-- PORT_RANDOM_HEALTH_FAIL (R490). -/
def execPortRandomHealthFail (s : State) : Out := .next { s with port := { s.port with randFail := true } }

/-- LINK_UP (R288): each address configured sends its solicitation. -/
def execLinkUp (s : State) : Out :=
  .next (if s.port.linkUp || s.spi || s.port.powerFail then s else
    (List.range 3).foldl (fun (t : State) i => t.solicit i) { s with port := { s.port with linkUp := true, tentative := 0 } })

/-- LINK_DOWN (R288): sessions stay open. -/
def execLinkDown (s : State) : Out :=
  .next (if s.port.linkUp then { s with port := { s.port with linkUp := false, linkLosses := wrap32 s.port.linkLosses } } else s)

/-- DAD_COMPLETE (R288): no advertisement has contradicted address `i` for 1.0 s. -/
def execDadComplete (n : Fin 3) (s : State) : Out :=
  let m := BitVec.twoPow 3 n
  .next (if s.port.tentative.getLsbD n then { s with port := { s.port with own := s.port.own ||| m, tentative := s.port.tentative &&& ~~~ m } } else s)

/-- DAD_CONTRADICTED (R288): the address is never used. -/
def execDadContradicted (n : Fin 3) (s : State) : Out :=
  let m := BitVec.twoPow 3 n
  .next (if s.port.tentative.getLsbD n then
    let d := s.port.duplicate ||| m
    ({ s with port := { s.port with duplicate := d, tentative := s.port.tentative &&& ~~~ m } }).event 3 0xFF 4 [o8 d.toNat]
  else s)

end Sys2Proof.Machine
end

