-- ==== Sys2Proof/Machine/Replay.lean ====
section
/-! DEFINITION. What BOOT and a takeover take from the journal (R193, R210, R225, R229, R241, R250, R277, R514): counters, lineage, held
orders, neighbour counters, and the unretired items with their reports. -/
namespace Sys2Proof.Machine
open Sys2Proof

/-- Insert a record by JSEQ. -/
def insSeq (r : JRec) : List JRec → List JRec
  | [] => [r]
  | a :: t => if r.seq < a.seq then r :: a :: t else a :: insSeq r t

/-- The journal's records, a CARRY record as the one it moved, in the order in which they were first written. -/
def Work.sorted (k : Work) : List JRec := (k.jrn.map JRec.eff).foldl (fun l r => insSeq r l) []

/-- The partner item that a PARTNER record stands for. -/
def partnerOf (r : JRec) : Item :=
  { acc := r.fld 0 6, partner := true, nb := r.fld 6 2 % 1024, tag := r.fld 18 4, ring := r.fld 22 1, epoch := r.fld 16 2, fc := r.fld 18 4,
    eui := BitVec.ofNat 64 (r.fld 8 8), acked := true }

/-- The items that a RETIRE record retires, as its writer held them (R229, R240): of its range the host items whose report has been released in the order
of R238, and as many partner items, whose reports are released in accession order, as make up its COUNT. -/
def retiredBy (items : List Item) (r : JRec) : List Nat :=
  let range := items.filter (fun i => decide (r.fld 0 6 ≤ i.acc) && decide (i.acc ≤ r.fld 6 6))
  let host := range.filter (fun i => !i.partner && i.outcome.isSome && !items.any (fun j => j.before i && j.outcome.isNone))
  (host ++ (range.filter (fun i => i.partner)).take (r.fld 12 4 - host.length)).map (fun i => i.acc)

/-- What one record does to the unretired items (R229, R241). A RETIRE record leaves untouched the items of its range whose report had not been released
(R240): `kept` are those the wing holds as unretired. -/
def replayItem (kept : List Nat) (now sf : Nat) (items : List Item) (r : JRec) : List Item :=
  let known := items.any (fun i => i.acc == r.fld 0 6)
  match r.typ with
  | 1 => if known then items else items ++ [itemOf r now sf]
  | 2 => if known then items else items ++ [partnerOf r]
  | 3 => items.map (fun i => if i.acc = r.fld 0 6 then
      { i with outcome := some (r.fld 6 1), tries := r.fld 7 1, used := r.fld 8 1, dup := r.fld 6 1 == 0 && r.fld 9 1 == 1 } else i)
  | 4 => items.filter (fun i => kept.contains i.acc ||
      !(decide (r.fld 0 6 ≤ i.acc) && decide (i.acc ≤ r.fld 6 6) && (i.partner || i.outcome.isSome)))
  | _ => items

/-- A journaled item with what the wing kept of it: attempts and deadline that remain, tries, and which reports have been released (R241). -/
def Item.recall (now : Nat) (memo : List Item) (i : Item) : Item :=
  match memo.find? (fun m => m.acc == i.acc) with
  | none => { i with waits := true }
  | some m => { i with left := m.left, deadline := m.deadline.map (fun t => now + t), radiated := m.radiated, released := m.released,
                       used := if i.outcome.isSome then i.used else m.used, tries := if i.outcome.isSome then i.tries else m.tries,
                       single := m.single, replayed := m.replayed, acked := m.acked, waits := true }

/-- The unretired items of the journal, as the wing left them (R241). -/
def Work.replayed (k : Work) (now sf : Nat) : List Item :=
  (k.sorted.foldl (replayItem (k.memo.map (fun i => i.acc)) now sf) []).map (Item.recall now k.memo)

/-- The unretired items are read from the journal (R241); none is placed or reported yet. -/
def Wing.loadItems (x : Wing) : Wing :=
  { x with wrk := { x.wrk with items := x.wrk.replayed x.now x.sfTicks, memo := [] } }

/-- The newest reservation, its epoch and LIMIT (R225): TX_FC is set to it. -/
def Wing.replayFc (x : Wing) : Wing :=
  match x.wrk.newest (fun r => r.typ == 5 || r.typ == 6) with
  | none => x
  | some r => { x with msh := { x.msh with keyEpoch := r.fld 0 2, txFc := r.fld 2 4, limit := r.fld 2 4, res := none } }

/-- The floods continue at the newest journaled limit (R193). -/
def Wing.replayFlood (x : Wing) : Wing :=
  match x.wrk.entryOf 0x2410 7 with
  | none => x
  | some v => { x with msh := { x.msh with floodSeq := v, floodLimit := v } }

/-- The held order of an ORDER record (R229). -/
def heldOf (r : JRec) : Order :=
  { orig := r.fld 0 8, seq := r.fld 8 4, cls := r.fld 12 1, asn := r.fld 13 5, oid := r.fld 18 2, action := r.fld 20 1, param := r.fld 21 1 }

/-- The orders that have no ORDER_DONE record (R210). -/
def Work.heldOrders (k : Work) : List Order :=
  let rs := k.sorted
  ((rs.filter (fun r => r.typ == 0xC && !rs.any (fun q => q.typ == 0xD && q.fld 0 12 == r.fld 0 12))).map heldOf).take 16

/-- RX_FC, NB_EPOCH and RX_EMPTY of a neighbour from its newest PARTNER or NBFC record since the newest ROOT_GEN record
(R241 step 3, R514). -/
def Work.nbCounters (k : Work) (n : Nb) : Nb :=
  let since := match k.newest (fun r => r.typ == 8 && r.fld 0 3 == 0x2C03) with | none => 0 | some r => r.seq
  if !n.valid then n else
  match k.newest (fun r => r.nbEui == some n.eui.toNat && decide (since < r.seq)) with
  | none => n
  | some r =>
    if r.typ = 2 then { n with epoch := r.fld 16 2, rxFc := r.fld 18 4, rxEmpty := false, pend := none }
    else { n with epoch := r.fld 2 2, rxFc := r.fld 4 4, rxEmpty := bit (r.fld 0 2) 15, pend := none }

/-- Steps 2 and 3 of R241, with the other values that BOOT recovers from the journal (R193, R199, R203, R210, R251, R277, R499,
R509, R514). -/
def Wing.replayCounters (x : Wing) : Wing :=
  let k := x.wrk
  let e := fun (idx sub : Nat) (d : Nat) => (k.entryOf idx sub).getD d
  let y := ({ x with wrk := { k with next := k.nextAcc, pairGen := ((k.newest (fun r => r.typ == 0xA)).map (fun r => r.fld 0 2)).getD 0 } } : Wing)
  let y := y.replayFc.replayFlood
  { y with
    msh := { y.msh with epoch := e 0x2421 1 0, root := e 0x2421 2 0, hwm := e 0x2421 4 0, orders := k.heldOrders,
                        nbs := y.msh.nbs.map (fun (p : Nat × Nb) => (p.1, k.nbCounters p.2)) }
    tru := { y.tru with boot := e 0x2C00 1 0, position := e 0x2C10 2 0, rootGen := e 0x2C03 0 0 } }

/-- Step 4 of R241: the report of an item that has been released before is released again with REISSUE. -/
def Wing.reissue (i : Item) (x : Wing) : Wing :=
  if i.released then (x.bump 0 0x252009).putReport (i.final true) else x

/-- An item is to be carried out again (R241): a host item without a DONE record is placed anew, and is REPLAYED. -/
def Item.again (i : Item) : Item :=
  { i with waits := false, handle := none, replayed := i.replayed || (!i.partner && i.outcome.isNone) }

/-- Steps 4 to 6 of R241: reports released before are released again, held ones as R238 lets them, and every host item without a DONE record is
placed, REPLAYED. -/
def State.replayItems (w : Nat) (s : State) : State :=
  s.modWing w (fun x =>
    let open_ := x.wrk.items.filter (fun i => !i.partner && i.outcome.isNone)
    let y := ({ x with wrk := { x.wrk with items := x.wrk.items.map Item.again, deferred := false } } : Wing)
    let y := (y.wrk.items.foldl (fun (z : Wing) i => z.reissue i) y).releaseReports
    (iter open_.length (Wing.bump 0 0x252008) y).placePump)

/-- The items of a wing that may not act on them: they wait (R244, R249). -/
def State.holdItems (w : Nat) (s : State) : State :=
  s.modWing w (fun x => { x with wrk := { x.wrk with items := x.wrk.items.map (fun i => { i with waits := true, handle := none }) } })

/-- The newest PAIR record names a twin: TWIN, or none (R229, R251). -/
def Work.pairTwin (k : Work) : Option Nat :=
  match k.newest (fun r => r.typ == 0xA) with
  | none => none
  | some r => if r.fld 3 1 < 8 then some (r.fld 3 1) else none

/-- The newest PAIR record has ROLE ACTIVE (R251). -/
def Work.wasActive (k : Work) : Bool :=
  match k.newest (fun r => r.typ == 0xA) with | none => false | some r => r.fld 2 1 == 1

end Sys2Proof.Machine
end

