-- ==== Sys2Proof/Machine/Pairs.lean ====
section
/-! DEFINITION. Twin pairs (R34, R243 to R253, R310): forming and dissolving, the token, beats and takeover, the relay messages as
the Curators handle them, and seeding. -/
namespace Sys2Proof.Machine
open Sys2Proof

/-- The wing that a pair's events name: the holder of the token, or WING_A while nobody holds it (DESIGN CHOICE, log 31). -/
def Pair.head (q : Pair) : Nat := q.token.getD q.a

/-- The other wing of a pair. -/
def Pair.other (w : Nat) (q : Pair) : Nat := if q.a = w then q.b else q.a

/-- The pair is formed. -/
def Pair.formed (q : Pair) : Bool := decide (q.a < 8) && decide (q.b < 8)

/-- PAIR_STATE of pair `p` changes, and the host is told (R255, R542). -/
def State.putPairState (p : Nat) (st : PairState) (s : State) : State :=
  let q := s.port.pair p
  if q.state = st then s else (s.setPair p { q with state := st }).event 5 q.head 2 [o8 p, o8 st.code]

/-- Both wings of the pair have their stop request (R250). -/
def State.pairStopped (q : Pair) (s : State) : Bool := (s.wing q.a).sys.stopReq && (s.wing q.b).sys.stopReq

/-- The journaled reservation may be used (R248). -/
def Mesh.resSealed (m : Mesh) : Mesh := { m with res := m.res.map (fun (r : Nat × Nat × Bool) => (r.1, r.2.1, true)) }

/-- A record of type `typ`, of accession number `acc` where it has one, is sealed by the twin, or goes on without it (R225, R234, R246,
R248, R193). -/
def State.sealResolve (w typ acc : Nat) (single : Bool) (s : State) : State :=
  match typ with
  | 1 => s.modWing w (fun x => (x.modItem acc (fun i => { i with single := i.single || single })).acceptItem acc)
  | 5 => s.modWing w (fun x => { x with msh := x.msh.resSealed }.resApply)
  | 6 => s.modWing w (fun x => { x with msh := x.msh.resSealed }.resApply)
  | 8 => s.modWing w Wing.floodRaise
  | _ => s

/-- The active of pair `p` awaits no SEALED any more: what waited goes on as in a pair that is not DUAL (R248, R253). -/
def State.sealDrop (w : Nat) (s : State) : State :=
  let l := (s.wing w).wrk.sealWait
  let s := s.modWing w (fun x => { x with wrk := { x.wrk with sealWait := [], outbox := [], seeding := none } })
  l.foldl (fun (t : State) (e : Nat × Nat) => t.sealResolve w e.1 e.2 true) s

/-- The port holds no message for either wing of the pair. -/
def Pair.unheld (q : Pair) : Pair := { q with holdA := [], holdB := [] }

/-- The pair becomes DEGRADED, and the port resets the standby with cause HOST (R253). -/
def State.degrade (p : Nat) (s : State) : State :=
  let q := s.port.pair p
  match q.token with
  | none => s
  | some a =>
    let b := q.other a
    let s := (s.setPair p q.unheld).putPairState p .degraded
    let s := s.sealDrop a
    s.hostReset b

/-- Wing `w` holds the token of pair `p` from now on: its ROLE reads ACTIVE, mailboxes 6 and 7 are abandoned, ACC_ROLE is raised and
the host is told (R249, R250, R460, R542); its PAIR record is journaled with PAIR_GEN one higher. -/
def State.giveToken (p w cause : Nat) (s : State) : State :=
  let q := s.port.pair p
  let gen := ((s.wing w).wrk.pairGen + 1) % 2 ^ 16
  let s := s.setPair p { q.unheld with token := some w, chosen := true, failed := none, switching := false, beat := none,
                                       standbyBeat := none }
  let s := ((s.roleChanged w).roleChanged (q.other w)).modWing w (fun x =>
    { x.raise 59 with wrk := { x.wrk with outbox := [], sealWait := [], seeding := none, parts := [], pairGen := gen } })
  let s := s.event 5 w 1 ([o8 p, o8 w, o8 cause] ++ natLe 2 gen)
  s.jWrite w 0xA (natLe 2 gen ++ [1, o8 (q.other w)])

/-- An item of the new ACTIVE, with what its twin did about it: attempts and tries made, whether one has radiated, and a report released (R237, R241,
R250; log 16). -/
def Item.takeOver (memo : List Item) (i : Item) : Item :=
  match memo.find? (fun m => m.acc == i.acc && m.partner == i.partner && m.epoch == i.epoch && m.fc == i.fc) with
  | none => i
  | some m => { i with left := min i.left m.left, used := max i.used m.used, tries := max i.tries m.tries, radiated := i.radiated || m.radiated,
                       released := i.released || m.released, single := i.single || m.single, replayed := i.replayed || m.replayed,
                       acked := i.acked || m.acked }

/-- What is known of the items of wing `w`, up or not. -/
def Wing.itemsKnown (x : Wing) : List Item := if x.wrk.memo.isEmpty then x.wrk.items else x.wrk.memo

/-- What a wing that becomes ACTIVE takes from its journal (R193, R210, R225, R250): its counters, the held orders, and the unresolved
items under steps 4 to 6 of R241; one that follows no grid then searches, a root apart (R250; DEDUCED, log 31). -/
def State.takeWork (w : Nat) (s : State) : State :=
  let memo := match s.twin w with | none => [] | some b => (s.wing b).itemsKnown
  let s := (s.modWing w (fun x =>
    let y := x.replayFc.replayFlood
    { y with msh := { y.msh with orders := y.wrk.heldOrders }, wrk := { y.wrk with items := y.wrk.items.map (Item.takeOver memo) } })).replayItems w
  s.modWing w (fun x => if x.lnk.sync = .orphaned then x.toSearch else x)

/-- Among the wings `ws`, the one whose newest PAIR record has the higher PAIR_GEN with ROLE ACTIVE, the first on a tie (R251). -/
def State.newestActive (ws : List Nat) (s : State) : Option Nat :=
  let rank := fun w => if (s.wing w).wrk.wasActive then (s.wing w).wrk.pairGen + 1 else 0
  ws.foldl (fun (best : Option Nat) w => match best with
    | none => some w
    | some b => if rank b < rank w then some w else some b) none

/-- The port has detected the failure of the active of pair `p` (R250): with another cause than its leaving RUNNING, it resets it. -/
def State.failPair (p cause : Nat) (s : State) : State :=
  let q := s.port.pair p
  match q.token with
  | none => s
  | some a =>
    let s := s.setPair p { q with failed := some cause, switching := false }
    if cause = 0 then s else s.hostReset a

/-- TAKEOVERS of pair `p`, a RETAINED entry of the port (R250, R257). -/
def State.countTakeover (p : Nat) (s : State) : State :=
  let k := dpKey true (0x1180 + p) 7
  { s with port := { s.port with cat := tset [] k (natLe 4 (wrap32 (s.port.num k 0))) s.port.cat } }

/-- A takeover of pair `p` with its cause (R250): the old active's token line is cleared, and the standby's is set if it can take it;
the pair is DEGRADED until the old active has been seeded. -/
def State.takeover (p cause : Nat) (s : State) : State :=
  let q := s.port.pair p
  let ws := (match q.token with | some a => [q.other a] | none => [q.a, q.b]).filter (fun w => (s.wing w).live)
  let s := (s.setPair p { q with token := none, failed := some cause }).putPairState p .degraded
  match s.newestActive ws with
  | none => s
  | some w =>
    let s := s.countTakeover p
    ((s.giveToken p w cause).modWing w (Wing.bump 0 0x252010)).takeWork w

/-- TAKEOVER (R250, R249): the failed active is in RESET, BOOT or FAULTED. -/
def execTakeover (p : Fin 4) (s : State) : Out :=
  let q := s.port.pair p
  let down := fun w => !(s.wing w).live
  .next (if !q.formed || !q.chosen then s else
  match q.token with
  | some a => if down a then s.takeover p (q.failed.getD 0) else s
  | none =>
    match q.failed with
    | some c => if down q.a && down q.b then s else s.takeover p c
    | none => s)

/-- TWIN_BEAT (R250). -/
def execTwinBeat (w : WingId) (s : State) : Out := byCore w s (s.twinBeat w)

/-- BEAT_TIMEOUT (R250, R253): no beat of the active wing, or of the standby, has arrived in time; not while the pair is stopped. -/
def execBeatTimeout (p : Fin 4) (standby : Bool) (s : State) : Out :=
  let q := s.port.pair p
  .next (if !q.formed || q.token.isNone || s.pairStopped q then s
  else if standby then s.degrade p
  else s.failPair p 1)

/-- SEALED_TIMEOUT (R253): a SEALED message has been missing for 20 ms. -/
def execSealedTimeout (p : Fin 4) (s : State) : Out :=
  .next (match (s.port.pair p).token with
  | none => s
  | some a => if (s.wing a).wrk.sealWait.isEmpty then s else s.degrade p)

/-- RELAY_HOLD_TIMEOUT (R310, R253): a message has been held for 20 ms. -/
def execRelayHoldTimeout (pair : Fin 4) (s : State) : Out :=
  let q := s.port.pair pair
  .next (if q.holdA.isEmpty && q.holdB.isEmpty then s else s.degrade pair)

/-- TOKEN_POWER_ON_CHOICE (R251, R278): the token goes to the wing with the higher PAIR_GEN, if it is RUNNING. -/
def execTokenPowerOnChoice (p : Fin 4) (s : State) : Out :=
  let q := s.port.pair p
  .next (if !q.formed || q.chosen || q.token.isSome || !s.port.imageFinal then s else
  match s.newestActive ([q.a, q.b].filter (fun w => (s.wing w).isRunning)) with
  | none => s
  | some w => ((s.giveToken p w 3).takeWork w).holdItems (q.other w))

/-- Both wings of a pair that has just been formed are RUNNING: WING_A becomes ACTIVE (R243). -/
def State.pairReleased (w : Nat) (s : State) : State :=
  match s.pairOf w with
  | none => s
  | some p =>
    let q := s.port.pair p
    if q.chosen && q.token.isNone && q.failed.isNone && (s.wing q.a).isRunning && (s.wing q.b).isRunning then
      let gen := ((s.wing q.a).wrk.pairGen + 1) % 2 ^ 16
      let s := s.setPair p { q with token := some q.a }
      let s := (s.roleChanged q.a).modWing q.a (fun x => { x.raise 59 with wrk := { x.wrk with pairGen := gen } })
      s.jWrite q.a 0xA (natLe 2 gen ++ [1, o8 q.b])
    else s

/-- A write of WING_A and WING_B of pair `p` (R243): it forms the pair, dissolves it, or names one wing only. -/
def State.pairWrite (p a b : Nat) (s : State) : Status × State :=
  let q := s.port.pair p
  let stopped := fun w => decide ((s.wing w).sys.state = .stopped)
  let store := fun (t : State) =>
    { t with port := { t.port with cat := tset [] (dpKey true (0x1180 + p) 1) (if a = 0xFF then [] else [o8 a])
                                    (tset [] (dpKey true (0x1180 + p) 2) (if b = 0xFF then [] else [o8 b]) t.port.cat) } }
  if q.formed then
    if q.a = a && q.b = b then (.ok, s)
    else if a < 8 && b < 8 then (.refused, s)
    else if !(stopped q.a && stopped q.b) then (.refused, s)
    else
      let s := (s.putPairState p .none).setPair p {}
      let leave := fun (w : Nat) (t : State) =>
        let t := (t.roleChanged w).modWing w (fun x =>
          { x with wrk := { x.wrk with outbox := [], sealWait := [], seeding := none, parts := [], deferred := false } })
        t.jWrite w 0xA (natLe 2 (t.wing w).wrk.pairGen ++ [0, 0xFF])
      (.ok, store (leave q.b (leave q.a s)))
  else if 8 ≤ a || 8 ≤ b then (.ok, store s)
  else
    let x := s.wing a
    let y := s.wing b
    let ok := a ≠ b && stopped a && stopped b && (s.pairOf a).isNone && (s.pairOf b).isNone &&
      !x.bandOff && !y.bandOff && x.band = y.band &&
      (List.range 5).all (fun r => decide ((x.ring r).depth = (y.ring r).depth))
    if !ok then (.refused, s) else
    let s := s.setPair p { q with a := a, b := b, chosen := true, token := none }
    let s := (s.roleChanged a).roleChanged b
    (.ok, store (s.putPairState p .seeding))

/-- A write of SWITCH of pair `p` (R252). -/
def State.switchAsk (p value : Nat) (s : State) : Status × State :=
  let q := s.port.pair p
  match q.token with
  | none => (.refused, s)
  | some a =>
    if q.formed && q.state = .dual && value = q.other a && !q.switching then
      (.ok, (s.setPair p { q with switching := true }).raise a 59)
    else (.refused, s)

/-- RELEASE_TOKEN (R252), not while the pair is stopped (R250): the active, asked to, sets RELEASE_TOKEN once its resolved transmissions have ended; the port resets it. -/
def execReleaseToken (w : WingId) (s : State) : Out :=
  let x := s.wing w
  .next (match s.pairOf w with
  | none => s
  | some p =>
    if x.live && s.role w = .active && (s.port.pair p).switching && !s.pairStopped (s.port.pair p) && x.tx.run.isNone && x.tx.next.isNone && x.tx.reqs.isEmpty then
      (s.modWing w (fun x => { x with wrk := { x.wrk with release := true } })).failPair p 2
    else s)

/-- SWITCH_TIMEOUT (R252): no release within 2 superframes; not while the pair is stopped (R250). -/
def execSwitchTimeout (p : Fin 4) (s : State) : Out :=
  .next (if (s.port.pair p).switching && !s.pairStopped (s.port.pair p) then s.failPair p 2 else s)

/-- The message of KIND `k` that stands for the Curator in mailbox `m` (R247). -/
def Wing.relayIn (m k : Nat) (x : Wing) : Option (List Word) :=
  let b := x.mb m
  if x.live && b.state = .full && b.party ≠ some .core && (b.words.getD 0 0).toNat % 256 = k then some b.words else none

/-- The Curator acknowledges the relay message of mailbox `m`, and the next one held goes on (R310, R459). -/
def State.relayOk (w m : Nat) (s : State) : State := (s.modWing w (Wing.mbEnd m 0)).relayDrain w

/-- The number in words `i` to `i + k - 1`. -/
def wordsNat (ws : List Word) (i k : Nat) : Nat :=
  (List.range k).foldl (fun n j => n + (ws.getD (i + j) 0).toNat * 2 ^ (16 * j)) 0

/-- A SEALED message (R247). -/
def sealedMsg (acc typ : Nat) : List Word := [3, w16 acc, w16 (acc / 2 ^ 16), w16 (acc / 2 ^ 32), w16 typ]

/-- The standby takes from intake ring `r` up to index `idx`: the descriptor there, and what the active did with those before it
concerns it no more (R246). -/
def Wing.takeTo (r idx : Nat) (x : Wing) : Option (List Word × Octets × Wing) :=
  let g := x.ring r
  let n := (w16 idx - g.take).toNat
  if n < g.count then
    let y := iter n (fun (z : Wing) => z.coreTake r) x
    (y.ringHead r).map (fun d => (d, y.intakeFrame d, y.coreTake r))
  else none

/-- The standby builds the identical record from its own descriptor, journals it and returns SEALED (R246). -/
def State.twinBind (w : Nat) (s : State) : State :=
  let x := s.wing w
  if s.role w ≠ .standby || x.fls.blocked then s else
  match x.relayIn 6 1 with
  | none => s
  | some ws =>
    let n := fun i k => wordsNat ws i k
    let r := n 1 1 % 4
    let acc := n 3 3
    let s := s.relayOk w 6
    match (s.wing w).takeTo r (n 2 1) with
    | none => s
    | some (d, frame, y) =>
      let word := fun (k : Nat) => (d.getD k 0).toNat
      let attempts := if word 4 / 256 = 0 then y.num 0x250102 4 else word 4 / 256
      let deadline := if word 7 = 0 then y.num 0x250103 64 else word 7
      let body := itemBody acc r (n 2 1) (n 6 1) (n 7 2) attempts deadline (y.nb (word 0 % 1024)).eui d frame
      let item := { itemOf { typ := 1, seq := 0, at_ := 0, body := body } y.now y.sfTicks with waits := true }
      let s := (s.setWing w y).jWrite w 1 body
      let s := s.modWing w (fun z => { z with wrk := { z.wrk with next := max z.wrk.next (acc + 1), items := z.wrk.items ++ [item] } })
      s.relaySend w [sealedMsg acc 1]

/-- The standby journals a copy of a record and follows it (R241, R244, R246). -/
def Wing.follow (r : JRec) (x : Wing) : Wing :=
  if !copied r.typ r.body then x else
  let y := x.jAppend r.typ r.body
  let gone := if r.typ = 4 then retiredBy y.wrk.items r else []
  let items := if r.typ = 4 then y.wrk.items.filter (fun i => !gone.contains i.acc)
    else (replayItem [] y.now y.sfTicks y.wrk.items r).map (fun i => { i with waits := true })
  let top := if [1, 2, 3].contains r.typ then r.fld 0 6 + 1 else if r.typ = 8 && r.fld 0 3 = 0x012500 then r.fld 4 6 else 0
  let k := { y.wrk with items := items, next := max y.wrk.next top, pairGen := if r.typ = 0xA then r.fld 0 2 else y.wrk.pairGen }
  { y with wrk := k, msh := { y.msh with nbs :=
      if r.nbEui.isSome then y.msh.nbs.map (fun (e : Nat × Nb) =>
        if some e.2.eui.toNat = r.nbEui then (e.1, k.nbCounters e.2) else e) else y.msh.nbs } }

/-- TWIN_RECORD (R244, R246, R247): a part of a RECORD message; the last one completes the record, which is sealed to a DUAL active. -/
def execTwinRecord (w : WingId) (s : State) : Out :=
  let x := s.wing w
  .next (if s.role w ≠ .standby || x.fls.blocked then s else
  match x.relayIn 6 2 with
  | none => s
  | some ws =>
    let part := (ws.getD 0 0).toNat / 256
    let os := (if part = 0 then [] else x.wrk.parts) ++ unpackW (ws.drop 2)
    let s := s.relayOk w 6
    if part + 1 < (ws.getD 1 0).toNat then s.modWing w (fun z => { z with wrk := { z.wrk with parts := os } }) else
    let typ := (os.getD 0 0).toNat
    let r : JRec := { typ := typ, seq := 0, at_ := 0, body := slice os 16 (16 * ((os.getD 1 0).toNat - 1)) }
    let s := s.modWing w (fun z => ({ z with wrk := { z.wrk with parts := [] } }).follow r)
    if s.pairState w = .dual then s.relaySend w [sealedMsg (sealedAcc typ r.body) typ] else s)

/-- TWIN_STATE (R245, R247): a change of a neighbour record in the standby. -/
def execTwinState (w : WingId) (s : State) : Out :=
  let x := s.wing w
  .next (if s.role w ≠ .standby then s else
  match x.relayIn 6 4 with
  | none => s
  | some ws =>
    let i := (ws.getD 1 0).toNat % 1024
    let a := (ws.getD 2 0).toNat
    let put := fun (n : Nb) => (List.range 13).foldl (fun (m : Nb) k => if a + k < 32 then m.putWord (a + k) (ws.getD (3 + k) 0) else m) n
    (s.modWing w (Wing.modNb i put)).relayOk w 6)

/-- The records that the active sends in a seeding: the live ones, and once it has begun those written after JSEQ `since`, what ends an earlier one
among them (R231, R253). A PARTNER record whose item is retired goes as the NBFC record that stands for it. -/
def Wing.seedRecords (since : Nat) (x : Wing) : List JRec :=
  let k := x.wrk
  (k.sorted.filter (fun r => decide (since < r.seq) &&
    (k.live k.accs x.msh.euis r || (decide (0 < since) && [3, 4, 0xD].contains r.typ)))).map (fun r =>
    if r.typ = 2 && !k.accs.contains (r.fld 0 6) then
      { r with typ := 0xB, body := padLine (natLe 2 (r.fld 6 2) ++ slice r.body 16 6 ++ slice r.body 8 8) }
    else r)

/-- The standby's journal is erased (R253): both copies. -/
def Wing.jErase (x : Wing) : Wing :=
  let f := (List.range 32).foldl (fun (f : Flash) k =>
    (((f.blank (464 + k)).blank (496 + k)).countErase (464 + k)).countErase (496 + k)) x.fls
  { x with fls := f, wrk := { x.wrk with jrn := [], head := 0, tail := 0, items := [], parts := [] } }

/-- The messages of a record for the twin (R247). -/
def seedMsgs (rs : List JRec) : List (List Word) := rs.flatMap recordParts

/-- SEED_BEGIN (R253): the active starts a seeding; the message makes the standby erase its journal, once its flash takes pulses (R46). -/
def execSeedBegin (w : WingId) (s : State) : Out :=
  let x := s.wing w
  .next (match s.role w, s.twin w with
  | .active, some b =>
    if !(x.isRunning && (s.wing b).isRunning) || s.pairState w = .dual then s else
    let j := x.wrk.jseq
    let nbs := (x.msh.nbs.filter (fun (e : Nat × Nb) => e.2.valid)).flatMap (fun e => e.2.stateMsgs e.1)
    let s := s.modWing w (fun y => { y with wrk := { y.wrk with outbox := [], sealWait := [], seeding := some j } })
    s.relaySend w ([5, w16 j, w16 (j / 2 ^ 16), w16 (j / 2 ^ 32)] :: (nbs ++ seedMsgs (x.seedRecords 0)))
  | .standby, _ =>
    match (if x.fls.blocked then none else x.relayIn 6 5) with
    | none => s
    | some _ => (s.modWing w Wing.jErase).relayOk w 6
  | _, _ => s)

/-- The active goes on with its seeding (R253): records written meanwhile, or SEED_END. -/
def State.seedOn (w since : Nat) (s : State) : State :=
  let x := s.wing w
  let j := x.wrk.jseq
  match x.seedRecords since with
  | [] =>
    let s := s.modWing w (fun y => { y with wrk := { y.wrk with seeding := some j, sealWait := y.wrk.sealWait ++ [(0, 0)] } })
    s.relaySend w [[6, w16 j, w16 (j / 2 ^ 16), w16 (j / 2 ^ 32)]]
  | rs => (s.modWing w (fun y => { y with wrk := { y.wrk with seeding := some j } })).relaySend w (seedMsgs rs)

/-- SEED_END (R253): the active sends it once nothing remains to be sent; the standby answers it with SEALED. -/
def execSeedEnd (w : WingId) (s : State) : Out :=
  let x := s.wing w
  .next (match s.role w with
  | .active =>
    match x.wrk.seeding with
    | none => s
    | some j => if x.live && x.wrk.outbox.isEmpty && x.wrk.sealWait.isEmpty then s.seedOn w j else s
  | .standby =>
    match x.relayIn 6 6 with
    | none => s
    | some _ => (s.relayOk w 6).relaySend w [sealedMsg 0 0]
  | .single => s)

/-- Remove the first `e` of a list. -/
def dropFirst (e : Nat × Nat) : List (Nat × Nat) → List (Nat × Nat)
  | [] => []
  | a :: t => if a = e then t else a :: dropFirst e t

/-- TWIN_SEALED (R246, R248, R253): the standby has journaled a record; SEALED for SEED_END makes the pair DUAL, unless records have
been written meanwhile, which are then sent first. -/
def execTwinSealed (w : WingId) (s : State) : Out :=
  let x := s.wing w
  .next (if s.role w ≠ .active then s else
  match x.relayIn 7 3 with
  | none => s
  | some ws =>
    let acc := wordsNat ws 1 3
    let typ := wordsNat ws 4 1
    let s := s.relayOk w 7
    if !x.wrk.sealWait.contains (typ, acc) then s else
    let s := s.modWing w (fun y => { y with wrk := { y.wrk with sealWait := dropFirst (typ, acc) y.wrk.sealWait } })
    if typ ≠ 0 then s.sealResolve w typ acc false else
    match x.wrk.seeding, s.pairOf w with
    | some j, some p =>
      if !(x.seedRecords j).isEmpty then s.seedOn w j
      else (s.modWing w (fun y => { y with wrk := { y.wrk with seeding := none } })).putPairState p .dual
    | _, _ => s)

end Sys2Proof.Machine
end

