-- ==== Sys2Proof/Machine/CatPush.lean ====
section
/-! DEFINITION. What the Curator does with the values of a wing's Catalogue (R104, R134, R138, R175, R217, R344, R455, R541): it writes
them to the registers of their blocks, at each entry to RUNNING and at each accepted write; and the generations of the store image and of the
copy of the port image in the Archive, which verify by a SHAKE256 check (R276, R278). -/
namespace Sys2Proof.Machine
open Sys2Proof

/-- The RATE code of a profile (R541). -/
def rateCode (phy rate : Nat) : Nat :=
  match phy, rate with
  | 0, 50 => 0 | 0, 100 => 1 | 0, 150 => 2 | 0, 200 => 3
  | 1, 200 => 0 | 1, 300 => 1 | 1, 400 => 2
  | 2, 250 => 0
  | 3, 1 => 0 | 3, 2 => 1 | 3, 3 => 2 | 3, 4 => 3
  | _, _ => 7

/-- The MOD_INDEX code of a profile (R541). -/
def modCode (phy m : Nat) : Nat :=
  match phy, m with
  | 0, 50 => 0 | 0, 100 => 1 | 0, _ => 3
  | 1, 33 => 0 | 1, _ => 3
  | _, _ => 0

/-- The value of a numeric entry of wing realm `w`, with the default of the table. -/
def Wing.val (w idx sub : Nat) (x : Wing) : Nat :=
  x.num (catKey idx sub) ((((Realm.wing (Fin.ofNat 8 w)).entry idx sub).map (fun e => e.dflt)).getD 0)

/-- The receiver's control, plan and attenuation (R73, R74, R103, R104, R123). -/
def Wing.push2100 (w : Nat) (x : Wing) : Wing :=
  let n := fun sub => x.val w 0x2100 sub
  let b := n 1
  let off := b = 0xFF || !x.bandMay b
  let old := x.reg 0xFF6000
  let c := b % 4 + 4 * rasterCode (n 2) + 32 * n 5 + 64 * n 9 + 128 * b2n off
  let y := (x.setReg 0xFF6000 (if b = 0xFF then c / 4 * 4 + old % 4 else c)).setReg 0xFF6002 (n 6 / 6 + 8 * (n 7 / 6) + 64 * (n 8 / 6))
  let y := y.planWrite (fun q => { q with f0 := n 3, n := n 4, raster := n 2 })
  if !off && (b ≠ old % 4 || bit old 7) then y.bandNew else y

/-- The words of reception profile `p` (R541). -/
def Wing.pushProfile (w p : Nat) (x : Wing) : Wing :=
  let n := fun sub => x.val w (0x2110 + p) sub
  let phy := n 1
  let w0 := phy + 4 * rateCode phy (n 2) + 32 * modCode phy (n 3) + 128 * n 4 + 512 * n 6 + 1024 * n 5 + 2048 * n 7
  let put := fun (i v : Nat) (t : Tab Word) => tset (profReset (4 * p + i)) (4 * p + i) (w16 v) t
  let profs := put 3 (n 0xB) (put 2 (n 9 + 256 * n 0xA) (put 1 (n 8) (put 0 w0 x.rx.plan.profs)))
  { x with rx := { x.rx with plan := { x.rx.plan with profs := profs } } }

/-- The link engine's grid and listening (R138, R153, R174). -/
def Wing.push2300 (w : Nat) (x : Wing) : Wing :=
  let n := fun idx sub => x.val w idx sub
  let hi := !x.bandOff && x.band = 3
  let or0 := fun (v a b : Nat) => if v ≠ 0 then v else if hi then b else a
  (((((((x.setReg 0xFF8002 (or0 (n 0x2300 1) 24000 10000)).setReg 0xFF8003 (n 0x2300 2)).setReg 0xFF8004
    (or0 (n 0x2300 3) 4000 1600)).setReg 0xFF8005 (or0 (n 0x2300 4) 800 400)).setReg 0xFF8006 (n 0x2300 5)).setReg 0xFF8007
    (n 0x2300 6)).setReg 0xFF8000 (x.reg 0xFF8000 % 2 + 2 * n 0x2300 7 + 4 * n 0x2300 8 + 8 * n 0x2302 1))

/-- Ring `r` takes the layout of its record (R455). -/
def Wing.pushRing (w r : Nat) (x : Wing) : Wing :=
  let n := fun sub => x.val w (0x2A40 + r) sub
  x.setRing r { x.ring r with base := n 1, depth := n 2, ibuf := n 3 }

/-- The channel table: its registers are written entry by entry in ascending index, and the Catalogue holds the entries as they are
stored, with WATCH cleared where R75 refuses it (R75, R104). -/
def Wing.putChans (os : Octets) (x : Wing) : Wing :=
  let (bad, q) := (List.range 512).foldl (fun (a : Nat × Plan) k =>
    let (b, p) := a.2.putChan x.band k ((os.getD k 0).toNat % 16)
    (if b then a.1 + 1 else a.1, p)) (0, { x.rx.plan with chans := [] })
  let kept := if q.chans.isEmpty then [] else (List.range 512).map (fun k => o8 (q.chan k))
  ({ x with rx := { x.rx with plan := q }, cat := tset [] 0x210200 kept x.cat } : Wing).planRejects bad

/-- The hop table: its registers are written, and the Catalogue holds it (R147, R175). -/
def Wing.putHop (os : Octets) (x : Wing) : Wing :=
  let t := tputs 0 0 ((List.range 512).map (fun k => leNat (slice os (2 * k) 2))) []
  { x with lnk := { x.lnk with hop := t }, cat := tset [] 0x231000 (if t.isEmpty then [] else os) x.cat }

/-- The registers that index `idx` stands for are written. -/
def Wing.push (w idx : Nat) (x : Wing) : Wing :=
  let n := fun sub => x.val w idx sub
  let i8 := fun (v : Nat) => v % 256
  match idx with
  | 0x2100 => (x.push2100 w).push2300 w
  | 0x2102 => x.putChans (tget [] x.cat 0x210200)
  | 0x2310 => x.putHop (tget [] x.cat 0x231000)
  | 0x2120 => (((x.setReg 0xFF6020 (n 1 % 65536)).setReg 0xFF6021 (n 1 / 65536)).setReg 0xFF6022 (n 2)).setReg 0xFF6023 (n 3)
  | 0x2210 =>
    let ramp : Nat := match n 1 with | 2 => 0 | 4 => 1 | 8 => 2 | _ => 3
    (((x.setReg 0xFF7000 (ramp + 4 * n 2)).setReg 0xFF7002 (n 3 % 65536)).setReg 0xFF7003 (n 3 / 65536)).setReg 0xFF7004 (n 4)
  | 0x2240 => (x.setReg 0xFF7011 (n 2)).setReg 0xFF7012 (n 3 + 256 * i8 (n 4))
  | 0x2300 => x.push2300 w
  | 0x2302 => ((x.push2300 w).setReg 0xFF8019 (n 2)).setReg 0xFF801A (n 3)
  | 0x2303 => (x.setReg 0xFF801D (n 1)).setReg 0xFF801E (i8 (n 2))
  | 0x2311 => x.setReg 0xFF8016 (n 1)
  | 0x2320 => (List.range 6).foldl (fun (y : Wing) i => y.setReg (0xFF8010 + i) (n (i + 1))) x
  | 0x2400 => x.setReg 0xFF9000 (n 1 + 4 * x.val w 0x2410 5)
  | 0x2410 =>
    (((x.setReg 0xFF9000 (x.val w 0x2400 1 + 4 * n 5)).setReg 0xFF9033 (n 1)).setReg 0xFF9034 (n 2 + 16 * n 3)).setReg 0xFF9035 (n 4)
  | 0x2420 => (x.setReg 0xFF9047 (n 1 + 4 * n 2)).setReg 0xFF9048 (n 4)
  | 0x2600 => { x with car := { x.car with lfTrim := n 3 != 0, wakeLead := n 4 } }
  | 0x2901 => { x with doc := { x.doc with toHost := BitVec.ofNat 128 (x.num 0x290100 0) } }
  | _ =>
    if 0x2110 ≤ idx && idx < 0x2118 then x.pushProfile w (idx - 0x2110)
    else if 0x2A40 ≤ idx && idx < 0x2A50 then x.pushRing w (idx - 0x2A40)
    else x

/-- The indices whose values stand in registers. -/
def pushed : List Nat :=
  (List.range 8).map (fun p => 0x2110 + p) ++ [0x2100, 0x2102, 0x2310, 0x2120, 0x2210, 0x2302, 0x2303, 0x2311, 0x2320, 0x2410, 0x2420, 0x2600, 0x2901] ++
    (List.range 16).map (fun r => 0x2A40 + r)

/-- Every register is written from the Catalogue (R104, R175). -/
def Wing.pushAll (w : Nat) (x : Wing) : Wing := pushed.foldl (fun (y : Wing) i => y.push w i) x

/-- A write that makes the next entry to RUNNING fresh (R146): the band, a grid parameter of R138, or GRID_SET. -/
def freshening (idx sub : Nat) : Bool :=
  (idx == 0x2100 && sub == 1) || (idx == 0x2300 && [1, 2, 3, 4, 6].contains sub) || (idx == 0x2422 && sub == 4)

/-- The key of an entry that is RETAINED in a wing's store image among its Catalogue values (R276). -/
def keptKey (k : Nat) : Bool :=
  k = 0x2B1001 || (match (Realm.wing 0).entry (k / 256) (k % 256) with | none => false | some e => e.keep && e.acc != .wl && e.acc != .wo)

/-- The RETAINED fields of a neighbour record: RX_FC, RX_EMPTY and NB_EPOCH are JOURNALED, and never part of an image (R184, R277). -/
def Nb.retained (n : Nb) : Nb := { n with epoch := 0, rxFc := 0, rxEmpty := true, pend := none }

/-- What a store captures (R276, R279). -/
def Wing.capture (x : Wing) : Image :=
  { cat := x.cat.filter (fun (e : Nat × Octets) => keptKey e.1)
    nbs := x.msh.nbs.map (fun (e : Nat × Nb) => (e.1, e.2.retained)), cells := x.lnk.cells }

/-- The physical sector of logical Archive sector `l` (R385). -/
def Flash.archSector (l : Nat) (f : Flash) : Nat := f.posSector (f.archPos l)

/-- The Curator erases logical Archive sector `l`, which counts towards the next gap move (R379, R386); a retired sector stays as it is. -/
def Flash.archErase (l : Nat) (f : Flash) : Flash :=
  let s := f.archSector l
  if f.retired.contains s then f else ((f.blank s).countErase s).archErased

/-- The Curator programs octets, as whole lines, from the start of logical Archive sector `l`, which it erases before; a retired sector takes none. -/
def Flash.archWrite (l : Nat) (os : Octets) (f : Flash) : Flash :=
  let ls := chunks 16 (os.length / 16 + 1) os
  let f := (List.range ((ls.length + 255) / 256)).foldl (fun g i => g.archErase (l + i)) f
  (List.range ls.length).foldl (fun g i =>
    let s := g.archSector (l + i / 256)
    if g.retired.contains s then g
    else g.setLine (s * 256 + i % 256) { data := BitVec.ofNat 128 (leNat (padLine (ls.getD i []))), status := .sealed }) f

/-- The lines from logical Archive sector `l` read as `os` was written (R276, R369). -/
def Flash.archHolds (l : Nat) (os : Octets) (f : Flash) : Bool :=
  let ls := chunks 16 (os.length / 16 + 1) os
  (List.range ls.length).all (fun i =>
    let n := f.line (f.archSector (l + i / 256) * 256 + i % 256)
    (match n.status with | .sealed => true | .corrected => true | _ => false) && decide (n.data.toNat = leNat (padLine (ls.getD i []))))

/-- A generation as it stands in the Archive: its number, its length, a SHAKE256 check, and the values (R276; DESIGN CHOICE, log 42: the spec gives
no layout). -/
def generation (gen : Nat) (body : Octets) : Octets :=
  let h := natLe 4 gen ++ natLe 4 body.length
  h ++ shake256 (h ++ body) 32 ++ body

/-- The values of a Catalogue table as octets. -/
def tabOctets (t : Tab Octets) : Octets := t.flatMap (fun (e : Nat × Octets) => natLe 4 e.1 ++ natLe 2 e.2.length ++ e.2)

/-- A store image as octets. -/
def Image.octets (i : Image) : Octets :=
  tabOctets i.cat ++ i.nbs.flatMap (fun (e : Nat × Nb) => natLe 2 e.1 ++ unpackW e.2.words) ++
    i.cells.flatMap (fun (e : Nat × Cell) => natLe 2 e.1 ++ [e.2.slot, e.2.ch, e.2.kind, e.2.nb, e.2.prof, e.2.period, e.2.phase].flatMap (natLe 2))

/-- The logical Archive sector where generation `gen` of a store image begins, and that of a copy of the port image: two places each, taken in turn
(DESIGN CHOICE, log 42). -/
def imageAt (gen : Nat) : Nat := 40 * (gen % 2)
/-- That of a copy of the port image. -/
def copyAt (gen : Nat) : Nat := 80 + 8 * (gen % 2)

/-- The wing seals a new generation of its store image (R276). -/
def Wing.sealImage (img : Image) (x : Wing) : Wing :=
  let k := x.wrk
  let g := wrap32 k.gen
  { x with fls := x.fls.archWrite (imageAt g) (generation g img.octets)
           wrk := { k with stored := img, gen := g, older := if k.gen = 0 then none else some (k.gen, k.stored) } }

/-- The wing's highest-numbered generation that verifies (R276). -/
def Wing.verified (x : Wing) : Option (Nat × Image) :=
  let ok := fun (e : Nat × Image) => x.fls.archHolds (imageAt e.1) (generation e.1 e.2.octets)
  ((if x.wrk.gen = 0 then [] else [(x.wrk.gen, x.wrk.stored)]) ++ x.wrk.older.toList).find? ok

/-- The wing takes a generation of the port image (R278). -/
def Wing.sealCopy (g : Nat) (t : Tab Octets) (x : Wing) : Wing :=
  { x with fls := x.fls.archWrite (copyAt g) (generation g (tabOctets t))
           wrk := { x.wrk with portCopy := some (g, t), portOlder := x.wrk.portCopy } }

/-- The wing's highest-numbered copy of the port image that verifies (R278). -/
def Wing.copyVerified (x : Wing) : Option (Nat × Tab Octets) :=
  (x.wrk.portCopy.toList ++ x.wrk.portOlder.toList).find? (fun e => x.fls.archHolds (copyAt e.1) (generation e.1 (tabOctets e.2)))

/-- The image in force is loaded (R276): entries absent from it take their defaults. -/
def Wing.loadImage (x : Wing) : Wing :=
  let i := x.wrk.stored
  { x with cat := i.cat, msh := { x.msh with nbs := i.nbs }, lnk := { x.lnk with cells := i.cells } }

end Sys2Proof.Machine
end

