-- ==== Sys2Proof/Machine/CatWrite.lean ====
section
/-! DEFINITION. Writes of the Catalogue (R265 to R285): the checks in the order of R267, and what an accepted write of each entry
does. -/
namespace Sys2Proof.Machine
open Sys2Proof

/-- Who asks for a write: its role, and where its answer goes, as in `Work.waiting`. -/
structure Actor where
  /-- Role. -/
  role : SRole
  /-- Session, or mesh request; none for the standby's share of a dual delivery. -/
  who : Option Nat
  deriving DecidableEq, Repr

/-- One value of a write: its subindex, its entry, and its octets as the state holds them. -/
structure Put where
  /-- Subindex. -/
  sub : Nat
  /-- Entry. -/
  ent : Ent
  /-- Octets. -/
  val : Octets
  deriving DecidableEq, Repr

/-- The values of a whole-record write (R271), and whether the request's length fits them: a TEXT goes after its length. -/
def recordPuts : List (Nat × Ent) → Octets → List Put × Bool
  | _, [] => ([], true)
  | [], _ :: _ => ([], false)
  | (n, e) :: es, o :: os =>
    let (len, skip, top) := match e.ty with
      | .text k => (o.toNat, 1, k)
      | .domain k _ => (os.length + 1, 0, k)
      | t => (t.len, 0, t.len)
    let v := slice (o :: os) skip len
    let p : Put := { sub := n, ent := e, val := e.ty.wire v }
    if v.length < len || top < len then ([p], false) else
    let (ps, ok) := recordPuts es ((o :: os).drop (skip + len))
    (p :: ps, ok)

/-- The writable subindices of an index, in ascending order (R271). -/
def Realm.writables (r : Realm) (idx : Nat) : List (Nat × Ent) :=
  (r.subs idx).filterMap (fun n => match r.entry idx n with | some e => if e.writable then some (n, e) else none | none => none)

/-- The realm is reachable (R261). -/
def State.reachable (r : Realm) (s : State) : Bool := match r with | .wing w => (s.wing w).live | _ => true

/-- The value that an entry would have after the write of `ps`, as a number. -/
def State.would (r : Realm) (idx : Nat) (ps : List Put) (sub : Nat) (s : State) : Nat :=
  match ps.find? (fun p => p.sub == sub) with
  | some p => leNat p.val
  | none =>
    match r.entry idx sub with
    | none => 0
    | some e => leNat (match r with
      | .wing w => (s.wingVal w idx sub e).1 | .dome => (s.dpVal false idx sub e).1 | .port => (s.dpVal true idx sub e).1)

/-- A DOMAIN write transfer holds the entry (R274), other than one of session `own`. -/
def State.heldEntry (r : Realm) (idx sub : Nat) (own : Option Nat) (s : State) : Bool :=
  (List.range 8).any (fun n => decide (own ≠ some n) && (s.port.sessions.get n).transfers.any (fun t =>
    t.write && !t.timedOut && t.realm == r.code && t.index == idx && t.sub == sub))

/-- One field of ALARM_TIME is in range where it is enabled (R367). -/
def alarmOk (en : Nat) (v : Octets) : Bool :=
  let o := fun i => (v.getD i 0).toNat
  let f := fun (i k lo hi : Nat) => !bit en k || (bcdOk (o i) && decide (lo ≤ o i) && decide (o i ≤ hi))
  f 0 0 0 0x59 && f 1 1 0 0x59 && f 2 2 0 0x23 && f 3 3 1 0x31 && f 7 4 1 7 && f 4 5 1 0x12

/-- Check 8 of one value (R150, R265, R367). -/
def State.rangeOk (r : Realm) (idx : Nat) (ps : List Put) (p : Put) (s : State) : Bool :=
  let v := leNat p.val
  let would := fun sub => s.would r idx ps sub
  match r, r.canon idx, p.sub with
  | .dome, 0x1210, 1 => calDateOk p.val
  | .dome, 0x1213, 1 => alarmOk (would 2) p.val
  | .wing _, 0x2300, 3 => p.ent.inRange p.val && (v = 0 || v + 1000 ≤ (if would 1 = 0 then 40000 else would 1))
  | .wing w, 0x6000, _ =>
    let x := s.wing w
    p.ent.inRange p.val && decide (would 1 < x.sfSlots) && decide (would 2 < x.hopLen) &&
      decide (would 7 < 2 ^ would 6) && x.rx.plan.profValid x.band (would 5)
  | _, _, _ => p.ent.inRange p.val

/-- A neighbour record as a write of `ps` would leave it (R178, R183, R272). -/
def State.nbWould (w i : Nat) (ps : List Put) (s : State) : Nb :=
  let x := s.wing w
  let old := x.nb i
  let has := fun sub => ps.any (fun p => p.sub == sub)
  let v := fun sub => s.would (.wing (Fin.ofNat 8 w)) (0x5000 + i) ps sub
  let f := if has 3 then v 3 else b2n old.valid + 2 * b2n old.pinned
  let n := { old with eui := BitVec.ofNat 64 (v 1), short := w16 (v 2), valid := bit f 0, pinned := bit f 1,
                      drift := if has 0xA then toSigned 32 (v 0xA) else old.drift }
  if old.valid then n else
  let n := { n with timing := Timing.acquire, prr := 128, misses := 0, driftValid := has 0xA, rank := 0xFFFF, short := if has 2 then n.short else 0xFFFE }
  match x.departedOf n.eui.toNat with
  | some (e, c) => { n with epoch := e, bcEpoch := e, rxFc := c, bcFc := c, rxEmpty := false, bcEmpty := false }
  | none => { n with epoch := 0, bcEpoch := 0, rxFc := 0, bcFc := 0, rxEmpty := true, bcEmpty := true }

/-- Check 9 of a neighbour record (R183, R272). -/
def State.nbMay (w i : Nat) (ps : List Put) (s : State) : Bool :=
  let x := s.wing w
  let old := x.nb i
  let n := s.nbWould w i ps
  if n.valid then decide (n.eui ≠ 0) && !x.euiTaken i n.eui
  else old.valid && (x.setNb i { old with pinned := n.pinned }).mayRelease i

/-- The areas of a wing's map stand apart and in SRAM (R455): `g` in place of ring `r`, `ex` the exchange area. -/
def Wing.layoutOk (r : Nat) (g : Ring) (ex : Area) (x : Wing) : Bool :=
  let rings := (List.range 16).flatMap (fun k => (if k = r then g else x.ring k).areas k)
  let mine := ex :: rings
  let apart := fun (i : Nat) => (List.range i).all (fun j => !areaMeets (mine.getD i (0, 0)) (mine.getD j (0, 0)))
  mine.all (fun a => areaInSram a && !areaMeets a curatorArea && !areaMeets a x.poolArea && !areaMeets a (x.dataArea x.apl.dataWords)) &&
    (List.range mine.length).all apart

/-- The lines of a trust-area field can still be programmed (R376, R394, R496). -/
def Flash.trustFree (a n : Nat) (f : Flash) : Bool :=
  (List.range ((n + 15) / 16)).all (fun i => !(f.at_ (.inr (a / 8 + i))).intent)

/-- Check 9 (R267): the conditions that the owning chapter lays down. -/
def State.condOk (r : Realm) (idx : Nat) (ps : List Put) (s : State) : Bool :=
  let would := fun sub => s.would r idx ps sub
  let has := fun sub => ps.any (fun p => p.sub == sub)
  match r with
  | .wing w =>
    let x := s.wing w
    match idx with
    | 0x2000 => match s.twin w with | some t => x.live && (s.wing t).live | none => x.live
    | 0x2100 =>
      let b := would 1
      let q : Plan := { x.rx.plan with f0 := would 3, n := would 4, raster := would 2 }
      (!has 1 || b = 0xFF || x.bandMay b) && (b = 0xFF || q.fits b) && decide (would 7 ≤ would 8)
    | 0x2300 =>
      let hi := !x.bandOff && x.band = 3
      let slot := if would 1 ≠ 0 then would 1 else if hi then 10000 else 24000
      let off := if would 3 ≠ 0 then would 3 else if hi then 1600 else 4000
      decide (off + 1000 ≤ slot)
    | 0x2810 => !has 4 || x.apl.dataWords = 0 || x.windowOk (would 4, x.apl.dataWords)
    | 0x2821 => decide (x.core.run = .halted)
    | 0x2822 => decide (x.core.run = .halted)
    | 0x2A01 => x.layoutOk 16 {} (would 0, 0x1800)
    | 0x2A03 => x.flag 0x2A0200 true && !(x.ring 14).full
    | 0x2B11 =>
      let m := would 0
      let b := x.num 0x2B1200 56
      decide (m % 65536 = 0) && (List.range 8).all (fun k => !bit m (b + k))
    | 0x2B12 => let m := x.num 0x2B1100 0x00FF000000000000; (List.range 8).all (fun k => !bit m (would 0 + k))
    | 0x2C02 => !x.fls.locked || ps.all (fun p => if p.sub = 2 then x.fls.trustFree 0x20 32 else x.fls.trustFree 0x30 2)
    | _ =>
      if 0x5000 ≤ idx && idx < 0x5400 then s.nbMay w (idx - 0x5000) ps
      else if 0x6000 ≤ idx && idx < 0x7000 then !(would 3 = 4 && would 4 = 0xFFFF)
      else if 0x2A40 ≤ idx && idx < 0x2A50 then
        let k := idx - 0x2A40
        let g : Ring := { x.ring k with base := would 1, depth := would 2, ibuf := would 3 }
        x.layoutOk k g x.exchange && (k ≠ 13 || 32 ≤ g.depth)
      else true
  | _ => true

/-- The checks 3 to 9 of R267, in order: the first that fails gives the error. `own` is the session whose transfer does not count in
check 6, and `lenOk` whether the length of the whole request fits. -/
def State.writeCheck (r : Realm) (idx : Nat) (role : SRole) (own : Option Nat) (ps : List Put) (lenOk : Bool) (s : State) : Option Status :=
  let stopped := match r with | .wing w => decide ((s.wing w).sys.state = .stopped) | _ => true
  let locked := match r with | .wing w => (s.wing w).fls.locked | _ => false
  if ps.any (fun p => !p.ent.writable) then some .readOnly
  else if ps.any (fun p => decide (role.rank < p.ent.wr.rank)) then some .role
  else if ps.any (fun p => p.ent.acc == .rws && !stopped) then some .notStopped
  else if ps.any (fun p => p.ent.acc == .wl && locked) then some .locked
  else if ps.any (fun p => s.heldEntry r idx p.sub own) then some .busy
  else if !lenOk || ps.isEmpty || ps.any (fun p => !p.ent.ty.fits p.val.length) then some .badLength
  else if ps.any (fun p => !s.rangeOk r idx ps p) then some .range
  else if !s.condOk r idx ps then some .refused
  else none

/-- A store of a wing realm is asked for (R279): it begins, or is queued or merged into the queued one. -/
def Wing.storeAsk (who : Option Nat) (x : Wing) : Wing :=
  let k := x.wrk
  if k.storing.isNone then { x with wrk := { k with storing := some x.capture, waiting := who.toList } }
  else { x with wrk := { k with queued := true, waitNext := k.waitNext ++ who.toList } }

/-- Word `b` of the option area with the fields `cs`, each at its word, put in; a field of one octet leaves the high octet 0. -/
def optWord (cs : List (Nat × Octets)) (old : Nat → Word) (b : Nat) : Word :=
  cs.foldl (fun v c => let ws := packW c.2; if c.1 ≤ b && b < c.1 + ws.length then ws.getD (b - c.1) 0 else v) (old b)

/-- OPT_PROGRAM of option line `li` (R394). -/
def optProgram (li : Nat) (word : Nat → Word) : FlsDesc :=
  { op := 5, tag := 0, addr := 8 * li, buf := 0x100000, lines := 1, data := unpackW ((List.range 8).map (fun i => word (8 * li + i))) }

/-- The lines that the fields lie in. -/
def optHit (cs : List (Nat × Octets)) (li : Nat) : Bool :=
  cs.any (fun c => decide (c.1 / 8 ≤ li) && decide (li ≤ (c.1 + (packW c.2).length - 1) / 8))

/-- The Curator rewrites the option sector `sec` that holds the fields (R395): it erases it, and programs back every line that is not erased,
with the change applied. -/
def Flash.optRewrite (sec : Nat) (cs : List (Nat × Octets)) (f : Flash) : List FlsDesc :=
  let word := optWord cs f.optStored
  let used := fun (li : Nat) => (f.opt.any (fun (e : Nat × Line) => e.1 == li) || optHit cs li) &&
    (List.range 8).any (fun i => decide (word (8 * li + i) ≠ 0xFFFF))
  { op := 6, tag := 0, addr := 0x800 * sec, buf := 0, lines := 0 } ::
    (((List.range 256).map (fun i => 256 * sec + i)).filter used).map (fun li => optProgram li word)

/-- A write of fields of the trust area (R496): by a rewrite while the area is unlocked, line by line once it is locked. -/
def Flash.trustWrite (cs : List (Nat × Octets)) (f : Flash) : List FlsDesc :=
  if !f.locked then f.optRewrite 0 cs
  else ((List.range 256).filter (optHit cs)).map (fun li => optProgram li (optWord cs (fun _ => 0xFFFF)))

/-- OPT_LOCK (R394, R397). -/
def optLockDesc : FlsDesc := { op := 7, tag := 0, addr := 0, buf := 0, lines := 0 }

/-- The descriptors by which a write of WL or trust-area entries is carried out (R395, R397, R496): none for every other entry. -/
def Flash.optPlan (idx : Nat) (ps : List (Nat × Octets)) (f : Flash) : List FlsDesc :=
  if idx = 0x2702 then [optLockDesc]
  else if idx = 0x2C02 then f.trustWrite (ps.map (fun p => (if p.1 = 2 then 0x20 else 0x30, p.2)))
  else match ps.filterMap (fun p => (optField idx p.1).map (fun (q : Nat × Nat) => (q.1, p.2))) with
    | [] => []
    | c :: cs => f.optRewrite (c.1 / 0x800) (c :: cs)

/-- A write of REGISTERS (R439). -/
def Core.putRegs (os : Octets) (c : Core) : Core :=
  let g := fun i => w16 (leNat (slice os (2 * i) 2))
  let st := g 16 &&& 0xFF
  let am := st.getLsbD 6
  { c with
    w := tputs 0 0 ((List.range 15).map g) [], st := st, pc := BitVec.ofNat 24 ((g 17).toNat + 65536 * ((g 18).toNat % 256))
    b0 := BitVec.ofNat 10 (g 19).toNat, b1 := BitVec.ofNat 10 (g 20).toNat, b2 := BitVec.ofNat 10 (g 21).toNat
    b3 := BitVec.ofNat 10 (g 22).toNat, vbase := g 23, aSp := if am then g 15 else g 24, kSp := if am then c.kSp else g 15 }

/-- MEMORY is written, two octets to a word, as Keeper-mode stores (R432). -/
def State.memWrite (w : Nat) (os : Octets) (s : State) : State :=
  let a := (s.wing w).num 0x282003 0
  let ws := packW os
  (List.range ws.length).foldl (fun (t : State) i => t.busWrite false w (a + i) (ws.getD i 0)) s

/-- MEMORY is read: `n` words, as Keeper-mode loads, RC effects included (R432). -/
def State.memRead (w n : Nat) (s : State) : Octets × State :=
  let a := (s.wing w).num 0x282003 0
  (List.range n).foldl (fun (r : Octets × State) i =>
    let (v, t) := r.2.busRead false w (a + i)
    (r.1 ++ natLe 2 v.toNat, t)) ([], s)

/-- The core leaves debug halt (R432): as it was, with a wake request where it runs. -/
def State.unhalt (w : Nat) (s : State) : State :=
  s.modWing w (fun x =>
    if x.core.run ≠ .halted then x else
    { x with core := { x.core with run := if x.core.wasAsleep then .asleep else .running, wasAsleep := false }
             car := { x.car with wakeReq := x.car.wakeReq || (!x.core.wasAsleep && !x.car.fine) } })

/-- A write of RUN (R435, R436). -/
def State.runWrite (w : Nat) (on : Bool) (s : State) : State :=
  let s := s.modWing w (fun x => { x with apl := { x.apl with barred := false } })
  if on || (s.wing w).apl.state ≠ .running then s else s.appletEnd w .terminated 6 (s.wing w).apl.exitCode

/-- A write of APPLET_IN (R453): the descriptor goes on ring 14. -/
def State.appletIn (w : Nat) (os : Octets) (s : State) : State :=
  ((s.modWing w (fun x => (x.publish 14 false (packW os)).2))).ring14In w

/-- A write of SESSION_KEY by session `n` (R481). -/
def Wing.sessionKey (n : Nat) (os : Octets) (x : Wing) : Wing :=
  let p := x.num 0x2B1200 56 + n
  (x.pageGone p).setPage p { key := os, owner := 3, session := n, len32 := true, usage := 0b001111, state := 1 }

/-- Nothing of the wing's transmitter is resolved any more, so that it may stop (R283). -/
def Wing.quiet (x : Wing) : Bool := x.tx.run.isNone && x.tx.next.isNone && x.tx.reqs.isEmpty

/-- Values of settings restored (R280): every RETAINED RW and RWS entry takes its default, but for the tables; `tables` clears those. -/
def State.restoreWing (w : Nat) (tables : Bool) (s : State) : State :=
  let keep := fun (k : Nat) =>
    match (Realm.wing (Fin.ofNat 8 w)).entry (k / 256) (k % 256) with
    | none => true
    | some e => !(e.keep && (e.acc == .rw || e.acc == .rws))
  let s := s.modWing w (fun x =>
    let y := { x with cat := x.cat.filter (fun (e : Nat × Octets) => keep e.1) }
    y.pushAll w)
  if !tables then s else
  s.modWing w (fun x =>
    let y := x.msh.nbs.foldl (fun (z : Wing) (e : Nat × Nb) => z.releaseNb e.1) x
    { y with lnk := { y.lnk with cells := [] } })

/-- A RESTORE of a wing realm may run (R182, R280): the code 0x0003 needs every record free of work. -/
def Wing.restoreMay (code : Nat) (x : Wing) : Option Status :=
  if x.sys.state ≠ .stopped then some .notStopped
  else if code = 3 && x.msh.nbs.any (fun (e : Nat × Nb) => e.2.valid && (x.frameTo e.1 || x.workFor e.1)) then some .refused
  else none

/-- An entry of wing `w` that holds its written value in the Catalogue takes it. -/
def Wing.keepVal (idx : Nat) (p : Put) (x : Wing) : Wing :=
  let d := p.ent.ty.enc p.ent.dflt
  { x with cat := tset [] (catKey idx p.sub) (if p.val = d then [] else p.val) x.cat }

/-- Cell `j` with subindex `sub` written. -/
def Cell.put (sub v : Nat) (c : Cell) : Cell :=
  match sub with
  | 1 => { c with slot := v } | 2 => { c with ch := v } | 3 => { c with kind := v } | 4 => { c with nb := v } | 5 => { c with prof := v }
  | 6 => { c with period := v } | _ => { c with phase := v }

/-- A neighbour record is written, made or released (R181, R183, R272); the standby of a pair journals only copies (R244). -/
def State.nbPut (w i : Nat) (ps : List Put) (s : State) : State :=
  let old := (s.wing w).nb i
  let n := s.nbWould w i ps
  if !n.valid then s.modWing w (Wing.releaseNb i)
  else if old.valid then s.modWing w (Wing.setNb i n)
  else (if s.role w = .standby then s else s.jWrite w 0xB (nbfcBody i n)).modWing w (Wing.setNb i n)

end Sys2Proof.Machine
end

