-- ==== Sys2Proof/Machine/Running.lean ====
section
/-! DEFINITION. Entering and leaving RUNNING (R15, R16, R22, R87, R130, R146, R173, R215, R222, R225, R283, R342, R435), and the stores of a
wing realm that the Curator makes by itself (R184). -/
namespace Sys2Proof.Machine
open Sys2Proof

/-- The wing's Watch marker is journaled (R130); once no wing has one to write, the new naming takes effect in the Dome (R56). -/
def State.watchMark (w : Nat) (s : State) : State :=
  if !s.dome.watchWait.contains w then s else
  let s := s.jWrite w 7 ([0xFF] ++ natLe 4 (b2n (s.dome.watchReq == w)))
  s.modDome (fun d =>
    let left := d.watchWait.filter (· ≠ w)
    { d with watchWait := left, watchWing := if left.isEmpty then d.watchReq else d.watchWing })

/-- The neighbours that a cell names (R173). -/
def Wing.namedNbs (x : Wing) : List Nat :=
  ((x.lnk.cells.filter (fun (e : Nat × Cell) => e.2.kind ≠ 0 && decide (e.2.nb < 1024))).map (fun (e : Nat × Cell) => e.2.nb)).eraseDups

/-- The slot that the anchor in force gives for now, with a new epoch where the ASN has wrapped meanwhile (R136, R207). -/
def State.gridNow (w : Nat) (s : State) : State :=
  let n := (s.wing w).slotAt (s.wing w).now / asnMod
  let s := s.modWing w (fun x =>
    let y := x.wrapAt n
    let a := y.slotAt y.now
    { y with lnk := { y.lnk with asn := a, slotStart := (y.tS a).toNat } })
  if n = 0 then s else (s.setLineage w ((s.wing w).msh.epoch + n) (s.wing w).msh.root).jEntry w 0x2421 4 5 0

/-- The lineage and the grid of a fresh entry (R146, R173, R215): a CONFIGURED wing with GRID_SET takes its anchor, any other searches. -/
def State.freshGrid (w : Nat) (s : State) : State :=
  let s := s.modWing w (fun x =>
    x.toSearch.namedNbs.foldl (fun (y : Wing) i => if (y.nb i).valid then y.modNb i (Nb.lose .acquire) else y) x.toSearch)
  let x := s.wing w
  if x.rootMode ≠ 2 || !x.flag 0x242204 false then s else
  let s := ((s.setLineage w (x.num 0x242201 0) (s.rootEui w)).modWing w (fun x =>
    { x with lnk := { x.lnk with asnRef := x.num 0x242202 0, tickRef := x.num 0x242203 0 } })).gridNow w
  s.modWing w (fun x => (x.lineageOnly 1024).toRoot false)

/-- A return from STOPPED that is not fresh (R146): the grid has gone on. -/
def State.keepGrid (w : Nat) (s : State) : State :=
  if (s.wing w).lnk.sync = .searching then s else
  let s := (s.modWing w (fun x => { x.underNext with lnk := { x.underNext.lnk with move := none } })).gridNow w
  s.hwm w (s.wing w).lnk.asn

/-- The sub-bands under the boot hold from the first entry to RUNNING (R130). -/
def Wing.bootHold (x : Wing) : BitVec 8 :=
  (List.range 8).foldl (fun (m : BitVec 8) i => if decide (i < x.limCount) && x.limDwell i ≠ 0 then m ||| BitVec.twoPow 8 i else m) 0

/-- What the Curator writes at an entry to RUNNING: the registers of the Catalogue (R104, R175), the receive pool (R87), TX_FC (R225), the
boot hold (R130), INTAKE_OPEN (R222), the applet's bells (R342), the link engine's ENABLE (DEDUCED, log 39), and that RUN starts the applet (R435). -/
def Wing.runSet (w : Nat) (x : Wing) : Wing :=
  let y := (x.pushAll w).replayFc
  let y := y.setReg 0xFF8000 (y.reg 0xFF8000 / 2 * 2 + 1)
  { y with
    rx := { y.rx with held := [] }
    tx := { y.tx with hold := if y.tx.ran then y.tx.hold else y.bootHold, ran := true }
    wrk := { y.wrk with open_ := true }
    car := { y.car with appletMask := BitVec.ofNat 32 (y.num 0x260200 0) }
    apl := { y.apl with due := y.flag 0x281003 false }
    lnk := { y.lnk with fresh := false } }

/-- Wing `w` enters RUNNING (R16). -/
def State.enterRunning (w : Nat) (s : State) : State :=
  let fresh := (s.wing w).lnk.fresh
  let s := (s.toState w .running 0).modWing w (Wing.runSet w)
  let s := if fresh then s.freshGrid w else s.keepGrid w
  let s := (s.watchMark w).pairReleased w
  let s := if s.role w = .standby then s else s.reserve w
  (s.modWing w Wing.radioRest).sweep w

/-- A wing leaves RUNNING for STOPPED (R222, R283, R436): intake closes, the applet ends, and the radio goes to STANDBY. The slots that pass
are idle (R146). -/
def State.enterStopped (w : Nat) (s : State) : State :=
  let s := if (s.wing w).apl.state = .running then s.appletEnd w .terminated 6 (s.wing w).apl.exitCode else s
  if !(s.wing w).awake then s else
  let s := if (s.wing w).listening then s.leaveListen w else s
  let s := s.modWing w (fun x =>
    let y := { x with wrk := { x.wrk with open_ := false }, lnk := { x.lnk with next := none, wins := [], own := none } }
    if y.rx.going = some .listen || (y.rx.going.isNone && (y.rx.radio = .listen || y.rx.radio = .off)) then y.radioTo .standby else y)
  (s.toState w .stopped 0).sweep w

/-- WING_ENTER_STOPPED (R283): the transmissions already resolved have ended. -/
def execWingEnterStopped (w : WingId) (s : State) : Out :=
  let x := s.wing w
  .next (if x.isRunning && x.sys.stopReq && x.quiet then s.enterStopped w else s)

/-- A write of STOP_REQUEST takes effect in wing `w` (R283). -/
def State.stopWrite (w : Nat) (v : Bool) (s : State) : State :=
  let s := s.modWing w (fun x => { x with sys := { x.sys with stopReq := v } })
  if !v && (s.wing w).sys.state = .stopped then s.enterRunning w else s

/-- WATCH_WING_WRITE (R130): the port passes the write of `D:1202.01` to a wing concerned, which journals its marker once its flash takes
pulses (R46). -/
def execWatchWingWrite (w : WingId) (s : State) : Out :=
  .next (if (s.wing w).live && !(s.wing w).fls.blocked then s.watchMark w else s)

/-- AUTO_STORE (R184, R279). -/
def execAutoStore (w : WingId) (s : State) : Out :=
  .next (if (s.wing w).isRunning then s.modWing w (Wing.storeAsk none) else s)

end Sys2Proof.Machine
end

