-- ==== Sys2Proof/Machine/CatCommit.lean ====
section
/-! DEFINITION. What an accepted write of the Catalogue does (R268 and the entry tables of every chapter), in one wing, in both wings of a
pair (R281), or in realm D or P; reads (R270, R275); and stores and restores (R279, R280). -/
namespace Sys2Proof.Machine
open Sys2Proof

/-- The value of an index that holds one, after the write of `ps`. -/
def putNum (sub : Nat) (ps : List Put) : Option Nat := (ps.find? (fun p => p.sub == sub)).map (fun p => leNat p.val)

/-- Its octets. -/
def putOct (sub : Nat) (ps : List Put) : Octets := ((ps.find? (fun p => p.sub == sub)).map (fun p => p.val)).getD []

/-- One accepted value of wing `w` takes effect. -/
def State.putWing (w idx : Nat) (p : Put) (s : State) : State :=
  let v := leNat p.val
  let b := (s.wing w).tru.boot
  let kept := s.modWing w (fun x =>
    let y := (x.keepVal idx p).push w idx
    if freshening idx p.sub then { y with lnk := { y.lnk with fresh := true } } else y)
  match idx, p.sub with
  | 0x2000, _ => s.stopWrite w (v = 1)
  | 0x2001, _ => if v = 0xA5C3 then s.enterReset w .host else s
  | 0x2102, _ => s.modWing w (Wing.putChans p.val)
  | 0x2140, 9 => s.modWing w (fun x => { x with rx := { x.rx with calReq := x.rx.calReq ||| BitVec.ofNat 4 v } })
  | 0x2240, 1 => s.txTest w v
  | 0x2310, _ => s.modWing w (fun x => { x with cat := tset [] 0x231102 [] x.cat }.putHop p.val)
  | 0x2311, 2 => if v = 0xFFFF then kept else kept.modWing w (Wing.hopSeed v)
  | 0x2320, 7 => s.modWing w (Wing.recover v)
  | 0x2810, 3 => kept.runWrite w (v = 1)
  | 0x2820, 2 => if v = 0 then s.unhalt w else if (s.wing w).debug && (s.wing w).core.run ≠ .halted then s.halt w else s
  | 0x2821, _ => s.modCore w (Core.putRegs p.val)
  | 0x2822, _ => s.memWrite w p.val
  | 0x2A03, _ => s.appletIn w p.val
  | 0x2C01, _ => s.putBoot w (bootState b (b % 4) (b / 4 % 2) v (b / 256 % 256))
  | 0x2C10, 4 => s.putBoot w (b ||| 16)
  | _, _ =>
    if 0x6000 ≤ idx then s else kept

/-- A store of wing realm `w` for `who` and for the restores `codes` (R279, R280). -/
def State.wingStore (w : Nat) (who : Option Nat) (codes : List Nat) (s : State) : State :=
  s.modWing w (fun x =>
    let now := x.wrk.storing.isNone
    let y := x.storeAsk who
    { y with wrk := if now then { y.wrk with restores := y.wrk.restores ++ codes } else { y.wrk with restoreNext := y.wrk.restoreNext ++ codes } })

/-- A write of STORE, of RESTORE, or of both (R279, R280). -/
def State.wingControl (w : Nat) (ps : List Put) (who : Option Nat) (s : State) : Option Status × State :=
  match putNum 1 ps, putNum 4 ps with
  | _, none => (none, s.wingStore w who [])
  | st, some code =>
    match (s.wing w).restoreMay code with
    | some e => (some e, s)
    | none =>
      let s := if st.isSome then s.wingStore w none [] else s
      (none, (s.restoreWing w (code = 3)).wingStore w who [code])

/-- An accepted write of wing `w` is committed (R268): its answer, or none when a store (R279) or the end of its flash
descriptors (R395) answers it. -/
def State.commitWing (w idx : Nat) (ps : List Put) (who : Option Nat) (s : State) : Option Status × State :=
  -- a test starts on the values of the whole write (R131, R134, R271)
  let ps := if idx = 0x2240 then ps.filter (fun p => p.sub ≠ 1) ++ ps.filter (fun p => p.sub = 1) else ps
  let each := fun (t : State) => ps.foldl (fun (u : State) p => u.putWing w idx p) t
  let yes := fun (b : Bool) => if b then some Status.ok else some Status.refused
  match idx with
  | 0x2004 => s.wingControl w ps who
  | 0x2810 =>
    match putNum 2 ps with
    | none => (some .ok, each s)
    | some v =>
      let (ok, x) := if v = 1 then (s.wing w).appletInstall else (true, (s.wing w).appletRemove)
      if ok then (some .ok, (ps.filter (fun p => p.sub ≠ 2)).foldl (fun (u : State) p => u.putWing w idx p) (s.setWing w x)) else (some .refused, s.setWing w x)
  | 0x2B10 =>
    let (ok, s) := s.rootWrite w (putOct 1 ps)
    if ok then (none, s.wingStore w who []) else (some .refused, s)
  | 0x2B20 =>
    match who with
    | some n => if n < 8 then (some .ok, s.modWing w (Wing.sessionKey n (putOct 0 ps))) else (some .refused, s)
    | none => (some .refused, s)
  | 0x2C20 => let (ok, s) := s.provenance w (putOct 0 ps); (yes ok, s)
  | _ =>
    if 0x5000 ≤ idx && idx < 0x5400 then (some .ok, s.nbPut w (idx - 0x5000) ps)
    else if 0x6000 ≤ idx then
      (some .ok, s.modWing w (fun x =>
        let c := ps.foldl (fun (c : Cell) p => c.put p.sub (leNat p.val)) (tget {} x.lnk.cells (idx - 0x6000))
        { x with lnk := { x.lnk with cells := tset {} (idx - 0x6000) c x.lnk.cells } }))
    else
      -- a write of the option area is answered when its descriptors have ended (R395, R397)
      match (s.wing w).fls.optPlan idx (ps.map (fun p => (p.sub, p.val))) with
      | [] => (some .ok, each s)
      | ds => (none, s.modWing w (Wing.flsJob who ds))

/-- The checks of a write, and its commit, in wing `w`. -/
def State.wingWrite (w idx : Nat) (a : Actor) (own : Option Nat) (ps : List Put) (lenOk : Bool) (s : State) : Option Status × State :=
  let r := Realm.wing (Fin.ofNat 8 w)
  let ps := ps.map (fun (p : Put) => { p with ent := (r.entry idx p.sub).getD p.ent })
  match s.writeCheck r idx a.role own ps lenOk with
  | some e => (some e, s)
  | none => s.commitWing w idx ps a.who

/-- Writes that the port delivers to both wings of a pair (R245, R281). -/
def dualIndex (idx : Nat) : Bool :=
  (0x2100 ≤ idx && idx < 0x2500) || (0x2A40 ≤ idx && idx < 0x2A50) || (0x5000 ≤ idx && idx < 0x5400) || (0x6000 ≤ idx && idx < 0x7000) ||
    idx == 0x2000 || idx == 0x2004

/-- A write to both wings of pair `p`, the ACTIVE wing first (R281). STORE and RESTORE go on to the standby once the ACTIVE wing's store has sealed,
for until then it may still refuse them. -/
def State.pairedWrite (p idx : Nat) (a : Actor) (own : Option Nat) (ps : List Put) (lenOk : Bool) (s : State) : Option Status × State :=
  let q := s.port.pair p
  let w := q.head
  let t := q.other w
  if !(s.wing w).live && idx ≠ 0x2000 then (some .wingUnavailable, s) else
  let began := (s.wing w).wrk.storing.isNone
  let (r, s) := s.wingWrite w idx a own ps lenOk
  if r ≠ none && r ≠ some .ok then (r, s)
  else if idx = 0x2004 then
    (r, s.modWing w (fun x =>
      let c := [(putNum 4 ps).getD 0]
      { x with wrk := if began then { x.wrk with pairAsk := x.wrk.pairAsk ++ c } else { x.wrk with pairAskNext := x.wrk.pairAskNext ++ c } }))
  else
  if !(s.wing t).live then (r, s.degrade p) else
  let (r', s) := s.wingWrite t idx { a with who := none } own ps lenOk
  (r, if r' = none || r' = some .ok then s else s.degrade p)

/-- The RETAINED values of realm D or P as a store captures them (R278, R279): those of `old` for the other realm. -/
def captureDp (p : Bool) (cat old : Tab Octets) : Tab Octets :=
  let mine := fun (k : Nat) => if p then 2 ^ 24 ≤ k else k < 2 ^ 24
  let keep := fun (k : Nat) =>
    match (if p then Realm.port else Realm.dome).entry (k % 2 ^ 24 / 256) (k % 256) with | none => false | some e => e.keep
  let new := cat.filter (fun (e : Nat × Octets) => mine e.1 && keep e.1)
  (old.filter (fun (e : Nat × Octets) => !mine e.1)).foldl (fun (t : Tab Octets) e => tset [] e.1 e.2 t) new

/-- A store of realm D or P begins, or is queued or merged (R279). -/
def Port.storeAsk (realm : Nat) (who : Option Nat) (codes : List Nat) (x : Port) : Port :=
  let image := captureDp (realm == 0xE) x.cat x.stored
  match (x.storing.filter (fun e => e.realm == realm)).length with
  | 0 => { x with storing := x.storing ++ [{ realm := realm, waits := who.toList, codes := codes, image := image }] }
  | 1 => { x with storing := x.storing ++ [{ realm := realm, waits := who.toList, codes := codes }] }
  | _ =>
    match x.storing.reverse with
    | [] => x
    | l => { x with storing := (l.foldl (fun (r : Bool × List PortStore) e =>
        if !r.1 && e.realm = realm then (true, { e with waits := e.waits ++ who.toList, codes := e.codes ++ codes } :: r.2) else (r.1, e :: r.2))
          (false, [])).2 }

/-- Realm D or P takes its settings' defaults (R280): the credentials and the pairs keep theirs. -/
def Port.restore (p : Bool) (x : Port) : Port :=
  let r := if p then Realm.port else Realm.dome
  let keep := fun (k : Nat) =>
    let idx := k % 2 ^ 24 / 256
    decide (p ≠ (2 ^ 24 ≤ k)) || (p && 0x1120 ≤ idx && idx < 0x1140) || (p && 0x1180 ≤ idx && idx < 0x1184) ||
      (match r.entry idx (k % 256) with | none => true | some e => !(e.keep && e.acc == .rw))
  { x with cat := x.cat.filter (fun (e : Nat × Octets) => keep e.1) }

/-- The trim settings of the Catalogue reach the backup domain (R367). -/
def State.trimPush (s : State) : State :=
  let n := fun sub d => s.port.num (dpKey false 0x1212 sub) d
  s.trimSet (n 1 2) (toSigned 16 (n 2 0)) (n 3 0)

/-- WATCH_WING is written (R130): it goes to the wing it names and to the one it ceases to name. -/
def State.watchWrite (v : Nat) (s : State) : State :=
  s.modDome (fun d =>
    if v = d.watchReq then d else
    let ws := ((d.watchWait ++ [d.watchReq, v]).filter (fun n => decide (n < 8))).eraseDups
    { d with watchReq := v, watchWait := ws, watchWing := if ws.isEmpty then v else d.watchWing })

/-- An address of the port changes: it is no longer its own (R288). -/
def Port.newAddress (i : Nat) (x : Port) : Port :=
  let m := ~~~ (BitVec.twoPow 3 i)
  { x with own := x.own &&& m, tentative := x.tentative &&& m, duplicate := x.duplicate &&& m }

/-- Addresses that differ from those of `old` are new ones. -/
def Port.moveAddresses (old : Port) (x : Port) : Port :=
  [1, 2].foldl (fun (y : Port) i =>
    if tget [] y.cat (dpKey true 0x1110 (i + 1)) = tget [] old.cat (dpKey true 0x1110 (i + 1)) then y else y.newAddress i) x

/-- A value of realm D or P is held. -/
def Port.keepVal (p : Bool) (idx : Nat) (q : Put) (x : Port) : Port :=
  let d := q.ent.ty.enc q.ent.dflt
  { x with cat := tset [] (dpKey p idx q.sub) (if q.val = d then [] else q.val) x.cat }

/-- The alarm with a written CALENDAR value, its enables kept (R367). -/
def CalAlarm.putTime (v : Octets) (a : CalAlarm) : CalAlarm :=
  let f := fun (i : Nat) (old : BitVec 8) => (old &&& 0x80) ||| (v.getD i 0 &&& 0x7F)
  { a with sec := f 0 a.sec, min := f 1 a.min, hour := f 2 a.hour, day := f 3 a.day, month := f 4 a.month,
           year := w16 (leNat (slice v 5 2)), wday := f 7 a.wday }

/-- The alarm's enables (R367). -/
def CalAlarm.putEnable (m : Nat) (a : CalAlarm) : CalAlarm :=
  let f := fun (i : Nat) (old : BitVec 8) => (old &&& 0x7F) ||| (if bit m i then 0x80 else 0)
  { a with sec := f 0 a.sec, min := f 1 a.min, hour := f 2 a.hour, day := f 3 a.day, wday := f 4 a.wday, month := f 5 a.month }

/-- One value of the backup domain's entries `D:1211` and `D:1213` (R367). -/
def Calendar.putVal (idx : Nat) (q : Put) (c : Calendar) : Calendar :=
  let v := leNat q.val
  let off := decide (v = 0)
  match idx, q.sub with
  | 0x1211, 1 => { c with osf := c.osf && !off }
  | 0x1211, 2 => { c with haltLost := c.haltLost && !off }
  | 0x1211, 3 => { c with rollover := c.rollover && !off }
  | 0x1211, 4 => { c with badDate := c.badDate && !off }
  | 0x1213, 1 => { c with alarm := c.alarm.putTime q.val }
  | 0x1213, 2 => { c with alarm := c.alarm.putEnable v }
  | 0x1213, 3 => { c with alarm := { c.alarm with pwron := v = 1 } }
  | 0x1213, 4 => { c with alarm := { c.alarm with window := o8 v } }
  | 0x1213, 5 => if off then c.clearAlarm else c
  | _, _ => c

/-- CELL_EMPTY is cleared (R50, R542). -/
def State.cellClear (s : State) : State :=
  if !s.dome.cellEmpty then s else
  (s.modDome (fun d => { d with cellEmpty := false })).event 3 0xFF 2 [o8 (b2n s.dome.cellLow), 0]

/-- An accepted write of realm D is committed. -/
def State.commitDome (idx : Nat) (ps : List Put) (who : Option Nat) (s : State) : Option Status × State :=
  let held := { s with port := ps.foldl (fun (x : Port) q => x.keepVal false idx q) s.port }
  match idx with
  | 0x1202 => (some .ok, (held.watchWrite ((putNum 1 ps).getD 0xFF)))
  | 0x1204 => (some .ok, if putNum 3 ps = some 0 then s.cellClear else s)
  | 0x1210 => let (st, s) := s.calSetTime (calOf (putOct 1 ps)); (some st, s)
  | 0x1212 => (some .ok, held.trimPush)
  | 0x12F0 =>
    match putNum 4 ps with
    | none => (none, { s with port := s.port.storeAsk 0xD who [] })
    | some c =>
      if c = 3 then (some .range, s) else
      let first := if (putNum 1 ps).isSome then s.port.storeAsk 0xD none [] else s.port
      let s := ({ s with port := first.restore false }.trimPush).watchWrite 0xFF
      (none, { s with port := s.port.storeAsk 0xD who [c] })
  | _ =>
    if idx = 0x1211 || idx = 0x1213 then
      if s.dome.writeFrozen then (some .refused, s.frozenWrite)
      else (some .ok, { s with cal := ps.foldl (fun (c : Calendar) q => c.putVal idx q) s.cal })
    else (some .ok, held)

/-- The sessions of a credential close (R302). -/
def State.closeCredential (c : Nat) (s : State) : State :=
  (List.range 8).foldl (fun (t : State) n =>
    let x := t.port.sessions.get n
    if (x.isOpen || x.opening) && !x.prov && x.cred = c then t.closeSession n else t) s

/-- An accepted write of realm P is committed. -/
def State.commitPort (idx : Nat) (ps : List Put) (who : Option Nat) (s : State) : Option Status × State :=
  let port := ps.foldl (fun (x : Port) q => x.keepVal true idx q) s.port
  let held := { s with port := port }
  if idx = 0x1110 then (some .ok, ([1, 2].foldl (fun (t : State) i => t.solicit i) { s with port := port.moveAddresses s.port }))
  else if 0x1120 ≤ idx && idx < 0x1140 then (some .ok, held.closeCredential (idx - 0x1120))
  else if 0x1180 ≤ idx && idx < 0x1184 then
    let p := idx - 0x1180
    let n := fun (sub d : Nat) => (putNum sub ps).getD (s.port.num (dpKey true idx sub) d)
    let timed := fun (t : State) => match ps.find? (fun q => q.sub == 5) with
      | none => t | some q => { t with port := t.port.keepVal true idx q }
    let (st, t) := if (putNum 1 ps).isSome || (putNum 2 ps).isSome then s.pairWrite p (n 1 0xFF) (n 2 0xFF) else (.ok, s)
    if st ≠ .ok then (some st, s) else
    match putNum 6 ps with
    | none => (some .ok, timed t)
    | some v => let (st, t) := t.switchAsk p v; (some st, if st = .ok then timed t else s)
  else if idx = 0x11F0 then
    match putNum 4 ps with
    | none => (none, { s with port := s.port.storeAsk 0xE who [] })
    | some c =>
      if c = 3 then (some .range, s) else
      let first := if (putNum 1 ps).isSome then s.port.storeAsk 0xE none [] else s.port
      let s := [1, 2].foldl (fun (t : State) i => t.solicit i) { s with port := (first.restore true).moveAddresses s.port }
      (none, { s with port := s.port.storeAsk 0xE who [c] })
  else (some .ok, held)

/-- A write of the Catalogue (R267, R268, R281): its answer, or none when a store answers it. -/
def State.catWrite (r : Realm) (idx : Nat) (a : Actor) (own : Option Nat) (ps : List Put) (lenOk : Bool) (s : State) : Option Status × State :=
  match r with
  | .wing w =>
    match (if dualIndex idx then s.pairOf w else none) with
    | some p => s.pairedWrite p idx a own ps lenOk
    | none => s.wingWrite w idx a own ps lenOk
  | .dome =>
    match s.writeCheck .dome idx a.role own ps lenOk with | some e => (some e, s) | none => s.commitDome idx ps a.who
  | .port =>
    match s.writeCheck .port idx a.role own ps lenOk with | some e => (some e, s) | none => s.commitPort idx ps a.who

/-- The value of one entry as a read gives it (R268, R432): reading MEMORY is an access, and possible only while the core is halted. -/
def State.readValue (r : Realm) (idx sub : Nat) (e : Ent) (s : State) : Option Octets × State :=
  match r, idx with
  | .wing w, 0x2822 =>
    if (s.wing w).core.run = .halted then let (os, t) := s.memRead w 2048; (some os, t) else (none, s)
  | _, _ => let (os, t) := s.catVal r idx sub e; (some os, t)

/-- READ, WRITE, READ_RECORD and WRITE_RECORD of a session or of a mesh request (R267, R270, R271): the response, or none while a store
runs. A value longer than `room` octets does not fit its response. -/
def State.catRequest (op : Nat) (r : Realm) (idx sub : Nat) (value : Octets) (room : Nat) (a : Actor) (s : State) :
    Option (Status × Octets) × State :=
  let no := fun (e : Status) => (some (e, ([] : Octets)), s)
  let fit := fun (v : Octets × State) => if v.1.length ≤ room then (some (Status.ok, v.1), v.2) else no .badLength
  let wr := fun (w : Option Status × State) => (w.1.map (fun st => (st, ([] : Octets))), w.2)
  if !s.reachable r then no .wingUnavailable else
  match op with
  | 0x10 =>
    match r.entry idx sub with
    | none => no .noEntry
    | some e =>
      if a.role.rank < e.rd.rank then no .role else
      match s.readValue r idx sub e with | (none, _) => no .refused | (some v, t) => fit (v, t)
  | 0x11 =>
    match r.entry idx sub with
    | none => no .noEntry
    | some e => wr (s.catWrite r idx a none [{ sub := sub, ent := e, val := e.ty.wire value }] true)
  | 0x12 =>
    let es := (r.subs idx).filterMap (fun n => r.entry idx n)
    if es.isEmpty then no .noEntry
    else if es.any (fun e => decide (a.role.rank < e.rd.rank)) then no .role
    else if idx = 0x2822 then no .badLength
    else fit (s.catRecord r idx)
  | _ =>
    if (r.subs idx).isEmpty then no .noEntry
    else if (r.writables idx).isEmpty then no .readOnly
    else
      let (ps, ok) := recordPuts (r.writables idx) value
      wr (s.catWrite r idx a none ps ok)

end Sys2Proof.Machine
end

