-- ==== Sys2Proof/Machine/FeranOps.lean ====
section
/-! DEFINITION. What a wing's Curator carries out for Feran besides its Catalogue (R303, R305, R311 to R314): retiring and finding work,
staging, orders, and mesh Feran; and how it answers through the exchange buffer (R461). -/
namespace Sys2Proof.Machine
open Sys2Proof

/-- How a request is answered: STATUS, MORE and body; none when it is answered later. -/
abbrev Ans := Option (Status × Bool × Octets)

/-- A refusal. -/
def Ans.no (e : Status) : Ans := some (e, false, [])

/-- OK with a body. -/
def Ans.ok (body : Octets) : Ans := some (.ok, false, body)

/-- The longest body of a response: a message is at most 1,452 octets with its header and tag (R287). -/
abbrev bodyMax : Nat := 1424

/-- The exchange buffer of session `n` (R461). -/
def Wing.exchBuf (n : Nat) (x : Wing) : Nat := x.exchange.1 + 0x300 * n

/-- A notice (R461): of session `n`, with `len` octets in its buffer. -/
def State.notice (n len : Nat) (s : State) : List Word :=
  let x := s.port.sessions.get n
  [w16 (n + 8 * x.role.rank + 32 * (x.cred % 32)), w16 (len % 2048)]

/-- The Curator posts the notice of a response that stands in its buffer, or keeps it until the mailbox is FREE (R457, R461). -/
def State.postNotice (w n : Nat) (s : State) : State :=
  let x := s.wing w
  let m := 4 + n / 4
  if (x.mb m).state = .free then
    s.setWing w (x.mbSend m (s.notice n (12 + leNat (x.octets (x.exchBuf n) 8 2))))
  else s.setWing w { x with wrk := { x.wrk with replies := x.wrk.replies ++ [n] } }

/-- The Curator of wing `w` answers the request of session `n` that waits on it (R461): nothing if none does any more. -/
def State.wingRespond (w n : Nat) (st : Status) (more : Bool) (body : Octets) (s : State) : State :=
  match s.port.waits.find? (fun q => q.session == n && q.wing == w) with
  | none => s
  | some q =>
    let body := if st = .ok then body else []
    let h := feranHeader q.opcode n (1 + 4 * b2n more) q.seq body.length q.realm st.code
    (s.modWing w (fun x => x.putOctets (x.exchBuf n) 0 (h ++ body))).postNotice w n

/-- RETIRE (R240): only the wing that gave the accession numbers out retires. -/
def State.opRetire (w first last : Nat) (s : State) : Ans × State :=
  if s.role w = .standby then (.no .notActive, s) else
  let (n, low, s) := s.retire w first last
  (.ok (natLe 4 n ++ natLe 6 low), s)

/-- The descriptors already in the intake rings are finished, as far as the Curator may take them now (R242). -/
def State.intakeAll (w : Nat) (s : State) : State :=
  if s.mayIntake w then iter ((List.range 4).foldl (fun n r => n + ((s.wing w).ring r).count) 0) (State.intake w) s else s

/-- The descriptors that stood in the intake rings as the query arrived have all been taken (R242). -/
def Wing.queryReady (q : Query) (x : Wing) : Bool :=
  (List.range 4).all (fun r =>
    let n := ((q.puts.getD r 0) - (x.ring r).take).toNat
    decide (n = 0) || decide (4096 < n))

/-- The answer to a query (R242, R305): the items found, or NOT_FOUND. -/
def Wing.queryAnswer (q : Query) (x : Wing) : Status × Octets :=
  let hit := fun (i : Item) => !i.partner && i.cred == q.cred && (if q.mode = 0 then i.tag == q.key else i.acc == q.key)
  let l := (x.wrk.items.filter hit).take 16
  if l.isEmpty then (.notFound, []) else (.ok, o8 l.length :: l.flatMap (fun i => unpackW (i.final false)))

/-- ITEM_QUERY (R242, R305): it waits for the descriptors that the Curator cannot take yet. -/
def State.opQuery (w n mode key cred : Nat) (s : State) : Ans × State :=
  let q : Query := { session := n, mode := mode, key := key, cred := cred % 32, puts := (List.range 4).map (fun r => ((s.wing w).ring r).put) }
  let s := s.intakeAll w
  let x := s.wing w
  if x.queryReady q then let (st, b) := x.queryAnswer q; (some (st, false, b), s)
  else (none, s.modWing w (fun y => { y with wrk := { y.wrk with queries := y.wrk.queries ++ [q] } }))

/-- The queries whose descriptors have all been taken are answered (R242). -/
def State.queryPump (w : Nat) (s : State) : State :=
  let x := s.wing w
  let done := x.wrk.queries.filter (fun q => x.queryReady q)
  let s := s.modWing w (fun y => { y with wrk := { y.wrk with queries := y.wrk.queries.filter (fun q => !x.queryReady q) } })
  done.foldl (fun (t : State) q => let (st, b) := x.queryAnswer q; t.wingRespond w q.session st false b) s

/-- INTAKE_DESCRIPTOR (R222): the Curator takes the next intake descriptor, if it may, and the queries that waited for it go on (R242). -/
def execIntakeDescriptor (w : WingId) (s : State) : Out :=
  .next (if s.mayIntake w then (s.intake w).queryPump w else s)

/-- TWIN_BIND (R246): the standby takes its descriptor, and the queries that waited for it go on (R242). -/
def execTwinBind (w : WingId) (s : State) : Out := .next ((s.twinBind w).queryPump w)

/-- The PARTNER record of an accession number. -/
def Work.partnerRec (k : Work) (acc : Nat) : Option JRec := k.newest (fun r => r.typ == 2 && r.fld 0 6 == acc)

/-- The payload in a PARTNER record (R229). -/
def JRec.payload (r : JRec) : Octets := slice r.body 32 (r.fld 30 2)

/-- PARTNER_FETCH (R305). -/
def Wing.opFetch (acc off count : Nat) (x : Wing) : Ans :=
  if !x.wrk.items.any (fun i => i.partner && i.acc == acc) then .no .notFound else
  match x.wrk.partnerRec acc with
  | none => .no .notFound
  | some r => if bodyMax < count then .no .badLength else .ok (slice r.payload off count)

/-- A change of Staging disarms the update (R505). -/
def State.disarm (w : Nat) (s : State) : State :=
  let b := (s.wing w).tru.boot
  if bit b 3 then s.putBoot w (b - 8) else s

/-- Staging is protected (R371). -/
def Wing.stageShut (x : Wing) : Bool := x.fls.protect.getLsbD 3

/-- STAGE_ERASE (R303, R505): an ERASE of each sector of Staging. -/
def State.opStageErase (w n : Nat) (s : State) : Ans × State :=
  if (s.wing w).stageShut then (.no .refused, s) else
  (none, (s.modWing w (Wing.flsJob (some n) ((List.range 64).map (fun i =>
    { op := 2, tag := 0, addr := 0x4C0000 + 0x800 * i, buf := 0, lines := 0 })))).disarm w)

/-- STAGE_WRITE (R303, R505) of `len` octets: a PROGRAM of its lines from the exchange buffer, where the data follow the header and
OFFSET. -/
def State.opStageWrite (w n off len : Nat) (s : State) : Ans × State :=
  let x := s.wing w
  if off % 16 ≠ 0 || 262144 < off + len then (.no .range, s)
  else if x.stageShut then (.no .refused, s)
  else
    (none, (s.modWing w (Wing.flsJob (some n)
      [{ op := 1, tag := 0, addr := 0x4C0000 + off / 2, buf := x.exchBuf n + 8, lines := len / 16 }])).disarm w)

/-- STAGE_READ (R303). -/
def Wing.opStageRead (off count : Nat) (x : Wing) : Ans :=
  if 262144 < off + count then .no .range else if bodyMax < count then .no .badLength else .ok (x.fls.oct 384 off count)

/-- ORDER (R208, R313): the flood's descriptor goes on ring 11; the header and AUTH are filled at its first send (R192). -/
def State.opOrder (w : Nat) (body : Octets) (s : State) : Ans × State :=
  let cls := (body.getD 0 0).toNat
  if cls = 0 || 3 < cls then (.no .range, s) else
  let payload := [o8 (1 + 16 * cls), body.getD 10 0, 0, 0] ++ zeros 17 ++ slice body 1 9 ++ zeros 16
  let (ok, x) := (s.wing w).ownSend 0x400 (s.dataFrame w false none payload)
  (if ok then .ok [] else .no .ringFull, s.setWing w x)

/-- A mesh message of `len` octets of frame to record `nb` does not fit one frame (R140, R311). -/
def Wing.meshLong (nb len : Nat) (x : Wing) : Bool :=
  decide (2041 < len) ||
  x.tooLong { id := 0, ring := 1, nb := nb, bcast := false, ar := true, maxTries := 8, power := 0, buf := 0, len := len, given := false,
              yield := false, at_ := none, tag := 0 }

/-- FORWARD (R311, R312): answered when the RESPONSE arrives, or by the time-out. -/
def State.opForward (w : Nat) (q : WaitReq) (body : Octets) (s : State) : Ans × State :=
  let nb := leNat (body.take 2)
  let x := s.wing w
  let t := (s.port.trans + 1) % 65536
  let payload := meshMsg 1 t (body.drop 2)
  if 1024 ≤ nb || !(x.nb nb).valid then (.no .neighbourInvalid, s)
  else if x.meshLong nb (s.dataFrame w true (some (x.nb nb)) payload).length then (.no .badLength, s)
  else match s.meshSend w nb payload with
  | (false, s) => (.no .ringFull, s)
  | (true, s) => (none, { s with port := { s.port with
      trans := t, fwds := s.port.fwds ++ [{ session := q.session, seq := q.seq, wing := w, nb := nb, trans := t }] } })

/-- A FORWARD ends: with its RESPONSE, or with TIMEOUT. -/
def State.forwardEnd (f : Fwd) (st : Status) (body : Octets) (s : State) : State :=
  ({ s with port := { s.port with fwds := s.port.fwds.filter (· ≠ f) } }).wingRespond f.wing f.session st false body

/-- A RESPONSE goes to neighbour `nb` (R312). -/
def State.meshReply (w nb trans : Nat) (st : Status) (value : Octets) (s : State) : State :=
  (s.meshSend w nb (meshMsg 2 trans ([o8 st.code] ++ natLe 2 value.length ++ value))).2

/-- A REQUEST of neighbour `nb` is carried out (R312). -/
def State.meshRequest (w nb trans : Nat) (b : Octets) (s : State) : State :=
  let op := (b.getD 0 0).toNat
  let value := b.drop 7
  if s.port.num (dpKey true 0x1190 1) 1 = 0 then s.meshReply w nb trans .role []
  else if b.length < 7 || value.length ≠ leNat (slice b 5 2) || op < 0x10 || 0x13 < op then s.meshReply w nb trans .badMessage []
  else
    let role : SRole := if s.port.num (dpKey true 0x1190 2) 0 = 1 then .operator else .observer
    match realmOf (b.getD 1 0).toNat with
    | none => s.meshReply w nb trans .noEntry []
    | some r =>
      match s.catRequest op r (leNat (slice b 2 2)) (b.getD 4 0).toNat value bodyMax { role := role, who := some (8 + nb + 1024 * trans + 2 ^ 26 * w) } with
      | (none, t) => t
      | (some (st, os), t) =>
        let long := (s.wing w).meshLong nb (s.dataFrame w true (some ((s.wing w).nb nb)) (meshMsg 2 trans (zeros 3 ++ os))).length
        if long then s.meshReply w nb trans .badLength [] else t.meshReply w nb trans st os

/-- A BARRIER_CONFIRM of child `nb` (R213, R313). One that comes before this wing has run the order waits for it, of the newest 1,024 such. -/
def Mesh.confirm (nb : Nat) (b : Octets) (m : Mesh) : Mesh :=
  let f := fun off => leNat (slice b off 2)
  if !m.barriers.any (fun c => c.oid == f 0) then
    let l := m.early.filter (fun e => !(e.1 == f 0 && e.2.1 == nb)) ++ [(f 0, nb, f 2, f 4)]
    { m with early := l.drop (l.length - 1024) }
  else { m with barriers := m.barriers.map (fun (c : Barrier) =>
      if c.oid = f 0 && !c.heard.any (fun h => h.1 == nb) then { c with heard := c.heard ++ [(nb, f 2, f 4)] } else c) }

/-- The payload of a partner item that is a mesh Feran message whose report has been released (R311). -/
def Wing.meshItem (i : Item) (x : Wing) : Option Octets :=
  if !(i.partner && i.released) then none else
  match x.wrk.partnerRec i.acc with
  | none => none
  | some r => if r.payload.getD 0 0 = 0xF5 then some r.payload else none

/-- The Curator executes the mesh Feran message of partner item `i`, and retires it (R311, R312, R314). -/
def State.meshFeran (w : Nat) (i : Item) (p : Octets) (s : State) : State :=
  let trans := leNat (slice p 2 2)
  let b := p.drop 4
  let s := match (p.getD 1 0).toNat with
    | 1 => s.meshRequest w i.nb trans b
    | 2 =>
      match s.port.fwds.find? (fun (f : Fwd) => f.wing == w && f.nb == i.nb && f.trans == trans) with
      | none => s
      | some f => s.forwardEnd f .ok b
    | 3 => s.censusPass w b
    | 4 => s.modWing w (fun x => { x with msh := x.msh.confirm i.nb b })
    | _ => s
  (s.retire w i.acc i.acc).2.2

/-- The answers of those who waited for a store or a job of the flash (R279, R303, R395): sessions by `f`, neighbours by a mesh RESPONSE. -/
def State.storeAnswer (who : List Nat) (st : Status) (f : Nat → State → State) (s : State) : State :=
  who.foldl (fun (t : State) n =>
    if n < 8 then f n t else t.meshReply ((n - 8) / 2 ^ 26) ((n - 8) % 1024) ((n - 8) / 1024 % 65536) st []) s

/-- The Curator's descriptors go on, and the requests whose descriptors have all ended are answered (R303, R395, R397). -/
def State.jobPump (w : Nat) (s : State) : State :=
  let s := s.modWing w (fun x => { x with fls := x.fls.feed })
  let f := (s.wing w).fls
  let s := s.modWing w (fun x => { x with fls := { x.fls with jobs := x.fls.jobs.filter (fun e => f.working e.job) } })
  (f.jobs.filter (fun e => !f.working e.job)).foldl (fun (t : State) e =>
    t.storeAnswer e.who.toList e.status (fun n u => u.wingRespond w n e.status false [])) s

/-- FLASH_PROGRAM (R376): the PROGRAM descriptor at the front is checked and its first line begins. -/
def execFlashProgram (w : WingId) (s : State) : Out :=
  .next ((s.flsStep w (fun _ => Wing.flsStart 1 (fun d y => y.flsLine { desc := d }))).jobPump w)

/-- FLASH_ERASE (R379): the ERASE descriptor at the front is checked, counted, and its first sub-pulse begins. -/
def execFlashErase (w : WingId) (s : State) : Out :=
  .next ((s.flsStep w (fun _ => Wing.flsStart 2 (fun d y =>
    ({ y with fls := { y.fls.countErase ((y.fls.sector d.addr).getD 0) with
        run := some { desc := d, pulse := .erase 1 } } }, [])))).jobPump w)

/-- PROGRAM_PULSE_DONE (R376): a program pulse ends; `sensed` tells whether every programmed cell reads set. -/
def execProgramPulseDone (w : WingId) (sensed : Bool) (s : State) : Out :=
  .next ((s.flsStep w (fun k => Wing.flsPulse k sensed)).jobPump w)

/-- ERASE_SUBPULSE_DONE (R379): `sensed` tells whether every cell of the sector is erased. -/
def execEraseSubpulseDone (w : WingId) (sensed : Bool) (s : State) : Out :=
  .next ((s.flsStep w (fun k => Wing.flsSub k sensed)).jobPump w)

/-- OPT_PROGRAM (R394). -/
def execOptProgram (w : WingId) (s : State) : Out :=
  .next ((s.flsStep w (fun _ => Wing.flsStart 5 (fun d y => y.flsLine { desc := d }))).jobPump w)

/-- OPT_ERASE (R394). -/
def execOptErase (w : WingId) (s : State) : Out :=
  .next ((s.flsStep w (fun _ => Wing.flsStart 6 (fun d y =>
    ({ y with fls := { y.fls.countErase (1024 + d.addr / 0x800) with
        run := some { desc := d, pulse := .erase 1 } } }, [])))).jobPump w)

/-- OPT_LOCK (R394): the INTENT pulse of the lock line begins. -/
def execOptLock (w : WingId) (s : State) : Out :=
  .next ((s.flsStep w (fun _ => Wing.flsStart 7 (fun d y => y.flsLine { desc := d }))).jobPump w)

end Sys2Proof.Machine
end

