-- ==== Sys2Proof/Machine/Domain.lean ====
section
/-! DEFINITION. DOMAIN transfers of a session (R274, R275, R303). -/
namespace Sys2Proof.Machine
open Sys2Proof

/-- A transfer is of the entry. -/
def Transfer.isOf (r : Realm) (idx sub : Nat) (t : Transfer) : Bool := t.realm == r.code && t.index == idx && t.sub == sub

/-- Change the transfers of session `n`. -/
def State.modTransfers (n : Nat) (f : List Transfer → List Transfer) (s : State) : State :=
  s.modSession n (fun (x : Session) => { x with transfers := f x.transfers })

/-- The checks 3 to 7 of R267 for the begin of a write of `len` octets by session `n`, and the limit of two transfers (R274, R303). -/
def State.beginCheck (r : Realm) (idx sub : Nat) (e : Ent) (n len : Nat) (s : State) : Option Status :=
  let x := s.port.sessions.get n
  let stopped := match r with | .wing w => decide ((s.wing w).sys.state = .stopped) | _ => true
  let locked := match r with | .wing w => (s.wing w).fls.locked | _ => false
  if !e.writable then some .readOnly
  else if x.role.rank < e.wr.rank then some .role
  else if e.acc == .rws && !stopped then some .notStopped
  else if e.acc == .wl && locked then some .locked
  else if s.heldEntry r idx sub (some n) || decide (2 ≤ (x.transfers.filter (fun t => !t.timedOut && !t.isOf r idx sub)).length) then some .busy
  else if !e.ty.fits len then some .badLength
  else none

/-- A transfer of the entry begins; an older one of the same entry is abandoned (R274). -/
def State.beginTransfer (n : Nat) (r : Realm) (t : Transfer) (s : State) : State :=
  s.modTransfers n (fun l => l.filter (fun o => !o.isOf r t.index t.sub) ++ [t])

/-- DOMAIN_BEGIN: `wr` a write of `len` octets. -/
def State.domainBegin (n : Nat) (r : Realm) (idx sub : Nat) (e : Ent) (wr : Bool) (len : Nat) (s : State) : Ans × State :=
  let t : Transfer := { realm := r.code, index := idx, sub := sub, write := wr, length := len }
  let x := s.port.sessions.get n
  if wr then
    match s.beginCheck r idx sub e n len with
    | some st => (.no st, s)
    | none => (.ok [], s.beginTransfer n r t)
  else if x.role.rank < e.rd.rank then (.no .role, s)
  else if 2 ≤ (x.transfers.filter (fun o => !o.timedOut && !o.isOf r idx sub)).length then (.no .busy, s)
  else
    match (s.readValue r idx sub e).1 with
    | none => (.no .refused, s)
    | some v => (.ok (natLe 4 v.length), s.beginTransfer n r { t with length := v.length })

/-- The open transfer of session `n` on the entry, or the refusal of R274. -/
def State.transferOf (n : Nat) (r : Realm) (idx sub : Nat) (s : State) : Except Status Transfer :=
  match (s.port.sessions.get n).transfers.find? (fun (t : Transfer) => t.isOf r idx sub) with
  | none => .error .refused
  | some t => if t.timedOut then .error .timeout else .ok t

/-- Put `t` in place of the transfer of its entry. -/
def State.putTransfer (n : Nat) (r : Realm) (t : Transfer) (s : State) : State :=
  s.modTransfers n (fun l => l.map (fun o => if o.isOf r t.index t.sub then t else o))

/-- End the transfer of an entry. -/
def State.endTransfer (n : Nat) (r : Realm) (idx sub : Nat) (s : State) : State :=
  s.modTransfers n (fun l => l.filter (fun o => !o.isOf r idx sub))

/-- `k` octets of a transfer from `off`: 256 stands for an octet that has not been written. -/
def Transfer.octets (off k : Nat) (t : Transfer) : Octets := (tgets 256 t.data off k).map o8

/-- DOMAIN_BLOCK of a write. -/
def State.blockWrite (n : Nat) (r : Realm) (t : Transfer) (off : Nat) (data : Octets) (s : State) : Ans × State :=
  if t.length < off + data.length then (.no .badLength, s)
  else (.ok [], s.putTransfer n r { t with data := tputs 256 off (data.map (fun o => o.toNat)) t.data })

/-- DOMAIN_BLOCK of a read: the value is copied at the first block (R275). -/
def State.blockRead (n : Nat) (r : Realm) (e : Ent) (t : Transfer) (off count : Nat) (s : State) : Ans × State :=
  let (copied, s) := if t.taken then (some t, s) else
    match s.readValue r t.index t.sub e with
    | (none, _) => (none, s)
    | (some v, u) => (some { t with taken := true, length := v.length, data := tputs 256 0 (v.map (fun o => o.toNat)) [] }, u)
  match copied with
  | none => (.no .refused, s)
  | some t =>
    if 1024 < count || t.length < off then (.no .badLength, s.putTransfer n r t) else
    let k := min count (t.length - off)
    let more := decide (off + k < t.length)
    (some (.ok, more, t.octets off k), if more then s.putTransfer n r t else s.endTransfer n r t.index t.sub)

/-- DOMAIN_BLOCK: data for a write, COUNT for a read. -/
def State.domainBlock (n : Nat) (r : Realm) (idx sub : Nat) (e : Ent) (off : Nat) (rest : Octets) (s : State) : Ans × State :=
  match s.transferOf n r idx sub with
  | .error st => (.no st, s)
  | .ok t =>
    if t.write then s.blockWrite n r t off rest
    else if rest.length = 2 then s.blockRead n r e t off (leNat rest) else (.no .badMessage, s)

/-- DOMAIN_END: the value is committed if every octet has been written (R274); a transfer whose commit is refused stays open. -/
def State.domainEnd (n : Nat) (r : Realm) (idx sub : Nat) (e : Ent) (s : State) : Ans × State :=
  match s.transferOf n r idx sub with
  | .error st => (.no st, s)
  | .ok t =>
    if !t.write then (.ok [], s.endTransfer n r idx sub)
    else if t.data.length ≠ t.length then (.no .badLength, s)
    else
      let v := t.octets 0 t.length
      let a : Actor := { role := (s.port.sessions.get n).role, who := some n }
      match s.catWrite r idx a (some n) [{ sub := sub, ent := e, val := e.ty.wire v }] true with
      | (none, u) => (none, u.endTransfer n r idx sub)
      | (some .ok, u) => (.ok [], u.endTransfer n r idx sub)
      | (some st, u) => (.no st, u)

/-- The DOMAIN operations of session `n` (R274): opcode 0x14, 0x15 or 0x16 with its body. -/
def State.opDomain (op n : Nat) (r : Realm) (body : Octets) (s : State) : Ans × State :=
  let idx := leNat (body.take 2)
  let sub := (body.getD 2 0).toNat
  if !s.reachable r then (.no .wingUnavailable, s) else
  match r.entry idx sub with
  | none => (.no .noEntry, s)
  | some e =>
    match e.ty with
    | .domain _ _ =>
      match op with
      | 0x14 => s.domainBegin n r idx sub e (body.getD 3 0 = 0) (leNat (slice body 4 4))
      | 0x15 => s.domainBlock n r idx sub e (leNat (slice body 3 4)) (body.drop 7)
      | _ => s.domainEnd n r idx sub e
    | _ => (.no .badMessage, s)

/-- DOMAIN_TRANSFER_TIMEOUT (R274, R303): no block of the transfer has arrived in time. -/
def execDomainTransferTimeout (session : Fin 8) (realm : Realm) (index : Word) (sub : Octet) (s : State) : Out :=
  .next (s.modTransfers session (fun l => l.map (fun (t : Transfer) =>
    if t.isOf realm index.toNat sub.toNat then { t with timedOut := true, data := [] } else t)))

end Sys2Proof.Machine
end

