-- ==== Sys2Proof/Machine/Feran.lean ====
section
/-! DEFINITION. Requests of the open sessions (R292 to R297): the checks of the port, the delivery to a wing through its mailboxes
(R461) or to the port's own realms, and the answers. -/
namespace Sys2Proof.Machine
open Sys2Proof

/-- The length of a body fits its opcode (R294, R304). -/
def bodyFits (op : Nat) (b : Octets) : Bool :=
  let n := b.length
  let at_ := fun (i : Nat) => (b.getD i 0).toNat
  match op with
  | 0x03 => n == 0 | 0x04 => n == 0 | 0x10 => n == 3 | 0x11 => decide (3 ≤ n) | 0x12 => n == 2 | 0x13 => decide (2 ≤ n)
  | 0x14 => if at_ 3 = 0 then n == 8 else n == 4 && at_ 3 == 1
  | 0x15 => decide (8 ≤ n) && decide (n ≤ 1031)
  | 0x16 => n == 3
  | 0x20 => decide (15 ≤ n) && n == 15 + leNat (slice b 13 2) && decide (at_ 0 < 4)
  | 0x21 => n == 12 | 0x22 => n == 7 && decide (at_ 0 ≤ 1) | 0x23 => n == 10 | 0x28 => n == 0 | 0x30 => n == 1 | 0x31 => n == 9
  | 0x38 => n == 11
  | 0x39 => decide (9 ≤ n) && n == 9 + leNat (slice b 7 2)
  | 0x3A => n == 0
  | 0x3B => decide (20 ≤ n) && decide (n ≤ 1028) && n % 16 == 4
  | 0x3C => n == 6 | 0x40 => n == 3
  | _ => false

/-- The REALM an opcode takes: of the port alone, of a wing, or any (R294). -/
def realmFits (op realm : Nat) : Bool :=
  if op = 0x30 || op = 0x31 || op = 0x40 then realm == 0xE
  else if 0x20 ≤ op then (match realmOf realm with | some (.wing _) => true | none => true | _ => false)
  else true

/-- The lowest role that may send an opcode (R294); the Catalogue's opcodes have the roles of their entries. -/
def opRole (op : Nat) : SRole :=
  match op with
  | 0x20 => .operator | 0x21 => .operator | 0x22 => .operator | 0x30 => .operator | 0x39 => .operator
  | 0x28 => .keeper | 0x31 => .keeper | 0x38 => .keeper | 0x3A => .keeper | 0x3B => .keeper | 0x3C => .keeper
  | _ => .observer

/-- A message is dropped and counted (R296). -/
def State.feranDrop (s : State) : State := { s with port := { s.port with dropped := wrap32 s.port.dropped } }

/-- The request no longer waits, and is answered. -/
def State.finish (q : WaitReq) (st : Status) (more : Bool) (body : Octets) (s : State) : State :=
  let gone := fun (l : List WaitReq) => l.filter (fun r => !(r.session == q.session && r.wing == q.wing && r.seq == q.seq))
  ({ s with port := { s.port with waits := gone s.port.waits } }).reply q st more body

/-- The Catalogue's operations of a session (R267): answered later where a store answers. -/
def State.opCatalogue (q : WaitReq) (r : Realm) (body : Octets) (s : State) : Ans × State :=
  let a : Actor := { role := (s.port.sessions.get q.session).role, who := some q.session }
  let one := q.opcode = 0x10 || q.opcode = 0x11
  let (res, t) := s.catRequest q.opcode r (leNat (body.take 2)) (if one then (body.getD 2 0).toNat else 0)
    (body.drop (if one then 3 else 2)) bodyMax a
  (res.map (fun p => (p.1, false, p.2)), t)

/-- What the Curator of wing `w` does with a request (R461). -/
def State.wingRun (q : WaitReq) (w : Nat) (body : Octets) (s : State) : Ans × State :=
  let n := fun off k => leNat (slice body off k)
  let x := s.port.sessions.get q.session
  match q.opcode with
  | 0x21 => s.opRetire w (n 0 6) (n 6 6)
  | 0x22 => s.opQuery w q.session (n 0 1) (n 1 6) x.cred
  | 0x23 => ((s.wing w).opFetch (n 0 6) (n 6 2) (n 8 2), s)
  | 0x38 => s.opOrder w body
  | 0x39 => s.opForward w q body
  | 0x3A => s.opStageErase w q.session
  | 0x3B => s.opStageWrite w q.session (n 0 4) (body.length - 4)
  | 0x3C => ((s.wing w).opStageRead (n 0 4) (n 4 2), s)
  | op =>
    let r := Realm.wing (Fin.ofNat 8 q.realm)
    if 0x14 ≤ op then s.opDomain op q.session r body else s.opCatalogue q r body

/-- The entry of wing `w` in the census response, and the wing as the strobe leaves it (R26, R308). -/
def State.censusWing (mask w : Nat) (s : State) : Octets × State :=
  let x := s.wing w
  let gone := match x.sys.state with | .reset => true | .boot => true | _ => false
  if gone || !bit mask w then ([o8 (128 + x.sys.state.code)] ++ zeros 13, s) else
  ([o8 x.sys.state.code] ++ natLe 8 x.now ++ natLe 5 x.lnk.asn,
    s.modWing w (fun y => { (y.raise 60).carEvent 9 with win := { ts := x.now, asn := x.lnk.asn, count := (x.win.count + 1) % 65536 } }))

/-- The next edge of REF, for a strobe (R26, R308): the count of REF periods goes on by at least one, by how many is free (log 7). -/
def State.refEdge (s : State) : State :=
  let (v, s) := s.draw
  { s with dome := { s.dome with refCount := s.dome.refCount + BitVec.ofNat 64 (v.toNat + 1) } }

/-- CENSUS (R26, R308): the strobe needs an edge of REF. -/
def State.opCensus (mask : Nat) (s : State) : Ans × State :=
  if s.dome.refLost then (.no .refused, s) else
  let s := s.refEdge
  let (os, s) := (List.range 8).foldl (fun (a : Octets × State) w =>
    let (o, t) := a.2.censusWing mask w
    (a.1 ++ o, t)) (natLe 8 s.dome.refCount.toNat, s)
  (.ok os, { s with port := { s.port with lastCensus := os } })

/-- ALIGN (R26, R309). -/
def State.opAlign (mask value : Nat) (s : State) : Ans × State :=
  let ws := (List.range 8).filter (bit mask)
  if s.dome.refLost then (.no .refused, s)
  else if ws.any (fun w => decide ((s.wing w).sys.state ≠ .stopped)) then (.no .notStopped, s)
  else
    let s := s.refEdge
    let s := ws.foldl (fun (t : State) w => t.modWing w (Wing.alignLoad value)) s
    (.ok (o8 mask :: natLe 8 s.dome.refCount.toNat), { s with port := { s.port with aligns := wrap32 s.port.aligns } })

/-- SUBSCRIBE of session `n` (R307), and the BROWNOUT event that its first DOME brings (R542). -/
def State.opSubscribe (n classes wings : Nat) (s : State) : Ans × State :=
  let s := s.modSession n (fun (x : Session) => { x with classes := w16 classes, wings := o8 wings })
  if bit classes 3 && s.port.afterBrownout && !(s.port.sessions.get n).brownoutTold then
    let s := s.modSession n (fun (x : Session) => { x with brownoutTold := true })
    (.ok [], s.eventTo (fun m _ => m == n) false 3 0xFF 1 (natLe 4 s.dome.brownouts ++ [o8 (b2n s.dome.holdupShort)]))
  else (.ok [], s)

/-- What the port does with a request for realm D or P. -/
def State.portRun (q : WaitReq) (body : Octets) (s : State) : Ans × State :=
  let r : Realm := if q.wing = 0xD then .dome else .port
  match q.opcode with
  | 0x30 => s.opCensus (body.getD 0 0).toNat
  | 0x31 => s.opAlign (body.getD 0 0).toNat (leNat (slice body 1 8))
  | 0x40 => s.opSubscribe q.session (leNat (body.take 2)) (body.getD 2 0).toNat
  | op => if 0x14 ≤ op then s.opDomain op q.session r body else s.opCatalogue q r body

/-- The standby's intake ring stands where the active's does, once empty: a submission has the same index in both (R246: DEDUCED,
log 33). -/
def Wing.ringAt (r : Nat) (idx : Word) (x : Wing) : Wing :=
  let g := x.ring r
  if g.count = 0 then x.setRing r { g with put := idx, take := idx, pass := idx } else x

/-- The port writes a submission to intake ring `r`: the frame into the buffer of its slot, and the descriptor (R221, R304). -/
def Wing.submitPut (r : Nat) (session cred : Nat) (b : Octets) (x : Wing) : Wing :=
  let g := x.ring r
  let a := g.ibuf + 128 * (g.put.toNat % g.depth)
  let n := fun off k => leNat (slice b off k)
  let d := [w16 (n 1 2 % 1024 + 4096 * (n 3 1 % 16)), w16 a, w16 (a / 65536 % 256 + 256 * n 5 1), w16 (n 13 2 % 512 + 512 * (n 6 1 % 2)),
    w16 (session + 8 * (cred % 32) + 256 * n 4 1), w16 (n 9 2), w16 (n 11 2), w16 (n 7 2)]
  ((x.putOctets a 0 (b.drop 15)).publish r true d).2

/-- SUBMIT (R18, R304, R246): answered by the wing's report. -/
def State.submit (q : WaitReq) (b : Octets) (s : State) : State :=
  let r := (b.getD 0 0).toNat
  let len := leNat (slice b 13 2)
  let cred := (s.port.sessions.get q.session).cred
  let twin := if s.pairState q.wing = .dual then s.twin q.wing else none
  let ws := q.wing :: twin.toList
  let x := s.wing q.wing
  if len < 12 || 256 < len then s.finish q .badFrame false []
  else if ws.any (fun w => !(s.wing w).live) then s.finish q .wingUnavailable false []
  else if ws.any (fun w => ((s.wing w).ring r).full) then s.finish q .ringFull false []
  else if !x.wrk.open_ then s.finish q .intakeClosed false []
  else
    let idx := (x.ring r).put
    let s := ws.foldl (fun (t : State) w => t.modWing w (fun y => (y.ringAt r idx).submitPut r q.session cred b)) s
    let mark := fun (p : WaitReq) => if p = q then { p with ring := r, index := idx.toNat, tag := leNat (slice b 9 4) } else p
    { s with port := { s.port with waits := s.port.waits.map mark } }

/-- The port delivers a request that may go on now (R297, R461). -/
def State.deliver (q : WaitReq) (body : Octets) (s : State) : State :=
  let s := { s with port := { s.port with waits := s.port.waits ++ [q] } }
  let w := q.wing
  let done := fun (r : Ans × State) =>
    match r with | (none, t) => t | (some (st, more, b), t) => t.finish q st more b
  if 8 ≤ w then done (s.portRun q body)
  else if q.opcode = 0x20 then s.submit q body
  else if q.opcode = 0x28 then
    -- no reset source asserts in a FAULTED wing (R61)
    if (s.wing w).sys.state = .faulted then s.finish q .wingUnavailable false [] else (s.finish q .ok false []).enterReset w .host
  else
    let x := s.wing w
    let m := q.session % 4
    if !x.live then s.finish q .wingUnavailable false []
    else if (x.mb m).state ≠ .free then s.finish q .ringFull false []
    else
      let h := feranHeader q.opcode q.session 0 q.seq body.length q.realm 0
      let x := x.putOctets (x.exchBuf q.session) 0 (h ++ body)
      let x := (x.mbDeliver m (.session q.session) (o8 (0x10 + q.session)) (s.notice q.session (12 + body.length))).mbEnd m 0
      match (s.setWing w x).wingRun q w body with
      | (none, t) => t
      | (some (st, more, b), t) => t.wingRespond w q.session st more b

/-- Request `q` waits for `p`: of the same session, to the same realm (R297) or to the same wing (R461). -/
def WaitReq.after (q p : WaitReq) : Bool := p.session == q.session && (p.wing == q.wing || p.realm == q.realm)

/-- The first queued request of session `n` that waits for none of the requests `before` it. -/
def nextReq (n : Nat) : List WaitReq → List (WaitReq × Octets) → Option (WaitReq × Octets)
  | _, [] => none
  | before, e :: l => if e.1.session = n && !before.any e.1.after then some e else nextReq n (before ++ [e.1]) l

/-- The next queued request is delivered: the sessions take turns, in session order (R297). -/
def State.pumpOne (s : State) : State :=
  match (List.range 8).findSome? (fun k => nextReq ((s.port.turn + k) % 8) s.port.waits s.port.queue) with
  | none => s
  | some e => ({ s with port := { s.port with queue := s.port.queue.erase e, turn := (e.1.session + 1) % 8 } }).deliver e.1 e.2

/-- Queued requests go on. -/
def State.pump (s : State) : State := iter s.port.queue.length State.pumpOne s

/-- Where a request is delivered: writes that go to both wings of a pair go to the ACTIVE wing first, and so does a submission to a DUAL
pair (R246, R281). A write of STOP_REQUEST to a wing that is up, whose ACTIVE wing is not, is refused as that of a pair (R283). -/
def State.target (op : Nat) (r : Realm) (body : Octets) (s : State) : Nat :=
  match r with
  | .wing w =>
    let dual := ((op = 0x11 || op = 0x13) && dualIndex (leNat (body.take 2))) || (op = 0x20 && s.pairState w = .dual)
    match (if dual then s.pairOf w else none) with
    | some p =>
      let h := (s.port.pair p).head
      if leNat (body.take 2) = 0x2000 && (op = 0x11 || op = 0x13) && !(s.wing h).live then w else h
    | none => w
  | r => r.code

/-- A request that has passed the port's checks (R296) is carried out, or waits for its session's previous one (R297). -/
def State.carryOut (q : WaitReq) (body : Octets) (s : State) : State :=
  match q.opcode with
  | 0x03 => (s.reply q .ok false []).closeSession q.session
  | 0x04 => s.reply q .ok false []
  | op =>
    match realmOf q.realm with
    | none => s.reply q .noEntry false []
    | some r =>
      let q := { q with wing := s.target op r body }
      if s.port.waits.any q.after || s.port.queue.any (fun (e : WaitReq × Octets) => q.after e.1) then
        { s with port := { s.port with queue := s.port.queue ++ [(q, body)] } }
      else s.deliver q body

/-- The requests of session `n` that are not answered: those carried out, and on SPI those whose response has not been read (R296, log 33). -/
def State.unanswered (n : Nat) (s : State) : Nat :=
  (s.port.sessions.get n).waiting.length +
    (s.port.out.filter (fun (m : OutMsg) => m.session == n && bit (m.data.getD 3 0).toNat 0)).length

/-- The source address and UDP port of a request are those of `p` (R296). -/
def samePeer (p q : Octets) : Bool := slice p 6 18 = slice q 6 18

/-- A SEQ is received in a session (R296): those more than 63 below the highest are forgotten. -/
def Session.receive (seq : Nat) (peer : Octets) (x : Session) : Session :=
  let h := max seq (x.highest.getD 0)
  { x with highest := some h, seen := (seq :: x.seen).filter (fun k => decide (h < k + 64)), peer := peer, waiting := x.waiting ++ [seq] }

/-- A request reaches the port: checks 2 to 9 of R296, and what it asks. `auth`: its tag verifies. -/
def State.request (n seq op realm : Nat) (auth : Bool) (peer body : Octets) (s : State) : State :=
  let x := s.port.sessions.get n
  if s.port.powerFail then s
  else if !s.port.imageFinal then s.replyBare n op seq realm peer .notReady
  else if !(n < 8 && x.isOpen) then s.replyBare n op seq realm peer .noSession
  else if (!s.spi && !samePeer peer x.peer) || (!x.prov && !auth) then s.feranDrop
  else
    match x.cache.find? (fun (c : Nat × Octets) => c.1 == seq) with
    | some (_, m) => s.emit n peer m
    | none =>
      let old := match x.highest with | none => false | some h => decide (seq + 64 ≤ h)
      if x.seen.contains seq || old then s.feranDrop else
      let full := decide (8 ≤ s.unanswered n)
      let s := s.modSession n (Session.receive seq peer)
      let q : WaitReq := { session := n, seq := seq, opcode := op, realm := realm, wing := 0xF }
      if full then s.reply q .outstanding false []
      else if !(bodyFits op body && realmFits op realm) then s.reply q .badMessage false []
      else if x.role.rank < (opRole op).rank then s.reply q .role false []
      else s.carryOut q body

/-- A request row of the table: the message as its session sends it. -/
def State.ask (rq : Req) (op : Nat) (realm : Realm) (body : Octets) (s : State) : Out :=
  .next ((s.request rq.session rq.seq op realm.code rq.auth rq.peer body).pump)

/-- A WRITE of one value to a wing. -/
def State.askWrite (rq : Req) (w : WingId) (idx sub : Nat) (value : Octets) (s : State) : Out :=
  s.ask rq 0x11 (.wing w) (natLe 2 idx ++ [o8 sub] ++ value)

/-- CLOSE (R302). -/
def execClose (rq : Req) (s : State) : Out := s.ask rq 0x03 .port []

/-- PING (R294). -/
def execPing (rq : Req) (s : State) : Out := s.ask rq 0x04 .port []

/-- READ (R267). -/
def execRead (rq : Req) (realm : Realm) (index : Word) (sub : Octet) (s : State) : Out :=
  s.ask rq 0x10 realm (natLe 2 index.toNat ++ [sub])

/-- WRITE (R267, R268). -/
def execWrite (rq : Req) (realm : Realm) (index : Word) (sub : Octet) (value : Octets) (s : State) : Out :=
  s.ask rq 0x11 realm (natLe 2 index.toNat ++ [sub] ++ value)

/-- READ_RECORD (R270). -/
def execReadRecord (rq : Req) (realm : Realm) (index : Word) (s : State) : Out := s.ask rq 0x12 realm (natLe 2 index.toNat)

/-- WRITE_RECORD (R271). -/
def execWriteRecord (rq : Req) (realm : Realm) (index : Word) (value : Octets) (s : State) : Out :=
  s.ask rq 0x13 realm (natLe 2 index.toNat ++ value)

/-- DOMAIN_BEGIN (R274). -/
def execDomainBegin (rq : Req) (realm : Realm) (index : Word) (sub : Octet) (wr : Bool) (length : Nat) (s : State) : Out :=
  s.ask rq 0x14 realm (natLe 2 index.toNat ++ [sub] ++ (if wr then 0 :: natLe 4 length else [1]))

/-- DOMAIN_BLOCK (R274, R275): `value` for a write, `count` for a read (an empty `value`). -/
def execDomainBlock (rq : Req) (realm : Realm) (index : Word) (sub : Octet) (offset count : Nat) (value : Octets) (s : State) : Out :=
  s.ask rq 0x15 realm (natLe 2 index.toNat ++ [sub] ++ natLe 4 offset ++ (if value.isEmpty then natLe 2 count else value))

/-- DOMAIN_END (R274). -/
def execDomainEnd (rq : Req) (realm : Realm) (index : Word) (sub : Octet) (s : State) : Out :=
  s.ask rq 0x16 realm (natLe 2 index.toNat ++ [sub])

/-- The body of a SUBMIT (R304). -/
def SubmitBody.octets (i : SubmitBody) : Octets :=
  [i.ring] ++ natLe 2 i.neighbour.toNat ++ [i.maxTries, i.attempts, i.power, i.lanePolicy] ++ natLe 2 i.deadline.toNat ++
    natLe 4 i.tag.toNat ++ natLe 2 i.frame.length ++ i.frame

/-- SUBMIT (R304). -/
def execSubmit (rq : Req) (w : WingId) (item : SubmitBody) (s : State) : Out := s.ask rq 0x20 (.wing w) item.octets

/-- RETIRE (R240, R305). -/
def execRetire (rq : Req) (w : WingId) (first last : BitVec 48) (s : State) : Out :=
  s.ask rq 0x21 (.wing w) (natLe 6 first.toNat ++ natLe 6 last.toNat)

/-- ITEM_QUERY (R242, R305). -/
def execItemQuery (rq : Req) (w : WingId) (mode : Octet) (key : BitVec 48) (s : State) : Out :=
  s.ask rq 0x22 (.wing w) (mode :: natLe 6 key.toNat)

/-- PARTNER_FETCH (R305). -/
def execPartnerFetch (rq : Req) (w : WingId) (acc : BitVec 48) (offset count : Word) (s : State) : Out :=
  s.ask rq 0x23 (.wing w) (natLe 6 acc.toNat ++ natLe 2 offset.toNat ++ natLe 2 count.toNat)

/-- WING_RESET (R60). -/
def execWingReset (rq : Req) (w : WingId) (s : State) : Out := s.ask rq 0x28 (.wing w) []

/-- CENSUS (R308). -/
def execCensus (rq : Req) (mask : BitVec 8) (s : State) : Out := s.ask rq 0x30 .port [mask]

/-- ALIGN (R309). -/
def execAlign (rq : Req) (mask : BitVec 8) (value : BitVec 64) (s : State) : Out := s.ask rq 0x31 .port (mask :: natLe 8 value.toNat)

/-- ORDER (R313). -/
def execOrder (rq : Req) (w : WingId) (cls : Octet) (asn : BitVec 40) (oid : Word) (action param ttl : Octet) (s : State) : Out :=
  s.ask rq 0x38 (.wing w) ([cls] ++ natLe 5 asn.toNat ++ natLe 2 oid.toNat ++ [action, param, ttl])

/-- FORWARD (R312). -/
def execForward (rq : Req) (w : WingId) (nb : Word) (opcode realm : Octet) (index : Word) (sub : Octet) (value : Octets) (s : State) : Out :=
  s.ask rq 0x39 (.wing w) (natLe 2 nb.toNat ++ [opcode, realm] ++ natLe 2 index.toNat ++ [sub] ++ natLe 2 value.length ++ value)

/-- FORWARD_TIMEOUT (R312): FORWARD_TIMEOUT_SF superframes have passed. -/
def execForwardTimeout (session : Fin 8) (seq : BitVec 32) (s : State) : Out :=
  .next (match s.port.fwds.find? (fun (f : Fwd) => f.session == session.val && f.seq == seq.toNat) with
  | none => s
  | some f => s.forwardEnd f .timeout [])

/-- STAGE_ERASE (R303, R505). -/
def execStageErase (rq : Req) (w : WingId) (s : State) : Out := s.ask rq 0x3A (.wing w) []

/-- STAGE_WRITE (R303, R505). -/
def execStageWrite (rq : Req) (w : WingId) (offset : BitVec 32) (value : Octets) (s : State) : Out :=
  s.ask rq 0x3B (.wing w) (natLe 4 offset.toNat ++ value)

/-- STAGE_READ (R303). -/
def execStageRead (rq : Req) (w : WingId) (offset : BitVec 32) (count : Word) (s : State) : Out :=
  s.ask rq 0x3C (.wing w) (natLe 4 offset.toNat ++ natLe 2 count.toNat)

/-- SUBSCRIBE (R307). -/
def execSubscribe (rq : Req) (classes : Word) (wings : BitVec 8) (s : State) : Out :=
  s.ask rq 0x40 .port (natLe 2 classes.toNat ++ [wings])

/-- WING_RESPONSE (R461): the port takes the notice on mailbox 4 + `m` and sends the response that stands in the exchange buffer; the next
notice of that mailbox follows, and the session's next request. -/
def execWingResponse (w : WingId) (m : Fin 2) (s : State) : Out :=
  let x := s.wing w
  let b := x.mb (4 + m)
  .next (if b.state ≠ .full || b.party ≠ some .core then s else
    let n := (b.words.getD 0 0).toNat % 8
    let os := x.octets (x.exchBuf n) 0 ((b.words.getD 1 0).toNat % 2048)
    let o := fun i => (os.getD i 0).toNat
    let s := s.setWing w (x.mbEnd (4 + m) 0)
    let mine := fun (q : WaitReq) => q.session == n && q.wing == w.val && bit (o 3) 0 && q.opcode == o 1 && q.seq == leNat (slice os 4 4)
    let s := match s.port.waits.find? mine with
      | none => s
      | some q =>
        ({ s with port := { s.port with waits := s.port.waits.filter (fun (p : WaitReq) => !mine p) } }).replyCode q (o 11) (bit (o 3) 2)
          (slice os 12 (leNat (slice os 8 2)))
    let s := match (s.wing w).wrk.replies.find? (fun k => k / 4 == m.val) with
      | none => s
      | some k => (s.modWing w (fun y => { y with wrk := { y.wrk with replies := y.wrk.replies.erase k } })).postNotice w k
    s.pump)

/-- The partner item that a row names, when it is a mesh Feran message whose report has been released. -/
def State.meshRow (w : Nat) (p : Item → Octets → Bool) (s : State) : State :=
  let x := s.wing w
  match (if x.live then x.wrk.items.find? (fun i => match x.meshItem i with | some o => p i o | none => false) else none) with
  | none => s
  | some i => (s.meshFeran w i ((x.meshItem i).getD [])).pump

/-- MESH_FERAN_EXECUTE (R311): of the partner item `acc`. -/
def execMeshFeranExecute (w : WingId) (acc : BitVec 48) (s : State) : Out :=
  .next (s.meshRow w (fun i _ => i.acc == acc.toNat))

/-- FORWARD_RESPONSE (R312): a partner item that carries the RESPONSE of TRANSACTION `tn`. -/
def execForwardResponse (w : WingId) (tn : Word) (s : State) : Out :=
  .next (s.meshRow w (fun _ o => o.getD 1 0 = 2 && leNat (slice o 2 2) == tn.toNat))

/-- STORE (R279): 1 written to STORE of a realm's Catalogue control. -/
def execStore (rq : Req) (realm : Realm) (value : Octet) (s : State) : Out :=
  let idx := match realm with | .wing _ => 0x2004 | .dome => 0x12F0 | .port => 0x11F0
  s.ask rq 0x11 realm (natLe 2 idx ++ [1, value])

/-- RESTORE (R280). -/
def execRestore (rq : Req) (realm : Realm) (code : Word) (s : State) : Out :=
  let idx := match realm with | .wing _ => 0x2004 | .dome => 0x12F0 | .port => 0x11F0
  s.ask rq 0x11 realm (natLe 2 idx ++ [4] ++ natLe 2 code.toNat)

/-- RESET_REQUEST (R60): a write of `n:2001.03`. -/
def execResetRequest (rq : Req) (w : WingId) (value : Word) (s : State) : Out := s.askWrite rq w 0x2001 3 (natLe 2 value.toNat)

/-- STOP_REQUEST (R283): a write of `n:2000.02`. -/
def execStopRequest (rq : Req) (w : WingId) (value : Bool) (s : State) : Out := s.askWrite rq w 0x2000 2 [o8 (b2n value)]

/-- HOP_SEED (R148): a write of `n:2311.02`. -/
def execHopSeed (rq : Req) (w : WingId) (value : Word) (s : State) : Out := s.askWrite rq w 0x2311 2 (natLe 2 value.toNat)

/-- PAIR_FORM (R243): WING_A and WING_B of pair `p`, in one record. -/
def execPairForm (rq : Req) (p : Fin 4) (a b : Octet) (s : State) : Out :=
  s.ask rq 0x13 .port (natLe 2 (0x1180 + p) ++ [a, b])

/-- PAIR_DISSOLVE (R243): 0xFF to both fields. -/
def execPairDissolve (rq : Req) (p : Fin 4) (s : State) : Out := s.ask rq 0x13 .port (natLe 2 (0x1180 + p) ++ [0xFF, 0xFF])

/-- SWITCH (R252): a write of SWITCH of pair `p`. -/
def execSwitch (rq : Req) (p : Fin 4) (value : Octet) (s : State) : Out := s.ask rq 0x11 .port (natLe 2 (0x1180 + p) ++ [6, value])

/-- TIME_WRITE (R360): a write of `D:1210.01`. -/
def execTimeWrite (rq : Req) (value : Octets) (s : State) : Out := s.ask rq 0x11 .dome (natLe 2 0x1210 ++ [1] ++ value)

/-- WL_ENTRY_WRITE (R395). -/
def execWlEntryWrite (rq : Req) (w : WingId) (index : Word) (sub : Octet) (value : Octets) (s : State) : Out :=
  s.askWrite rq w index.toNat sub.toNat value

/-- OPTION_LOCK_WRITE (R397): a write of `n:2702`. -/
def execOptionLockWrite (rq : Req) (w : WingId) (value : Word) (s : State) : Out := s.askWrite rq w 0x2702 0 (natLe 2 value.toNat)

/-- DEBUG_HALT (R432): TRUE to HALT. -/
def execDebugHalt (rq : Req) (w : WingId) (s : State) : Out := s.askWrite rq w 0x2820 2 [1]

/-- DEBUG_RESUME (R432): FALSE to HALT. -/
def execDebugResume (rq : Req) (w : WingId) (s : State) : Out := s.askWrite rq w 0x2820 2 [0]

/-- APPLET_INSTALL (R434). -/
def execAppletInstall (rq : Req) (w : WingId) (s : State) : Out := s.askWrite rq w 0x2810 2 [1]

/-- APPLET_REMOVE (R434). -/
def execAppletRemove (rq : Req) (w : WingId) (s : State) : Out := s.askWrite rq w 0x2810 2 [2]

/-- APPLET_IN (R453): a write of `n:2A03`. -/
def execAppletIn (rq : Req) (w : WingId) (value : Octets) (s : State) : Out := s.askWrite rq w 0x2A03 0 value

/-- NETWORK_ROOT_WRITE (R514). -/
def execNetworkRootWrite (rq : Req) (w : WingId) (value : Octets) (s : State) : Out := s.askWrite rq w 0x2B10 1 value

/-- SESSION_KEY (R481). -/
def execSessionKey (rq : Req) (w : WingId) (value : Octets) (s : State) : Out := s.askWrite rq w 0x2B20 0 value

/-- UPDATE_PENDING (R505). -/
def execUpdatePending (rq : Req) (w : WingId) (value : Octet) (s : State) : Out := s.askWrite rq w 0x2C01 0 [value]

/-- OWNER_ROOT_WRITE (R496): OWNER_ROOT_HASH (.02) or OWNER_POLICY (.03). -/
def execOwnerRootWrite (rq : Req) (w : WingId) (sub : Octet) (value : Octets) (s : State) : Out := s.askWrite rq w 0x2C02 sub.toNat value

/-- REGENERATE (R511). -/
def execRegenerate (rq : Req) (w : WingId) (value : Word) (s : State) : Out := s.askWrite rq w 0x2C10 4 (natLe 2 value.toNat)

/-- CHALLENGE (R513). -/
def execChallenge (rq : Req) (w : WingId) (value : Octets) (s : State) : Out := s.askWrite rq w 0x2C20 0 value

end Sys2Proof.Machine
end

