-- ==== Sys2Proof/Machine/FeranPort.lean ====
section
/-! DEFINITION. How sessions open and end (R298 to R302), what arrives on the two carriers (R287 to R293), and the reports and events that
the port takes from the wings (R306, R449). -/
namespace Sys2Proof.Machine
open Sys2Proof

/-- Field `sub` of credential `c` (R316). -/
def Port.cred (c sub d : Nat) (p : Port) : Nat := p.num (dpKey true (0x1120 + c) sub) d

/-- The secret of a credential in use (R299, R300). -/
def Port.secret (c : Nat) (p : Port) : Option Octets :=
  if 32 ≤ c || p.cred c 1 0 = 0 then none
  else some (match tget [] p.cat (dpKey true (0x1120 + c) 4) with | [] => zeros 32 | os => os)

/-- A credential of role Owner is in use (R301). -/
def Port.owned (p : Port) : Bool := (List.range 32).any (fun c => decide (p.cred c 1 0 ≠ 0) && decide (p.cred c 2 0 = 3))

/-- HELLO (R296, R298, R301, R490): session and credential by number. -/
def State.hello (seq realm cred : Nat) (nonce peer : Octets) (s : State) : State :=
  let p := s.port
  let bare := fun st => s.replyBare 0xFF 0x01 seq realm peer st
  let prov := cred = 0xFF && s.dome.bootsel.getLsbD 0 && !p.owned && !(List.range 8).any (fun n => (p.sessions.get n).prov)
  if p.powerFail then s
  else if !p.imageFinal || p.randFail then bare .notReady
  else match (List.range 8).find? (fun n => !(p.sessions.get n).isOpen && !(p.sessions.get n).opening && !(p.sessions.get n).reserved) with
  | none => bare .sessionLimit
  | some n =>
    if prov then
      (s.modSession n (fun _ => { isOpen := true, prov := true, role := .owner, peer := peer, highest := some seq, seen := [seq] })).reply
        { session := n, seq := seq, opcode := 0x01, realm := realm, wing := 0xF } .ok false (zeros 16 ++ [0xFF] ++ zeros 16)
    else
      let (own, s) := s.drawOctets 16
      let (fresh, s) := s.drawOctets 16
      let kind := if cred < 32 then p.cred cred 1 0 else 0
      let salt := if kind = 2 then (match tget [] p.cat (dpKey true (0x1120 + cred) 5) with | [] => zeros 16 | os => os) else fresh
      (s.modSession n (fun _ => { reserved := true, cred := cred, devNonce := own, cliNonce := nonce, peer := peer })).emit n peer
        (feranHeader 0x01 n 1 seq 33 realm 0 ++ own ++ [o8 kind] ++ salt)

/-- HELLO (R298). -/
def execHello (seq : BitVec 32) (cred : Octet) (nonce peer : Octets) (s : State) : Out :=
  .next (s.hello seq.toNat 0xE cred.toNat nonce peer)

/-- X of R298. -/
def Session.openInput (n : Nat) (x : Session) : Octets := x.devNonce ++ x.cliNonce ++ [o8 n, o8 x.cred]

/-- An OPEN fails (R300). -/
def State.openFail (n seq realm : Nat) (peer : Octets) (s : State) : State :=
  let c := (s.port.sessions.get n).cred
  let k := (tget 0 s.port.failures c + 1) % 65536
  let p := { s.port with openFailures := wrap32 s.port.openFailures }
  let p := if c < 32 then { p with failures := tset 0 c k p.failures, lockout := if k % 4 = 0 then c :: p.lockout else p.lockout } else p
  (({ s with port := p }).modSession n (fun _ => {})).replyBare n 0x02 seq realm peer .credential

/-- OPEN once more, on a session that is open or opens (R296): its response again for the same SEQ, and no reservation for another
(log 33). -/
def State.openAgain (n seq realm : Nat) (auth : Bool) (peer : Octets) (s : State) : State :=
  let x := s.port.sessions.get n
  if (!s.spi && !samePeer peer x.peer) || (!x.prov && !auth) then s.feranDrop
  else match x.cache.find? (fun (c : Nat × Octets) => c.1 == seq) with
  | some (_, m) => s.emit n peer m
  | none => if x.seen.contains seq then s.feranDrop else s.replyBare n 0x02 seq realm peer .noSession

/-- OPEN (R296, R298, R300): `auth` for one sent again. -/
def State.openSession (n seq realm : Nat) (auth : Bool) (proof peer : Octets) (s : State) : State :=
  let x := s.port.sessions.get n
  let bare := fun st => s.replyBare n 0x02 seq realm peer st
  if s.port.powerFail then s
  else if !s.port.imageFinal then bare .notReady
  else if n < 8 && (x.isOpen || x.opening) then s.openAgain n seq realm auth peer
  else if !(n < 8 && x.reserved) then bare .noSession
  else if !s.spi && !samePeer peer x.peer then s.feranDrop
  else if proof.length ≠ 32 then bare .badMessage
  else if s.port.lockout.contains x.cred then
    (s.modSession n (fun _ => {})).replyBare n 0x02 seq realm peer .lockout
  else match s.port.secret x.cred with
  | none => s.openFail n seq realm peer
  | some k =>
    let mac := fun c => kmac256 k (x.openInput n) 32 (ascii c)
    if proof ≠ mac "FERAN-OPEN" then s.openFail n seq realm peer else
    let role := roleOf (s.port.cred x.cred 2 0)
    let s := { s with port := { s.port with failures := tset 0 x.cred 0 s.port.failures, opens := tmod 0 x.cred wrap32 s.port.opens } }
    let s := s.modSession n (fun _ => { isOpen := !s.spi, opening := s.spi, cred := x.cred, role := role, key := mac "FERAN-SESSION", peer := peer,
                                        highest := some seq, seen := [seq] })
    s.reply { session := n, seq := seq, opcode := 0x02, realm := realm, wing := 0xF } .ok false
      (mac "FERAN-DEVICE" ++ [o8 role.rank] ++ natLe 2 (s.port.num (dpKey true 0x1102 1) 60))

/-- OPEN (R298). -/
def execOpen (rq : Req) (proof : Octets) (s : State) : Out := .next (s.openSession rq.session rq.seq 0xE rq.auth proof rq.peer)

/-- HELLO_RESERVATION_EXPIRY (R298): 2.0 s have passed without OPEN. -/
def execHelloReservationExpiry (session : Fin 8) (s : State) : Out :=
  .next (if (s.port.sessions.get session).reserved then s.modSession session (fun _ => {}) else s)

/-- LOCKOUT_EXPIRY (R300): the 60 s have passed. -/
def execLockoutExpiry (cred : Fin 32) (s : State) : Out :=
  .next { s with port := { s.port with lockout := s.port.lockout.filter (· ≠ cred.val) } }

/-- SESSION_IDLE_TIMEOUT (R302): no message has passed check 5 for IDLE_S. -/
def execSessionIdleTimeout (session : Fin 8) (s : State) : Out :=
  .next (if (s.port.sessions.get session).isOpen || (s.port.sessions.get session).opening then s.closeSession session else s)

/-- A Feran message arrives (R292, R293, R296): its version and length are checked, and its body is decrypted. -/
def State.feranIn (peer msg : Octets) (s : State) : State :=
  let o := fun i => (msg.getD i 0).toNat
  let (op, n, seq, len, realm) := (o 1, o 2, leNat (slice msg 4 4), leNat (slice msg 8 2), o 10)
  let h := msg.take 12
  let b := slice msg 12 len
  let tag := msg.drop (12 + len)
  let clear := msg.length == 12 + len
  let x := s.port.sessions.get n
  let open_ := fun (key : Octets) => if tag.length = 16 then gcmDec key (feranNonce 0 n seq) h b tag else none
  if s.port.powerFail then s
  else if msg.length < 12 || 1452 < msg.length || o 0 ≠ 1 || !(clear || tag.length = 16) then s.feranDrop
  else match op with
  | 0x01 =>
    if !clear then s.feranDrop
    else if s.port.imageFinal && len ≠ 17 then s.replyBare 0xFF op seq realm peer .badMessage
    else s.hello seq realm (b.getD 0 0).toNat (b.drop 1) peer
  | 0x02 =>
    let again := n < 8 && (x.isOpen || x.opening)
    let plain := if again then (if x.prov then (if clear then some b else none) else open_ x.key)
      else (s.port.secret x.cred).bind (fun k => open_ (kmac256 k (x.openInput n) 32 (ascii "FERAN-SESSION")))
    s.openSession n seq realm plain.isSome (plain.getD (if len = 32 then zeros 32 else [])) peer
  | _ =>
    if n < 8 && x.prov then (if clear then s.request n seq op realm true peer b else s.feranDrop)
    else match (if n < 8 && x.isOpen then open_ x.key else none) with
    | some body => s.request n seq op realm true peer body
    | none => s.request n seq op realm false peer []

/-- An IPv6 packet in an Ethernet frame (R289). -/
structure Ip6 where
  /-- Source MAC address. -/
  mac : Octets
  /-- Source address. -/
  src : Octets
  /-- Destination address. -/
  dst : Octets
  /-- Next header. -/
  next : Nat
  /-- Hop limit. -/
  hop : Nat
  /-- Payload. -/
  data : Octets
  deriving DecidableEq, Repr

/-- An address is one of the port's own (R5, R288). -/
def Port.isOwn (a : Octets) (p : Port) : Bool := (List.range 3).any (fun i => p.own.getLsbD i && decide (p.address i = a))

/-- The MAC filter (R289). -/
def Port.macTakes (dst : Octets) (p : Port) : Bool :=
  decide (dst = ownMac) || decide (dst = [0x33, 0x33, 0, 0, 0, 1]) ||
    (List.range 3).any (fun i => p.own.getLsbD i && decide (dst = [0x33, 0x33] ++ (solicitedNode (p.address i)).drop 12))

/-- The packet of a frame that passes the MAC (R289). -/
def State.frameIn (f : Octets) (s : State) : Option Ip6 :=
  let n := beNat (slice f 18 2)
  if s.spi || !s.port.linkUp || s.port.powerFail || !s.port.macTakes (f.take 6) || slice f 12 2 ≠ [0x86, 0xDD] ||
      (f.getD 14 0).toNat / 16 ≠ 6 || f.length < 54 + n then none
  else some { mac := slice f 6 6, src := slice f 22 16, dst := slice f 38 16, next := (f.getD 20 0).toNat, hop := (f.getD 21 0).toNat,
              data := slice f 54 n }

/-- A UDP datagram (R289): its checksum is always checked, and its port is that of `P:1110.01`, or the one that an open session of the
same peer uses. -/
def State.udpIn (p : Ip6) (s : State) : State :=
  let u := p.data
  let n := beNat (slice u 4 2)
  let peer := p.mac ++ p.src ++ u.take 2 ++ p.dst ++ slice u 2 2
  let mine := decide (beNat (slice u 2 2) = s.port.num (dpKey true 0x1110 1) 49731) ||
    (List.range 8).any (fun k => let x := s.port.sessions.get k
      (x.isOpen || x.reserved) && samePeer x.peer peer && decide (x.peer.drop 40 = slice u 2 2))
  if !s.port.isOwn p.dst || !mine || n < 8 || u.length < n || slice u 6 2 = [0, 0] || ipSum p.src p.dst 17 (u.take n) ≠ 0 then s
  else (s.feranIn peer (slice u 8 (n - 8))).pump

/-- An ICMPv6 echo request to an own address is answered (R289). -/
def State.echoIn (p : Ip6) (s : State) : State :=
  if s.port.isOwn p.dst && 8 ≤ p.data.length && p.data.length ≤ 1460 then
    s.sendFrame (ipFrame p.mac p.dst p.src s.port.hop 58 (icmpPacket p.dst p.src 129 0 (p.data.drop 4)))
  else s

/-- A neighbour solicitation is answered for the port's own addresses only (R5, R289; PRESUMED, log 34: RFC 4861). -/
def State.solicitIn (p : Ip6) (s : State) : State :=
  let t := slice p.data 8 16
  if p.hop ≠ 255 || p.data.length < 24 || !s.port.isOwn t then s else
  let any := decide (p.src = zeros 16)
  let dst := if any then [0xFF, 2] ++ zeros 13 ++ [1] else p.src
  let rest := [if any then 0x20 else 0x60] ++ zeros 3 ++ t ++ [2, 1] ++ ownMac
  s.sendFrame (ipFrame (if any then [0x33, 0x33, 0, 0, 0, 1] else p.mac) t dst 255 58 (icmpPacket t dst 136 0 rest))

/-- An ICMPv6 packet with a good checksum. -/
def State.icmpIn (p : Ip6) (s : State) : State :=
  if ipSum p.src p.dst 58 p.data ≠ 0 then s
  else match (p.data.getD 0 0).toNat with | 128 => s.echoIn p | 135 => s.solicitIn p | _ => s

/-- A packet by its next header; every other one is dropped (R5, R289). -/
def State.ipIn (p : Ip6) (s : State) : State := match p.next with | 17 => s.udpIn p | 58 => s.icmpIn p | _ => s

/-- ETH_FRAME_RECEIVED (R289): a frame without its FCS. -/
def execEthFrameReceived (frame : Octets) (s : State) : Out := .next (match s.frameIn frame with | none => s | some p => s.ipIn p)

/-- ICMP_ECHO (R289). -/
def execIcmpEcho (frame : Octets) (s : State) : Out :=
  .next (match s.frameIn frame with | none => s | some p => if p.next = 58 && p.data.getD 0 0 = 128 then s.icmpIn p else s)

/-- NEIGHBOUR_SOLICITATION (R5). -/
def execNeighbourSolicitation (frame : Octets) (s : State) : Out :=
  .next (match s.frameIn frame with | none => s | some p => if p.next = 58 && p.data.getD 0 0 = 135 then s.icmpIn p else s)

/-- The message that waits for the host on SPI, and the state once it has left (R290, R307): responses first, then events, of the lowest
session first. An OPEN response that has left opens its session (R298). -/
def State.waitingMsg (s : State) : Option (Octets × State) :=
  if s.port.powerFail then none else
  match s.port.out with
  | m :: rest =>
    let t := { s with port := { s.port with out := rest } }
    some (m.data, if m.session < 8 && (s.port.sessions.get m.session).opening && (m.data.getD 1 0).toNat = 2 then
      t.modSession m.session (fun (x : Session) => { x with isOpen := true, opening := false }) else t)
  | [] => (List.range 8).findSome? (fun n =>
      ((s.port.sessions.get n).nextEvent n).map (fun (e : Octets × Session) => (e.1, s.modSession n (fun _ => e.2))))

/-- PORT_INT_N is driven low: while WAITING is 1 (R291, R307). The pin is inactive on T1L (R287). -/
def State.portIntLow (s : State) : Bool := s.spi && s.waitingMsg.isSome

/-- The four octets that the port returns first (R290, R291). -/
def State.spiStatus (s : State) : Octets :=
  let wait := match s.waitingMsg with | none => 0 | some m => m.1.length
  (if s.port.powerFail then 8 else
    o8 (b2n s.portIntLow + 2 * b2n (s.port.rxHeld < 2) + 4 * b2n s.port.overrun + 16 * b2n s.port.imageFinal)) ::
    0xA5 :: natLe 2 wait

/-- An SPI transfer: the status leaves, which clears OVERRUN, and then `data`. -/
def State.spiOut (data : Octets) (s : State) : State :=
  { s with port := { s.port with sent := s.port.sent ++ [s.spiStatus ++ data], overrun := false } }

/-- The receive buffer at the start of a transfer (R290): `held` messages that the port has not taken stand in it (log 33). -/
def State.spiHeld (held : Nat) (s : State) : State := { s with port := { s.port with rxHeld := held } }

/-- WRITE (R291): LEN, and the octets clocked before SPI_CS_N rose. -/
def State.spiWrite (len : Nat) (data : Octets) (s : State) : State :=
  let t := s.spiOut []
  if s.port.powerFail then t
  else if 2 ≤ s.port.rxHeld || len < 12 || 1452 < len || data.length < len then { t with port := { t.port with overrun := true } }
  else (t.feranIn [] (data.take len)).pump

/-- READ (R291): LEN, and how many octets the host clocked after the status. -/
def State.spiRead (len clocked : Nat) (s : State) : State :=
  match s.waitingMsg with
  | none => s.spiOut (zeros clocked)
  | some (m, t) =>
    if len < m.length then s.spiOut (zeros clocked)
    else
      let u := s.spiOut ((m ++ zeros (clocked - m.length)).take clocked)
      if m.length ≤ clocked then { t with port := { t.port with sent := u.port.sent, overrun := false } } else u

/-- An SPI transfer by its CMD octet (R290): every value but WRITE and READ is a STATUS, whose further data octets are not used. -/
def State.spiTransfer (cmd : Octet) (held len clocked : Nat) (data : Octets) (s : State) : State :=
  if !s.spi then s else
  let s := s.spiHeld held
  match cmd.toNat with
  | 0x02 => s.spiWrite len data
  | 0x03 => s.spiRead len clocked
  | _ => s.spiOut []

/-- SPI_STATUS (R290): `held` messages stand in the receive buffer. -/
def execSpiStatus (held : Fin 3) (s : State) : Out := .next (s.spiTransfer 0x01 held 0 0 [])

/-- SPI_WRITE (R291): LEN, and the octets clocked before SPI_CS_N rose. -/
def execSpiWrite (held : Fin 3) (len : Nat) (data : Octets) (s : State) : Out := .next (s.spiTransfer 0x02 held len 0 data)

/-- SPI_READ (R291): LEN, and how many octets the host clocked after the status. -/
def execSpiRead (held : Fin 3) (len clocked : Nat) (s : State) : Out := .next (s.spiTransfer 0x03 held len clocked [])

/-- DOCENT_HOST_POLL (R449): a map with no bit is not sent (DESIGN CHOICE, log 37). -/
def execDocentHostPoll (w : WingId) (s : State) : Out :=
  let m := (s.wing w).doc.hostPend
  .next (if m = 0 then s else
    (s.modWing w (fun x => { x with doc := { x.doc with hostPend := 0 } })).event 2 w 0x0100 (natLe 16 m.toNat))

/-- A report is counted as undelivered (R306). -/
def State.undeliver (s : State) : State := { s with port := { s.port with undelivered := wrap32 s.port.undelivered } }

/-- A host-item report goes as an ITEM event to every open session of credential `c` that takes it, and is counted as undelivered where
no session of the credential is open (R306). -/
def State.reportEvent (w c : Nat) (d : List Word) (s : State) : State :=
  let hit := fun (x : Session) => x.cred % 32 == c
  if (List.range 8).any (fun n => let x := s.port.sessions.get n; x.isOpen && hit x) then
    s.eventTo (fun _ x => hit x && x.classes.getLsbD 0 && x.wings.getLsbD w) false 0 w 1 (unpackW d)
  else s.undeliver

/-- An ACCEPT or REFUSE report answers its SUBMIT (R304). One whose SUBMIT no longer waits goes as an event to the sessions of its item's
credential (R306, log 33). -/
def State.submitAnswer (w : Nat) (d : List Word) (s : State) : State :=
  let word := fun k => (d.getD k 0).toNat
  let mine := fun (q : WaitReq) => q.opcode == 0x20 && q.wing == w && q.session == word 1 % 8 && q.ring == bits (word 1) 4 3 &&
    q.tag == word 5 + 65536 * word 6
  match s.port.waits.find? mine with
  | none =>
    match (s.wing w).wrk.items.find? (fun i => !i.partner && i.acc == wordsNat d 2 3) with
    | some i => s.reportEvent w i.cred d
    | none => s.undeliver
  | some q =>
    if word 0 % 16 = 0 then
      s.finish q .ok false (natLe 2 (word 2) ++ natLe 2 (word 3) ++ natLe 2 (word 4) ++ natLe 2 q.index ++ [o8 (b2n (bit (word 0) 6))])
    else s.finish q (refuseStatus (bits (word 0) 11 8)) false []

/-- A DONE or FAILED report goes to the open sessions of its item's credential (R306). -/
def State.itemEvent (w : Nat) (d : List Word) (s : State) : State :=
  match (s.wing w).wrk.items.find? (fun i => !i.partner && i.acc == wordsNat d 2 3) with
  | none => s.undeliver
  | some i => s.reportEvent w i.cred d

/-- A PARTNER report goes with its payload to every session subscribed (R306); that of a mesh Feran message does not (R311). -/
def State.partnerEvent (w : Nat) (d : List Word) (s : State) : State :=
  match (s.wing w).wrk.partnerRec (wordsNat d 2 3) with
  | none => s
  | some r =>
    let p := r.payload
    if p.getD 0 0 = 0xF5 then s else
    s.eventTo (fun _ (x : Session) => x.classes.getLsbD 1 && x.wings.getLsbD w) (decide (1024 < p.length)) 1 w 1 (unpackW d ++ p.take 1024)

/-- A descriptor that the port has taken from ring 4 or 5 (R236, R306, R307, R452; log 22). -/
def State.taken (w r : Nat) (d : List Word) (s : State) : State :=
  let w0 := d.getD 0 0
  if d.all (· == 0xFFFF) then s
  else if r = 5 && w0.getLsbD 15 then
    match (s.wing w).wrk.events with
    | [] => s
    | (code, data) :: rest => (s.modWing w (fun x => { x with wrk := { x.wrk with events := rest } })).event 4 w code data
  else if r ≠ (s.wing w).itemRing then s
  else match w0.toNat % 16 with
  | 0 => s.submitAnswer w d
  | 1 => s.submitAnswer w d
  | 4 => s.partnerEvent w d
  | _ => s.itemEvent w d

/-- ITEM_REPORT_DELIVERY (R306, R307): the port takes the next descriptor that the Curator has passed on ring 4 + `r`. -/
def execItemReportDelivery (w : WingId) (r : Fin 2) (s : State) : Out :=
  let x := s.wing w
  let g := x.ring (4 + r)
  .next (if s.port.powerFail || !x.live || g.take = g.pass then s else
    let d := x.lds (g.slot g.take) 8
    let s := s.setWing w ((x.ringTook (4 + r)).complRelease).reportPump
    (s.taken w (4 + r) d).pump)

end Sys2Proof.Machine
end

