-- ==== Sys2Proof/Machine/Stores.lean ====
section
/-! DEFINITION. The end of a store (R276, R278 to R281, R301), and the loading of the port image (R34, R130, R251, R278, R288, R367). -/
namespace Sys2Proof.Machine
open Sys2Proof

/-- STORE, and RESTORE for each restore that ends with it (R542). -/
def State.storeTell (realm wing : Nat) (good : Bool) (gen ms : Nat) (codes : List Nat) (s : State) : State :=
  let r := o8 (b2n (!good))
  codes.foldl (fun (t : State) c => t.event 6 wing 2 ([o8 realm] ++ natLe 2 c ++ [r])) (s.event 6 wing 1 ([o8 realm, r] ++ natLe 4 gen ++ natLe 2 ms))

/-- The running store of wing `w` ends, and a queued one begins (R279). -/
def Wing.storeEnd (img : Image) (good : Bool) (ms : Nat) (x : Wing) : Wing :=
  let k := x.wrk
  let x := if good then x.sealImage img else x
  { x with wrk := { x.wrk with
      failed := !good, storeMs := ms, pairAsk := k.pairAskNext, pairAskNext := [], share := k.shareNext, shareNext := false,
      storing := if k.queued then some x.capture else none, queued := false, waiting := k.waitNext, waitNext := [],
      restores := k.restoreNext, restoreNext := [] } }

/-- The ACTIVE wing of a pair sends its stored neighbour records to the standby (R245). -/
def State.nbTellAll (w : Nat) (s : State) : State :=
  (((s.wing w).msh.nbs.filter (fun (e : Nat × Nb) => e.2.valid)).map (fun (e : Nat × Nb) => e.1)).foldl (fun (t : State) i => t.nbTell w i) s

/-- A STORE or RESTORE that the ACTIVE wing has carried out goes to the standby `t` of pair `p`; one that it refuses makes the pair DEGRADED
(R281). -/
def State.pairStore (p t code : Nat) (s : State) : State :=
  let x := s.wing t
  if !x.live || (code ≠ 0 && (x.restoreMay code).isSome) then s.degrade p else
  let s := if code = 0 then s.wingStore t none [] else (s.restoreWing t (code = 3)).wingStore t none [code]
  s.modWing t (fun y => { y with wrk :=
    if x.wrk.storing.isNone then { y.wrk with share := true } else { y.wrk with shareNext := true } })

/-- What the end of a store of wing `w` means for its pair (R281): of the ACTIVE, `ask` goes on to the standby; of the standby, a store that fails and
that the pair was asked for makes the pair DEGRADED. -/
def State.pairStored (w : Nat) (good share : Bool) (ask : List Nat) (s : State) : State :=
  match s.pairOf w, s.twin w with
  | some p, some t =>
    if s.role w = .active then (if good then ask.foldl (fun (u : State) c => u.pairStore p t c) s else s)
    else if share && !good then s.degrade p else s
  | _, _ => s

/-- STORE_COMPLETE in a wing realm; while the flash takes no pulse no store ends (R46, R57). -/
def State.storeEndWing (w : Nat) (good : Bool) (ms : Nat) (s : State) : State :=
  let k := (s.wing w).wrk
  match (if (s.wing w).fls.blocked then none else k.storing) with
  | none => s
  | some img =>
    let st : Status := if good then .ok else .refused
    let s := s.modWing w (Wing.storeEnd img good ms)
    let s := if good then s.nbTellAll w else s
    let s := s.storeTell w w good (s.wing w).wrk.gen ms k.restores
    let s := s.storeAnswer k.waiting st (fun n t => t.wingRespond w n st false [])
    s.pairStored w good k.share k.pairAsk

/-- Split the first store of realm `r` off a list: it, and the rest. -/
def takeStore (r : Nat) : List PortStore → Option (PortStore × List PortStore)
  | [] => none
  | e :: l => if e.realm = r then some (e, l) else (takeStore r l).map (fun p => (p.1, e :: p.2))

/-- The next store of realm `r` begins (R279): it captures the realm now. -/
def Port.storeNext (r : Nat) (x : Port) : Port :=
  match takeStore r x.storing with
  | none => x
  | some (e, rest) => { x with storing := { e with image := captureDp (r == 0xE) x.cat x.stored } :: rest }

/-- The flags of the Catalogue control of realm D or P that a store leaves (R285): FAILED and LAST_STORE_MS. -/
def Port.storeFlags (p good : Bool) (ms : Nat) (x : Port) : Port :=
  let ctl := if p then 0x11F0 else 0x12F0
  { x with cat := tset [] (dpKey p ctl 2) (if good then [] else [1]) (tset [] (dpKey p ctl 5) (if ms = 0 then [] else natLe 2 ms) x.cat) }

/-- A stored image holds an Owner credential in use (R301). -/
def ownerStored (t : Tab Octets) : Bool :=
  (List.range 32).any (fun c =>
    decide (leNat (tget [] t (dpKey true (0x1120 + c) 1)) ≠ 0) && decide (leNat (tget [] t (dpKey true (0x1120 + c) 2)) = 3))

/-- Every provisioning session closes (R301). -/
def State.closeProvisioning (s : State) : State :=
  (List.range 8).foldl (fun (t : State) n => if (t.port.sessions.get n).prov then t.closeSession n else t) s

/-- STORE_COMPLETE in realm D or P: the new generation lies in every wing that is RUNNING or STOPPED (R278). -/
def State.storeEndPort (p good : Bool) (ms : Nat) (s : State) : State :=
  let r := if p then 0xE else 0xD
  match takeStore r s.port.storing with
  | none => s
  | some (e, rest) =>
    let st : Status := if good then .ok else .refused
    let image := captureDp p e.image s.port.stored
    let x := { s.port with storing := rest }.storeFlags p good ms
    let x := if good then { x with stored := image, gen := wrap32 x.gen } else x
    let s := { s with port := x.storeNext r }
    let s := if good then s.forWings (fun w (t : State) =>
      if (t.wing w).live && !(t.wing w).fls.blocked then t.modWing w (Wing.sealCopy x.gen x.stored) else t) else s
    let s := s.storeTell r 0xFF good x.gen ms e.codes
    let s := s.storeAnswer e.waits st (fun n t => t.answer r n st [])
    if p && good && ownerStored image then s.closeProvisioning else s

/-- STORE_COMPLETE (R279): the running store of a realm seals its generation or, `good` FALSE, fails, after `ms`. -/
def execStoreComplete (realm : Realm) (good : Bool) (ms : Word) (s : State) : Out :=
  .next (match realm with
  | .wing w => (s.storeEndWing w good ms.toNat).pump
  | .dome => (s.storeEndPort false good ms.toNat).pump
  | .port => (s.storeEndPort true good ms.toNat).pump)

/-- The newest generation among the copies read. -/
def newestCopy (l : List (Nat × Nat)) : Option (Nat × Nat) :=
  l.foldl (fun (best : Option (Nat × Nat)) e => match best with
    | none => some e
    | some b => if b.2 < e.2 then some e else some b) none

/-- The port's settings are loaded, or IMAGE_MISSING is set for both realms, whose entries one image holds (R278, R285). -/
def State.portLoad (s : State) : State :=
  match newestCopy s.port.copies with
  | none =>
    ({ s with port := { s.port with cat := tset [] (dpKey true 0x11F0 6) [1] (tset [] (dpKey false 0x12F0 6) [1] s.port.cat) } }).event
      6 0xFF 3 [0x0E]
  | some (w, gen) =>
    let t := ((s.wing w).wrk.portCopy.map (fun c => c.2)).getD []
    { s with port := { s.port with cat := t, stored := t, gen := gen } }

/-- The pairs that the image names (R34, R253): DEGRADED, with no token given (R251); their TAKEOVERS stands in the image (R257). -/
def Port.loadPairs (x : Port) : Port :=
  { x with pairs := (List.range 4).foldl (fun (t : Tab Pair) p =>
      let a := x.num (dpKey true (0x1180 + p) 1) 0xFF
      let b := x.num (dpKey true (0x1180 + p) 2) 0xFF
      if a < 8 && b < 8 then tset {} p { a := a, b := b, state := .degraded } t else t) [] }

/-- PORT_IMAGE_FINAL (R278): the settings of realms D and P take effect, and a wing whose replay waited for them goes on if it has no
twin (R241, R251). -/
def execPortImageFinal (s : State) : Out :=
  .next (if s.port.imageFinal then s else
    let s := s.portLoad
    let s := { s with port := { s.port.loadPairs with imageFinal := true } }
    let s := (s.trimPush).watchWrite (s.port.num (dpKey false 0x1202 1) 0xFF)
    let s := s.forWings (fun w (t : State) =>
      if (t.wing w).wrk.deferred && decide (t.role w = .single) then t.replayItems w else t)
    [1, 2].foldl (fun (t : State) i => t.solicit i) s)

end Sys2Proof.Machine
end

