-- ==== Sys2Proof/Machine/Boot.lean ====
section
/-! DEFINITION. What the Curator does in BOOT and how the wing leaves it (R16, R96, R130, R230, R241, R276, R277, R278, R431, R435, R436, R471, R501
to R512), the end of a trial (R502), and the successor of an attestation key (R512). -/
namespace Sys2Proof.Machine
open Sys2Proof

/-- The 60 newest journaled buckets of sub-band `i`, newest first (R130). -/
def Work.buckets (k : Work) (i : Nat) : List Nat :=
  (((k.sorted.filter (fun r => r.typ == 7 && r.fld 0 1 == i)).map (fun r => r.fld 1 4)).reverse).take 60

/-- The newest Watch marker has airtime 1 (R130). -/
def Work.watchNamed (k : Work) : Bool :=
  match k.newest (fun r => r.typ == 7 && r.fld 0 1 == 0xFF) with | none => false | some r => r.fld 1 4 == 1

/-- The closed buckets of sub-band `i` with PENDING added to the newest of them (R130). -/
def addPending (pend : Nat) : List Nat → List Nat
  | [] => if pend = 0 then [] else [pend]
  | a :: t => (a + pend) :: t

/-- The limiter's accounts at BOOT (R130): journaled buckets and PENDING, OPEN, and the mark. -/
def State.limRestore (w : Nat) (s : State) : State :=
  let x := s.wing w
  let closed := (List.range 8).foldl (fun (t : Tab Nat) i => tputs 0 (64 * i) (addPending (s.limPending w i) (x.wrk.buckets i)) t) []
  let marked := decide (s.bramGet w 0x41 1 = [0xA5])
  let guess := fun (i : Nat) => if x.wrk.watchNamed then x.limBudget i else min 120000000 (x.limBudget i)
  let held := if marked then [] else tputs 0 0 ((List.range 8).map (fun i => guess i + 1)) []
  (s.modWing w (fun x => { x with tx := { x.tx with closed := closed, heldOpen := held, markDue := true } })).limFlush w

/-- NRK is unwrapped into the root slot (R471). -/
def Wing.bootRoot (w : Nat) (x : Wing) : Wing :=
  let b := tget [] x.cat 0x2B1001
  if b.length ≠ 60 then x else
  match gcmDec (wrapKey w) (b.take 12) [] (slice b 12 32) (b.drop 44) with
  | none => x
  | some k => x.loadRoot (some k)

/-- The Curator enables the watchdog (R431). -/
def Wing.bootWdt (x : Wing) : Wing :=
  { x with wdt := { x.wdt with en := true, period := x.num 0x280001 14, sleepRun := x.flag 0x280002 false, count := 0, warned := false } }

/-- The applet that lies in the Applet partition (R433, R439). -/
def Wing.bootApplet (x : Wing) : Wing :=
  let img := fun off n => x.fls.oct 128 off n
  if !appletHeader img then x else
  { x with apl := { x.apl with state := .installed, version := leNat (img 14 4), codeWords := leNat (img 4 4), dataWords := leNat (img 12 2),
                               entry := leNat (img 8 4) } }

/-- A WATCHDOG or LOCKUP reset while the applet ran has ended it (R436). -/
def State.bootMark (w : Nat) (s : State) : State :=
  if s.bramGet w 0x40 1 = [0] then s else
  let c := (s.wing w).sys.causeEnd
  let s := (s.bramPut w 0x40 [0]).2
  if c.getLsbD 5 || c.getLsbD 6 then
    (s.modWing w (fun x => { x with apl := { x.apl with state := .faulted, cause := if c.getLsbD 5 then 7 else 9, barred := true } })).appletTell w
  else s

/-- The wing's life counters are recovered from the journal, with what has been counted since, and are journaled (R66, R277). -/
def State.bootCounts (w : Nat) (s : State) : State :=
  let x := s.wing w
  let e := fun (idx now base : Nat) => ((x.wrk.entryOf idx 2).getD 0 + (now + 2 ^ 32 - base)) % 2 ^ 32
  let n := e 0x2001 x.sys.lifeResets x.sys.lifeBase
  let t := e 0x2002 x.sys.trips x.sys.tripBase
  let s := s.modWing w (fun y => { y with sys := { y.sys with lifeResets := n, lifeBase := n, trips := t, tripBase := t } })
  let s := s.jEntry w 0x2001 2 4 n
  if (x.wrk.entryOf 0x2002 2).getD 0 = t then s else s.jEntry w 0x2002 2 4 t

/-- Step 2 of R501, with LAST_APPLY_MS, a free value, when an update is applied (R507). -/
def State.bootApply (w : Nat) (s : State) : State :=
  if !bit (s.wing w).tru.boot 3 then s else
  let (v, s) := s.draw
  (s.bootUpdate w).modWing w (fun x => { x with tru := { x.tru with applyMs := v.toNat % 2 ^ 32 } })

/-- The highest generation of the store image that verifies is loaded (R276), and its absence told. -/
def State.bootImage (w : Nat) (s : State) : State :=
  match (s.wing w).verified with
  | some (g, i) =>
    s.modWing w (fun x => ({ x with wrk := { x.wrk with stored := i, gen := g, older := if g = x.wrk.gen then x.wrk.older else none,
                                                         missing := false } }).loadImage)
  | none =>
    (s.modWing w (fun x => ({ x with wrk := { x.wrk with stored := {}, gen := 0, older := none, missing := true } }).loadImage)).event 6 w 3 [o8 w]

/-- The wing's own copy of the port image names it in a pair (R257, R278). -/
def Work.copyNames (w : Nat) (k : Work) : Bool :=
  match k.portCopy with
  | none => false
  | some (_, t) => (List.range 4).any (fun p => [1, 2].any (fun sub => decide (tget [] t (dpKey true (0x1180 + p) sub) = [o8 w])))

/-- Steps 4 to 6 of R241. A wing that its journal or its copy of the port image shows paired waits until the port's image is final, and a standby's
items wait (R244, R251). -/
def State.bootItems (w : Nat) (s : State) : State :=
  let s := s.modWing w Wing.loadItems
  let k := (s.wing w).wrk
  let wait := (k.pairTwin.isSome || k.copyNames w) && !s.port.imageFinal
  if wait then (s.modWing w (fun x => { x with wrk := { x.wrk with deferred := true } })).holdItems w
  else if s.role w = .standby then s.holdItems w else s.replayItems w

/-- The port reads the wing's copy of the port image as the wing leaves BOOT, or sends it the newest (R278). -/
def State.bootCopy (w : Nat) (s : State) : State :=
  let c := (s.wing w).copyVerified
  let s := s.modWing w (fun x => { x with wrk := { x.wrk with portCopy := c, portOlder := if c = x.wrk.portCopy then x.wrk.portOlder else none } })
  let g := (c.map (fun e => e.1)).getD 0
  if s.port.imageFinal then (if g < s.port.gen then s.modWing w (Wing.sealCopy s.port.gen s.port.stored) else s)
  else if c.isSome then { s with port := { s.port with copies := s.port.copies ++ [(w, g)] } } else s

/-- The steps of R501, after the journal has been read. -/
def State.bootAnnex (w : Nat) (s : State) : State :=
  ((((s.bootRollback w).bootApply w).bootAttest w).bootSlot w).modWing w Wing.bootJudge

/-- What the Curator sets in BOOT from the image: registers and tables, root, watchdog, applet, and the calibrations due (R96, R104, R431, R471). -/
def Wing.bootSet (w : Nat) (x : Wing) : Wing :=
  let y := (((x.pushAll w).bootRoot w).bootWdt).bootApplet
  { y with rx := { y.rx with calDue := y.rx.calDue ||| 0b1011, calFirst := true } }

/-- BOOT ends after `us` microseconds. -/
def State.bootEnd (w us : Nat) (s : State) : State :=
  let s := s.modWing w (fun x => x.jScan.replayCounters)
  let s := ((s.bootAnnex w).bootImage w).modWing w (fun x => (x.bootSet w).replayCounters)
  let s := ((((s.limRestore w).bootMark w).bootCounts w).bootItems w).bootCopy w
  let s := s.modWing w (fun x => { x with sys := { x.sys with bootTime := us } })
  if (s.wing w).sys.stopReq then (s.toState w .stopped 0).sweep w else s.enterRunning w

/-- BOOT_COMPLETE (R16): the Curator finishes BOOT, which has lasted `us`. -/
def execBootComplete (w : WingId) (us : BitVec 32) (s : State) : Out :=
  .next (if (s.wing w).sys.state = .boot then s.bootEnd w us.toNat else s)

/-- BOOT_STATE as the end of a trial leaves it (R502): `v` is the active image's SECURITY_VERSION. -/
def trialOver (b v : Nat) : Nat :=
  let n := bootState b (b % 4) 0 (b / 8 % 2) (b / 256 % 256)
  n / 2 ^ 32 * 2 ^ 32 + max (bits b 31 16) v * 65536 + n % 65536

/-- TRIAL_END (R502): the wing has stayed RUNNING for TRIAL_S. -/
def execTrialEnd (w : WingId) (s : State) : Out :=
  let x := s.wing w
  let b := x.tru.boot
  .next (if x.isRunning && bit b 2 then s.putBoot w (trialOver b (leNat (x.fls.oct (slotSector x.tru.slot) 12 2))) else s)

/-- SUCCESSOR_GENERATE (R512): LEAF_NEXT has reached 61,440. -/
def execSuccessorGenerate (w : WingId) (s : State) : Out :=
  let x := s.wing w
  .next (if x.isRunning && decide (61440 ≤ x.tru.leaf) && x.tru.attest = 1 && !x.cph.randFail then
    s.modWing w (fun y => { y with tru := { y.tru with attest := 2 } }) else s)

/-- SUCCESSOR_READY (R512): its four steps at once. -/
def execSuccessorReady (w : WingId) (s : State) : Out :=
  let x := s.wing w
  .next (if x.live && x.tru.attest = 2 && x.tru.file.isSome && !x.cph.randFail then
    let ((seeds, root), s) := s.newKey
    let gen := x.tru.keyGen
    let s := s.modWing w (fun y => { y with tru := { y.tru with successor := some (gen + 1, seeds, root), attest := 3 } })
    (s.putPosition w gen 65536).certify w
  else s)

end Sys2Proof.Machine
end

