-- ==== Sys2Proof/Machine/CoreAlu.lean ====
section
/-! DEFINITION. The core's arithmetic, logic, shift, bit, multiply, divide and decimal instructions (R408, R411 to R415). -/
namespace Sys2Proof.Machine
open Sys2Proof

/-- The one-operand encodings 0000 0010 oooo dddd (R408). -/
def opOne (o : Nat) (d : Reg) : Word := w16 (0x0200 + 16 * o + d)

/-- The encodings 0001 oooo dddd ssss (R408). -/
def opAlu (o : Nat) (d r : Reg) : Word := w16 (0x1000 + 256 * o + 16 * d + r)

/-- The encodings tttt dddd kkkk kkkk (R408). -/
def opImm (t : Nat) (d : Reg) (k : Octet) : Word := w16 (0x1000 * t + 256 * d + k.toNat)

/-- The extended encodings 1110 gggg dddd ssss (R413). -/
def opExt (g : Nat) (d : Reg) (low : Nat) : Word := w16 (0xE000 + 256 * g + 16 * d + low)

/-- An instruction that writes Wd and flags from Wd and ST. -/
def oneRun (w : Nat) (op : Word) (d : Reg) (f : Word → Word → Word × Word) (s : State) : Out :=
  coreStep w op 1 (fun c => c.putF d (f (c.get d) c.st)) s

/-- An instruction that writes Wd and flags from Wd, Ws and ST. -/
def twoRun (w : Nat) (op : Word) (len : Nat) (d : Reg) (b : Core → Word) (f : Word → Word → Word → Word × Word) (s : State) : Out :=
  coreStep w op len (fun c => c.putF d (f (c.get d) (b c) c.st)) s

/-- An instruction that sets flags only. -/
def flagRun (w : Nat) (op : Word) (len : Nat) (d : Reg) (b : Core → Word) (f : Word → Word → Word → Word × Word) (s : State) : Out :=
  coreStep w op len (fun c => { c with st := (f (c.get d) (b c) c.st).2 }) s

/-- A result with Z and N of it. -/
def logicF (r st : Word) : Word × Word := (r, flagsZN r st)

/-- ADD without a carry in. -/
def plainAdd (a b st : Word) : Word × Word := addF a b false false st
/-- SUB without a borrow in. -/
def plainSub (a b st : Word) : Word × Word := subF a b false false st
/-- AND, OR and XOR. -/
def andF (a b st : Word) : Word × Word := logicF (a &&& b) st
/-- OR. -/
def orF (a b st : Word) : Word × Word := logicF (a ||| b) st
/-- XOR. -/
def xorF (a b st : Word) : Word × Word := logicF (a ^^^ b) st

/-- NOP (R408). -/
def execNop (w : WingId) (s : State) : Out := coreStep w 0x0000 1 (fun c => c) s
/-- CLC (R408). -/
def execClc (w : WingId) (s : State) : Out := coreStep w 0x0009 1 (fun c => { c with st := putBit fC false c.st }) s
/-- SEC (R408). -/
def execSec (w : WingId) (s : State) : Out := coreStep w 0x000A 1 (fun c => { c with st := putBit fC true c.st }) s
/-- NEG (R408). -/
def execNeg (w : WingId) (d : Reg) (s : State) : Out := oneRun w (opOne 0 d) d (fun a st => plainSub 0 a st) s
/-- NOT (R408). -/
def execNot (w : WingId) (d : Reg) (s : State) : Out := oneRun w (opOne 1 d) d (fun a st => logicF (~~~ a) st) s
/-- INC (R408). -/
def execInc (w : WingId) (d : Reg) (s : State) : Out := oneRun w (opOne 2 d) d (incF false) s
/-- DEC (R408). -/
def execDec (w : WingId) (d : Reg) (s : State) : Out := oneRun w (opOne 3 d) d (incF true) s
/-- SWAB (R408). -/
def execSwab (w : WingId) (d : Reg) (s : State) : Out := oneRun w (opOne 4 d) d (fun a st => logicF (a.rotateLeft 8) st) s
/-- SXT (R408). -/
def execSxt (w : WingId) (d : Reg) (s : State) : Out := oneRun w (opOne 5 d) d (fun a st => logicF (sx8 (o8 a.toNat)) st) s
/-- ZXT (R408). -/
def execZxt (w : WingId) (d : Reg) (s : State) : Out := oneRun w (opOne 6 d) d (fun a st => logicF (a &&& 0xFF) st) s
/-- CLR (R408). -/
def execClr (w : WingId) (d : Reg) (s : State) : Out := oneRun w (opOne 7 d) d (fun _ st => logicF 0 st) s

/-- ADD (R408). -/
def execAdd (w : WingId) (d r : Reg) (s : State) : Out := twoRun w (opAlu 0 d r) 1 d (fun c => c.get r) plainAdd s
/-- ADDC (R407, R408). -/
def execAddc (w : WingId) (d r : Reg) (s : State) : Out :=
  twoRun w (opAlu 1 d r) 1 d (fun c => c.get r) (fun a b st => addF a b (st.getLsbD fC) true st) s
/-- SUB (R408). -/
def execSub (w : WingId) (d r : Reg) (s : State) : Out := twoRun w (opAlu 2 d r) 1 d (fun c => c.get r) plainSub s
/-- SUBB (R407, R408). -/
def execSubb (w : WingId) (d r : Reg) (s : State) : Out :=
  twoRun w (opAlu 3 d r) 1 d (fun c => c.get r) (fun a b st => subF a b (st.getLsbD fC) true st) s
/-- AND (R408). -/
def execAnd (w : WingId) (d r : Reg) (s : State) : Out := twoRun w (opAlu 4 d r) 1 d (fun c => c.get r) andF s
/-- OR (R408). -/
def execOr (w : WingId) (d r : Reg) (s : State) : Out := twoRun w (opAlu 5 d r) 1 d (fun c => c.get r) orF s
/-- XOR (R408). -/
def execXor (w : WingId) (d r : Reg) (s : State) : Out := twoRun w (opAlu 6 d r) 1 d (fun c => c.get r) xorF s
/-- MOV (R408). -/
def execMov (w : WingId) (d r : Reg) (s : State) : Out := coreStep w (opAlu 7 d r) 1 (fun c => c.put d (c.get r)) s
/-- CMP (R408). -/
def execCmp (w : WingId) (d r : Reg) (s : State) : Out := flagRun w (opAlu 8 d r) 1 d (fun c => c.get r) plainSub s
/-- TST (R408). -/
def execTst (w : WingId) (d r : Reg) (s : State) : Out := flagRun w (opAlu 9 d r) 1 d (fun c => c.get r) andF s

/-- MOVI (R408). -/
def execMovi (w : WingId) (d : Reg) (k : Octet) (s : State) : Out := coreStep w (opImm 2 d k) 1 (fun c => c.put d (sx8 k)) s
/-- ADDI (R408). -/
def execAddi (w : WingId) (d : Reg) (k : Octet) (s : State) : Out := twoRun w (opImm 3 d k) 1 d (fun _ => sx8 k) plainAdd s
/-- CMPI (R408). -/
def execCmpi (w : WingId) (d : Reg) (k : Octet) (s : State) : Out := flagRun w (opImm 4 d k) 1 d (fun _ => sx8 k) plainSub s

/-- MOVL (R413). -/
def execMovl (w : WingId) (d : Reg) (k : Word) (s : State) : Out := coreStep w (opExt 11 d 0) 2 (fun c => c.put d k) s
/-- ADDL (R413). -/
def execAddl (w : WingId) (d : Reg) (k : Word) (s : State) : Out := twoRun w (opExt 11 d 1) 2 d (fun _ => k) plainAdd s
/-- SUBL (R413). -/
def execSubl (w : WingId) (d : Reg) (k : Word) (s : State) : Out := twoRun w (opExt 11 d 2) 2 d (fun _ => k) plainSub s
/-- ANDL (R413). -/
def execAndl (w : WingId) (d : Reg) (k : Word) (s : State) : Out := twoRun w (opExt 11 d 3) 2 d (fun _ => k) andF s
/-- ORL (R413). -/
def execOrl (w : WingId) (d : Reg) (k : Word) (s : State) : Out := twoRun w (opExt 11 d 4) 2 d (fun _ => k) orF s
/-- XORL (R413). -/
def execXorl (w : WingId) (d : Reg) (k : Word) (s : State) : Out := twoRun w (opExt 11 d 5) 2 d (fun _ => k) xorF s
/-- CMPL (R413). -/
def execCmpl (w : WingId) (d : Reg) (k : Word) (s : State) : Out := flagRun w (opExt 11 d 6) 2 d (fun _ => k) plainSub s

/-- The encoding of a shift, 1000 ffgr dddd cccc (R412). -/
def opShift (k : Shift) (d : Reg) (byReg : Bool) (c : Reg) : Word :=
  let f := match k with | .shzL => 0 | .shzR => 2 | .shsR => 6 | .rotL => 8 | .rotR => 10 | .rtcL => 12 | .rtcR => 14
  w16 (0x8000 + 256 * (f + b2n byReg) + 16 * d + c)

/-- A shift by the count `c`, 0 meaning 16, or by Wc[3:0] (R412). -/
def shiftRun (w : Nat) (k : Shift) (d : Reg) (byReg : Bool) (c : Reg) (s : State) : Out :=
  coreStep w (opShift k d byReg c) 1 (fun x =>
    let n := if byReg then (x.get c).toNat % 16 else if c.val = 0 then 16 else c.val
    x.putF d (shiftF k n (x.get d) x.st)) s

/-- SHZ.L (R412). -/
def execShzL (w : WingId) (d : Reg) (byReg : Bool) (c : Reg) (s : State) : Out := shiftRun w .shzL d byReg c s
/-- SHZ.R (R412). -/
def execShzR (w : WingId) (d : Reg) (byReg : Bool) (c : Reg) (s : State) : Out := shiftRun w .shzR d byReg c s
/-- SHS.R (R412). -/
def execShsR (w : WingId) (d : Reg) (byReg : Bool) (c : Reg) (s : State) : Out := shiftRun w .shsR d byReg c s
/-- ROT.L (R412). -/
def execRotL (w : WingId) (d : Reg) (byReg : Bool) (c : Reg) (s : State) : Out := shiftRun w .rotL d byReg c s
/-- ROT.R (R412). -/
def execRotR (w : WingId) (d : Reg) (byReg : Bool) (c : Reg) (s : State) : Out := shiftRun w .rotR d byReg c s
/-- RTC.L (R412). -/
def execRtcL (w : WingId) (d : Reg) (byReg : Bool) (c : Reg) (s : State) : Out := shiftRun w .rtcL d byReg c s
/-- RTC.R (R412). -/
def execRtcR (w : WingId) (d : Reg) (byReg : Bool) (c : Reg) (s : State) : Out := shiftRun w .rtcR d byReg c s

/-- One of the four bit operations, in the order of their codes (R412). -/
inductive BitOp | set | clear | invert | test
  deriving DecidableEq, Repr

/-- The word after a bit operation at bit `i`. -/
def BitOp.apply (o : BitOp) (i : Nat) (a : Word) : Word :=
  let m := BitVec.twoPow 16 i
  match o with | .set => a ||| m | .clear => a &&& ~~~ m | .invert => a ^^^ m | .test => a

/-- A bit operation: C takes the old bit, and BIT.T stores nothing (R412). -/
def bitRun (w : Nat) (o : BitOp) (d : Reg) (byReg : Bool) (c : Reg) (s : State) : Out :=
  let k := match o with | .set => 0 | .clear => 4 | .invert => 8 | .test => 12
  coreStep w (w16 (0xD000 + 256 * (k + 2 * b2n byReg) + 16 * d + c)) 1 (fun x =>
    let i := if byReg then (x.get c).toNat % 16 else c.val
    let a := x.get d
    x.putF d (o.apply i a, putBit fC (a.getLsbD i) x.st)) s

/-- BIT.S (R412). -/
def execBitS (w : WingId) (d : Reg) (byReg : Bool) (c : Reg) (s : State) : Out := bitRun w .set d byReg c s
/-- BIT.C (R412). -/
def execBitC (w : WingId) (d : Reg) (byReg : Bool) (c : Reg) (s : State) : Out := bitRun w .clear d byReg c s
/-- BIT.I (R412). -/
def execBitI (w : WingId) (d : Reg) (byReg : Bool) (c : Reg) (s : State) : Out := bitRun w .invert d byReg c s
/-- BIT.T (R412). -/
def execBitT (w : WingId) (d : Reg) (byReg : Bool) (c : Reg) (s : State) : Out := bitRun w .test d byReg c s

/-- The other register of a pair. -/
def regNext (d : Reg) : Reg := d + 1

/-- A 32-bit product into W(d+1):Wd, with Z and N of it and C and V 0 (R413). -/
def mulCore (d : Reg) (p : Nat) (c : Core) : Core :=
  let lo := w16 p
  let hi := w16 (p / 0x10000)
  { (c.put d lo).put (regNext d) hi with
    st := putBit fV false (putBit fC false (putBit fN hi.msb (putBit fZ (p % 2 ^ 32 == 0) c.st))) }

/-- MULU and MULS: an odd d is reserved (R413). -/
def mulRun (w : Nat) (g : Nat) (d r : Reg) (p : Word → Word → Nat) (s : State) : Out :=
  coreRun w (opExt g d r) 1 (fun t =>
    if d.val % 2 = 1 then .error .reserved
    else .ok (t.modCore w (fun c => mulCore d (p (c.get d) (c.get r)) c))) s

/-- MULU (R413). -/
def execMulu (w : WingId) (d r : Reg) (s : State) : Out := mulRun w 0 d r (fun a b => a.toNat * b.toNat) s
/-- MULS (R413). -/
def execMuls (w : WingId) (d r : Reg) (s : State) : Out := mulRun w 1 d r (fun a b => ofSigned 32 (a.toInt * b.toInt)) s

/-- The flags of DIVU (R413): V, and with V the Z of the old quotient place, which the spec leaves open, from `z`. -/
def divFlags (z v : Bool) (st : Word) : Word := putBit fV v (putBit fC false (putBit fN false (putBit fZ z st)))

/-- DIVU (R413): DIVIDE for a zero divisor; V and no register where the quotient does not fit (Z is then free, log 29). -/
def execDivu (w : WingId) (d r : Reg) (s : State) : Out :=
  coreRun w (opExt 2 d r) 1 (fun t =>
    if d.val % 2 = 1 then .error .reserved else
    let c := (t.wing w).core
    let b := (c.get r).toNat
    let hi := (c.get (regNext d)).toNat
    let n := hi * 0x10000 + (c.get d).toNat
    if b = 0 then .error .divide
    else if b ≤ hi then
      let (v, t) := t.draw
      .ok (t.modCore w (fun c => { c with st := divFlags (v.getLsbD 0) true c.st }))
    else
      let q := w16 (n / b)
      .ok (t.modCore w (fun c => { (c.put d q).put (regNext d) (w16 (n % b)) with st := divFlags (q == 0) false c.st }))) s

/-- ADDD (R415). -/
def execAddd (w : WingId) (d r : Reg) (s : State) : Out := twoRun w (opExt 3 d r) 1 d (fun c => c.get r) (bcdF false) s
/-- SUBD (R415). -/
def execSubd (w : WingId) (d r : Reg) (s : State) : Out := twoRun w (opExt 4 d r) 1 d (fun c => c.get r) (bcdF true) s
/-- DSHL (R415). -/
def execDshl (w : WingId) (d r : Reg) (s : State) : Out :=
  twoRun w (opExt 5 d r) 1 d (fun c => c.get r) (fun a b st =>
    let x := (a <<< 4) ||| (b >>> 12); (x, flagsZN x (putBit fC (a >>> 12 != 0) st))) s
/-- DSHR (R415). -/
def execDshr (w : WingId) (d r : Reg) (s : State) : Out :=
  twoRun w (opExt 6 d r) 1 d (fun c => c.get r) (fun a b st =>
    let x := (b <<< 12) ||| (a >>> 4); (x, flagsZN x (putBit fC (a &&& 0xF != 0) st))) s
/-- DAA (R415). -/
def execDaa (w : WingId) (d : Reg) (s : State) : Out := oneRun w (opExt 7 d 0) d (adjustF false) s
/-- DAS (R415). -/
def execDas (w : WingId) (d : Reg) (s : State) : Out := oneRun w (opExt 7 d 1) d (adjustF true) s

end Sys2Proof.Machine
end

