-- ==== Sys2Proof/Machine/CoreMem.lean ====
section
/-! DEFINITION. The core's loads, stores and exchanges (R408, R409, R413), control transfers (R410, R411), system instructions
(R408, R414, R419, R422, R425, R427, R432) and string instructions (R416 to R418). -/
namespace Sys2Proof.Machine
open Sys2Proof

/-- A load from the effective address `ea`, after which `upd` changes the core, with the word read. -/
def loadRun (w : Nat) (op : Word) (len : Nat) (ea : Core → Word) (upd : Word → Core → Core) (s : State) : Out :=
  coreRun w op len (fun t =>
    let x := t.wing w
    let a := ea x.core
    match x.eaFault false a with
    | some e => .error e
    | none => let (v, t) := t.eaRead w a; .ok (t.modCore w (upd v))) s

/-- A store of `val` at the effective address `ea`, both from the core as it stood, and the change `upd` of the core. -/
def storeRun (w : Nat) (op : Word) (len : Nat) (ea val : Core → Word) (upd : Core → Core) (s : State) : Out :=
  coreRun w op len (fun t =>
    let x := t.wing w
    let a := ea x.core
    match x.eaFault true a with
    | some e => .error e
    | none => .ok ((t.modCore w upd).eaWrite w a (val x.core))) s

/-- LDW Wd, [Wb + k] (R408). -/
def execLdwDisp (w : WingId) (d b : Reg) (k : BitVec 4) (s : State) : Out :=
  loadRun w (w16 (0x5000 + 256 * d + 16 * b + k.toNat)) 1 (fun c => c.get b + w16 k.toNat) (fun v c => c.put d v) s
/-- STW Ws, [Wb + k] (R408). -/
def execStwDisp (w : WingId) (r b : Reg) (k : BitVec 4) (s : State) : Out :=
  storeRun w (w16 (0x6000 + 256 * r + 16 * b + k.toNat)) 1 (fun c => c.get b + w16 k.toNat) (fun c => c.get r) (fun c => c) s
/-- LDW Wd, [Wb+] (R408, R409). -/
def execLdwPostinc (w : WingId) (d b : Reg) (s : State) : Out :=
  loadRun w (w16 (0x7000 + 16 * d + b)) 1 (fun c => c.get b) (fun v c => (c.put b (c.get b + 1)).put d v) s
/-- LDW Wd, [−Wb] (R408, R409). -/
def execLdwPredec (w : WingId) (d b : Reg) (s : State) : Out :=
  loadRun w (w16 (0x7100 + 16 * d + b)) 1 (fun c => c.get b - 1) (fun v c => (c.put b (c.get b - 1)).put d v) s
/-- STW Ws, [Wb+] (R408, R409). -/
def execStwPostinc (w : WingId) (r b : Reg) (s : State) : Out :=
  storeRun w (w16 (0x7200 + 16 * r + b)) 1 (fun c => c.get b) (fun c => c.get r) (fun c => c.put b (c.get b + 1)) s
/-- STW Ws, [−Wb] (R408, R409). -/
def execStwPredec (w : WingId) (r b : Reg) (s : State) : Out :=
  storeRun w (w16 (0x7300 + 16 * r + b)) 1 (fun c => c.get b - 1) (fun c => c.get r) (fun c => c.put b (c.get b - 1)) s
/-- XCH Wd, [Wb] (R408, R409): the read and the write, with nothing between them. -/
def execXch (w : WingId) (d b : Reg) (s : State) : Out :=
  coreRun w (w16 (0x7400 + 16 * d + b)) 1 (fun t =>
    let x := t.wing w
    let a := x.core.get b
    match (x.eaFault false a <|> x.eaFault true a) with
    | some e => .error e
    | none => let (v, t) := t.eaRead w a; .ok ((t.modCore w (fun c => c.put d v)).busWrite x.core.applet w (x.core.phys a) (x.core.get d))) s
/-- LDA Wd, [k] (R413). -/
def execLda (w : WingId) (d : Reg) (k : Word) (s : State) : Out := loadRun w (opExt 11 d 7) 2 (fun _ => k) (fun v c => c.put d v) s
/-- STA Wd, [k] (R413). -/
def execSta (w : WingId) (r : Reg) (k : Word) (s : State) : Out :=
  storeRun w (opExt 11 r 8) 2 (fun _ => k) (fun c => c.get r) (fun c => c) s

/-- A near transfer by an instruction of one word (R403): `t` gives the target from the core with PC at the next word. -/
def nearRun (w : Nat) (op : Word) (upd : Core → Core) (taken : Core → Bool) (t : Core → Word) (s : State) : Out :=
  coreStep w op 1 (fun c => if taken c then (upd c).near ((c.pc - 1).toNat / 0x10000) (t c) else upd c) s

/-- Bcc (R410). -/
def execBcc (w : WingId) (c : BitVec 4) (k : Octet) (s : State) : Out :=
  nearRun w (w16 (0x9000 + 256 * c.toNat + k.toNat)) (fun x => x) (fun x => condHolds c x.st) (fun x => x.pcLow + sx8 k) s
/-- BRA (R410). -/
def execBra (w : WingId) (k : BitVec 12) (s : State) : Out :=
  nearRun w (w16 (0xA000 + k.toNat)) (fun x => x) (fun _ => true) (fun x => x.pcLow + k.signExtend 16) s
/-- CALL (R410). -/
def execCall (w : WingId) (k : BitVec 12) (s : State) : Out :=
  nearRun w (w16 (0xB000 + k.toNat)) (fun x => x.put 14 x.pcLow) (fun _ => true) (fun x => x.pcLow + k.signExtend 16) s
/-- DBNZ (R411). -/
def execDbnz (w : WingId) (d : Reg) (k : Octet) (s : State) : Out :=
  nearRun w (opImm 12 d k) (fun x => x.put d (x.get d - 1)) (fun x => x.get d - 1 != 0) (fun x => x.pcLow + sx8 k) s
/-- JMP Wd (R410). -/
def execJmpReg (w : WingId) (d : Reg) (s : State) : Out :=
  nearRun w (opExt 14 d 0) (fun x => x) (fun _ => true) (fun x => x.get d) s
/-- CALL Wd (R410). -/
def execCallReg (w : WingId) (d : Reg) (s : State) : Out :=
  nearRun w (opExt 14 d 1) (fun x => x.put 14 x.pcLow) (fun _ => true) (fun x => x.get d) s
/-- RET (R408). -/
def execRet (w : WingId) (s : State) : Out := nearRun w 0x0001 (fun x => x) (fun _ => true) (fun x => x.get 14) s
/-- RETF (R408). -/
def execRetf (w : WingId) (s : State) : Out :=
  coreRun w 0x0002 1 (fun t =>
    let x := t.wing w
    let sp := x.core.get 15
    match x.stackFault false sp with
    | some e => .error e
    | none =>
      let (v, t) := t.eaRead w sp
      .ok (t.modCore w (fun c => (c.put 15 (sp + 1)).near (v.toNat % 256) (c.get 14)))) s
/-- CALLF (R410). -/
def execCallf (w : WingId) (a : BitVec 24) (s : State) : Out :=
  coreRun w (w16 (0xEC00 + a.toNat / 0x10000)) 2 (fun t =>
    let x := t.wing w
    let sp := x.core.get 15 - 1
    match x.stackFault true sp with
    | some e => .error e
    | none => .ok ((t.modCore w (fun c => { (c.put 15 sp).put 14 c.pcLow with pc := a })).eaWrite w sp (w16 x.core.seg))) s
/-- JMPF (R410). -/
def execJmpf (w : WingId) (a : BitVec 24) (s : State) : Out :=
  coreStep w (w16 (0xED00 + a.toNat / 0x10000)) 2 (fun c => { c with pc := a }) s

/-- RETI (R422), Keeper-only. -/
def execReti (w : WingId) (s : State) : Out := keeperRun w 0x0003 (fun t => t.reti w) s
/-- SLEEP (R425), Keeper-only: it ends at once while the Docent presents a request. -/
def execSleep (w : WingId) (s : State) : Out :=
  keeperRun w 0x0004 (fun t => .ok (if (t.wing w).doc.request then t else t.modCore w (fun c => { c with run := .asleep }))) s
/-- BRK (R432). -/
def execBrk (w : WingId) (s : State) : Out :=
  coreRun w 0x0005 1 (fun t => .ok (if (t.wing w).debug then (t.modCore w (fun c => { c with pc := c.pc - 1 })).halt w else t.brk w 0x0005)) s
/-- EI (R408), Keeper-only. -/
def execEi (w : WingId) (s : State) : Out := keeperRun w 0x0006 (fun t => .ok (t.modCore w (fun c => { c with st := putBit fIE true c.st }))) s
/-- DI (R408), Keeper-only. -/
def execDi (w : WingId) (s : State) : Out := keeperRun w 0x0007 (fun t => .ok (t.modCore w (fun c => { c with st := putBit fIE false c.st }))) s
/-- FENCE (R427): every older store has already been made. -/
def execFence (w : WingId) (s : State) : Out := coreStep w 0x0008 1 (fun c => c) s
/-- SVC #n (R419). -/
def execSvc (w : WingId) (n : Octet) (s : State) : Out :=
  coreRun w (w16 (0x0100 + n.toNat)) 1 (fun t => .ok (t.svc w n.toNat (w16 (0x0100 + n.toNat)))) s
/-- MFS (R414). -/
def execMfs (w : WingId) (d : Reg) (n : Fin 16) (s : State) : Out :=
  coreRun w (opExt 8 d n) 1 (fun t =>
    let c := (t.wing w).core
    match c.mfs n ((c.pc - 1).toNat / 0x10000) with
    | none => .error .reserved
    | some v => .ok (t.modCore w (fun c => c.put d v))) s
/-- MTS (R414). -/
def execMts (w : WingId) (n : Fin 16) (r : Reg) (s : State) : Out :=
  coreRun w (opExt 9 n r) 1 (fun t =>
    let c := (t.wing w).core
    match c.mts n (c.get r) with
    | none => .error .reserved
    | some c' => .ok (t.modCore w (fun _ => c'))) s

/-- What a string instruction does with one element (R416). -/
inductive RptOp | movs | fills | cmps | scans
  deriving DecidableEq, Repr

/-- Its code in the encoding 1110 1010 oooo 0000. -/
def RptOp.code : RptOp → Nat | .movs => 0 | .fills => 1 | .cmps => 2 | .scans => 3

/-- W `r` of a core outside its stack pointer. -/
def Core.reg (c : Core) (r : Nat) : Word := tget 0 c.w r

/-- One element (R416), with W11 one lower: whether the instruction stops early. A store comes last. -/
def State.rptElem (w : Nat) (applet : Bool) (o : RptOp) (s : State) : Except Trap (Bool × State) :=
  let x := s.wing w
  let c := x.core
  let src := c.reg 12
  let dst := c.reg 13
  let fault := fun (wr : Bool) (ea : Word) =>
    let k : AccKind := if wr then .store else .load
    (x.deny applet k (c.phys ea)).map (fun u => Trap.access k.code ea u)
  let reads := fun (ea : Word) (t : State) => t.busRead applet w (c.phys ea)
  let bump := fun (a b : Bool) (c : Core) =>
    { c with w := tset 0 11 (c.reg 11 - 1) (tset 0 12 (c.reg 12 + w16 (b2n a)) (tset 0 13 (c.reg 13 + w16 (b2n b)) c.w)) }
  match o with
  | .movs => match (fault false src <|> fault true dst) with
    | some e => .error e
    | none =>
      let (v, t) := reads src s
      .ok (false, (t.modCore w (bump true true)).busWrite applet w (c.phys dst) v)
  | .fills => match fault true dst with
    | some e => .error e
    | none => .ok (false, (s.modCore w (bump false true)).busWrite applet w (c.phys dst) (c.reg 0))
  | .cmps => match (fault false src <|> fault false dst) with
    | some e => .error e
    | none =>
      let (a, t) := reads src s
      let (b, t) := reads dst t
      .ok (a != b, t.modCore w (fun c => { bump true true c with st := (plainSub a b c.st).2 }))
  | .scans => match fault false src with
    | some e => .error e
    | none =>
      let (a, t) := reads src s
      .ok (a == c.reg 0, t.modCore w (fun c' => { bump true false c' with st := (plainSub a (c.reg 0) c'.st).2 }))

/-- At most `n` elements: how many were done, whether the instruction has ended, and the fault that stopped it. -/
def State.rptLoop (w : Nat) (applet : Bool) (o : RptOp) : Nat → Nat → State → Nat × Bool × Option Trap × State
  | 0, k, s => (k, (s.wing w).core.reg 11 == 0, none, s)
  | n + 1, k, s =>
    if (s.wing w).core.reg 11 = 0 then (k, true, none, s) else
    match s.rptElem w applet o with
    | .error e => (k, false, some e, s)
    | .ok (stop, t) =>
      if stop || (t.wing w).core.reg 11 = 0 then (k + 1, true, none, t)
      else if !(t.wing w).awake || (!applet && (t.wing w).intDue) then (k + 1, false, none, t)
      else State.rptLoop w applet o n (k + 1) t

/-- The flags of CMPS and SCANS with W11 = 0 at the start (R416). -/
def RptOp.empty (o : RptOp) (c : Core) : Core :=
  if c.reg 11 ≠ 0 then c else
  match o with | .cmps => { c with st := putBit fZ true c.st } | .scans => { c with st := putBit fZ false c.st } | _ => c

/-- A string instruction in applet mode (R418): the RESERVED_OP trap, the Curator's emulation, and the return. -/
def State.rptEmulate (w : Nat) (o : RptOp) (op : Word) (s : State) : State :=
  let c0 := (s.wing w).core
  let s := (s.modWing w (Wing.trapCount 1)).trapEnter w 1 c0.pc c0.pc op
  if !(s.wing w).awake then s else
  let back := fun (t : State) (next : BitVec 24) => t.modCore w (fun c => { c with kSp := c0.kSp, pc := next, st := (c.st &&& 0x1F) ||| (c0.st &&& 0xE0) })
  let s := (s.modWing w (Wing.bump 0 0x280105)).modCore w (fun c => o.empty { c with st := c0.st })
  let (k, _, e, t) := State.rptLoop w true o 0x10000 0 s
  let t := t.modWing w (fun x => iter k (Wing.bump 0 0x280106) x)
  if !(t.wing w).awake then t else
  let t := back t (c0.pc + (if e.isSome then 0 else 1))
  match e with | none => t | some _ => t.appletEnd w .faulted 3 (t.wing w).apl.exitCode

/-- A string instruction (R416 to R418): in Keeper mode up to `n` elements before an interrupt or a halt comes between two, and PC
stays at the instruction until it ends. -/
def rptRun (w : Nat) (o : RptOp) (n : Nat) (s : State) : Out :=
  let op := w16 (0xEA00 + 16 * o.code)
  .next (if !(s.wing w).ready then s else
    match s.fetchFault w 1 with
    | some (t, s') => s'.raiseTrap w op t
    | none =>
      if (s.wing w).core.applet then s.rptEmulate w o op else
      let (_, done, e, t) := State.rptLoop w false o n 0 (s.modCore w o.empty)
      match e with
      | some e => t.raiseTrap w op e
      | none => if done && (t.wing w).awake then t.modCore w (fun c => { c with pc := c.pc + 1 }) else t)

/-- RPT MOVS (R416). -/
def execRptMovs (w : WingId) (n : Word) (s : State) : Out := rptRun w .movs n.toNat s
/-- RPT FILLS (R416). -/
def execRptFills (w : WingId) (n : Word) (s : State) : Out := rptRun w .fills n.toNat s
/-- RPT CMPS (R416). -/
def execRptCmps (w : WingId) (n : Word) (s : State) : Out := rptRun w .cmps n.toNat s
/-- RPT SCANS (R416). -/
def execRptScans (w : WingId) (n : Word) (s : State) : Out := rptRun w .scans n.toNat s

end Sys2Proof.Machine
end

