-- ==== Sys2Proof/Machine/Dispatch.lean ====
section
/-! DEFINITION. The dispatch: one arm per command, each one direct call of its meaning. -/
namespace Sys2Proof.Machine
open Sys2Proof

/-- The effect of a command on everything but the queue. -/
def exec (i : Instr) (s : State) : Host.Outcome State Fault Refusal :=
  match i with
  | .podlClassification granted => Sys2Proof.Machine.execPodlClassification granted s
  | .lineRise mv => Sys2Proof.Machine.execLineRise mv s
  | .lineDebounceExpiry => Sys2Proof.Machine.execLineDebounceExpiry s
  | .gateRampComplete => Sys2Proof.Machine.execGateRampComplete s
  | .lineFall mv => Sys2Proof.Machine.execLineFall mv s
  | .lineOvervoltage mv => Sys2Proof.Machine.execLineOvervoltage mv s
  | .overvoltageReleaseExpiry mv => Sys2Proof.Machine.execOvervoltageReleaseExpiry mv s
  | .bootselChange level => Sys2Proof.Machine.execBootselChange level s
  | .mainGoodReported vbak => Sys2Proof.Machine.execMainGoodReported vbak s
  | .brownoutBegin vbak wild => Sys2Proof.Machine.execBrownoutBegin vbak wild s
  | .brownoutReset byVint => Sys2Proof.Machine.execBrownoutReset byVint s
  | .railFault vbak wild => Sys2Proof.Machine.execRailFault vbak wild s
  | .vcoreAdapt step => Sys2Proof.Machine.execVcoreAdapt step s
  | .backupPor => Sys2Proof.Machine.execBackupPor s
  | .backupPorRelease => Sys2Proof.Machine.execBackupPorRelease s
  | .writeFreeze => Sys2Proof.Machine.execWriteFreeze s
  | .writeFreezeRelease => Sys2Proof.Machine.execWriteFreezeRelease s
  | .vbakSample mv => Sys2Proof.Machine.execVbakSample mv s
  | .cellLowCrossing mv => Sys2Proof.Machine.execCellLowCrossing mv s
  | .watchEnd => Sys2Proof.Machine.execWatchEnd s
  | .resetNAssert => Sys2Proof.Machine.execResetNAssert s
  | .resetNRelease => Sys2Proof.Machine.execResetNRelease s
  | .resetRequest rq w value => Sys2Proof.Machine.execResetRequest rq w value s
  | .cpuSelfReset w value => Sys2Proof.Machine.execCpuSelfReset w value s
  | .wingResetRelease w => Sys2Proof.Machine.execWingResetRelease w s
  | .bootComplete w us => Sys2Proof.Machine.execBootComplete w us s
  | .thermalTrip w temp => Sys2Proof.Machine.execThermalTrip w temp s
  | .thermalRecovery w temp => Sys2Proof.Machine.execThermalRecovery w temp s
  | .pllLock w => Sys2Proof.Machine.execPllLock w s
  | .pllUnlock w => Sys2Proof.Machine.execPllUnlock w s
  | .refLost => Sys2Proof.Machine.execRefLost s
  | .stopRequest rq w value => Sys2Proof.Machine.execStopRequest rq w value s
  | .wingEnterStopped w => Sys2Proof.Machine.execWingEnterStopped w s
  | .preambleDetection w dt ds => Sys2Proof.Machine.execPreambleDetection w dt ds s
  | .sfdDetected w lane coded dt => Sys2Proof.Machine.execSfdDetected w lane coded dt s
  | .sfdTimeout w lane => Sys2Proof.Machine.execSfdTimeout w lane s
  | .phrEnd w lane ok modeSwitch length => Sys2Proof.Machine.execPhrEnd w lane ok modeSwitch length s
  | .frameEnd w lane psdu fcsOk fcs4 mcs freq snr dt => Sys2Proof.Machine.execFrameEnd w lane psdu fcsOk fcs4 mcs freq snr dt s
  | .overloadStart w dt => Sys2Proof.Machine.execOverloadStart w dt s
  | .overloadEnd w => Sys2Proof.Machine.execOverloadEnd w s
  | .rxBufFree w v => Sys2Proof.Machine.execRxBufFree w v s
  | .rxCalReq w v => Sys2Proof.Machine.execRxCalReq w v s
  | .calTempTrigger w filter => Sys2Proof.Machine.execCalTempTrigger w filter s
  | .calibrationStart w kind => Sys2Proof.Machine.execCalibrationStart w kind s
  | .calibrationComplete w kind ok value => Sys2Proof.Machine.execCalibrationComplete w kind ok value s
  | .calDeferTimeout w => Sys2Proof.Machine.execCalDeferTimeout w s
  | .calBackgroundUpdate w offs value => Sys2Proof.Machine.execCalBackgroundUpdate w offs value s
  | .lfCalMeasurement w err => Sys2Proof.Machine.execLfCalMeasurement w err s
  | .rcCounterRead w addr => Sys2Proof.Machine.execRcCounterRead w addr s
  | .lowWordLatchRead w applet addr => Sys2Proof.Machine.execLowWordLatchRead w applet addr s
  | .registerWrite w applet addr v => Sys2Proof.Machine.execRegisterWrite w applet addr v s
  | .radioTransitionDone w => Sys2Proof.Machine.execRadioTransitionDone w s
  | .txDecisionPoint w => Sys2Proof.Machine.execTxDecisionPoint w s
  | .txDeparture w => Sys2Proof.Machine.execTxDeparture w s
  | .synthCalDone w ok => Sys2Proof.Machine.execSynthCalDone w ok s
  | .txRampUp w => Sys2Proof.Machine.execTxRampUp w s
  | .txLastSymbol w => Sys2Proof.Machine.execTxLastSymbol w s
  | .txRampDownEnd w => Sys2Proof.Machine.execTxRampDownEnd w s
  | .txAbort w v dt => Sys2Proof.Machine.execTxAbort w v dt s
  | .txTest w mode => Sys2Proof.Machine.execTxTest w mode s
  | .testBlock w => Sys2Proof.Machine.execTestBlock w s
  | .bucketClose w => Sys2Proof.Machine.execBucketClose w s
  | .bucketJournal w sub => Sys2Proof.Machine.execBucketJournal w sub s
  | .txLimAck w amount => Sys2Proof.Machine.execTxLimAck w amount s
  | .dwellSubwindowClose w ch sub => Sys2Proof.Machine.execDwellSubwindowClose w ch sub s
  | .bootHoldEnd w sub => Sys2Proof.Machine.execBootHoldEnd w sub s
  | .watchWingWrite w => Sys2Proof.Machine.execWatchWingWrite w s
  | .slotResolve w => Sys2Proof.Machine.execSlotResolve w s
  | .slotBoundary w => Sys2Proof.Machine.execSlotBoundary w s
  | .radioWakeLead w => Sys2Proof.Machine.execRadioWakeLead w s
  | .listenWindowStart w dt => Sys2Proof.Machine.execListenWindowStart w dt s
  | .listenWindowEnd w dt => Sys2Proof.Machine.execListenWindowEnd w dt s
  | .txDescriptorTake w r => Sys2Proof.Machine.execTxDescriptorTake w r s
  | .ackEvaluation w id => Sys2Proof.Machine.execAckEvaluation w id s
  | .micCheckDone w id => Sys2Proof.Machine.execMicCheckDone w id s
  | .journalCheckDone w id => Sys2Proof.Machine.execJournalCheckDone w id s
  | .ackCheckDeadline w id => Sys2Proof.Machine.execAckCheckDeadline w id s
  | .ackReceived w => Sys2Proof.Machine.execAckReceived w s
  | .ackWindowExpiry w => Sys2Proof.Machine.execAckWindowExpiry w s
  | .windowMiss w cell => Sys2Proof.Machine.execWindowMiss w cell s
  | .recover w nb => Sys2Proof.Machine.execRecover w nb s
  | .hopSeed rq w value => Sys2Proof.Machine.execHopSeed rq w value s
  | .admission w => Sys2Proof.Machine.execAdmission w s
  | .floodLimitRaise w => Sys2Proof.Machine.execFloodLimitRaise w s
  | .searchTimeout w => Sys2Proof.Machine.execSearchTimeout w s
  | .orderExecute w => Sys2Proof.Machine.execOrderExecute w s
  | .barrierConfirm w => Sys2Proof.Machine.execBarrierConfirm w s
  | .autoStore w => Sys2Proof.Machine.execAutoStore w s
  | .intakeDescriptor w => Sys2Proof.Machine.execIntakeDescriptor w s
  | .itemCompletion w => Sys2Proof.Machine.execItemCompletion w s
  | .journalCarry w => Sys2Proof.Machine.execJournalCarry w s
  | .twinBind w => Sys2Proof.Machine.execTwinBind w s
  | .twinRecord w => Sys2Proof.Machine.execTwinRecord w s
  | .twinSealed w => Sys2Proof.Machine.execTwinSealed w s
  | .twinState w => Sys2Proof.Machine.execTwinState w s
  | .seedBegin w => Sys2Proof.Machine.execSeedBegin w s
  | .seedEnd w => Sys2Proof.Machine.execSeedEnd w s
  | .sealedTimeout p => Sys2Proof.Machine.execSealedTimeout p s
  | .pairForm rq p a b => Sys2Proof.Machine.execPairForm rq p a b s
  | .pairDissolve rq p => Sys2Proof.Machine.execPairDissolve rq p s
  | .twinBeat w => Sys2Proof.Machine.execTwinBeat w s
  | .beatTimeout p standby => Sys2Proof.Machine.execBeatTimeout p standby s
  | .takeover p => Sys2Proof.Machine.execTakeover p s
  | .tokenPowerOnChoice p => Sys2Proof.Machine.execTokenPowerOnChoice p s
  | .switch rq p value => Sys2Proof.Machine.execSwitch rq p value s
  | .releaseToken w => Sys2Proof.Machine.execReleaseToken w s
  | .switchTimeout p => Sys2Proof.Machine.execSwitchTimeout p s
  | .hello seq cred nonce peer => Sys2Proof.Machine.execHello seq cred nonce peer s
  | .open_ rq proof => Sys2Proof.Machine.execOpen rq proof s
  | .close rq => Sys2Proof.Machine.execClose rq s
  | .ping rq => Sys2Proof.Machine.execPing rq s
  | .read rq realm index sub => Sys2Proof.Machine.execRead rq realm index sub s
  | .write rq realm index sub value => Sys2Proof.Machine.execWrite rq realm index sub value s
  | .readRecord rq realm index => Sys2Proof.Machine.execReadRecord rq realm index s
  | .writeRecord rq realm index value => Sys2Proof.Machine.execWriteRecord rq realm index value s
  | .domainBegin rq realm index sub wr length => Sys2Proof.Machine.execDomainBegin rq realm index sub wr length s
  | .domainBlock rq realm index sub offset count value => Sys2Proof.Machine.execDomainBlock rq realm index sub offset count value s
  | .domainEnd rq realm index sub => Sys2Proof.Machine.execDomainEnd rq realm index sub s
  | .domainTransferTimeout session realm index sub => Sys2Proof.Machine.execDomainTransferTimeout session realm index sub s
  | .submit rq w item => Sys2Proof.Machine.execSubmit rq w item s
  | .retire rq w first last => Sys2Proof.Machine.execRetire rq w first last s
  | .itemQuery rq w mode key => Sys2Proof.Machine.execItemQuery rq w mode key s
  | .partnerFetch rq w acc offset count => Sys2Proof.Machine.execPartnerFetch rq w acc offset count s
  | .wingReset rq w => Sys2Proof.Machine.execWingReset rq w s
  | .census rq mask => Sys2Proof.Machine.execCensus rq mask s
  | .align rq mask value => Sys2Proof.Machine.execAlign rq mask value s
  | .order rq w cls asn oid action param ttl => Sys2Proof.Machine.execOrder rq w cls asn oid action param ttl s
  | .forward rq w nb opcode realm index sub value => Sys2Proof.Machine.execForward rq w nb opcode realm index sub value s
  | .forwardResponse w tn => Sys2Proof.Machine.execForwardResponse w tn s
  | .forwardTimeout session seq => Sys2Proof.Machine.execForwardTimeout session seq s
  | .stageErase rq w => Sys2Proof.Machine.execStageErase rq w s
  | .stageWrite rq w offset value => Sys2Proof.Machine.execStageWrite rq w offset value s
  | .stageRead rq w offset count => Sys2Proof.Machine.execStageRead rq w offset count s
  | .subscribe rq classes wings => Sys2Proof.Machine.execSubscribe rq classes wings s
  | .store rq realm value => Sys2Proof.Machine.execStore rq realm value s
  | .storeComplete realm good ms => Sys2Proof.Machine.execStoreComplete realm good ms s
  | .restore rq realm code => Sys2Proof.Machine.execRestore rq realm code s
  | .portImageFinal => Sys2Proof.Machine.execPortImageFinal s
  | .helloReservationExpiry session => Sys2Proof.Machine.execHelloReservationExpiry session s
  | .lockoutExpiry cred => Sys2Proof.Machine.execLockoutExpiry cred s
  | .sessionIdleTimeout session => Sys2Proof.Machine.execSessionIdleTimeout session s
  | .linkUp => Sys2Proof.Machine.execLinkUp s
  | .linkDown => Sys2Proof.Machine.execLinkDown s
  | .dadComplete n => Sys2Proof.Machine.execDadComplete n s
  | .dadContradicted n => Sys2Proof.Machine.execDadContradicted n s
  | .ethFrameReceived frame => Sys2Proof.Machine.execEthFrameReceived frame s
  | .icmpEcho frame => Sys2Proof.Machine.execIcmpEcho frame s
  | .neighbourSolicitation frame => Sys2Proof.Machine.execNeighbourSolicitation frame s
  | .spiStatus held => Sys2Proof.Machine.execSpiStatus held s
  | .spiWrite held len data => Sys2Proof.Machine.execSpiWrite held len data s
  | .spiRead held len clocked => Sys2Proof.Machine.execSpiRead held len clocked s
  | .itemReportDelivery w r => Sys2Proof.Machine.execItemReportDelivery w r s
  | .docentHostPoll w => Sys2Proof.Machine.execDocentHostPoll w s
  | .wingResponse w m => Sys2Proof.Machine.execWingResponse w m s
  | .meshFeranExecute w acc => Sys2Proof.Machine.execMeshFeranExecute w acc s
  | .relayForward w m => Sys2Proof.Machine.execRelayForward w m s
  | .relayHoldTimeout pair => Sys2Proof.Machine.execRelayHoldTimeout pair s
  | .portReset => Sys2Proof.Machine.execPortReset s
  | .timebaseWrap w => Sys2Proof.Machine.execTimebaseWrap w s
  | .carTbLapRead w applet dt => Sys2Proof.Machine.execCarTbLapRead w applet dt s
  | .bellCfgWrite w b v => Sys2Proof.Machine.execBellCfgWrite w b v s
  | .bellCompareCommit w b v2 dt => Sys2Proof.Machine.execBellCompareCommit w b v2 dt s
  | .bellMatch w b => Sys2Proof.Machine.execBellMatch w b s
  | .bellCapture w b dt => Sys2Proof.Machine.execBellCapture w b dt s
  | .bellCaptureRead w b => Sys2Proof.Machine.execBellCaptureRead w b s
  | .bellTallyEvent w b => Sys2Proof.Machine.execBellTallyEvent w b s
  | .lfRunningEntry w dt => Sys2Proof.Machine.execLfRunningEntry w dt s
  | .lfEdge => Sys2Proof.Machine.execLfEdge s
  | .rephase w => Sys2Proof.Machine.execRephase w s
  | .secondsCarry => Sys2Proof.Machine.execSecondsCarry s
  | .pwronWindowEnd => Sys2Proof.Machine.execPwronWindowEnd s
  | .lfStopDetected => Sys2Proof.Machine.execLfStopDetected s
  | .lfRestart => Sys2Proof.Machine.execLfRestart s
  | .calShadowFreeze p r => Sys2Proof.Machine.execCalShadowFreeze p r s
  | .calYearRead p => Sys2Proof.Machine.execCalYearRead p s
  | .calRelease p => Sys2Proof.Machine.execCalRelease p s
  | .shadowTimeout p => Sys2Proof.Machine.execShadowTimeout p s
  | .calHalt p => Sys2Proof.Machine.execCalHalt p s
  | .haltEdge => Sys2Proof.Machine.execHaltEdge s
  | .haltRelease p divZero => Sys2Proof.Machine.execHaltRelease p divZero s
  | .releaseEdge => Sys2Proof.Machine.execReleaseEdge s
  | .calFieldWrite p r v => Sys2Proof.Machine.execCalFieldWrite p r v s
  | .haltLost => Sys2Proof.Machine.execHaltLost s
  | .timeWrite rq value => Sys2Proof.Machine.execTimeWrite rq value s
  | .flashSubmit w addr => Sys2Proof.Machine.execFlashSubmit w addr s
  | .flashProgram w => Sys2Proof.Machine.execFlashProgram w s
  | .flashErase w => Sys2Proof.Machine.execFlashErase w s
  | .flashTally w => Sys2Proof.Machine.execFlashTally w s
  | .flashRead w => Sys2Proof.Machine.execFlashRead w s
  | .optProgram w => Sys2Proof.Machine.execOptProgram w s
  | .optErase w => Sys2Proof.Machine.execOptErase w s
  | .optLock w => Sys2Proof.Machine.execOptLock w s
  | .programPulseDone w sensed => Sys2Proof.Machine.execProgramPulseDone w sensed s
  | .eraseSubpulseDone w sensed => Sys2Proof.Machine.execEraseSubpulseDone w sensed s
  | .flashDirectRead w addr => Sys2Proof.Machine.execFlashDirectRead w addr s
  | .gapMovePiece w sensed => Sys2Proof.Machine.execGapMovePiece w sensed s
  | .wlEntryWrite rq w index sub value => Sys2Proof.Machine.execWlEntryWrite rq w index sub value s
  | .optionLockWrite rq w value => Sys2Proof.Machine.execOptionLockWrite rq w value s
  | .nop w => Sys2Proof.Machine.execNop w s
  | .ret w => Sys2Proof.Machine.execRet w s
  | .retf w => Sys2Proof.Machine.execRetf w s
  | .reti w => Sys2Proof.Machine.execReti w s
  | .sleep w => Sys2Proof.Machine.execSleep w s
  | .brk w => Sys2Proof.Machine.execBrk w s
  | .ei w => Sys2Proof.Machine.execEi w s
  | .di w => Sys2Proof.Machine.execDi w s
  | .fence w => Sys2Proof.Machine.execFence w s
  | .clc w => Sys2Proof.Machine.execClc w s
  | .sec w => Sys2Proof.Machine.execSec w s
  | .svc w n => Sys2Proof.Machine.execSvc w n s
  | .neg w d => Sys2Proof.Machine.execNeg w d s
  | .not w d => Sys2Proof.Machine.execNot w d s
  | .inc w d => Sys2Proof.Machine.execInc w d s
  | .dec w d => Sys2Proof.Machine.execDec w d s
  | .swab w d => Sys2Proof.Machine.execSwab w d s
  | .sxt w d => Sys2Proof.Machine.execSxt w d s
  | .zxt w d => Sys2Proof.Machine.execZxt w d s
  | .clr w d => Sys2Proof.Machine.execClr w d s
  | .add w d r => Sys2Proof.Machine.execAdd w d r s
  | .addc w d r => Sys2Proof.Machine.execAddc w d r s
  | .sub w d r => Sys2Proof.Machine.execSub w d r s
  | .subb w d r => Sys2Proof.Machine.execSubb w d r s
  | .and w d r => Sys2Proof.Machine.execAnd w d r s
  | .or w d r => Sys2Proof.Machine.execOr w d r s
  | .xor w d r => Sys2Proof.Machine.execXor w d r s
  | .mov w d r => Sys2Proof.Machine.execMov w d r s
  | .cmp w d r => Sys2Proof.Machine.execCmp w d r s
  | .tst w d r => Sys2Proof.Machine.execTst w d r s
  | .movi w d k => Sys2Proof.Machine.execMovi w d k s
  | .addi w d k => Sys2Proof.Machine.execAddi w d k s
  | .cmpi w d k => Sys2Proof.Machine.execCmpi w d k s
  | .ldwDisp w d b k => Sys2Proof.Machine.execLdwDisp w d b k s
  | .stwDisp w r b k => Sys2Proof.Machine.execStwDisp w r b k s
  | .ldwPostinc w d b => Sys2Proof.Machine.execLdwPostinc w d b s
  | .ldwPredec w d b => Sys2Proof.Machine.execLdwPredec w d b s
  | .stwPostinc w r b => Sys2Proof.Machine.execStwPostinc w r b s
  | .stwPredec w r b => Sys2Proof.Machine.execStwPredec w r b s
  | .xch w d b => Sys2Proof.Machine.execXch w d b s
  | .bcc w c k => Sys2Proof.Machine.execBcc w c k s
  | .bra w k => Sys2Proof.Machine.execBra w k s
  | .call w k => Sys2Proof.Machine.execCall w k s
  | .dbnz w d k => Sys2Proof.Machine.execDbnz w d k s
  | .callf w a => Sys2Proof.Machine.execCallf w a s
  | .jmpf w a => Sys2Proof.Machine.execJmpf w a s
  | .jmpReg w d => Sys2Proof.Machine.execJmpReg w d s
  | .callReg w d => Sys2Proof.Machine.execCallReg w d s
  | .shzL w d byReg c => Sys2Proof.Machine.execShzL w d byReg c s
  | .shzR w d byReg c => Sys2Proof.Machine.execShzR w d byReg c s
  | .shsR w d byReg c => Sys2Proof.Machine.execShsR w d byReg c s
  | .rotL w d byReg c => Sys2Proof.Machine.execRotL w d byReg c s
  | .rotR w d byReg c => Sys2Proof.Machine.execRotR w d byReg c s
  | .rtcL w d byReg c => Sys2Proof.Machine.execRtcL w d byReg c s
  | .rtcR w d byReg c => Sys2Proof.Machine.execRtcR w d byReg c s
  | .bitS w d byReg c => Sys2Proof.Machine.execBitS w d byReg c s
  | .bitC w d byReg c => Sys2Proof.Machine.execBitC w d byReg c s
  | .bitI w d byReg c => Sys2Proof.Machine.execBitI w d byReg c s
  | .bitT w d byReg c => Sys2Proof.Machine.execBitT w d byReg c s
  | .mulu w d r => Sys2Proof.Machine.execMulu w d r s
  | .muls w d r => Sys2Proof.Machine.execMuls w d r s
  | .divu w d r => Sys2Proof.Machine.execDivu w d r s
  | .addd w d r => Sys2Proof.Machine.execAddd w d r s
  | .subd w d r => Sys2Proof.Machine.execSubd w d r s
  | .dshl w d r => Sys2Proof.Machine.execDshl w d r s
  | .dshr w d r => Sys2Proof.Machine.execDshr w d r s
  | .daa w d => Sys2Proof.Machine.execDaa w d s
  | .das w d => Sys2Proof.Machine.execDas w d s
  | .mfs w d n => Sys2Proof.Machine.execMfs w d n s
  | .mts w n r => Sys2Proof.Machine.execMts w n r s
  | .rptMovs w n => Sys2Proof.Machine.execRptMovs w n s
  | .rptFills w n => Sys2Proof.Machine.execRptFills w n s
  | .rptCmps w n => Sys2Proof.Machine.execRptCmps w n s
  | .rptScans w n => Sys2Proof.Machine.execRptScans w n s
  | .movl w d k => Sys2Proof.Machine.execMovl w d k s
  | .addl w d k => Sys2Proof.Machine.execAddl w d k s
  | .subl w d k => Sys2Proof.Machine.execSubl w d k s
  | .andl w d k => Sys2Proof.Machine.execAndl w d k s
  | .orl w d k => Sys2Proof.Machine.execOrl w d k s
  | .xorl w d k => Sys2Proof.Machine.execXorl w d k s
  | .cmpl w d k => Sys2Proof.Machine.execCmpl w d k s
  | .lda w d k => Sys2Proof.Machine.execLda w d k s
  | .sta w r k => Sys2Proof.Machine.execSta w r k s
  | .interruptEntry w => Sys2Proof.Machine.execInterruptEntry w s
  | .coreWake w => Sys2Proof.Machine.execCoreWake w s
  | .watchdogEnable w v => Sys2Proof.Machine.execWatchdogEnable w v s
  | .watchdogKick w v => Sys2Proof.Machine.execWatchdogKick w v s
  | .watchdogWarn w => Sys2Proof.Machine.execWatchdogWarn w s
  | .watchdogExpiry w => Sys2Proof.Machine.execWatchdogExpiry w s
  | .debugHalt rq w => Sys2Proof.Machine.execDebugHalt rq w s
  | .debugResume rq w => Sys2Proof.Machine.execDebugResume rq w s
  | .appletInstall rq w => Sys2Proof.Machine.execAppletInstall rq w s
  | .appletRemove rq w => Sys2Proof.Machine.execAppletRemove rq w s
  | .appletStart w => Sys2Proof.Machine.execAppletStart w s
  | .appletYield w => Sys2Proof.Machine.execAppletYield w s
  | .appletExit w => Sys2Proof.Machine.execAppletExit w s
  | .appletPut w => Sys2Proof.Machine.execAppletPut w s
  | .appletGet w => Sys2Proof.Machine.execAppletGet w s
  | .appletWait w => Sys2Proof.Machine.execAppletWait w s
  | .appletWaitExpiry w => Sys2Proof.Machine.execAppletWaitExpiry w s
  | .appletRestart w => Sys2Proof.Machine.execAppletRestart w s
  | .doorbell w applet v => Sys2Proof.Machine.execDoorbell w applet v s
  | .docentClaim w => Sys2Proof.Machine.execDocentClaim w s
  | .docentComplete w v => Sys2Proof.Machine.execDocentComplete w v s
  | .pendSet w g v => Sys2Proof.Machine.execPendSet w g v s
  | .pendClr w g v => Sys2Proof.Machine.execPendClr w g v s
  | .maskSet w g v => Sys2Proof.Machine.execMaskSet w g v s
  | .maskClr w g v => Sys2Proof.Machine.execMaskClr w g v s
  | .ringPublish w r v => Sys2Proof.Machine.execRingPublish w r v s
  | .ringTake w r => Sys2Proof.Machine.execRingTake w r s
  | .ringPass w r => Sys2Proof.Machine.execRingPass w r s
  | .mbxLock w m => Sys2Proof.Machine.execMbxLock w m s
  | .mbxPost w m => Sys2Proof.Machine.execMbxPost w m s
  | .mbxAck w m code => Sys2Proof.Machine.execMbxAck w m code s
  | .mbxRelease w m => Sys2Proof.Machine.execMbxRelease w m s
  | .appletIn rq w value => Sys2Proof.Machine.execAppletIn rq w value s
  | .ecbEnc w j => Sys2Proof.Machine.execEcbEnc w j s
  | .ecbDec w j => Sys2Proof.Machine.execEcbDec w j s
  | .ctr w j => Sys2Proof.Machine.execCtr w j s
  | .ccmEnc w j => Sys2Proof.Machine.execCcmEnc w j s
  | .ccmDec w j => Sys2Proof.Machine.execCcmDec w j s
  | .gcmEnc w j => Sys2Proof.Machine.execGcmEnc w j s
  | .gcmDec w j => Sys2Proof.Machine.execGcmDec w j s
  | .cmacGen w j => Sys2Proof.Machine.execCmacGen w j s
  | .cmacVerify w j => Sys2Proof.Machine.execCmacVerify w j s
  | .shake256 w j => Sys2Proof.Machine.execShake256 w j s
  | .kmacGen w j => Sys2Proof.Machine.execKmacGen w j s
  | .kmacVerify w j => Sys2Proof.Machine.execKmacVerify w j s
  | .derive w j => Sys2Proof.Machine.execDerive w j s
  | .wrap w j => Sys2Proof.Machine.execWrap w j s
  | .unwrap w j => Sys2Proof.Machine.execUnwrap w j s
  | .xmssF w j => Sys2Proof.Machine.execXmssF w j s
  | .xmssH w j => Sys2Proof.Machine.execXmssH w j s
  | .xmssPrf w j => Sys2Proof.Machine.execXmssPrf w j s
  | .xmssChain w j => Sys2Proof.Machine.execXmssChain w j s
  | .xmssHmsg w j => Sys2Proof.Machine.execXmssHmsg w j s
  | .cipherJobComplete w mismatch => Sys2Proof.Machine.execCipherJobComplete w mismatch s
  | .cipherAbort w v => Sys2Proof.Machine.execCipherAbort w v s
  | .keyCommitPage w => Sys2Proof.Machine.execKeyCommitPage w s
  | .keyCommitRoot w => Sys2Proof.Machine.execKeyCommitRoot w s
  | .pageClear w v => Sys2Proof.Machine.execPageClear w v s
  | .pageCfgWrite w v => Sys2Proof.Machine.execPageCfgWrite w v s
  | .randomRead w => Sys2Proof.Machine.execRandomRead w s
  | .randomReady w => Sys2Proof.Machine.execRandomReady w s
  | .randomHealthFail w => Sys2Proof.Machine.execRandomHealthFail w s
  | .networkRootWrite rq w value => Sys2Proof.Machine.execNetworkRootWrite rq w value s
  | .sessionKey rq w value => Sys2Proof.Machine.execSessionKey rq w value s
  | .trialEnd w => Sys2Proof.Machine.execTrialEnd w s
  | .updatePending rq w value => Sys2Proof.Machine.execUpdatePending rq w value s
  | .ownerRootWrite rq w sub value => Sys2Proof.Machine.execOwnerRootWrite rq w sub value s
  | .regenerate rq w value => Sys2Proof.Machine.execRegenerate rq w value s
  | .successorGenerate w => Sys2Proof.Machine.execSuccessorGenerate w s
  | .successorReady w => Sys2Proof.Machine.execSuccessorReady w s
  | .challenge rq w value => Sys2Proof.Machine.execChallenge rq w value s
  | .vintRise => Sys2Proof.Machine.execVintRise s
  | .refInReturn => Sys2Proof.Machine.execRefInReturn s
  | .portRandomHealthFail => Sys2Proof.Machine.execPortRandomHealthFail s
  | .reservedEncoding w e => Sys2Proof.Machine.execReservedEncoding w e s
  | .fetchAccessFault w => Sys2Proof.Machine.execFetchAccessFault w s

end Sys2Proof.Machine
end

