-- ==== Sys2Proof/WellFormed.lean ====
section
/-! DEFINITION. Well-formed commands: every operand that is a number or a string of octets lies within what its carrier can hold.
The operands that are bit vectors or bounded numbers need no check. No meaning asks for this: a command has its effect whatever its operands
are. -/
namespace Sys2Proof
open Sys2Proof.Machine (Req CphJob)

/-- The longest message (R287). -/
def messageOctets : Nat := 1452

/-- The longest body: a message less its header and tag (R287, R292). -/
def bodyOctets : Nat := 1424

/-- A peer: nothing on SPI, 42 octets of addresses and ports on T1L (R289). -/
def peerOk (p : Octets) : Bool := decide (p.length = 0) || decide (p.length = 42)

/-- The header of a request: SEQ has 32 bits (R292). -/
def reqOk (q : Req) : Bool := decide (q.seq < 2 ^ 32) && peerOk q.peer

/-- A job block: each field within its bits (R469). -/
def jobOk (j : CphJob) : Bool :=
  decide (j.op < 64) && decide (j.behalf < 4) && decide (j.page < 256) && decide (j.tagLen < 256) && decide (j.nonceLen < 256) &&
  decide (j.inA < 2 ^ 24) && decide (j.outA < 2 ^ 24) && decide (j.length < 2 ^ 16) && decide (j.aadLen < 2 ^ 16) &&
  decide (j.nonceA < 2 ^ 24) && decide (j.auxA < 2 ^ 24) && decide (j.w12 < 2 ^ 16) && decide (j.session < 8)

/-- A well-formed command. -/
def Instr.wf (i : Instr) : Bool :=
  match i with
  | .lineRise mv => decide (mv ≤ 655350)
  | .lineFall mv => decide (mv ≤ 655350)
  | .lineOvervoltage mv => decide (mv ≤ 655350)
  | .overvoltageReleaseExpiry mv => decide (mv ≤ 655350)
  | .mainGoodReported vbak => decide (vbak < 2 ^ 16)
  | .brownoutBegin vbak _ => decide (vbak < 2 ^ 16)
  | .railFault vbak _ => decide (vbak < 2 ^ 16)
  | .vcoreAdapt step => decide (step < 2 ^ 16)
  | .vbakSample mv => decide (mv < 2 ^ 16)
  | .cellLowCrossing mv => decide (mv < 2 ^ 16)
  | .resetRequest rq _ _ => reqOk rq
  | .stopRequest rq _ _ => reqOk rq
  | .preambleDetection _ dt ds => decide (dt < 2 ^ 64) && ds.all (fun d => decide (d.ch < 512))
  | .sfdDetected _ _ _ dt => decide (dt < 2 ^ 64)
  | .phrEnd _ _ _ _ length => decide (length ≤ 2047)
  | .frameEnd _ _ psdu _ _ _ _ _ dt => decide (psdu.length ≤ 2047) && decide (dt < 2 ^ 64)
  | .overloadStart _ dt => decide (dt < 2 ^ 64)
  | .txAbort _ _ dt => decide (dt < 2 ^ 64)
  | .listenWindowStart _ dt => decide (dt < 2 ^ 64)
  | .listenWindowEnd _ dt => decide (dt < 2 ^ 64)
  | .hopSeed rq _ _ => reqOk rq
  | .pairForm rq _ _ _ => reqOk rq
  | .pairDissolve rq _ => reqOk rq
  | .switch rq _ _ => reqOk rq
  | .hello _ _ nonce peer => decide (nonce.length = 16) && peerOk peer
  | .open_ rq proof => reqOk rq && decide (proof.length = 32)
  | .close rq => reqOk rq
  | .ping rq => reqOk rq
  | .read rq _ _ _ => reqOk rq
  | .write rq _ _ _ value => reqOk rq && decide (value.length ≤ bodyOctets)
  | .readRecord rq _ _ => reqOk rq
  | .writeRecord rq _ _ value => reqOk rq && decide (value.length ≤ bodyOctets)
  | .domainBegin rq _ _ _ _ length => reqOk rq && decide (length < 2 ^ 32)
  | .domainBlock rq _ _ _ offset count value => reqOk rq && decide (offset < 2 ^ 32) && decide (count < 2 ^ 16) && decide (value.length ≤ bodyOctets)
  | .domainEnd rq _ _ _ => reqOk rq
  | .submit rq _ item => reqOk rq && decide (item.frame.length ≤ bodyOctets)
  | .retire rq _ _ _ => reqOk rq
  | .itemQuery rq _ _ _ => reqOk rq
  | .partnerFetch rq _ _ _ _ => reqOk rq
  | .wingReset rq _ => reqOk rq
  | .census rq _ => reqOk rq
  | .align rq _ _ => reqOk rq
  | .order rq _ _ _ _ _ _ _ => reqOk rq
  | .forward rq _ _ _ _ _ _ value => reqOk rq && decide (value.length ≤ bodyOctets)
  | .stageErase rq _ => reqOk rq
  | .stageWrite rq _ _ value => reqOk rq && decide (value.length ≤ bodyOctets)
  | .stageRead rq _ _ _ => reqOk rq
  | .subscribe rq _ _ => reqOk rq
  | .store rq _ _ => reqOk rq
  | .restore rq _ _ => reqOk rq
  | .ethFrameReceived frame => decide (frame.length ≤ 1514)
  | .icmpEcho frame => decide (frame.length ≤ 1514)
  | .neighbourSolicitation frame => decide (frame.length ≤ 1514)
  | .spiWrite _ len data => decide (len < 2 ^ 16) && decide (data.length ≤ messageOctets)
  | .spiRead _ len clocked => decide (len < 2 ^ 16) && decide (clocked < 2 ^ 16)
  | .carTbLapRead _ _ dt => decide (dt < 2 ^ 64)
  | .bellCompareCommit _ _ _ dt => decide (dt < 2 ^ 64)
  | .bellCapture _ _ dt => decide (dt < 2 ^ 64)
  | .lfRunningEntry _ dt => decide (dt < 2 ^ 64)
  | .timeWrite rq value => reqOk rq && decide (value.length = 8)
  | .wlEntryWrite rq _ _ _ value => reqOk rq && decide (value.length ≤ bodyOctets)
  | .optionLockWrite rq _ _ => reqOk rq
  | .debugHalt rq _ => reqOk rq
  | .debugResume rq _ => reqOk rq
  | .appletInstall rq _ => reqOk rq
  | .appletRemove rq _ => reqOk rq
  | .appletIn rq _ value => reqOk rq && decide (value.length ≤ bodyOctets)
  | .ecbEnc _ j => jobOk j
  | .ecbDec _ j => jobOk j
  | .ctr _ j => jobOk j
  | .ccmEnc _ j => jobOk j
  | .ccmDec _ j => jobOk j
  | .gcmEnc _ j => jobOk j
  | .gcmDec _ j => jobOk j
  | .cmacGen _ j => jobOk j
  | .cmacVerify _ j => jobOk j
  | .shake256 _ j => jobOk j
  | .kmacGen _ j => jobOk j
  | .kmacVerify _ j => jobOk j
  | .derive _ j => jobOk j
  | .wrap _ j => jobOk j
  | .unwrap _ j => jobOk j
  | .xmssF _ j => jobOk j
  | .xmssH _ j => jobOk j
  | .xmssPrf _ j => jobOk j
  | .xmssChain _ j => jobOk j
  | .xmssHmsg _ j => jobOk j
  | .networkRootWrite rq _ value => reqOk rq && decide (value.length = 32)
  | .sessionKey rq _ value => reqOk rq && decide (value.length ≤ bodyOctets)
  | .updatePending rq _ _ => reqOk rq
  | .ownerRootWrite rq _ _ value => reqOk rq && decide (value.length ≤ bodyOctets)
  | .regenerate rq _ _ => reqOk rq
  | .challenge rq _ value => reqOk rq && decide (value.length = 32)
  | .podlClassification .. | .lineDebounceExpiry | .gateRampComplete | .bootselChange .. | .brownoutReset .. | .backupPor | .backupPorRelease
  | .writeFreeze | .writeFreezeRelease | .watchEnd | .resetNAssert | .resetNRelease | .cpuSelfReset .. | .wingResetRelease .. | .bootComplete ..
  | .thermalTrip .. | .thermalRecovery .. | .pllLock .. | .pllUnlock .. | .refLost | .wingEnterStopped .. | .sfdTimeout .. | .overloadEnd ..
  | .rxBufFree .. | .rxCalReq .. | .calTempTrigger .. | .calibrationStart .. | .calibrationComplete .. | .calDeferTimeout .. | .calBackgroundUpdate ..
  | .lfCalMeasurement .. | .rcCounterRead .. | .lowWordLatchRead .. | .registerWrite .. | .radioTransitionDone .. | .txDecisionPoint ..
  | .txDeparture .. | .synthCalDone .. | .txRampUp .. | .txLastSymbol .. | .txRampDownEnd .. | .txTest .. | .testBlock .. | .bucketClose ..
  | .bucketJournal .. | .txLimAck .. | .dwellSubwindowClose .. | .bootHoldEnd .. | .watchWingWrite .. | .slotResolve .. | .slotBoundary ..
  | .radioWakeLead .. | .txDescriptorTake .. | .ackEvaluation .. | .micCheckDone .. | .journalCheckDone .. | .ackCheckDeadline .. | .ackReceived ..
  | .ackWindowExpiry .. | .windowMiss .. | .recover .. | .admission .. | .floodLimitRaise .. | .searchTimeout .. | .orderExecute ..
  | .barrierConfirm .. | .autoStore .. | .intakeDescriptor .. | .itemCompletion .. | .journalCarry .. | .twinBind .. | .twinRecord .. | .twinSealed ..
  | .twinState .. | .seedBegin .. | .seedEnd .. | .sealedTimeout .. | .twinBeat .. | .beatTimeout .. | .takeover .. | .tokenPowerOnChoice ..
  | .releaseToken .. | .switchTimeout .. | .domainTransferTimeout .. | .forwardResponse .. | .forwardTimeout .. | .storeComplete .. | .portImageFinal
  | .helloReservationExpiry .. | .lockoutExpiry .. | .sessionIdleTimeout .. | .linkUp | .linkDown | .dadComplete .. | .dadContradicted ..
  | .spiStatus .. | .itemReportDelivery .. | .docentHostPoll .. | .wingResponse .. | .meshFeranExecute .. | .relayForward .. | .relayHoldTimeout ..
  | .portReset | .timebaseWrap .. | .bellCfgWrite .. | .bellMatch .. | .bellCaptureRead .. | .bellTallyEvent .. | .lfEdge | .rephase ..
  | .secondsCarry | .pwronWindowEnd | .lfStopDetected | .lfRestart | .calShadowFreeze .. | .calYearRead .. | .calRelease .. | .shadowTimeout ..
  | .calHalt .. | .haltEdge | .haltRelease .. | .releaseEdge | .calFieldWrite .. | .haltLost | .flashSubmit .. | .flashProgram .. | .flashErase ..
  | .flashTally .. | .flashRead .. | .optProgram .. | .optErase .. | .optLock .. | .programPulseDone .. | .eraseSubpulseDone .. | .flashDirectRead ..
  | .gapMovePiece .. | .nop .. | .ret .. | .retf .. | .reti .. | .sleep .. | .brk .. | .ei .. | .di .. | .fence .. | .clc .. | .sec .. | .svc ..
  | .neg .. | .not .. | .inc .. | .dec .. | .swab .. | .sxt .. | .zxt .. | .clr .. | .add .. | .addc .. | .sub .. | .subb .. | .and .. | .or ..
  | .xor .. | .mov .. | .cmp .. | .tst .. | .movi .. | .addi .. | .cmpi .. | .ldwDisp .. | .stwDisp .. | .ldwPostinc .. | .ldwPredec ..
  | .stwPostinc .. | .stwPredec .. | .xch .. | .bcc .. | .bra .. | .call .. | .dbnz .. | .callf .. | .jmpf .. | .jmpReg .. | .callReg .. | .shzL ..
  | .shzR .. | .shsR .. | .rotL .. | .rotR .. | .rtcL .. | .rtcR .. | .bitS .. | .bitC .. | .bitI .. | .bitT .. | .mulu .. | .muls .. | .divu ..
  | .addd .. | .subd .. | .dshl .. | .dshr .. | .daa .. | .das .. | .mfs .. | .mts .. | .rptMovs .. | .rptFills .. | .rptCmps .. | .rptScans ..
  | .movl .. | .addl .. | .subl .. | .andl .. | .orl .. | .xorl .. | .cmpl .. | .lda .. | .sta .. | .interruptEntry .. | .coreWake ..
  | .watchdogEnable .. | .watchdogKick .. | .watchdogWarn .. | .watchdogExpiry .. | .appletStart .. | .appletYield .. | .appletExit .. | .appletPut ..
  | .appletGet .. | .appletWait .. | .appletWaitExpiry .. | .appletRestart .. | .doorbell .. | .docentClaim .. | .docentComplete .. | .pendSet ..
  | .pendClr .. | .maskSet .. | .maskClr .. | .ringPublish .. | .ringTake .. | .ringPass .. | .mbxLock .. | .mbxPost .. | .mbxAck .. | .mbxRelease ..
  | .cipherJobComplete .. | .cipherAbort .. | .keyCommitPage .. | .keyCommitRoot .. | .pageClear .. | .pageCfgWrite .. | .randomRead ..
  | .randomReady .. | .randomHealthFail .. | .trialEnd .. | .successorGenerate .. | .successorReady .. | .vintRise | .refInReturn
  | .portRandomHealthFail | .reservedEncoding .. | .fetchAccessFault .. => true

end Sys2Proof
end

