-- ==== Sys2Proof/Safety.lean ====
section
/-! DEFINITION. What the statements speak of: what a command answers, the flags of the core by their meaning, and the invariant of the Dome and
the backup domain. -/
namespace Sys2Proof.Machine
open Sys2Proof

/-- The command answers a next state of which `P` holds. -/
def Does (i : Instr) (s : State) (P : State → Prop) : Prop := ∃ t, exec i s = .next t ∧ P t

/-- The command leaves the state as it was. -/
def Rests (i : Instr) (s : State) : Prop := exec i s = .next s

/-- The core of wing `w` executes at this boundary, and the `len` words of the instruction may be fetched (R405, R421, R424). -/
def CoreRuns (w : WingId) (len : Nat) (s : State) : Prop := (s.wing w).ready = true ∧ s.fetchFault w len = none

/-- The instruction changes the core of wing `w` only: it is `f` of what it was, with PC `len` words on. -/
def CoreTo (w : WingId) (len : Nat) (i : Instr) (s : State) (f : Core → Core) : Prop :=
  exec i s = .next (s.modCore w (fun c => { f c with pc := c.pc + BitVec.ofNat 24 len }))

/-- The instruction writes `v` to the register `d`, if there is one, and ST, which then stands to the old ST as `F` says; PC goes on by
`len` words, and nothing else of the state changes. -/
def CoreResult (w : WingId) (len : Nat) (i : Instr) (s : State) (d : Option Reg) (v : Word) (F : Word → Word → Prop) : Prop :=
  ∃ st : Word, F (s.wing w).core.st st ∧
    CoreTo w len i s (fun c => { (match d with | some r => c.put r v | none => c) with st := st })

/-- The bits of ST outside `m` keep their value. -/
def OnlyFlags (m st st' : Word) : Prop := ∀ i : Fin 16, m.getLsbD i = false → st'.getLsbD i = st.getLsbD i

/-- Z and N of the result `r` (R401). -/
def FlagsZN (r st st' : Word) : Prop := st'.getLsbD 1 = decide (r = 0) ∧ st'.getLsbD 2 = r.msb ∧ OnlyFlags 0x0006 st st'

/-- C, Z, N, V and H of the sum of `a`, `b` and a carry, Z as given (R401). -/
def FlagsAdd (a b : Word) (cin : Bool) (z : Bool) (st st' : Word) : Prop :=
  let k := b2n cin
  st'.getLsbD 0 = decide (65536 ≤ a.toNat + b.toNat + k) ∧ st'.getLsbD 1 = z ∧
  st'.getLsbD 2 = (a + b + BitVec.ofNat 16 k).msb ∧
  st'.getLsbD 3 = decide (a.toInt + b.toInt + k < -32768 ∨ 32767 < a.toInt + b.toInt + k) ∧
  st'.getLsbD 4 = decide (16 ≤ a.toNat % 16 + b.toNat % 16 + k) ∧ OnlyFlags 0x001F st st'

/-- C, Z, N, V and H of the difference of `a` and `b` with a borrow, Z as given (R401). -/
def FlagsSub (a b : Word) (bin : Bool) (z : Bool) (st st' : Word) : Prop :=
  let k := b2n bin
  st'.getLsbD 0 = decide (a.toNat < b.toNat + k) ∧ st'.getLsbD 1 = z ∧
  st'.getLsbD 2 = (a - b - BitVec.ofNat 16 k).msb ∧
  st'.getLsbD 3 = decide (a.toInt - b.toInt - k < -32768 ∨ 32767 < a.toInt - b.toInt - k) ∧
  st'.getLsbD 4 = decide (a.toNat % 16 < b.toNat % 16 + k) ∧ OnlyFlags 0x001F st st'

/-- Flags as `F` says, but C, which is kept (R408). -/
def KeepC (F : Word → Word → Prop) (st st' : Word) : Prop :=
  st'.getLsbD 0 = st.getLsbD 0 ∧ ∃ x, F st x ∧ ∀ i : Fin 16, i ≠ 0 → st'.getLsbD i = x.getLsbD i

/-- C, V, Z and N of a shift with result `r` (R412). -/
def FlagsShift (r : Word) (c v : Bool) (st st' : Word) : Prop :=
  st'.getLsbD 0 = c ∧ st'.getLsbD 1 = decide (r = 0) ∧ st'.getLsbD 2 = r.msb ∧ st'.getLsbD 3 = v ∧ OnlyFlags 0x000F st st'

/-- The count of a shift (R412). -/
def shiftCount (byReg : Bool) (c : Reg) (x : Core) : Nat :=
  if byReg then (x.get c).toNat % 16 else if c.val = 0 then 16 else c.val

/-- The value of four packed decimal digits. -/
def decValue (a : Word) : Nat :=
  bits a.toNat 3 0 + 10 * bits a.toNat 7 4 + 100 * bits a.toNat 11 8 + 1000 * bits a.toNat 15 12

/-- Every digit is at most 9. -/
def decOk (a : Word) : Bool :=
  decide (bits a.toNat 3 0 ≤ 9) && decide (bits a.toNat 7 4 ≤ 9) && decide (bits a.toNat 11 8 ≤ 9) && decide (bits a.toNat 15 12 ≤ 9)

/-- A word of SRAM of wing `w` (R29). -/
def State.sramWord (w a : Nat) (s : State) : Word := tget 0 (s.wing w).sram a

/-- A physical word address of SRAM (R29). -/
def inSram (a : Nat) : Prop := 0x100000 ≤ a ∧ a < 0x130000

/-- A request of an open session that passes the port's checks 2 to 9 (R296) for a role, while no request waits. -/
def State.fresh (rq : Req) (role : SRole) (s : State) : Bool :=
  let x := s.port.sessions.get rq.session
  !s.port.powerFail && s.port.imageFinal && x.isOpen && (s.spi || samePeer rq.peer x.peer) && (x.prov || rq.auth) &&
  !x.cache.any (fun (c : Nat × Octets) => c.1 == rq.seq) && !x.seen.contains rq.seq &&
  (match x.highest with | none => true | some h => decide (h < rq.seq + 64)) && decide (s.unanswered rq.session < 8) &&
  decide (role.rank ≤ x.role.rank) && s.port.waits.isEmpty && s.port.queue.isEmpty

/-- The request as the port keeps it. -/
def Req.ask (rq : Req) (op realm wing : Nat) : WaitReq := { session := rq.session, seq := rq.seq, opcode := op, realm := realm, wing := wing }

/-- The port once it has received the SEQ of a request (R296). -/
def State.heard (rq : Req) (s : State) : State := s.modSession rq.session (Session.receive rq.seq rq.peer)

/-- The port while the request waits for its answer. -/
def State.waitFor (q : WaitReq) (s : State) : State := { s with port := { s.port with waits := s.port.waits ++ [q] } }

/-- The wing `q.wing` has the request in its exchange buffer and has taken the notice from its mailbox (R461). -/
def State.handed (q : WaitReq) (body : Octets) (s : State) : State :=
  let s := s.waitFor q
  let m := q.session % 4
  let x := (s.wing q.wing).putOctets ((s.wing q.wing).exchBuf q.session) 0
    (feranHeader q.opcode q.session 0 q.seq body.length q.realm 0 ++ body)
  s.setWing q.wing ((x.mbDeliver m (.session q.session) (o8 (0x10 + q.session)) (s.notice q.session (12 + body.length))).mbEnd m 0)

/-- The wing's mailbox for a session is free, and the port delivers to the wing (R15, R461). -/
def State.canHand (w n : Nat) (s : State) : Bool := (s.wing w).live && decide (((s.wing w).mb (n % 4)).state = .free)

/-- What the Curator of wing `w` answers session `n`, if it answers now. -/
def answered (w n : Nat) (r : Ans × State) : State :=
  (match r with | (none, t) => t | (some (st, more, b), t) => t.wingRespond w n st more b).pump

/-- What the port answers, if it answers now. -/
def finished (q : WaitReq) (r : Ans × State) : State :=
  (match r with | (none, t) => t | (some (st, more, b), t) => t.finish q st more b).pump

/-- The one value of a WRITE, as the Catalogue takes it. -/
def onePut (r : Realm) (idx sub : Nat) (value : Octets) : Option Put :=
  (r.entry idx sub).map (fun e => { sub := sub, ent := e, val := e.ty.wire value })

/-- The write of one value passes the checks of R267. -/
def State.accepts (r : Realm) (idx sub : Nat) (role : SRole) (value : Octets) (s : State) : Bool :=
  match onePut r idx sub value with
  | none => false
  | some p => (s.writeCheck r idx role none [p] true).isNone

/-- The request row `i` writes one value to a Catalogue entry of wing `w`, which is no twin: received with nothing waiting, delivered and
accepted, it has the effect `f` and the answer OK waits in the exchange buffer (R267, R268, R461). -/
def Sets (i : Instr) (rq : Req) (w : WingId) (idx sub : Nat) (value : Octets) (f : State → State) (s : State) : Prop :=
  let u := (s.heard rq).handed (rq.ask 0x11 w w) (natLe 2 idx ++ [o8 sub] ++ value)
  s.fresh rq .observer = true → s.canHand w rq.session = true → s.pairOf w = none →
  u.accepts (.wing w) idx sub (u.port.sessions.get rq.session).role value = true →
  exec i s = .next (answered w rq.session (some (.ok, false, []), f u))

/-- The word of wing `w` at an effective address of the core `c` (R33). -/
def State.frameAt (w : Nat) (c : Core) (a : Word) (s : State) : Word := s.sramWord w (c.phys a)

/-- A trap through vector `vec` can be entered (R420, R423): no trap is being handled that forbids it, the three words below the Keeper
stack pointer lie in SRAM outside the fence, and the vector table in ROM. -/
def CanTrap (w vec : Nat) (s : State) : Prop :=
  let c := (s.wing w).core
  (c.st.getLsbD 7 = false ∨ vec = 6) ∧ (∀ i ∈ [1, 2, 3], inSram (c.phys (c.kSp - BitVec.ofNat 16 i)) ∧
    (s.wing w).fenced (c.phys (c.kSp - BitVec.ofNat 16 i)) = false) ∧ c.vbase.toNat * 256 + 2 * vec + 1 < 0x40000

/-- The trap or interrupt through vector `vec` has been entered (R420): the frame with the saved PC and the old ST stands below the old Keeper
stack pointer, AM and IE are 0, TA is 1 for vectors 1 to 5 and unchanged for 6, PC is the vector, and no W register and no other word of SRAM
has changed. -/
def Entered (w vec : Nat) (saved : BitVec 24) (s t : State) : Prop :=
  let c := (s.wing w).core
  let e := (t.wing w).core
  let at_ := fun (i : Nat) => c.kSp - BitVec.ofNat 16 i
  let va := c.vbase.toNat * 256 + 2 * vec
  e.w = c.w ∧ e.aSp = c.aSp ∧ e.kSp = at_ 3 ∧ e.trapnum = BitVec.ofNat 16 vec ∧ e.applet = false ∧ e.st.getLsbD 5 = false ∧
  e.st.getLsbD 7 = (decide (vec < 6) || c.st.getLsbD 7) ∧ OnlyFlags 0x00E0 c.st e.st ∧
  e.pc = BitVec.ofNat 24 ((Config.romWord va).toNat + 0x10000 * (Config.romWord (va + 1)).toNat) ∧
  (trising (s.wing w).sram = true →
    t.frameAt w c (at_ 1) = BitVec.ofNat 16 (saved.toNat / 0x10000 + 256 * vec) ∧ t.frameAt w c (at_ 2) = BitVec.ofNat 16 saved.toNat ∧
    t.frameAt w c (at_ 3) = c.st ∧
    ∀ a, a ≠ c.phys (at_ 1) → a ≠ c.phys (at_ 2) → a ≠ c.phys (at_ 3) → t.sramWord w a = s.sramWord w a)

/-- What the Dome keeps at every step (R37, R40, R45, R46, R52, R57): a brown-out withdraws main good; the backup domain's reset freezes
its writes; the buck runs while the line switch is on, and VINT is qualified while the buck runs; main good means the LINE mode; DARK is
KEEP without the backup domain; main good ends the Dome's power-on reset; and the counts stay within their widths. -/
def Dome.Inv (d : Dome) : Prop :=
  (d.brownout = true → d.mainGood = false) ∧ (d.bpor = true → d.writeFrozen = true) ∧ (d.buck = true → d.line = .on) ∧
  (d.vintQual = true → d.buck = true) ∧ (d.mainGood = true → d.mode = .line) ∧ (d.mode = .dark → d.bpor = true) ∧
  (d.domePor = true → d.mainGood = false) ∧ d.brownouts < 2 ^ 32 ∧ d.holdupShorts ≤ 0xFFFF ∧ d.railFaults ≤ 0xFFFF

/-- The canonical form of a memory of words that reads 0 where nothing is listed: addresses strictly rising, no entry 0 (log 4). -/
def Memory.wf (m : Tab Word) : Bool := twf (fun _ => 0) m

end Sys2Proof.Machine
end

