-- ==== Sys2Proof/Certificates/Slice0/Obligations.lean ====
section
/-! DEFINITION. The statements for the provers. Each docstring says what its statement says, and the rules of spec/ it rests on. -/
open Sys2Proof Sys2Proof.Machine

/-- The block takes commands first in, first out. For every command and state, a step with that command at the front of the queue is exec of it on
the state with the queue's rest. On an empty queue a step sends the events that wait on T1L and is otherwise idle: that is the model's
choice, log 7. -/
def Obligations.StepRunsFront : Prop :=
  (∀ (c : Instr) (rest : List Instr) (s : State), step { s with pending := c :: rest } = exec c { s with pending := rest }) ∧
  (∀ s : State, s.pending = [] → step s = .next s.sendEvents)

/-- At reset: every wing is in RESET with the one cause DOME_POR and ALIGN_LOST set (R15, R26, R60); every W register in both copies, ST and VBASE are 0, and the
bays hold 0x000, 0x040, 0x041 and 0x3FC (R33, R399, R419); the watchdog is off with PERIOD 14 (R438); the Docent has nothing pending, every source masked
and directed to the core alone (R462); the rings stand empty at their places (R455) and the mailboxes are FREE (R464); the time is 0 (R319);
the key pages are empty (R476); the calendar stands at 2000-01-01 00:00:00, weekday 6, with OSF set, no halt and no trim, and backup RAM is 0 (R52, R366); no session
is open (R291); the Dome's reserve counts are 0 (R52) and main good is not reported (R45); no command waits (log 7). -/
def Obligations.ResetValues : Prop :=
  let z := State.reset
  (∀ w : WingId, let x := z.wing w
    x.sys.state = .reset ∧ x.sys.cause = 1 ∧ x.sys.alignLost = true ∧
    (∀ r : Reg, x.core.get r = 0) ∧ x.core.kSp = 0 ∧ x.core.aSp = 0 ∧ x.core.st = 0 ∧ x.core.vbase = 0 ∧
    x.core.b0 = 0x000 ∧ x.core.b1 = 0x040 ∧ x.core.b2 = 0x041 ∧ x.core.b3 = 0x3FC ∧
    x.wdt.en = false ∧ x.wdt.period = 14 ∧
    x.doc.pend = 0 ∧ x.doc.mask = BitVec.allOnes 128 ∧ x.doc.toCore = BitVec.allOnes 128 ∧ x.doc.toHost = 0 ∧ x.doc.service = 0 ∧
    (∀ k : Fin 16, (x.ring k).put = 0 ∧ (x.ring k).take = 0 ∧ (x.ring k).pass = 0) ∧
    (x.ring 4).base = 0x108800 ∧ (x.ring 4).depth = 256 ∧ (x.ring 13).base = 0x10A600 ∧ (x.ring 13).depth = 32 ∧
    (∀ m : Fin 8, (x.mb m).state = .free) ∧ x.car.tb = 0 ∧ (∀ p : Fin 64, (x.page p).state = 0 ∧ (x.page p).key = [])) ∧
  z.cal.time = { year := 0x2000, month := 1, day := 1, wday := 6, hour := 0, min := 0, sec := 0 } ∧
  z.cal.osf = true ∧ z.cal.owner = none ∧ z.cal.trim = 0 ∧ z.cal.bram = [] ∧
  (∀ n, (z.port.sessions.get n).isOpen = false) ∧
  z.dome.mainGood = false ∧ z.dome.brownouts = 0 ∧ z.dome.holdupShorts = 0 ∧ z.dome.railFaults = 0 ∧ z.pending = []

/-- At reset the Dome has what every step keeps (InvStep): no main good during a brown-out or a power-on reset, writes frozen under the backup POR, the buck only
behind the line switch, VINT qualified only with the buck, LINE mode with main good, DARK only under the backup POR, and the counts within their
widths. -/
def Obligations.InvReset : Prop :=
  State.reset.dome.Inv

/-- For every state with the Dome's invariant and whatever command is at the front of the queue: if a step answers a next state, the Dome has its invariant there
too, and the queue there is the rest of the queue. The invariant: main good is withdrawn while a brown-out runs (R45, R46); writes to the backup
domain are frozen while its POR is asserted (R51, R52); the buck runs only while the line switch is on (R40, R41); VINT is qualified only while the buck
runs (R45); main good means the LINE mode, and DARK means the backup POR (R54, R55); the Dome's power-on reset ends with main good (R60); and the counts of the Dome's
reserve stay within 32 and 16 bits (R66). So no command of a wing, of the port or of a session brings the Dome into a state its own rules exclude. -/
def Obligations.InvStep : Prop :=
  ∀ s t : State, s.dome.Inv → step s = .next t → t.dome.Inv ∧ t.pending = s.pending.tail

/-- PODL_CLASSIFICATION, LINE_RISE, LINE_FALL, LINE_DEBOUNCE_EXPIRY, LINE_OVERVOLTAGE, OVERVOLTAGE_RELEASE_EXPIRY and BOOTSEL_CHANGE (R3, R38, R40,
R520), on a line of the start and stop thresholds that BOOTSEL[1] at its ball selects (18.0 V and 17.0 V, or 10.8 V and 10.2 V). In the PoDL modes a
classification is answered with the request of class 12, and the class granted, 10 or higher, is kept; in the local-DC modes nothing is. A rise to the start
threshold starts the debounce; a debounce ends when the line falls below that threshold, and one that the line has passed ends in the GATE ramp; during the ramp and
after it a line below the stop threshold pulls GATE low, and so does one above 64.0 V at any time; 0.5 ms below 62.0 V lead to a new ramp, if the line still
reaches the stop threshold. Each answers the state with these fields of the Dome changed and nothing else. That the class granted below 10 is not kept is the model's reading
(DEDUCED, log 18). -/
def Obligations.LineSwitch : Prop :=
  ∀ (s : State) (mv : Nat), let d := s.dome
    let start := fun (p : BitVec 2) => if p.getLsbD 1 then 10800 else 18000
    let stop := fun (p : BitVec 2) => if p.getLsbD 1 then 10200 else 17000
    let gives := fun (i : Instr) (d' : Dome) => exec i s = .next { s with dome := d' }
    let low := fun (d' : Dome) (p : LinePhase) => { d' with line := p, buck := false, vintQual := false }
    let runs := d.line = .ramp ∨ d.line = .on
    (∀ g : Octet, (d.bootselPins.getLsbD 1 = true → Rests (.podlClassification g) s) ∧
      (d.bootselPins.getLsbD 1 = false → 10 ≤ g.toNat → gives (.podlClassification g) { d with podlAsked := some 12, podlClass := g }) ∧
      (d.bootselPins.getLsbD 1 = false → g.toNat < 10 → gives (.podlClassification g) { d with podlAsked := some 12 })) ∧
    (∀ i ∈ ([.lineRise mv, .lineFall mv] : List Instr),
      (d.line = .off → start d.bootselPins ≤ mv → gives i { d with lineMv := mv, line := .debounce }) ∧
      (d.line = .off → mv < start d.bootselPins → gives i { d with lineMv := mv }) ∧
      (d.line = .debounce → mv < start d.bootselPins → gives i (low { d with lineMv := mv } .off)) ∧
      (d.line = .debounce → start d.bootselPins ≤ mv → gives i { d with lineMv := mv }) ∧
      (runs → mv < stop d.bootselPins → gives i (low { d with lineMv := mv } .off)) ∧
      (runs → stop d.bootselPins ≤ mv → gives i { d with lineMv := mv }) ∧
      (d.line = .overV → gives i { d with lineMv := mv })) ∧
    (d.line = .debounce → start d.bootselPins ≤ d.lineMv → gives .lineDebounceExpiry { d with line := .ramp }) ∧
    (d.line ≠ .debounce ∨ d.lineMv < start d.bootselPins → Rests .lineDebounceExpiry s) ∧
    (64000 < mv → gives (.lineOvervoltage mv) (low { d with lineMv := mv } .overV)) ∧
    (mv ≤ 64000 → Rests (.lineOvervoltage mv) s) ∧
    (d.line = .overV → mv < 62000 → stop d.bootselPins ≤ mv →
      gives (.overvoltageReleaseExpiry mv) { d with lineMv := mv, line := .ramp }) ∧
    (d.line = .overV → mv < stop d.bootselPins → gives (.overvoltageReleaseExpiry mv) (low { d with lineMv := mv } .off)) ∧
    (d.line ≠ .overV ∨ 62000 ≤ mv → Rests (.overvoltageReleaseExpiry mv) s) ∧
    (∀ b : BitVec 2,
      (d.line = .off → start b ≤ d.lineMv → gives (.bootselChange b) { d with bootselPins := b, line := .debounce }) ∧
      (d.line = .off → d.lineMv < start b → gives (.bootselChange b) { d with bootselPins := b }) ∧
      (d.line = .debounce → d.lineMv < start b → gives (.bootselChange b) (low { d with bootselPins := b } .off)) ∧
      (d.line = .debounce → start b ≤ d.lineMv → gives (.bootselChange b) { d with bootselPins := b }) ∧
      (runs → d.lineMv < stop b → gives (.bootselChange b) (low { d with bootselPins := b } .off)) ∧
      (runs → stop b ≤ d.lineMv → gives (.bootselChange b) { d with bootselPins := b }) ∧
      (d.line = .overV → gives (.bootselChange b) { d with bootselPins := b }))

/-- GATE_RAMP_COMPLETE, VINT_RISE, MAIN_GOOD_REPORTED, BROWNOUT_BEGIN, RAIL_FAULT, BROWNOUT_RESET and VCORE_ADAPT (R37, R41, R43 to R48, R55 to R58): the end
of the ramp starts the buck, and from KEEP or DARK it is a Dome power-on (the model's choice, log 30); main good ends the Dome power-on reset, samples
BOOTSEL once, enters LINE at VCORE 0.900 V and lets the flash of a wing that was in Watch take pulses again; T_B counts a brown-out, withdraws main good and silences the
port; after a rail fault, where VINT itself has not fallen, VINT stays qualified while the buck runs, and a rail fault without main good is counted and nothing else (the model's
choice, log 18); the reset that ends a brown-out is counted as short only when VINT broke the hold-up, and leads to WATCH for the Watch wing that was
armed and runs, else to KEEP, or DARK under the backup POR. VCORE is the fixed value when D:1201.01 is FIXED, the lowest passing step from 0.75 V up to 0.90 V while a
Carillon is in fine running, 0.60 V when all are in LF running and a core executes, and 0.55 V when none does. A command outside its
condition leaves the state as it was. -/
def Obligations.MainSupply : Prop :=
  ∀ (s : State) (vbak : Nat) (b : Bool), let d := s.dome
    let on := d.mainGood = true ∨ d.brownout = true ∨ d.mode = .watch ∨ d.mode = .line
    (d.line ≠ .ramp → Rests .gateRampComplete s) ∧
    (d.line = .ramp → on → exec .gateRampComplete s = .next { s with dome := { d with line := .on, buck := true } }) ∧
    (d.line = .ramp → ¬on → Does .gateRampComplete s (fun t => t.dome.line = .on ∧ t.dome.buck = true ∧ t.dome.domePor = true ∧
      t.dome.mainGood = false ∧ t.dome.mode = d.mode ∧ t.dome.brownouts = d.brownouts ∧ t.port.pairs = [] ∧ t.port.imageFinal = false ∧ t.pending = s.pending)) ∧
    (d.buck = true → d.mainGood = false → exec .vintRise s = .next { s with dome := { d with vintQual := true } }) ∧
    (d.buck = false ∨ d.mainGood = true → Rests .vintRise s) ∧
    (d.vintQual = true → d.mainGood = false → d.brownout = false →
      Does (.mainGoodReported vbak) s (fun t => t.dome.mainGood = true ∧ t.dome.vintQual = false ∧ t.dome.domePor = false ∧
        t.dome.mode = .line ∧ t.dome.vcore = 900 ∧ t.dome.bootselTaken = true ∧
        t.dome.bootsel = (if d.bootselTaken then d.bootsel else d.bootselPins) ∧ t.cal = { s.cal with drive := false } ∧
        t.port.powerFail = false ∧ ∀ w : WingId, (t.wing w).sys = { (s.wing w).sys with watch := false } ∧
          (t.wing w).fls = (if (s.wing w).sys.watch then { (s.wing w).fls with blocked := false } else (s.wing w).fls) ∧
          (t.wing w).core = (s.wing w).core ∧ (t.wing w).sram = (s.wing w).sram)) ∧
    (d.vintQual = false ∨ d.mainGood = true ∨ d.brownout = true → Rests (.mainGoodReported vbak) s) ∧
    (d.mainGood = true → ∀ i ∈ ([.brownoutBegin vbak b, .railFault vbak b] : List Instr),
      Does i s (fun t => t.dome.mainGood = false ∧ t.dome.vintQual = (decide (i = .railFault vbak b) && d.buck) ∧ t.dome.brownout = true ∧
        t.dome.mode = d.mode ∧ t.dome.brownouts = (d.brownouts + 1) % 2 ^ 32 ∧ t.dome.line = d.line ∧ t.dome.buck = d.buck ∧ t.port.powerFail = true ∧
        t.dome.railFaults = (if i = .railFault vbak b then min (d.railFaults + 1) 0xFFFF else d.railFaults))) ∧
    (d.mainGood = false → Rests (.brownoutBegin vbak b) s ∧
      exec (.railFault vbak b) s = .next { s with dome := { d with railFaults := min (d.railFaults + 1) 0xFFFF } }) ∧
    (d.brownout = true → Does (.brownoutReset b) s (fun t => t.dome.brownout = false ∧ t.dome.watchArmed = false ∧
      t.dome.holdupShort = b ∧ t.dome.holdupShorts = (if b then min (d.holdupShorts + 1) 0xFFFF else d.holdupShorts) ∧
      t.dome.mode = (if s.watchKept.isSome then .watch else if d.bpor then .dark else .keep) ∧ t.dome.brownouts = d.brownouts ∧
      t.port.powerFail = true ∧ t.port.pairs = [])) ∧
    (d.brownout = false → Rests (.brownoutReset b) s) ∧
    (∀ step, let gives := fun (mv : Nat) => exec (.vcoreAdapt step) s = .next { s with dome := { d with vcore := mv, vcoreRead := true } }
      let adaptive := s.port.num (dpKey false 0x1201 1) 1 ≠ 0
      let fine := ∃ w : WingId, (s.wing w).car.fine = true ∨ (s.wing w).car.wakeReq = true
      let busy := ∃ w : WingId, (s.wing w).awake = true ∧ (s.wing w).core.run = .running
      (d.mainGood = true → d.mode ≠ .watch → ¬adaptive → gives (s.port.num (dpKey false 0x1201 2) 900)) ∧
      (d.mainGood = true → d.mode ≠ .watch → adaptive → fine → gives (min (750 + 5 * step) 900)) ∧
      (d.mainGood = true → d.mode ≠ .watch → adaptive → ¬fine → busy → gives 600) ∧
      (d.mainGood = true → d.mode ≠ .watch → adaptive → ¬fine → ¬busy → gives 550) ∧
      (d.mode = .watch → gives (if ∃ w : WingId, (s.wing w).watchRaised = true then 750 else 550)) ∧
      (d.mainGood = false → d.mode ≠ .watch → Rests (.vcoreAdapt step) s))

/-- BACKUP_POR, BACKUP_POR_RELEASE, WRITE_FREEZE, WRITE_FREEZE_RELEASE, VBAK_SAMPLE, CELL_LOW_CROSSING and WATCH_END (R50 to R53, R55, R58): the POR resets
backup RAM, the calendar and the counters of the reserve and freezes writes, and KEEP becomes DARK until it is released; the freeze leaves backup RAM, sets CELL_EMPTY
unless the POR is asserted, and releases a halt; CELL_LOW is below 2.10 V, with a return at 2.20 V, and CELL_EMPTY below 2.00 V is sticky; WATCH ends in
KEEP. A command outside its condition leaves the state as it was. The flag HOLDUP_SHORT is kept by the POR (the model's choice, log 18). -/
def Obligations.BackupDomain : Prop :=
  ∀ (s : State) (mv : Nat), let d := s.dome
    let low := decide (mv < 2100) || (d.cellLow && decide (mv < 2200))
    let empty := d.cellEmpty || decide (mv < 2000)
    let seen := fun (t : State) => t.dome = { d with vbak := mv, cellLow := low, cellEmpty := empty } ∧ t.cal = s.cal ∧ t.wings = s.wings
    (d.bpor = false → Does .backupPor s (fun t =>
      t.dome = { d with bpor := true, writeFrozen := true, brownouts := 0, holdupShorts := 0, railFaults := 0, frozenWrites := 0,
                        cellLow := false, cellEmpty := false, mode := if d.mode = .keep then .dark else d.mode } ∧
      t.cal.bram = [] ∧ t.cal.time = { sec := 0, min := 0, hour := 0, day := 1, month := 1, year := 0x2000, wday := 6 } ∧
      t.cal.divider = 0 ∧ t.cal.osf = true ∧ t.cal.owner = none)) ∧
    (d.bpor = true → exec .backupPorRelease s =
      .next { s with dome := { d with bpor := false, mode := if d.mode = .dark then .keep else d.mode } }) ∧
    (d.bpor = true → Rests .backupPor s) ∧ (d.bpor = false → Rests .backupPorRelease s) ∧
    (d.writeFrozen = false → Does .writeFreeze s (fun t => t.dome.writeFrozen = true ∧ t.cal.bram = s.cal.bram ∧
      t.cal.owner = none ∧ t.dome.bpor = d.bpor ∧ t.dome.vbak = d.vbak ∧ t.dome.cellLow = d.cellLow ∧ t.dome.cellEmpty = (d.cellEmpty || !d.bpor))) ∧
    (d.writeFrozen = true → Rests .writeFreeze s) ∧
    (d.writeFrozen = true → d.bpor = false → Does .writeFreezeRelease s (fun t => t.dome.writeFrozen = false ∧ t.dome.bpor = false ∧ t.cal.time = s.cal.time)) ∧
    (d.writeFrozen = false ∨ d.bpor = true → Rests .writeFreezeRelease s) ∧
    (d.mainGood = false → d.bpor = false → Does (.vbakSample mv) s seen) ∧
    (d.mainGood = true → d.bpor = false → Does (.cellLowCrossing mv) s seen) ∧
    (d.mainGood = true ∨ d.bpor = true → Rests (.vbakSample mv) s) ∧ (d.mainGood = false ∨ d.bpor = true → Rests (.cellLowCrossing mv) s) ∧
    (d.mode ≠ .watch → Rests .watchEnd s) ∧
    (d.mode = .watch → Does .watchEnd s (fun t => t.dome.mode = .keep ∧ t.dome.bpor = d.bpor ∧ t.dome.line = d.line ∧ t.dome.mainGood = d.mainGood))

/-- RESET_N_ASSERT, RESET_N_RELEASE, WING_RESET_RELEASE, CPU_SELF_RESET, THERMAL_TRIP, THERMAL_RECOVERY and PORT_RESET (R16, R23, R60, R61): each answers the state
that the shared entry to RESET (enterReset, from the source named), leaving it (leaveReset) or the port's reset gives; a wing whose level
sources still stand stays in RESET with these asserted; a trip at 145 degrees or more counts, turns the radio OFF, abandons the wing's DOMAIN transfers
and leaves the wing FAULTED. A command outside its condition leaves the state as it was. -/
def Obligations.WingResets : Prop :=
  ∀ (s : State) (w : WingId), let x := s.wing w
    (s.dome.resetLow = false → exec .resetNAssert s = .next
      (((s.modDome (fun d => { d with resetLow := true, mode := if d.mode = .watch then .keep else d.mode })).forWings
        (fun v t => t.enterReset v .pin)).portStart)) ∧
    exec .resetNRelease s = .next { s with dome := { s.dome with resetLow := false } } ∧
    (x.sys.state = .reset → s.levels = 0 → exec (.wingResetRelease w) s = .next (s.leaveReset w)) ∧
    (x.sys.state = .reset → s.levels ≠ 0 → exec (.wingResetRelease w) s =
      .next (s.setWing w { x with sys := { x.sys with asserted := s.levels } })) ∧
    (x.awake = true → exec (.cpuSelfReset w 0xA5C3) s = .next (s.enterReset w .self)) ∧
    (∀ temp : BitVec 16, x.awake = true → 1160 ≤ temp.toInt → exec (.thermalTrip w temp) s = .next
      (let u := (s.radioOff w).modWing w (fun y => { y with sys := { y.sys with trips := (y.sys.trips + 1) % 2 ^ 32 } })
       (({ u with port := u.port.dropTransfers w } : State).toState w .faulted 0).event 2 w 2 (natLe 2 temp.toNat))) ∧
    (∀ temp : BitVec 16, (x.awake = false ∨ temp.toInt < 1160 → Rests (.thermalTrip w temp) s) ∧
      (x.sys.state ≠ .faulted ∨ 1040 ≤ temp.toInt → Rests (.thermalRecovery w temp) s)) ∧
    (s.dome.resetLow = true → Rests .resetNAssert s) ∧ (x.sys.state ≠ .reset → Rests (.wingResetRelease w) s) ∧
    (∀ v : Word, x.awake = false ∨ v ≠ 0xA5C3 → Rests (.cpuSelfReset w v) s) ∧
    (∀ temp : BitVec 16, x.sys.state = .faulted → temp.toInt < 1040 → exec (.thermalRecovery w temp) s = .next (s.enterReset w .thermal)) ∧
    exec .portReset s = .next s.portReset

/-- What the reset of a wing leaves (R60, R384, R62): from any state and from any source the core is at its reset values but for the lock-up address (which
only the Dome power-on clears), the Docent, the mailboxes, the rings, the receiver, the transmitter, the watchdog and the applet are at theirs, the
journal and the departed list are kept, and what flash and the option area hold is when no pulse runs, the source stands alone in CPU_RESET_CAUSE if the wing was not in RESET, and the reset is counted,
up to 65,535; a stop request is gone (R13, R37), ALIGN_LOST is set (R26) and the wing's own flash work and requests are gone; while the wing is in RESET a further source
joins those in CPU_RESET_CAUSE and is not counted (the model's choice, log 18); SRAM keeps its words (the model's choice, log 4). -/
def Obligations.WingAfterReset : Prop :=
  ∀ (k : Nat) (src : ResetSource) (x : Wing), let y := x.atReset k src
    y.core = { ({} : Core) with lockupPc := if src = .domePor then 0 else x.core.lockupPc } ∧
    y.doc = {} ∧ y.mbx = [] ∧ y.rings = [] ∧ y.rx = {} ∧ y.tx = {} ∧ y.wdt = {} ∧ y.apl = {} ∧ y.regs = [] ∧
    y.wrk.jrn = x.wrk.jrn ∧ y.wrk.jseq = x.wrk.jseq ∧ y.msh.departed = x.msh.departed ∧ y.sram = x.sram ∧
    (x.sys.state ≠ .reset → y.sys.cause = BitVec.twoPow 9 src.no ∧ y.sys.asserted = BitVec.twoPow 9 src.no ∧
      (src ≠ .domePor → y.sys.count = min (x.sys.count + 1) 0xFFFF)) ∧
    (x.sys.state = .reset → y.sys.cause = x.sys.cause ||| BitVec.twoPow 9 src.no ∧ (src ≠ .domePor → y.sys.count = x.sys.count)) ∧
    (src = .domePor → y.sys.count = 0) ∧
    (x.fls.run = none → y.fls.lines = x.fls.lines ∧ y.fls.opt = x.fls.opt) ∧ y.fls.protect = 0 ∧ y.fls.queue = [] ∧ y.fls.run = none ∧ y.fls.held = [] ∧ y.fls.mine = [] ∧ y.fls.jobs = [] ∧
    y.sys.stopReq = false ∧ y.sys.alignLost = true ∧ y.sys.watch = false ∧ y.car.started = false ∧ y.car.pllLocked = x.car.pllLocked

/-- PLL_LOCK, PLL_UNLOCK, REF_LOST and REF_IN_RETURN (R22, R44, R62, R96, R319), on a wing whose supply stands: a lock marks itself; the first of a wing that is out of RESET
starts its time on the fine tick, and a later one of a started wing in LF running whose core executes asks for fine running; of a wing out of RESET it also ends a VCO calibration, whose
band is a free value, and its request; if the loss had been told, so is the lock. An unlocked PLL turns the radio OFF, lets a started wing's time go on from LF, sets ALIGN_LOST
and tells the host; a lost reference marks itself and does so in every wing; the reference's return only clears the mark. A command outside its condition leaves
the state as it was. -/
def Obligations.Reference : Prop :=
  ∀ (s : State) (w : WingId), let x := s.wing w
    let lost := fun (v : Nat) (why : Octet) (t : State) => ((t.radioOff v).modWing v (fun y =>
      let z := if y.car.started then y.lfEnter y.rx.calLf else y
      { z with car := { z.car with pllLocked := false, lostTold := true }, sys := { z.sys with alignLost := true } })).event 2 v 3 [why]
    let ready := x.car.pllLocked = false ∧ s.dome.refLost = false ∧ (s.dome.mainGood = true ∨ x.sys.watch = true)
    (ready → Does (.pllLock w) s (fun t => t.dome = s.dome ∧ t.cal = s.cal ∧ t.pending = s.pending ∧ (x.car.lostTold = false → t.port = s.port) ∧
        (∀ v : WingId, v ≠ w → t.wing v = s.wing v) ∧ ∃ band < 64, t.wing w =
          { x with
            car := { x.car with pllLocked := true, lostTold := false, started := x.car.started || x.awake,
                                fine := x.car.fine || (x.awake && !x.car.started)
                                wakeReq := x.car.wakeReq || (x.car.started && !x.car.fine && decide (x.core.run = .running)) }
            rx := if x.awake then { x.rx with calVco := band, calReq := x.rx.calReq &&& 0b1011 } else x.rx })) ∧
    (¬ready → Rests (.pllLock w) s) ∧
    (x.car.pllLocked = true → exec (.pllUnlock w) s = .next (lost w 0 s)) ∧ (x.car.pllLocked = false → Rests (.pllUnlock w) s) ∧
    (s.dome.refLost = false → exec .refLost s =
      .next (({ s with dome := { s.dome with refLost := true } } : State).forWings (fun v t => lost v 1 t))) ∧
    (s.dome.refLost = true → Rests .refLost s) ∧
    exec .refInReturn s = .next { s with dome := { s.dome with refLost := false } }

/-- LINK_UP, LINK_DOWN, DAD_COMPLETE, DAD_CONTRADICTED and PORT_RANDOM_HEALTH_FAIL (R288, R490): the link up sends a solicitation for each of the three addresses that is
configured and not yet decided; down it counts the loss and changes nothing else, so every session stays open; an address with no contradiction for 1.0 s becomes the port's own, a contradicted one is
marked as a duplicate, is not the port's own and is reported; the failed health test of the port's random source stays. A command outside its condition leaves the state as it was. -/
def Obligations.PortLink : Prop :=
  ∀ (s : State) (n : Fin 3), let p := s.port
    let m := BitVec.twoPow 3 n.val
    let up := p.linkUp = false ∧ s.spi = false ∧ p.powerFail = false
    (up → exec .linkUp s =
      .next ((({ s with port := { p with linkUp := true, tentative := 0 } } : State).solicit 0).solicit 1 |>.solicit 2)) ∧
    (¬up → Rests .linkUp s) ∧
    (p.linkUp = true → exec .linkDown s =
      .next { s with port := { p with linkUp := false, linkLosses := (p.linkLosses + 1) % 2 ^ 32 } }) ∧
    (p.linkUp = false → Rests .linkDown s) ∧
    (p.tentative.getLsbD n = true →
      exec (.dadComplete n) s = .next { s with port := { p with own := p.own ||| m, tentative := p.tentative &&& ~~~ m } } ∧
      exec (.dadContradicted n) s = .next (({ s with port := { p with duplicate := p.duplicate ||| m, tentative := p.tentative &&& ~~~ m } } : State).event
        3 0xFF 4 [o8 (p.duplicate ||| m).toNat])) ∧
    (p.tentative.getLsbD n = false → Rests (.dadComplete n) s ∧ Rests (.dadContradicted n) s) ∧
    exec .portRandomHealthFail s = .next { s with port := { p with randFail := true } }

/-- PREAMBLE_DETECTION, SFD_DETECTED, SFD_TIMEOUT and PHR_END (R79, R81 to R87, R90, R333): with every lane free and no detection in the last two symbols, one detection on a watched
channel at RSSI_FLOOR or above and not on a CLOSED channel puts lane 0 in SEEKING; one on a CLOSED channel takes no lane; one below RSSI_FLOOR or on no watched channel is
not reported at all; an SFD of a coding that the profile looks for makes a lane in SEEKING RECEIVING and is noted with its tick; its timeout frees the lane and counts; the PHR of a lane that
holds no buffer frees the lane and counts when its check fails, when it asks for a mode switch of FSK, when the frame exceeds a buffer and when no buffer is free, and takes
a free buffer otherwise. Nothing else of the state changes but the count of free values drawn. On a lane in another state the last three leave the state as it was. -/
def Obligations.Lanes : Prop :=
  ∀ (s : State) (w : WingId) (dt : Nat) (lane : Fin 16), let x := s.wing w
    let y := x.advance dt
    let q := y.rx.live
    (∀ d : Det, y.listening = true → y.rx.lanes = [] → y.rx.recent = [] →
      let noted := { y with rx := { y.rx with recent := [(d.ch, d.rssi, y.now)] } }
      (q.watched d.ch = true → q.rssiFloor (q.profOf d.ch) ≤ d.rssi → y.chClass y.now d.ch ≠ .closed →
        Does (.preambleDetection w dt [d]) s (fun t => ∃ l : RLane,
          l.state = .seeking ∧ l.ch = d.ch ∧ l.prof = q.profOf d.ch ∧ l.rssi = d.rssi ∧ l.det = y.now ∧ l.buf = none ∧ l.ovl = y.rx.ovl ∧
          l.prio = (y.chClass y.now d.ch).prio ∧ l.merged = false ∧ l.preempted = false ∧ t = s.setWing w (noted.setLane 0 l))) ∧
      (q.watched d.ch = true → q.rssiFloor (q.profOf d.ch) ≤ d.rssi → y.chClass y.now d.ch = .closed →
        exec (.preambleDetection w dt [d]) s = .next (s.setWing w noted)) ∧
      (q.watched d.ch = false ∨ d.rssi < q.rssiFloor (q.profOf d.ch) → exec (.preambleDetection w dt [d]) s = .next (s.setWing w y))) ∧
    (∀ ds, y.listening = false → Rests (.preambleDetection w dt ds) s) ∧
    (∀ coded : Bool, let l := y.rlane lane
      (l.state = .seeking → (q.phy l.prof < 2 → bits (q.profWord l.prof 0) 8 7 = 2 ∨ coded = decide (bits (q.profWord l.prof 0) 8 7 = 1)) →
        (2 ≤ q.phy l.prof → coded = false) → exec (.sfdDetected w lane coded dt) s =
          .next (s.setWing w ((y.setLane lane { l with state := .receiving, coded := coded, sfd := y.now }).carEvent 6))) ∧
      (l.state ≠ .seeking → Rests (.sfdDetected w lane coded dt) s)) ∧
    ((x.rlane lane).state = .seeking → exec (.sfdTimeout w lane) s = .next (s.setWing w ((x.setLane lane {}).rxCount 2))) ∧
    ((x.rlane lane).state ≠ .seeking → Rests (.sfdTimeout w lane) s) ∧
    (∀ (ok sw : Bool) (len : Nat), let l := x.rlane lane
      let gives := fun (z : Wing) => exec (.phrEnd w lane ok sw len) s = .next (({ s with free := s.free + 1 } : State).setWing w z)
      let fsk := x.rx.live.phy l.prof < 2
      let some' := (List.range (x.reg 0xFF6022)).any (fun b => !x.rx.held.contains b)
      (l.state ≠ .receiving → Rests (.phrEnd w lane ok sw len) s) ∧
      (l.state = .receiving → l.buf = none → len < 2048 →
        (ok = false → gives ((x.rxCount 3).setLane lane {})) ∧
        (ok = true → sw = true → fsk → gives ((x.rxCount 10).setLane lane {})) ∧
        (ok = true → ¬(sw = true ∧ fsk) → 2 * x.bufWords < len → gives ((x.rxCount 6).setLane lane {})) ∧
        (ok = true → ¬(sw = true ∧ fsk) → len ≤ 2 * x.bufWords → some' = false → gives ((x.rxCount 5).setLane lane {})) ∧
        (ok = true → ¬(sw = true ∧ fsk) → len ≤ 2 * x.bufWords → some' = true → ∃ b, b < x.reg 0xFF6022 ∧ ¬ b ∈ x.rx.held ∧
          gives ({ x with rx := { x.rx with held := x.rx.held ++ [b] } }.setLane lane { l with buf := some b, len := len }))))

/-- FRAME_END, OVERLOAD_START, OVERLOAD_END and RX_BUF_FREE (R87, R88, R90, R91): a frame of the announced length in a RECEIVING lane ends as the receiver's operation says;
with a wrong FCS and delivery of such frames off it is counted, its lane is freed and its buffer returned; the acknowledgement that the wing awaits frees its lane and is held for its check without its FCS, with
END_TS the SFD tick less the path delay plus the nominal duration of PHR and PSDU; an overload marks itself, counts and notes its tick and raises its source only
for the first since OVL_SEEN was cleared; its end clears the mark; a buffer that is held is returned, any other index is counted. Other wings and the rest of the device do not
change. A frame of another length, in a lane that does not receive or out of LISTEN changes nothing, nor does an overload that is already marked or out of LISTEN. -/
def Obligations.FrameEnd : Prop :=
  ∀ (s : State) (w : WingId) (dt : Nat) (lane : Fin 16) (psdu : Octets) (fcsOk fcs4 : Bool) (mcs : BitVec 3) (freq snr : Octet),
    let x := s.wing w
    let y := x.advance dt
    let l := y.rlane lane
    (l.state = .receiving → psdu.length = l.len → y.listening = true →
      exec (.frameEnd w lane psdu fcsOk fcs4 mcs freq snr dt) s =
        .next ((s.setWing w y).frameEnd w lane psdu fcsOk fcs4 mcs.toNat freq.toNat snr.toNat) ∧
      (∀ b, l.buf = some b → fcsOk = false → bit (y.reg 0xFF6000) 6 = false →
        Does (.frameEnd w lane psdu fcsOk fcs4 mcs freq snr dt) s (fun t => ∃ z : Wing, t = s.setWing w z ∧
          z.rx.lanes = tset {} lane.val {} y.rx.lanes ∧ z.rx.held = y.rx.held.filter (· ≠ b) ∧
          z.cnt 0xFF6017 = tget 0 (tmod 0 0xFF6017 sat16 y.cnt16) 0xFF6017 ∧ z.core = y.core ∧ z.rings = y.rings)) ∧
      (∀ b, l.buf = some b → fcsOk = true → l.ackWin = true → let p := psdu.take (l.len - (if fcs4 then 4 else 2))
        formatOk p = true → (parseMac p).typ = 2 → y.lnk.own.isSome = true → y.lnk.ackIn = none →
        Does (.frameEnd w lane psdu fcsOk fcs4 mcs freq snr dt) s (fun t => ∃ (z : Wing) (f : RxFrame), t = s.setWing w z ∧
          z.lnk.ackIn = some f ∧ f.psdu = p ∧ f.ch = l.ch ∧ f.prof = l.prof ∧
          f.endT = l.sfd - Config.pathDelay y.band (y.rx.live.profWord l.prof 0) + y.rx.live.bodyTicks l.prof l.coded mcs.toNat l.len ∧
          z.rx.lanes = tset {} lane.val {} y.rx.lanes ∧ z.rx.held = y.rx.held ∧ z.core = y.core ∧ z.rings = y.rings))) ∧
    (¬(l.state = .receiving ∧ psdu.length = l.len ∧ y.listening = true) → Rests (.frameEnd w lane psdu fcsOk fcs4 mcs freq snr dt) s) ∧
    (y.rx.radio ≠ .listen ∨ y.rx.ovl = true → Rests (.overloadStart w dt) s) ∧
    (y.rx.radio = .listen → y.rx.ovl = false → Does (.overloadStart w dt) s (fun t => ∃ z : Wing, t = s.setWing w z ∧
      z.rx.ovl = true ∧ z.rx.ovlPeriod = true ∧ z.rx.ovlSeen = true ∧ z.core = y.core ∧
      z.cnt 0xFF601B = tget 0 (tmod 0 0xFF601B sat16 y.cnt16) 0xFF601B ∧
      (y.rx.ovlSeen = false → z.rx.ovlFirst = y.car.tb ∧ z.doc.pend.getLsbD 48 = true) ∧
      (y.rx.ovlSeen = true → z.rx.ovlFirst = y.rx.ovlFirst ∧ z.doc = y.doc))) ∧
    exec (.overloadEnd w) s = .next (s.setWing w { x with rx := { x.rx with ovl := false } }) ∧
    (∀ v : Word, x.awake = true → let i := v.toNat % 4096
      exec (.rxBufFree w v) s = .next (s.setWing w
        (if i ∈ x.rx.held then { x with rx := { x.rx with held := x.rx.held.filter (· ≠ i) } } else x.rxCount 9)))

/-- RX_CAL_REQ, CAL_TEMP_TRIGGER, CAL_DEFER_TIMEOUT, CALIBRATION_START, CALIBRATION_COMPLETE, CAL_BACKGROUND_UPDATE and LF_CAL_MEASUREMENT (R15, R96, R98, R99, R362): a request of a wing that is out of
RESET makes a calibration due, and so does a temperature change in RUNNING or STOPPED once its first run has ended; the deferral is noted; a RUNNING wing takes the radio into CAL for a due calibration from STANDBY in
a gap that lasts 20 us longer than the calibration, or, once deferred, from LISTEN in a slot without a transmission or an EXPECTED window; at its end the
result is applied, or the old one is kept and the failure flagged and raised, the request is cleared and the radio leaves CAL for STANDBY or LISTEN; a VCO calibration sets its band, or
its failure is flagged and raised; in LISTEN the background runs set their results; an LF measurement is held, and the trim follows it as TRIM_MODE says, from -32,000 to 32,000. Other wings and
the rest of the device do not change. -/
def Obligations.Calibrations : Prop :=
  ∀ (s : State) (w : WingId), let x := s.wing w
    let gives := fun (i : Instr) (r : Receiver) => exec i s = .next (s.setWing w { x with rx := r })
    let lasts := fun (k : Nat) => if k = 0 then 1600 else if k = 1 then 300 else 50
    let alone := fun (t : State) => t.dome = s.dome ∧ t.cal = s.cal ∧ t.port = s.port ∧ ∀ v : WingId, v ≠ w → t.wing v = s.wing v
    (∀ v : Word, (x.awake = true → gives (.rxCalReq w v) { x.rx with calReq := x.rx.calReq ||| v.setWidth 4 }) ∧
      (x.awake = false → Rests (.rxCalReq w v) s)) ∧
    (∀ f : Bool, let on := (x.sys.state = .running ∨ x.sys.state = .stopped) ∧ tget 0 x.rx.calTemp (if f then 1 else 0) ≠ 0
      (on → gives (.calTempTrigger w f) { x.rx with calDue := x.rx.calDue ||| (if f then 2 else 1) }) ∧ (¬on → Rests (.calTempTrigger w f) s)) ∧
    ((x.rx.calDue ||| x.rx.calReq) &&& 0b1011 ≠ 0 → x.rx.calRun = none → gives (.calDeferTimeout w) { x.rx with calDeferred := true }) ∧
    ((x.rx.calDue ||| x.rx.calReq) &&& 0b1011 = 0 ∨ x.rx.calRun ≠ none → Rests (.calDeferTimeout w) s) ∧
    (∀ k : Fin 4, let due := k ≠ 2 ∧ (x.rx.calDue ||| x.rx.calReq).getLsbD k = true ∧ x.rx.calRun = none ∧ x.rx.going = none ∧ x.tx.run = none ∧
        x.tx.testRun = none ∧ x.isRunning = true
      (due → x.rx.radio = .standby → x.gapFor (us (lasts k + 20)) = true → gives (.calibrationStart w k)
        { x.rx with calRun := some k.val, calFrom := .standby, calEnd := x.now + us (2 + lasts k), going := some .cal }) ∧
      (due → x.rx.radio = .listen → x.rx.calDeferred = true → x.lnk.txSlot = false → (∀ v ∈ x.lnk.wins, v.search = true) →
        Does (.calibrationStart w k) s (fun t => alone t ∧ (t.wing w).rx.calRun = some k.val ∧ (t.wing w).rx.calFrom = .listen ∧
          (t.wing w).rx.calEnd = x.now + us (2 + lasts k) ∧ (t.wing w).rx.going = some .cal ∧ (t.wing w).core = x.core)) ∧
      (¬due → Rests (.calibrationStart w k) s)) ∧
    (∀ (k : Fin 4) (ok : Bool) (v : Octet), k ≠ 2 → x.rx.calRun = some k.val →
      Does (.calibrationComplete w k ok v) s (fun t => alone t ∧ ∃ z : Wing, t.wing w = z ∧ z.rx.calRun = none ∧ z.rx.calDeferred = false ∧
        z.rx.calReq = x.rx.calReq &&& ~~~ BitVec.twoPow 4 k.val ∧ z.rx.calDue = x.rx.calDue &&& ~~~ BitVec.twoPow 4 k.val ∧
        z.rx.calIr = (if ok = true ∧ k = 0 then v.toNat else x.rx.calIr) ∧ z.rx.calFilt = (if ok = true ∧ k = 1 then v.toNat else x.rx.calFilt) ∧
        z.rx.calOffs = (if ok = true ∧ k = 3 then v.toNat else x.rx.calOffs) ∧ (ok = false → z.doc.pend.getLsbD 49 = true) ∧
        z.rx.calFail = (if ok then x.rx.calFail else x.rx.calFail ||| (if k = 0 then 1 else if k = 1 then 2 else 4)) ∧
        (ok = true → z.doc = x.doc) ∧ (z.rx.going = some .listen ∨ z.rx.going = some .standby) ∧ z.core = x.core)) ∧
    (∀ (k : Fin 4) (ok : Bool) (v : Octet), (k ≠ 2 ∧ x.rx.calRun ≠ some k.val) ∨ (k = 2 ∧ x.awake = false) → Rests (.calibrationComplete w k ok v) s) ∧
    (∀ v : Octet, x.awake = true → let r := { x.rx with calReq := x.rx.calReq &&& 0b1011 }
      gives (.calibrationComplete w 2 true v) { r with calVco := v.toNat % 64 } ∧
      exec (.calibrationComplete w 2 false v) s = .next (s.setWing w ({ x with rx := { r with vcoFail := true } }.raise 49))) ∧
    (∀ v : Octet, x.rx.radio = .listen → x.rx.going = none →
      gives (.calBackgroundUpdate w true v) { x.rx with calOffs := v.toNat } ∧ gives (.calBackgroundUpdate w false v) { x.rx with calIr := v.toNat }) ∧
    (∀ (b : Bool) (v : Octet), x.rx.radio ≠ .listen ∨ x.rx.going ≠ none → Rests (.calBackgroundUpdate w b v) s) ∧
    (∀ e : Word, let on := x.awake = true ∧ x.car.pllLocked = true ∧ (x.rx.lfDone = false ∨ s.dome.mode = .line)
      let t := s.setWing w { x with rx := { x.rx with calLf := e.toInt, lfDone := true } }
      (on → s.cal.trimMode < 2 ∨ s.cal.trimWing ≠ w → exec (.lfCalMeasurement w e) s = .next t) ∧
      (on → 2 ≤ s.cal.trimMode → s.cal.trimWing = w → x.isRunning = true → s.dome.mode = .line → exec (.lfCalMeasurement w e) s =
        (let v := if s.cal.trimMode = 2 then e.toInt else e.toInt + x.rx.calRef
         .next { t with cal := { s.cal with trim := max (-32000) (min 32000 v) } })) ∧
      (¬on → Rests (.lfCalMeasurement w e) s))

/-- REGISTER_WRITE, RC_COUNTER_READ and LOW_WORD_LATCH_READ (R31, R103, R405): while the wing is out of RESET and not FAULTED, a store that the
mode permits to a register of the peripheral blocks has that register's effect, and a read of a read-to-clear register or of the low word of a multi-word register has
the read's; read-to-clear counters read once and are 0 afterwards. A write elsewhere changes nothing. -/
def Obligations.RegisterAccess : Prop :=
  ∀ (s : State) (w : WingId) (ap : Bool) (addr : BitVec 24) (v : Word), let x := s.wing w
    x.awake = true →
    (0xFF0000 ≤ addr.toNat → addr.toNat < 0xFFD000 → x.deny ap .store addr.toNat = none →
      exec (.registerWrite w ap addr v) s = .next (s.regWrite ap w addr.toNat v)) ∧
    (addr.toNat < 0xFF0000 ∨ 0xFFD000 ≤ addr.toNat → Rests (.registerWrite w ap addr v) s) ∧
    exec (.rcCounterRead w addr) s = .next (s.regLook false w addr.toNat) ∧
    exec (.lowWordLatchRead w ap addr) s = .next (s.regLook ap w addr.toNat)

/-- RADIO_TRANSITION_DONE, RADIO_WAKE_LEAD, LISTEN_WINDOW_START and LISTEN_WINDOW_END (R107, R108, R153): a finished transition puts its state in force; a RUNNING wing with its PLL locked
wakes its radio from OFF to STANDBY, at once where LISTEN is to be held, else at the moment that the earliest resolved or committed action gives (50 us before a window's transition to LISTEN, 52 us before a decision point); before a window it enters LISTEN
from STANDBY unless a transmission, a test or a calibration that a reset asked for is in hand; it leaves LISTEN for STANDBY when every window of the slot has closed and no lane is busy. Nothing else of the device
changes, and a command outside its condition leaves the state as it was. -/
def Obligations.RadioStates : Prop :=
  ∀ (s : State) (w : WingId) (dt : Nat), let x := s.wing w
    let y := x.advance dt
    (∀ r : RadioState, x.rx.going = some r → Does (.radioTransitionDone w) s (fun t => ∃ z : Wing, t = s.setWing w z ∧
      z.rx.radio = r ∧ z.core = x.core ∧ z.lnk = x.lnk ∧ z.tx = x.tx)) ∧
    (x.rx.going = none → Rests (.radioTransitionDone w) s) ∧
    (let on := x.isRunning = true ∧ x.rx.radio = .off ∧ x.rx.going = none ∧ x.car.pllLocked = true ∧ s.dome.refLost = false
     let held := x.wantListen = true ∧ x.holdListen = true
     let wins := x.lnk.wins ++ (match x.lnk.next with | none => [] | some n => n.wins)
     let acts := (wins.filter (fun v => decide (x.now ≤ v.hi + v.ext))).map (fun v => v.lo - us 60) ++
       x.tx.reqs.map (fun q => q.start - x.tLead - us 54) ++ (match x.lnk.own with | none => [] | some o => [o.nominal - x.ackTol - us 60])
     (on → held → exec (.radioWakeLead w) s = .next (s.setWing w (x.radioTo .standby))) ∧
     (∀ t ∈ acts, on → ¬held → (∀ u ∈ acts, t ≤ u) → exec (.radioWakeLead w) s = .next (s.setWing w ((x.reach t).radioTo .standby))) ∧
     (¬on ∨ (¬held ∧ acts = []) → Rests (.radioWakeLead w) s)) ∧
    (let on := y.canListen = true ∧ y.tx.testRun = none ∧ y.rx.calFirst = false ∧ y.rx.radio = .standby ∧ y.rx.going = none ∧ y.tx.run = none ∧
       (y.windowOpen = true ∨ y.holdListen = true)
     (on → exec (.listenWindowStart w dt) s = .next (s.setWing w (y.radioTo .listen))) ∧ (¬on → Rests (.listenWindowStart w dt) s)) ∧
    (let shut := (∀ v ∈ y.lnk.wins, v.hi + v.ext < y.now) ∧
       (∀ o, y.lnk.own = some o → o.nominal + y.ackTol + y.rx.live.tDet (y.rx.live.profOf o.ch) < y.now)
     let on := y.listening = true ∧ shut ∧ y.holdListen = false ∧ y.rx.lanes = []
     (on → Does (.listenWindowEnd w dt) s (fun t => (t.wing w).rx.going = some .standby ∧ (t.wing w).rx.lanes = [] ∧ t.dome = s.dome ∧
        t.cal = s.cal ∧ t.port = s.port ∧ (t.wing w).core = x.core ∧ ∀ v : WingId, v ≠ w → t.wing v = s.wing v)) ∧
     (¬on → Rests (.listenWindowEnd w dt) s))

/-- TX_DECISION_POINT, TX_DEPARTURE, SYNTH_CAL_DONE, TX_RAMP_UP, TX_LAST_SYMBOL, TX_RAMP_DOWN_END and TX_ABORT (R107, R108, R113 to R116, R125, R126), at the ticks that the transmission's start gives. The decision
point takes the earliest committed request; one that is an acknowledgement, whose octets stand, is refused LATE, refused OVERLAP, or decided and charged when all checks pass. A decided transmission
leaves for CAL; a good synthesiser calibration locks it, in TX, and a failed one ends it as SYNTH_FAIL with all its charge given back, for a test transmission too; the
ramp-up sets the PA on, the last symbol leads to the ramp-down, and its end clears PA and lock and ends the transmission as SENT or ABORTED, with its return
transition unless the next one follows. An abort with nothing to abort is counted as late; of a decided one it ends that, and of one that is locked or on air, within its limit, it begins
the ramp-down, which is charged what has been used. An abort with any value but 0x5A5A, and a command without a transmission in its phase, changes nothing but what the sweep
of finished frames takes. -/
def Obligations.TxPhases : Prop :=
  ∀ (s : State) (w : WingId) (r : TxRun), let x := s.wing w
    let phase := fun (t : State) (p : TxPhase) => ∃ r', (t.wing w).tx.run = some r' ∧ r'.phase = p ∧ r'.req = r.req ∧ r'.airtime = r.airtime
    let at_ := fun (p : TxPhase) => x.tx.run = some r ∧ r.phase = p
    let back := fun (q : TxReq) (y : Wing) => y.radioBack (y.returnTo q)
    (∀ (q : TxReq) (id : Nat), x.txFirst = some q → q.what = .ack id →
      let y := (x.reach (q.start - (x.tLead + us 2))).txWithdraw (fun p => p == q)
      let u := s.setWing w y
      let late := q.start < y.now + y.tLead + us 2 ∨ y.rx.radio = .off
      let dur := y.rx.live.frameTicks q.prof q.coded q.mcs q.len
      let air := airUs (dur + 2 * y.tRamp)
      (late → exec (.txDecisionPoint w) s = .next ((s.setWing w (y.txRefuse q .late)).sweep w)) ∧
      (¬late → y.txOverlaps q = true → exec (.txDecisionPoint w) s = .next ((s.setWing w (y.txRefuse q .overlap)).sweep w)) ∧
      (∀ i v, ¬late → y.txOverlaps q = false → u.txLimits w q air = .ok i → u.txDuty w i air = true →
        (q.yield = true → ∀ e ∈ y.rx.lanes, e.2.state ≠ .receiving) → u.charge w q.ch i air = (true, v) → y.tx.run = none →
        let p := y.txPower q.prof i q.power
        let o := q.psdu ++ fcsOf q.fcs4 q.psdu
        let d : TxRun := { req := q, dur := dur, airtime := air, sub := i, power := p.1, clamps := p.2, air := o }
        exec (.txDecisionPoint w) s = .next ((v.modWing w (fun z => { z with tx := { z.tx with run := some d } })).sweep w))) ∧
    (x.txFirst = none → exec (.txDecisionPoint w) s = .next (s.sweep w)) ∧
    (at_ .decided → Does (.txDeparture w) s (fun t => phase t .synthCal ∧ (t.wing w).rx.going = some .cal ∧ t.cal = s.cal ∧ t.dome = s.dome)) ∧
    (let y := x.reach (r.req.start - x.tRamp - us 1)
     x.tx.testRun = none → at_ .synthCal →
      exec (.synthCalDone w true) s = .next ((s.setWing w { y with tx := { y.tx with run := some { r with phase := .locked } } }.toTx).sweep w) ∧
      exec (.synthCalDone w false) s =
        .next ((((s.setWing w { y with tx := { y.tx with run := none } }).txEnd w r .synthFail 0).modWing w (back r.req)).sweep w)) ∧
    (∀ q : TestRun, x.tx.testRun = some q → q.blk.phase = .synthCal → let y := x.reach (q.blk.req.start - x.tRamp - us 1)
      Does (.synthCalDone w true) s (fun t => (t.wing w).tx.pa = true ∧ (t.wing w).tx.lock = true ∧ (t.wing w).rx.radio = .tx ∧ t.cal = s.cal) ∧
      exec (.synthCalDone w false) s = .next (((s.setWing w y).testStop w q .synthFail 0).sweep w)) ∧
    (at_ .locked → Does (.txRampUp w) s (fun t => phase t .ramping ∧ (t.wing w).tx.pa = true ∧ t.cal = s.cal ∧ t.dome = s.dome)) ∧
    (at_ .ramping → Does (.txLastSymbol w) s (fun t => phase t .rampDown ∧ (t.wing w).tx.pa = x.tx.pa ∧ t.cal = s.cal ∧ t.dome = s.dome)) ∧
    (at_ .rampDown → let y := x.reach (if r.aborted then r.backAt else r.req.start + r.dur + x.tRamp)
      let u := (s.setWing w { y with tx := { y.tx with run := y.tx.next, next := none, pa := false, lock := false } }).txEnd w r
        (if r.aborted then .aborted else .sent) (if r.aborted then r.used else r.airtime)
      let follow := ∃ n, y.tx.next = some n ∧ n.req.start ≤ y.now + y.tLead
      (follow → exec (.txRampDownEnd w) s = .next (u.sweep w)) ∧
      (¬follow → exec (.txRampDownEnd w) s = .next ((u.modWing w (back r.req)).sweep w))) ∧
    (x.tx.run = none → x.tx.testRun = none → Rests (.txDeparture w) s ∧ Rests (.txRampUp w) s ∧ Rests (.txLastSymbol w) s ∧
      exec (.txRampDownEnd w) s = .next (s.sweep w) ∧ ∀ ok, exec (.synthCalDone w ok) s = .next (s.sweep w)) ∧
    (∀ dt, x.awake = true → let y := x.advance dt
      (x.tx.run = none → exec (.txAbort w 0x5A5A dt) s = .next ((s.setWing w (y.bump 0xFF703C 0x22200D)).sweep w)) ∧
      (at_ .decided → r.aborted = false → y.now ≤ r.req.start + r.req.abortTo.getD r.dur → exec (.txAbort w 0x5A5A dt) s =
        .next (((s.setWing w { y with tx := { y.tx with run := none } }).txEnd w r .aborted 0).sweep w)) ∧
      (at_ .locked ∨ at_ .ramping → r.aborted = false → y.now ≤ r.req.start + r.req.abortTo.getD r.dur →
        Does (.txAbort w 0x5A5A dt) s (fun t => ∃ r', (t.wing w).tx.run = some r' ∧ r'.phase = .rampDown ∧ r'.aborted = true ∧ r'.used = y.usedNow r ∧
          r'.backAt = y.now + us 2 ∧ t.cal = s.cal ∧ t.dome = s.dome)) ∧
      (at_ .ramping → r.aborted = true ∨ r.req.start + r.req.abortTo.getD r.dur < y.now →
        exec (.txAbort w 0x5A5A dt) s = .next ((s.setWing w (y.bump 0xFF703C 0x22200D)).sweep w))) ∧
    (∀ v dt, v ≠ 0x5A5A ∨ x.awake = false → Rests (.txAbort w v dt) s)

/-- TX_TEST, TEST_BLOCK, BUCKET_CLOSE, BUCKET_JOURNAL, TX_LIM_ACK, DWELL_SUBWINDOW_CLOSE, BOOT_HOLD_END and WATCH_WING_WRITE (R128 to R131): a test mode is taken in RUNNING from a wing that may transmit: one
that passes the checks and the charge of its first block goes to CAL, MODE 0 ends it as SENT, and MODE 3 is taken as 0 (the model's choice, log 15); each next block
of 1 ms is charged, or the test ends REFUSED_DUTY with its PA off; a minute's close raises source 52, and for each sub-band with backup RAM writable OPEN becomes the newest closed bucket, the others one older, and is added
to PENDING; the Curator journals PENDING and acknowledges it while its flash takes pulses; an acknowledgement is subtracted from PENDING of the selected sub-band, down to 0;
the dwell account's sub-windows age by one with the newest at 0; the boot hold of a sub-band ends; a Watch naming that waits for this wing is journaled. A command outside its condition leaves the
state as it was. -/
def Obligations.LimiterAccounts : Prop :=
  ∀ (s : State) (w : WingId) (sub : Fin 8), let x := s.wing w
    let shut := fun (m : Nat) => s.modWing w (Wing.setReg 0xFF7010 m)
    let may := x.isRunning = true ∧ s.tokenOk w = true
    (∀ m : BitVec 2, ¬may → Rests (.txTest w m) s) ∧
    (∀ m : BitVec 2, may → x.tx.testRun = none → m = 0 ∨ m = 3 → exec (.txTest w m) s = .next (shut 0)) ∧
    (∀ (m : BitVec 2) (q : TestRun), may → x.tx.testRun = some q → m = 0 ∨ m = 3 →
      exec (.txTest w m) s = .next ((shut 0).testStop w q .sent q.blk.airtime)) ∧
    (∀ (m : BitVec 2) (i : Nat) (v : State), may → x.tx.testRun = none → m = 1 ∨ m = 2 → x.tx.run = none → x.rx.calRun = none → x.rx.radio ≠ .off →
      let u := shut m.toNat
      let q := x.testReq
      u.txLimits w q 1000 = .ok i → u.testBlock w q.ch i = some v →
      Does (.txTest w m) s (fun t => t.cal = v.cal ∧ t.dome = v.dome ∧ (t.wing w).rx.going = some .cal ∧ ∃ b : TxRun,
        (t.wing w).tx.testRun = some { blk := b, first := q.start } ∧ b.phase = .synthCal ∧ b.req = q ∧ b.airtime = 1000 ∧ b.sub = i)) ∧
    (∀ q : TestRun, x.tx.testRun = some q → q.blk.phase = .ramping →
      let u := s.setWing w (x.reach (q.blk.req.start + us 1000 - x.tRamp))
      (∀ v, u.testBlock w q.blk.req.ch q.blk.sub = some v → Does (.testBlock w) s (fun t => t.cal = v.cal ∧ t.dome = v.dome ∧
        (t.wing w).tx.pa = x.tx.pa ∧ ∃ b : TxRun, (t.wing w).tx.testRun = some { q with past := q.past + q.blk.airtime, blk := b } ∧
          b.req.start = q.blk.req.start + us 1000 ∧ b.airtime = q.blk.airtime ∧ b.phase = .ramping)) ∧
      (u.testBlock w q.blk.req.ch q.blk.sub = none → Does (.testBlock w) s (fun t => (t.wing w).tx.testRun = none ∧ (t.wing w).tx.pa = false ∧
        (t.wing w).tx.result = .refusedDuty ∧ t.cal = s.cal ∧ t.dome = s.dome))) ∧
    (x.tx.testRun = none → Rests (.testBlock w) s) ∧
    (x.awake = true → let u := (List.range 8).foldl (fun (t : State) i => t.bucketClose1 w i) s
      Does (.bucketClose w) s (fun t => t.cal = u.cal ∧ (t.wing w).tx.closed = (u.wing w).tx.closed ∧ (t.wing w).doc.pend.getLsbD 52 = true ∧ t.port = s.port ∧
        (t.wing w).core = x.core ∧ (t.wing w).tx.hold = x.tx.hold)) ∧
    (s.dome.writeFrozen = false → s.dome.bpor = false → tget 0 x.tx.heldOpen sub = 0 → trising x.tx.closed = true → trising s.cal.bram = true →
      s.limPending w sub + s.limOpen w sub < 2 ^ 32 → let u := s.bucketClose1 w sub
      tget 0 (u.wing w).tx.closed (64 * sub) = s.limOpen w sub ∧ (∀ n < 59, tget 0 (u.wing w).tx.closed (64 * sub + n + 1) = tget 0 x.tx.closed (64 * sub + n)) ∧
      u.limOpen w sub = 0 ∧ u.limPending w sub = s.limPending w sub + s.limOpen w sub) ∧
    (x.awake = false → Rests (.bucketClose w) s ∧ Rests (.bucketJournal w sub) s ∧ ∀ a, Rests (.txLimAck w a) s) ∧
    (x.awake = true → x.fls.blocked = false → s.limPending w sub ≠ 0 → exec (.bucketJournal w sub) s =
      .next ((s.jWrite w 7 ([o8 sub] ++ natLe 4 (s.limPending w sub))).limAck w sub (s.limPending w sub))) ∧
    (x.fls.blocked = true ∨ s.limPending w sub = 0 → Rests (.bucketJournal w sub) s) ∧
    (∀ a : BitVec 32, x.awake = true → let i := x.reg 0xFF7021
      exec (.txLimAck w a) s = .next (s.bramPut w (0x20 + 4 * i) (natLe 4 (s.limPending w i - a.toNat))).2) ∧
    (∀ ch : BitVec 9, let k := (8 * ch.toNat + sub.val) * 32
      let tx := x.tx.modRuns (fun r => if r.req.ch = ch.toNat ∧ r.sub = sub.val then { r with dwAge := r.dwAge + 1 } else r)
      exec (.dwellSubwindowClose w ch sub) s = .next (s.setWing w
        { x with tx := { tx with dwell := tputs 0 k (0 :: tgets 0 x.tx.dwell k 16) x.tx.dwell } })) ∧
    exec (.bootHoldEnd w sub) s = .next (s.setWing w { x with tx := { x.tx with hold := x.tx.hold &&& ~~~ BitVec.twoPow 8 sub.val } }) ∧
    (x.live = true → x.fls.blocked = false → w.val ∈ s.dome.watchWait → let t := s.jWrite w 7 ([0xFF] ++ natLe 4 (b2n (s.dome.watchReq == w.val)))
      let left := t.dome.watchWait.filter (· ≠ w.val)
      exec (.watchWingWrite w) s = .next { t with dome :=
        { t.dome with watchWait := left, watchWing := if left.isEmpty then t.dome.watchReq else t.dome.watchWing } }) ∧
    (x.live = false ∨ x.fls.blocked = true ∨ ¬ w.val ∈ s.dome.watchWait → Rests (.watchWingWrite w) s)

/-- SLOT_RESOLVE, SLOT_BOUNDARY and TX_DESCRIPTOR_TAKE (R136, R137, R152, R154, R155), of a RUNNING wing whose link engine runs and that is not SEARCHING or has an anchor to begin on: resolving leaves the coming slot with its purpose, for the ASN of the anchor in
force, where a slot to transmit in has no windows, and changes no other wing; at an ordinary boundary (no anchor change, no superframe, no journaled mark) the ASN rises by one, the wing transmits in the slot exactly when its purpose was transmit,
and the next slot is unresolved; a descriptor at the head of ring 10 to 12 is taken while the pending table has room, so that its slot of the ring is passed, and an untimed one with no relay and no item waiting ends the
pending table. Outside these conditions the commands leave the state as it was. -/
def Obligations.SlotSteps : Prop :=
  ∀ (s : State) (w : WingId), let x := s.wing w
    let on := x.isRunning = true ∧ bit (x.reg 0xFF8000) 0 = true ∧ (x.lnk.sync ≠ .searching ∨ x.lnk.move ≠ none)
    (on → x.lnk.next = none → Does (.slotResolve w) s (fun t =>
      (∃ n, (t.wing w).lnk.next = some n ∧ n.asn = x.nextAnchor.first ∧ (n.purpose = .transmit → n.wins = [])) ∧
      t.dome = s.dome ∧ t.cal = s.cal ∧ t.port = s.port ∧ ∀ v : WingId, v ≠ w → t.wing v = s.wing v)) ∧
    (¬on ∨ x.lnk.next ≠ none → Rests (.slotResolve w) s) ∧
    (on → x.lnk.sync ≠ .searching → x.lnk.move = none → x.lnk.asn + 1 < 2 ^ 40 → x.lnk.asn + 1 < x.msh.hwm + 4096 →
      (x.lnk.asn + 1) % x.sfSlots ≠ 0 → Does (.slotBoundary w) s (fun t => ∃ z : Wing, t = s.setWing w z ∧ z.lnk.asn = x.lnk.asn + 1 ∧
        z.lnk.next = none ∧ z.lnk.txSlot = (match x.lnk.next with | some n => decide (n.purpose = .transmit) | none => false) ∧
        z.lnk.sync = x.lnk.sync ∧ z.msh = x.msh ∧ z.core = x.core)) ∧
    (on → exec (.slotBoundary w) s = .next (s.slotBoundary w)) ∧ (¬on → Rests (.slotBoundary w) s) ∧
    (∀ (r : Fin 3) (d : List Word), x.isRunning = true → x.ringHead (10 + r.val) = some d → x.lnk.table.length < 64 → x.lnk.heldCompl = [] →
      Does (.txDescriptorTake w r) s (fun t => ∃ z : Wing, t = s.setWing w z ∧ z.lnk.seq = (x.lnk.seq + 1) % 65536 ∧ z.core = x.core ∧
        (z.ring (10 + r.val)).take = (x.ring (10 + r.val)).take + 1 ∧
        (x.lnk.relays = [] → x.wrk.items = [] → (d.getD 3 0).getLsbD 13 = false → z.lnk.table = x.lnk.table ++ [x.pendFrom r.val d]))) ∧
    (∀ r : Fin 3, x.isRunning = false ∨ x.ringHead (10 + r.val) = none ∨ 64 ≤ x.lnk.table.length ∨ x.lnk.heldCompl ≠ [] → Rests (.txDescriptorTake w r) s)

/-- MIC_CHECK_DONE, JOURNAL_CHECK_DONE, ACK_EVALUATION, ACK_CHECK_DEADLINE, ACK_RECEIVED and ACK_WINDOW_EXPIRY (R156, R158, R162 to R165, R235), for a frame that the link engine holds
in the state each concerns: a frame without a key fails its MIC check, one whose MIC is wrong fails it with its payload erased, and a new partner frame whose MIC is right goes to its Journal check; that check
passes; the acknowledgement of a frame with no other to decide before it is withheld by a standby, a SEARCHING wing and one in WATCH, yields to a lane that receives
with priority SEARCH or higher, is withheld on a conflict, and is committed otherwise; one whose checks still run is aborted and counted;
an acknowledgement that does not verify is counted and dropped with its buffer, one that verifies ends the try; an empty window fails the try. Without such a frame the commands leave the state as it
was. -/
def Obligations.AckSteps : Prop :=
  ∀ (s : State) (w : WingId) (id : Word) (f : RxFrame), let x := s.wing w
    (x.rxOf id.toNat = some f →
      (f.mic = none → let u := (s.rxKey w f).2
        let m := parseMac f.mac
        exec (.micCheckDone w id) s = .next (s.micDone w f) ∧
        ((s.rxKey w f).1 = none → exec (.micCheckDone w id) s = .next (u.failRx w f Wing.lnkCount)) ∧
        (∀ k, (s.rxKey w f).1 = some k → f.openWith k (x.nb f.nb).eui.toNat = none → f.kind ≠ 2 → exec (.micCheckDone w id) s =
          .next ((u.modWing w (fun y => y.putOctets (y.bufAddr f.buf) (m.hdr + m.aux) (zeros (f.mac.length - (m.hdr + m.aux) - 4)))).failRx w f Wing.lnkCount)) ∧
        (∀ k p, (s.rxKey w f).1 = some k → f.openWith k (x.nb f.nb).eui.toNat = some p → f.kind = 0 → f.cls = .new →
          let v := u.modWing w (fun y => y.putOctets (y.bufAddr f.buf) (m.hdr + m.aux) p)
          v.role w ≠ .standby → exec (.micCheckDone w id) s = .next (v.partnerStart w { f with mic := some true } p))) ∧
      (f.kind = 0 → f.cls = .new → f.mic = some true → f.jrn = none → ¬ (2, f.acc) ∈ x.wrk.sealWait →
        exec (.journalCheckDone w id) s = .next (s.setWing w (x.partnerDone f))) ∧
      (let y := x.reach (f.endT + x.ackGap - x.tLead - us 3)
       let u := s.setWing w y
       let shut := u.role w = .standby ∨ y.lnk.sync = .searching ∨ y.sys.watch = true
       let busy := ∃ e ∈ y.rx.lanes, e.2.state = .receiving ∧ 1 ≤ e.2.prio
       let no := fun (z : Wing) => exec (.ackEvaluation w id) s = .next (s.setWing w ((z.putRx { f with noAck := true }).rxSweep))
       f.ar = true → f.ack = none → f.noAck = false → x.evalQueue f = [] →
        (shut → no y) ∧ (¬shut → busy → no (y.lnkCount 4)) ∧
        (∀ p, ¬shut → ¬busy → (u.ackPsdu w f).1 = some p → y.ackConflict (y.ackReq f p) = true → no (y.lnkCount 5)) ∧
        (∀ p, ¬shut → ¬busy → (u.ackPsdu w f).1 = some p → y.ackConflict (y.ackReq f p) = false → exec (.ackEvaluation w id) s =
          .next ((u.ackPsdu w f).2.modWing w (fun z => (z.txCommit (y.ackReq f p)).putRx { f with ack := some false })))) ∧
      (let y := x.reach (f.endT + x.ackGap + (x.rx.live.preTicks f.prof - us 1))
       f.ack = some false → f.noAck = false → f.passed = false → y.ackOut f.id = true → exec (.ackCheckDeadline w id) s =
        .next ((((s.setWing w y).ackAbort w f.id).modWing w (Wing.lnkCount 3)).modWing w (fun z => match z.rxOf f.id with
          | none => z
          | some g => (z.putRx { g with noAck := true }).rxSweep)))) ∧
    (x.rxOf id.toNat = none → ∀ i ∈ ([.micCheckDone w id, .journalCheckDone w id, .ackEvaluation w id, .ackCheckDeadline w id] : List Instr), Rests i s) ∧
    (x.lnk.ackIn = none ∨ x.lnk.own = none → Rests (.ackReceived w) s) ∧
    (x.lnk.own = none ∨ x.lnk.ackIn ≠ none ∨ (∃ e ∈ x.rx.lanes, e.2.ackWin = true) → Rests (.ackWindowExpiry w) s) ∧
    (∀ o g, x.lnk.ackIn = some g → x.lnk.own = some o →
      let bad := { x with lnk := { x.lnk with ackIn := none } }
      (x.pendOf o.id = none → exec (.ackReceived w) s = .next (s.setWing w (bad.bufReturn g.buf))) ∧
      (∀ p, x.pendOf o.id = some p →
        let key := x.keyOf (pairLabel (p.fc.getD (0, 0)).1 (s.identity w).toNat (x.nb p.nb).eui.toNat)
        let good := fun (k : Octets) => g.mac.length = 11 ∧ checkFrame k (x.nb p.nb).eui.toNat (p.fc.getD (0, 0)).2 g.mac = true
        (∀ k, key.1 = some k → good k → exec (.ackReceived w) s = .next (s.setWing w (key.2.ackGood p g))) ∧
        ((key.1 = none ∨ ∃ k, key.1 = some k ∧ ¬ good k) → exec (.ackReceived w) s =
          .next (s.setWing w ((bad.lnkCount 10).bufReturn g.buf))))) ∧
    (∀ o, x.lnk.own = some o → x.lnk.ackIn = none → (∀ e ∈ x.rx.lanes, e.2.ackWin = false) →
      let y := { x.reach (o.nominal + x.ackTol + x.rx.live.tDet (x.rx.live.profOf o.ch)) with lnk := { x.lnk with own := none } }
      exec (.ackWindowExpiry w) s = .next (s.setWing w (match x.pendOf o.id with | none => y | some p => y.failTry p)))

/-- WINDOW_MISS and RECOVER (R167, R173): an expected window that ends without a contact counts, the record's MISSES rises by one up to 15, a NORMAL record is ADRIFT once they reach MISS_LIMIT, and the window is
owed no more; a recovery takes a valid record to ACQUIRE, and a record that is not valid stays. Nothing else of the device changes, and without such a window, or a wing that is RUNNING or out of
RESET, nothing does. -/
def Obligations.WindowsRecover : Prop :=
  ∀ (s : State) (w : WingId), let x := s.wing w
    (∀ (cell : Fin 4097) (v : Win) (i : Nat), x.isRunning = true → x.lnk.wins.find? (fun v => v.owed && v.cell == cell.val) = some v → v.nb = some i →
      trising x.msh.nbs = true →
      Does (.windowMiss w cell) s (fun t => ∃ z : Wing, t = s.setWing w z ∧ (z.nb i).misses = min 15 ((x.nb i).misses + 1) ∧
        (z.nb i).timing = (if x.reg 0xFF8013 ≤ min 15 ((x.nb i).misses + 1) ∧ (x.nb i).timing = .normal then .adrift else (x.nb i).timing) ∧
        (∀ u ∈ z.lnk.wins, u.owed = true → u ∈ x.lnk.wins ∧ u ≠ v) ∧ z.core = x.core)) ∧
    (∀ cell : Fin 4097, x.isRunning = false ∨ x.lnk.wins.find? (fun v => v.owed && v.cell == cell.val) = none → Rests (.windowMiss w cell) s) ∧
    (∀ nb : BitVec 10, x.awake = false → Rests (.recover w nb) s) ∧
    (∀ nb : BitVec 10, x.awake = true →
      ((x.nb nb.toNat).valid = true → exec (.recover w nb) s = .next (s.setWing w (x.modNb nb.toNat (Nb.lose .acquire)))) ∧
      ((x.nb nb.toNat).valid = false → Rests (.recover w nb) s))

/-- ADMISSION, FLOOD_LIMIT_RAISE and SEARCH_TIMEOUT (R179, R180, R193, R203): the Curator of a wing whose flash takes pulses takes the KIND 3 frame at the head of ring 8 and returns its buffer: with admission closed, or on a standby, that is all; with admission by the host and without a record of
its source the host is told and nothing is admitted; with automatic admission one that names its source, or one of a record, is checked for admission, and one that names a short address without a record is counted; within 64 numbers of FLOOD_LIMIT a raise by 256 is journaled; an ELIGIBLE or CONFIGURED wing that heard no beacon becomes root of the next epoch and starts
its grid 2,000 us later at an ASN 4,096 past its journaled mark. -/
def Obligations.LineageSteps : Prop :=
  ∀ (s : State) (w : WingId), let x := s.wing w
    (∀ d, x.ringHead 8 = some d → x.awake = true → x.fls.blocked = false → bits (d.getD 7 0).toNat 13 12 = 3 → let c := x.candidate d
      let u := s.setWing w ((x.ringTook 8).bufReturn (descBuf d))
      let old := x.msh.find c.mac.sam c.mac.src
      (x.admitMode = 0 ∨ u.role w = .standby → exec (.admission w) s = .next u) ∧
      (u.role w ≠ .standby → x.admitMode = 2 → old = none → ¬(x.lnk.sync = .searching ∧ c.mac.typ = 0) →
        exec (.admission w) s = .next (u.modWing w (fun y => y.meshEvent 4 c.event))) ∧
      (u.role w ≠ .standby → x.admitMode = 1 → c.mac.sam = 3 → exec (.admission w) s = .next (u.admitCand w c.mac.src old c)) ∧
      (∀ i, u.role w ≠ .standby → x.admitMode = 1 → c.mac.sam ≠ 3 → old = some i →
        exec (.admission w) s = .next (u.admitCand w (x.nb i).eui.toNat old c)) ∧
      (u.role w ≠ .standby → x.admitMode = 1 → c.mac.sam ≠ 3 → old = none → exec (.admission w) s = .next (u.modWing w (Wing.mshCount 1)))) ∧
    (x.awake = true → ¬ (8, 0) ∈ x.wrk.sealWait → (x.msh.floodLimit + 2 ^ 32 - x.msh.floodSeq) % 2 ^ 32 ≤ 64 →
      let t := s.jEntry w 0x2410 7 4 ((x.msh.floodLimit + 256) % 2 ^ 32)
      exec (.floodLimitRaise w) s = .next (if t.role w = .active ∧ t.pairState w = .dual then t else t.modWing w Wing.floodRaise)) ∧
    (x.isRunning = true → x.lnk.sync = .searching → x.lnk.move = none → (x.rootMode = 1 ∨ x.rootMode = 2) →
      let t := s.setLineage w (x.msh.epoch + 1) (if x.rootMode = 2 then s.rootEui w else (s.identity w).toNat)
      exec (.searchTimeout w) s = .next (t.modWing w (fun y =>
        (({ y with lnk := { y.lnk with asn := x.msh.hwm + 4096 - 1 } }.setMove
          { asnRef := x.msh.hwm + 4096, tickRef := (y.now + us 2000 : Nat), first := x.msh.hwm + 4096 }).lineageOnly 1024).toRoot
            (decide (x.rootMode = 1)) |>.stampFirst ((x.msh.hwm + 4096) % 2 ^ 40)))) ∧
    (x.ringHead 8 = none ∨ x.awake = false ∨ x.fls.blocked = true ∨ (∃ d, x.ringHead 8 = some d ∧ bits (d.getD 7 0).toNat 13 12 ≠ 3) → Rests (.admission w) s) ∧
    (x.awake = false ∨ (8, 0) ∈ x.wrk.sealWait ∨ 64 < (x.msh.floodLimit + 2 ^ 32 - x.msh.floodSeq) % 2 ^ 32 → Rests (.floodLimitRaise w) s) ∧
    (x.isRunning = false ∨ x.lnk.sync ≠ .searching ∨ x.lnk.move ≠ none ∨ x.rootMode = 0 ∨ x.rootMode = 3 → Rests (.searchTimeout w) s)

/-- ORDER_EXECUTE and BARRIER_CONFIRM (R209 to R213), of a RUNNING wing outside SEARCHING: of the held orders that are due, the first by ASN and order identifier is journaled as done, raises source 58, is counted when late, leaves
the held orders and acts, once the flash takes pulses: RESYNC makes the wing SEARCHING, RESTART resets it with cause HOST, and a RESET order of any other action does nothing more; nothing
runs where none is due; the oldest barrier whose conditions hold is confirmed and is held no more, and no other. -/
def Obligations.OrderSteps : Prop :=
  ∀ (s : State) (w : WingId), let x := s.wing w
    let on := x.isRunning = true ∧ x.lnk.sync ≠ .searching
    (∀ o, on → x.fls.blocked = false → x.dueOrder = some o → let late := o.late || decide (o.asn ≠ x.lnk.asn)
      let u := (s.jWrite w 0xD (natLe 8 o.orig ++ natLe 4 o.seq ++ List.replicate 4 0xFF)).modWing w (fun x =>
        let y := if late then (x.raise 58).mshCount 16 else x.raise 58
        { y with msh := { y.msh with orders := y.msh.orders.filter (fun p => p ≠ o) } })
      exec (.orderExecute w) s = .next (u.orderAct w o late) ∧ o ∈ x.msh.orders ∧ asnPast x.lnk.asn o.asn = true ∧
      (∀ p ∈ x.msh.orders, asnPast x.lnk.asn p.asn = true → p.before x.lnk.asn o = true → o.before x.lnk.asn p = true) ∧
      (o.cls = 2 → o.action = 1 → exec (.orderExecute w) s = .next (u.modWing w Wing.toSearch)) ∧
      (o.cls = 2 → o.action = 2 → exec (.orderExecute w) s = .next (u.enterReset w .host)) ∧
      (o.cls = 2 → o.action ≠ 1 → o.action ≠ 2 → exec (.orderExecute w) s = .next u)) ∧
    (on → x.dueOrder = none → Rests (.orderExecute w) s ∧ ∀ p ∈ x.msh.orders, asnPast x.lnk.asn p.asn = false) ∧
    (∀ b, on → x.msh.barriers.find? (fun b => x.barrierReady b) = some b → exec (.barrierConfirm w) s = .next (s.barrierEnd w b) ∧
      (x.lnk.parent = none → Does (.barrierConfirm w) s (fun t => ∃ z : Wing, t = s.setWing w z ∧
        z.msh.barriers = x.msh.barriers.filter (fun c => c ≠ b) ∧ z.core = x.core))) ∧
    (on → x.msh.barriers.find? (fun b => x.barrierReady b) = none → Rests (.barrierConfirm w) s) ∧
    (¬on → Rests (.orderExecute w) s ∧ Rests (.barrierConfirm w) s)

/-- INTAKE_DESCRIPTOR, ITEM_COMPLETION, JOURNAL_CARRY, AUTO_STORE, STORE_COMPLETE and PORT_IMAGE_FINAL (R222, R231, R236, R242, R278, R279): while its
token permits and its flash takes pulses, the Curator takes an intake descriptor, one that fails a check leaving items, journal and NEXT_ACCESSION as they
were, and then the queries that waited go on; a completion that is no item's passes on; one sector of the journal is carried while 1,024 lines or fewer are free; a store begins, or is queued
behind the running one; the end of a store sets its flags and begins the queued one, and seals the image when it was good; the final image of the port is loaded once, or both realms have
IMAGE_MISSING. Outside these conditions the commands leave the state as it was. -/
def Obligations.WorkSteps : Prop :=
  ∀ (s : State) (w : WingId), let x := s.wing w
    (s.mayIntake w = true → exec (.intakeDescriptor w) s = .next ((s.intake w).queryPump w) ∧
      (∀ r d c, x.intakeRing = some r → x.ringHead r = some d → s.intakeCheck w d (x.intakeFrame d) = some c → x.wrk.queries = [] →
        Does (.intakeDescriptor w) s (fun t => ∃ z : Wing, t = s.setWing w z ∧ z.wrk.items = x.wrk.items ∧ z.wrk.jrn = x.wrk.jrn ∧
          z.wrk.next = x.wrk.next)) ∧
      (x.intakeRing = none → x.wrk.queries = [] → Rests (.intakeDescriptor w) s)) ∧
    (x.awake = false ∨ s.tokenOk w = false ∨ x.fls.blocked = true → Rests (.intakeDescriptor w) s) ∧
    (∀ r idx rest, x.awake = true → x.fls.blocked = false → x.lnk.complAt = (r, idx) :: rest →
      ((x.lds ((x.ring r).slot idx) 8).getD 6 0).getLsbD 15 = false →
      Does (.itemCompletion w) s (fun t => ∃ z : Wing, t = s.setWing w z ∧ z.lnk.complAt = rest ∧ z.wrk = x.wrk ∧ z.core = x.core)) ∧
    (x.awake = false ∨ x.fls.blocked = true ∨ x.lnk.complAt = [] → Rests (.itemCompletion w) s) ∧
    (x.awake = true → x.wrk.free ≤ 1024 → x.fls.blocked = false → exec (.journalCarry w) s = .next (s.setWing w x.jCarry) ∧
      Does (.journalCarry w) s (fun t => (t.wing w).wrk.tail = (x.wrk.tail + 1) % 32 ∧
        ∀ r ∈ (t.wing w).wrk.jrn, r.at_ / 256 ≠ x.wrk.tail ∨ x.wrk.jseq < r.seq)) ∧
    (x.awake = false ∨ 1024 < x.wrk.free ∨ x.fls.blocked = true → Rests (.journalCarry w) s) ∧
    (x.isRunning = true → x.wrk.storing = none → exec (.autoStore w) s =
      .next (s.setWing w { x with wrk := { x.wrk with storing := some x.capture, waiting := [] } })) ∧
    (x.isRunning = true → x.wrk.storing ≠ none → exec (.autoStore w) s = .next (s.setWing w { x with wrk := { x.wrk with queued := true } })) ∧
    (x.isRunning = false → Rests (.autoStore w) s) ∧
    (∀ (good : Bool) (ms : Word), exec (.storeComplete (.wing w) good ms) s = .next ((s.storeEndWing w good ms.toNat).pump) ∧
      exec (.storeComplete .dome good ms) s = .next ((s.storeEndPort false good ms.toNat).pump) ∧
      exec (.storeComplete .port good ms) s = .next ((s.storeEndPort true good ms.toNat).pump) ∧
      (∀ img, x.wrk.storing = some img → x.fls.blocked = false → x.wrk.waiting = [] → s.port.queue = [] → s.pairOf w = none →
        Does (.storeComplete (.wing w) good ms) s (fun t => let k := (t.wing w).wrk
          k.failed = !good ∧ k.storeMs = ms.toNat ∧ (k.storing ≠ none ↔ x.wrk.queued = true) ∧ k.queued = false ∧ k.jrn = x.wrk.jrn ∧
          k.stored = (if good then img else x.wrk.stored) ∧ k.gen = (if good then wrap32 x.wrk.gen else x.wrk.gen))) ∧
      (s.port.queue = [] → (x.wrk.storing = none ∨ x.fls.blocked = true → Rests (.storeComplete (.wing w) good ms) s) ∧
        (takeStore 0xD s.port.storing = none → Rests (.storeComplete .dome good ms) s) ∧
        (takeStore 0xE s.port.storing = none → Rests (.storeComplete .port good ms) s))) ∧
    (s.port.imageFinal = true → Rests .portImageFinal s) ∧
    (s.port.imageFinal = false → Does .portImageFinal s (fun t => t.port.imageFinal = true ∧ t.dome.line = s.dome.line ∧ t.dome.mainGood = s.dome.mainGood ∧
      (newestCopy s.port.copies = none → trising s.port.cat = true → tget [] t.port.cat (dpKey true 0x11F0 6) = [1] ∧ tget [] t.port.cat (dpKey false 0x12F0 6) = [1]) ∧
      (∀ c gen, newestCopy s.port.copies = some (c, gen) → t.port.gen = gen ∧ ∀ l, (s.wing c).wrk.portCopy = some l → t.port.cat = l.2)))

/-- FLASH_SUBMIT, the seven descriptor rows, PROGRAM_PULSE_DONE, ERASE_SUBPULSE_DONE, FLASH_DIRECT_READ and GAP_MOVE_PIECE (R372 to R381, R386, R387, R394): a
submission queues the descriptor, or is refused at 32; the front descriptor, when it is of the row's operation and nothing runs or is held, ends with the
status of the first check that fails, or begins its first line or sub-pulse, or is done at once (TALLY, READ), each completion going to ring 13, but for a descriptor of the Curator's own, whose
completion it takes itself; a pulse that
ends leads to the next, to the next line or to the completion that R376 and R379 name; a gap move goes piece by piece and then moves GAP and
START, and waits while a descriptor is in progress or the flash takes no pulse. -/
def Obligations.FlashOperations : Prop :=
  ∀ (w : WingId) (addr : BitVec 24) (sensed : Bool) (s : State), let x := s.wing w
    let f := x.fls
    let q := x.ring 13
    let ops := fun (l : List FlsDesc) => ∀ e ∈ l, 1 ≤ e.op ∧ e.op ≤ 7
    let alone := f.mine = [] ∧ f.jobs = []
    let posts := fun (ws : List Word) (y : Wing) (l : List FlsDesc) (t : State) => let z := t.wing w
      z.fls.run = none ∧ z.fls.queue = l ∧ z.fls.held = [] ∧ z.sram = (y.sts (q.base + 8 * (q.put.toNat % q.depth)) ws).sram ∧
      z.rings = tset (ringReset 13) 13 { q with put := q.put + 1 } x.rings ∧ z.doc.pend.getLsbD 41 = true
    let room := (q.put - q.take).toNat < q.depth
    let ends := fun (d : FlsDesc) (st done pulses subs stop : Nat) =>
      flsWords d st done pulses subs (decide (4 < pulses)) (decide (8 < subs)) false [] (if st = 0 then 0 else stop)
    let runs := fun (r : FlsRun) (l : List FlsDesc) (t : State) =>
      (t.wing w).fls.run = some r ∧ (t.wing w).fls.queue = l ∧ (t.wing w).rings = x.rings ∧ (t.wing w).sram = x.sram
    let rows : List (Nat × Instr) := [(1, .flashProgram w), (2, .flashErase w), (3, .flashTally w), (4, .flashRead w),
      (5, .optProgram w), (6, .optErase w), (7, .optLock w)]
    let n := fun (i : Nat) => (x.ld (addr.toNat + i)).toNat
    let d0 : FlsDesc := { op := n 0 % 16, tag := x.ld (addr.toNat + 1), addr := n 2 + 65536 * (n 3 % 256),
                          buf := n 4 + 65536 * (n 5 % 256), lines := n 6 % 512 }
    (x.awake = false → Rests (.flashSubmit w addr) s ∧ Rests (.flashDirectRead w addr) s) ∧
    (x.awake = true →
      (32 ≤ f.load → Does (.flashSubmit w addr) s (fun t => (t.wing w).fls.refused = true ∧ (t.wing w).fls.queue = f.queue ∧ (t.wing w).fls.run = f.run)) ∧
      (f.load < 32 → ops (f.queue ++ [d0]) → Does (.flashSubmit w addr) s (fun t => (t.wing w).fls.queue = f.queue ++ [d0] ∧
        (t.wing w).fls.run = f.run ∧ (t.wing w).sram = x.sram)) ∧
      (0x400000 ≤ addr.toNat → addr.toNat < 0x600000 → ∀ l li, f.readLine addr.toNat = some (l, li) → Does (.flashDirectRead w addr) s (fun t =>
        let z := t.wing w
        z.rdata = l.word (addr.toNat % 8) ∧ z.fls.rdCorrected = (f.rdCorrected || decide (l.status = .corrected)) ∧
        z.fls.rdTorn = (f.rdTorn || decide (l.status = .torn)) ∧
        z.fls.rdUncorrectable = (f.rdUncorrectable || decide (l.status = .uncorrectable)))) ∧
      (addr.toNat < 0x400000 ∨ 0x600000 ≤ addr.toNat → Rests (.flashDirectRead w addr) s)) ∧
    (alone → (f.run ≠ none ∨ f.held ≠ [] ∨ f.queue = []) → (∀ e ∈ rows, exec e.2 s = .next { s with free := s.free + 1 })) ∧
    (∀ (d : FlsDesc) (l : List FlsDesc), f.run = none → f.held = [] → f.queue = d :: l → ops (d :: l) → d.own ≠ none →
      ∀ e ∈ rows, e.1 = d.op → ∀ st, f.check d = some st → ∃ u : State, exec e.2 s = .next (u.jobPump w) ∧
        (u.wing w).rings = x.rings ∧ (u.wing w).sram = x.sram ∧ (u.wing w).fls.run = none ∧ (u.wing w).fls.queue = l) ∧
    (∀ (d : FlsDesc) (l : List FlsDesc), alone → d.own = none → f.run = none → f.held = [] → f.queue = d :: l → ops (d :: l) →
      (∀ e ∈ rows, e.1 ≠ d.op → exec e.2 s = .next { s with free := s.free + 1 }) ∧
      (∀ e ∈ rows, e.1 = d.op → ∀ st, f.check d = some st → room → Does e.2 s (posts (ends d st 0 0 0 d.addr) x l)) ∧
      (f.check d = none →
        (∀ e ∈ rows, e.1 = d.op → d.op = 1 ∨ d.op = 5 ∨ d.op = 7 → let r : FlsRun := { desc := d }
          (0 < d.lines ∨ d.op = 7 → (f.at_ (r.place f)).intent = false → Does e.2 s (runs r l)) ∧
          (0 < d.lines ∨ d.op = 7 → (f.at_ (r.place f)).intent = true → room → Does e.2 s (posts (ends d 1 0 0 0 d.addr) x l))) ∧
        (d.op = 2 → Does (.flashErase w) s (fun t => runs { desc := d, pulse := .erase 1 } l t ∧
          (t.wing w).fls.erases = tmod 0 ((f.sector d.addr).getD 0) (fun k => min (k + 1) 0xFFFFFFFF) f.erases)) ∧
        (d.op = 6 → Does (.optErase w) s (fun t => runs { desc := d, pulse := .erase 1 } l t ∧
          (t.wing w).fls.erases = tmod 0 (1024 + d.addr / 0x800) (fun k => min (k + 1) 0xFFFFFFFF) f.erases)) ∧
        (d.op = 3 → room → let g := f.tallyLines d (fun i => lineData (x.lds (d.buf + 8 * i) 8)) d.lines 0
          Does (.flashTally w) s (fun t => posts (ends d (if g.1 = d.lines then 0 else 9) g.1 0 0 (d.addr + 8 * g.1)) x l t ∧
            (t.wing w).fls.lines = g.2.lines)) ∧
        (d.op = 3 → room → ∀ li, f.lineOf d.addr = some li → d.lines = 1 → let old := tget {} f.lines li
          (8 ≤ old.tally → Does (.flashTally w) s (posts (ends d 9 0 0 0 d.addr) x l)) ∧
          (old.tally < 8 → Does (.flashTally w) s (fun t => posts (ends d 0 1 0 0 0) x l t ∧ (t.wing w).fls.lines =
            tset {} li { old with tally := old.tally + 1, data := old.data &&& lineData (x.lds d.buf 8) } f.lines))) ∧
        (d.op = 4 → room → (∀ i, i < d.lines → ∃ v li, f.readLine (d.addr + 8 * i) = some (v, li) ∧ v.status = .sealed) →
          Does (.flashRead w) s (posts (ends d 0 d.lines 0 0 0) (x.sts d.buf
            ((List.range d.lines).flatMap (fun i => (List.range 8).map ((f.readLine (d.addr + 8 * i)).getD ({}, 0)).1.word) ++
              List.replicate d.lines 1)) l)) ∧
        (d.op = 4 → room → d.lines = 1 → ∀ li v, f.readLine d.addr = some (v, li) → v.status ≠ .corrected → let c := v.status.code
          Does (.flashRead w) s (posts (flsWords d 0 1 0 0 false false false [0, b2n (c == 3), b2n (c == 4), b2n (c == 0)] 0)
            (x.sts d.buf ((List.range 8).map v.word ++ [BitVec.ofNat 16 c])) l)))) ∧
    (∀ r : FlsRun, alone → r.desc.own = none → f.run = some r → ops f.queue → f.held = [] → let d := r.desc
      let p := r.place f
      let step := fun (i : Instr) (r' : FlsRun) => Does i s (runs r' f.queue)
      (r.pulse = .intent → Does (.programPulseDone w sensed) s (fun t => runs { r with pulse := .data 1 } f.queue t ∧
        (t.wing w).fls.locked = (f.locked || decide (d.op = 7)))) ∧
      (∀ k, r.pulse = .data k → (sensed = true → step (.programPulseDone w sensed) { r with maxPulses := max r.maxPulses k, pulse := .seal }) ∧
        (sensed = false → k < 16 → step (.programPulseDone w sensed) { r with maxPulses := max r.maxPulses k, pulse := .data (k + 1) }) ∧
        (sensed = false → 16 ≤ k → room →
          Does (.programPulseDone w sensed) s (posts (ends d 3 r.done (max r.maxPulses k) 0 r.stop) x f.queue))) ∧
      (r.pulse = .seal → let lines := if d.op = 7 then 1 else d.lines
        let at_ := { data := (f.at_ p).data &&& x.flsSource r, status := LineStatus.sealed : Line }
        let next := { r with done := r.done + 1 }
        (lines ≤ r.done + 1 → room → Does (.programPulseDone w sensed) s (fun t =>
          posts (ends d 0 (r.done + 1) r.maxPulses 0 0) x f.queue t ∧ ((t.wing w).fls.lines = (f.putAt at_ p).lines ∧ (t.wing w).fls.opt = (f.putAt at_ p).opt))) ∧
        (r.done + 1 < lines → ((f.putAt at_ p).at_ (next.place f)).intent = false →
          step (.programPulseDone w sensed) { next with pulse := .intent }) ∧
        (r.done + 1 < lines → ((f.putAt at_ p).at_ (next.place f)).intent = true → room →
          Does (.programPulseDone w sensed) s (posts (ends d 1 (r.done + 1) r.maxPulses 0 next.stop) x f.queue))) ∧
      (∀ k, r.pulse = .erase k →
        (sensed = true → room → Does (.eraseSubpulseDone w sensed) s (posts (ends d 0 0 0 k 0) x f.queue)) ∧
        (sensed = false → k < 24 → step (.eraseSubpulseDone w sensed) { r with pulse := .erase (k + 1) }) ∧
        (sensed = false → 24 ≤ k → room → d.op = 2 → flsPart d.addr ≠ some 6 → Does (.eraseSubpulseDone w sensed) s (fun t =>
          posts (ends d 4 0 0 k d.addr) x f.queue t ∧ (f.sector d.addr).getD 0 ∈ (t.wing w).fls.retired)) ∧
        (sensed = false → 24 ≤ k → room → d.op = 6 → Does (.eraseSubpulseDone w sensed) s (fun t =>
          posts (ends d 4 0 0 k d.addr) x f.queue t ∧ 1024 + d.addr / 0x800 ∈ (t.wing w).fls.retired)) ∧
        (sensed = false → 24 ≤ k → room → d.op = 2 → flsPart d.addr = some 6 → Does (.eraseSubpulseDone w sensed) s (fun t =>
          posts (flsWords d 4 0 0 k false (decide (8 < k)) (!f.spares.isEmpty) [] d.addr) x f.queue t ∧
          f.posSector (f.archPos ((d.addr - 0x508000) / 0x800)) ∈ (t.wing w).fls.retired)))) ∧
    (f.run = none → alone → ∀ i ∈ ([.programPulseDone w sensed, .eraseSubpulseDone w sensed] : List Instr),
      ops f.queue → exec i s = .next { s with free := s.free + 1 }) ∧
    (f.queue = [] → f.run ≠ none ∨ f.blocked = true → exec (.gapMovePiece w sensed) s = .next { s with free := s.free + 1 }) ∧
    (f.queue = [] → f.run = none → f.blocked = false → let piece := fun (P : Flash → Prop) => Does (.gapMovePiece w sensed) s (fun t => P (t.wing w).fls)
      (f.move = .idle → exec (.gapMovePiece w sensed) s = .next { s with free := s.free + 1 }) ∧
      (f.move = .due → piece (fun g => g.move = .copying 8 ∧ g.gap = f.gap ∧ g.start = f.start)) ∧
      (∀ k, f.move = .copying k → (k + 8 < 256 → piece (fun g => g.move = .copying (k + 8) ∧ g.gap = f.gap ∧ g.start = f.start)) ∧
        (256 ≤ k + 8 → piece (fun g => g.move = .clearing 1 ∧ (0 < f.gap → g.gap = f.gap - 1 ∧ g.start = f.start) ∧
          (f.gap = 0 → g.gap = 491 ∧ g.start = (f.start + 1) % 491)))) ∧
      (∀ k, f.move = .clearing k → (sensed = true → piece (fun g => g.move = .idle ∧ g.moves = f.moves + 1 ∧ g.gap = f.gap)) ∧
        (sensed = false → k < 24 → piece (fun g => g.move = .clearing (k + 1))) ∧
        (sensed = false → 24 ≤ k → piece (fun g => g.move = .idle ∧ f.posSector f.gap ∈ g.retired ∧
          (f.spares = [] → g.noRotation = true) ∧ (f.spares ≠ [] → g.moves = f.moves + 1)))) ∧
      (∀ k, f.move = .erasing k → (sensed = true → piece (fun g => g.move = .copying 0)) ∧
        (sensed = false → k < 24 → piece (fun g => g.move = .erasing (k + 1))) ∧
        (sensed = false → 24 ≤ k → piece (fun g => g.move = (if f.spares = [] then .idle else .copying 0) ∧ f.posSector f.gap ∈ g.retired))))

/-- CLOSE, PING, SUBSCRIBE, CENSUS and ALIGN (R26, R294, R302, R307 to R309, R542): received in an open session with nothing waiting, PING answers OK; CLOSE answers OK and closes the session;
SUBSCRIBE sets the session's classes and wing mask, and the first that takes DOME after a brown-out brings the BROWNOUT event; CENSUS with its reference latches timebase and ASN of every wing of
the mask that is out of RESET and BOOT and gives them after the count of REF periods, which has gone on by one or more; ALIGN with every
wing of its mask STOPPED loads their timebases and counts. Each answers OK; CENSUS and ALIGN without REF answer REFUSED, and ALIGN NOT_STOPPED when a wing
of its mask is not STOPPED. -/
def Obligations.PortRequests : Prop :=
  ∀ (s : State) (rq : Req), let n := rq.session
    let h := s.heard rq
    s.fresh rq .observer = true →
    exec (.ping rq) s = .next ((h.reply (rq.ask 0x04 0xE 0xF) .ok false []).pump) ∧
    exec (.close rq) s = .next ((((h.reply (rq.ask 0x03 0xE 0xF) .ok false [])).closeSession n).pump) ∧
    (∀ (c : Word) (m : BitVec 8), let q := rq.ask 0x40 0xE 0xE
      let u := (h.waitFor q).modSession n (fun (x : Session) => { x with classes := c, wings := m })
      (s.port.afterBrownout = false ∨ c.getLsbD 3 = false ∨ (s.port.sessions.get n).brownoutTold = true →
        exec (.subscribe rq c m) s = .next (finished q (some (.ok, false, []), u))) ∧
      (s.port.afterBrownout = true → c.getLsbD 3 = true → (s.port.sessions.get n).brownoutTold = false →
        exec (.subscribe rq c m) s = .next (finished q (some (.ok, false, []),
          (u.modSession n (fun (x : Session) => { x with brownoutTold := true })).eventTo (fun k _ => k == n) false 3 0xFF 1
            (natLe 4 s.dome.brownouts ++ [o8 (b2n s.dome.holdupShort)]))))) ∧
    (∀ mask : BitVec 8, s.fresh rq .operator = true → let q := rq.ask 0x30 0xE 0xE
      (s.dome.refLost = true → exec (.census rq mask) s = .next (finished q (some (.refused, false, []), h.waitFor q))) ∧
      (s.dome.refLost = false → ∃ os t, exec (.census rq mask) s = .next (finished q (some (.ok, false, os), t)) ∧ os.length = 120 ∧
        t.port.lastCensus = os ∧ os.take 8 = natLe 8 t.dome.refCount.toNat ∧
        (∃ k, k < 2 ^ 63 ∧ t.dome.refCount = s.dome.refCount + BitVec.ofNat 64 (k + 1)) ∧
        ∀ w : WingId, let x := s.wing w
          let out := mask.getLsbD w && decide (x.sys.state ≠ .reset) && decide (x.sys.state ≠ .boot)
          slice os (8 + 14 * w) 14 = (if out then [o8 x.sys.state.code] ++ natLe 8 x.now ++ natLe 5 x.lnk.asn else [o8 (128 + x.sys.state.code)] ++ zeros 13) ∧
          (t.wing w).win = (if out then { ts := x.now, asn := x.lnk.asn, count := (x.win.count + 1) % 65536 } else x.win))) ∧
    (∀ (mask : BitVec 8) (v : BitVec 64), s.fresh rq .keeper = true → let q := rq.ask 0x31 0xE 0xE
      let halted := ∀ w : WingId, mask.getLsbD w = true → (s.wing w).sys.state = .stopped
      (s.dome.refLost = true → exec (.align rq mask v) s = .next (finished q (some (.refused, false, []), h.waitFor q))) ∧
      (s.dome.refLost = false → ¬halted → exec (.align rq mask v) s = .next (finished q (some (.notStopped, false, []), h.waitFor q))) ∧
      (s.dome.refLost = false → halted → ∃ os t, exec (.align rq mask v) s = .next (finished q (some (.ok, false, os), t)) ∧
        os = mask :: natLe 8 t.dome.refCount.toNat ∧ t.port.aligns = (s.port.aligns + 1) % 2 ^ 32 ∧
        ∀ w : WingId, t.wing w = (if mask.getLsbD w then (s.wing w).alignLoad v.toNat else s.wing w)))

/-- SUBMIT, RETIRE, ITEM_QUERY, PARTNER_FETCH and WING_RESET (R60, R61, R240, R242, R304, R305), in an open session with nothing waiting: a submission to a wing that is not twinned is written to its ring when its frame has 12 to 256 octets, the wing is live, the ring has room and
the intake is open, and the first of these that fails answers BAD_FRAME, WING_UNAVAILABLE, RING_FULL or INTAKE_CLOSED; RETIRE is answered with the count and the lowest accession left, and by a standby with NOT_ACTIVE; ITEM_QUERY gives the items of the session's
credential that match, or NOT_FOUND, once the descriptors that stood in the intake rings have been taken; PARTNER_FETCH gives a piece of the payload held, or NOT_FOUND; WING_RESET answers OK and resets the
wing with cause HOST, but a FAULTED wing answers WING_UNAVAILABLE and stays so. -/
def Obligations.WorkRequests : Prop :=
  ∀ (s : State) (rq : Req) (w : WingId), let n := rq.session.val
    let h := s.heard rq
    let hand := fun (op : Nat) (b : Octets) => h.handed (rq.ask op w w) b
    (∀ b : SubmitBody, s.fresh rq .operator = true → s.pairOf w = none → b.ring.toNat < 4 → b.frame.length < 65536 →
      let q := rq.ask 0x20 w w
      let idx := ((s.wing w).ring b.ring.toNat).put
      let fits := 12 ≤ b.frame.length ∧ b.frame.length ≤ 256
      let up := (s.wing w).live = true
      let room := ((s.wing w).ring b.ring.toNat).full = false
      let no := fun (st : Status) => exec (.submit rq w b) s = .next (finished q (some (st, false, []), h.waitFor q))
      let u := h.setWing w (((s.wing w).ringAt b.ring.toNat idx).submitPut b.ring.toNat n (h.port.sessions.get n).cred b.octets)
      (fits → up → room → (s.wing w).wrk.open_ = true →
        exec (.submit rq w b) s = .next (u.waitFor { q with ring := b.ring.toNat, index := idx.toNat, tag := b.tag.toNat }).pump) ∧
      (¬fits → no .badFrame) ∧ (fits → ¬up → no .wingUnavailable) ∧ (fits → up → ¬room → no .ringFull) ∧
      (fits → up → room → (s.wing w).wrk.open_ = false → no .intakeClosed)) ∧
    (∀ f l : BitVec 48, s.fresh rq .operator = true → s.canHand w n = true →
      let u := hand 0x21 (natLe 6 f.toNat ++ natLe 6 l.toNat)
      (u.role w ≠ .standby → ∃ k low t, u.retire w f.toNat l.toNat = (k, low, t) ∧ k = ((u.wing w).wrk.items.filter (Item.retirable f.toNat l.toNat)).length ∧
        exec (.retire rq w f l) s = .next (answered w n (some (.ok, false, natLe 4 k ++ natLe 6 low), t))) ∧
      (u.role w = .standby → exec (.retire rq w f l) s = .next (answered w n (some (.notActive, false, []), u)))) ∧
    (∀ (m : Octet) (k : BitVec 48), s.fresh rq .operator = true → s.canHand w n = true → m.toNat ≤ 1 →
      let u := hand 0x22 (m :: natLe 6 k.toNat)
      let v := u.intakeAll w
      let cred := (u.port.sessions.get n).cred % 32
      let q : Query := { session := n, mode := m.toNat, key := k.toNat, cred := cred, puts := (List.range 4).map (fun r => ((u.wing w).ring r).put) }
      let l := ((v.wing w).wrk.items.filter (fun i => !i.partner && i.cred == cred && (if m = 0 then i.tag == k.toNat else i.acc == k.toNat))).take 16
      let answers := fun (st : Status) (b : Octets) => exec (.itemQuery rq w m k) s = .next (answered w n (some (st, false, b), v))
      ((v.wing w).queryReady q = true → l = [] → answers .notFound []) ∧
      ((v.wing w).queryReady q = true → l ≠ [] → answers .ok (o8 l.length :: l.flatMap (fun i => unpackW (i.final false)))) ∧
      ((v.wing w).queryReady q = false → exec (.itemQuery rq w m k) s =
        .next (v.modWing w (fun y => { y with wrk := { y.wrk with queries := y.wrk.queries ++ [q] } })).pump)) ∧
    (∀ (a : BitVec 48) (off c : Word), s.fresh rq .observer = true → s.canHand w n = true →
      let u := hand 0x23 (natLe 6 a.toNat ++ natLe 2 off.toNat ++ natLe 2 c.toNat)
      let held := (u.wing w).wrk.items.any (fun i => i.partner && i.acc == a.toNat)
      let answers := fun (st : Status) (b : Octets) => exec (.partnerFetch rq w a off c) s = .next (answered w n (some (st, false, b), u))
      (∀ r, held = true → (u.wing w).wrk.partnerRec a.toNat = some r → (c.toNat ≤ 1424 → answers .ok (slice r.payload off.toNat c.toNat)) ∧
        (1424 < c.toNat → answers .badLength [])) ∧
      (held = false ∨ (u.wing w).wrk.partnerRec a.toNat = none → answers .notFound [])) ∧
    (s.fresh rq .keeper = true → let q := rq.ask 0x28 w w
      ((s.wing w).sys.state ≠ .faulted → exec (.wingReset rq w) s = .next ((((h.waitFor q).finish q .ok false []).enterReset w .host).pump)) ∧
      ((s.wing w).sys.state = .faulted → exec (.wingReset rq w) s = .next (finished q (some (.wingUnavailable, false, []), h.waitFor q))))

/-- ORDER, FORWARD, FORWARD_TIMEOUT, STAGE_ERASE, STAGE_WRITE and STAGE_READ (R208, R303, R312, R313, R371, R505), from an open session with nothing waiting to a wing whose mailbox is free: an ORDER of class 1 to 3 puts its descriptor on ring 11, and another class is RANGE; a FORWARD to a valid
neighbour that fits a frame goes out and is answered by its RESPONSE, or with TIMEOUT; Staging that is not protected is erased by the ERASE descriptors of its 64 sectors and programmed by one PROGRAM descriptor, which the Curator submits as there is room and
whose end answers the request, an update that was pending being disarmed; it is read within its 262,144 octets. A protected Staging answers REFUSED, a misplaced piece RANGE. -/
def Obligations.OrderStaging : Prop :=
  ∀ (s : State) (rq : Req) (w : WingId), let n := rq.session.val
    let hand := fun (op : Nat) (b : Octets) => (s.heard rq).handed (rq.ask op w w) b
    (s.fresh rq .keeper = true → s.canHand w n = true →
      let no := fun (i : Instr) (u : State) (st : Status) => exec i s = .next (answered w n (some (st, false, []), u))
      let job := fun (i : Instr) (u : State) (ds : List FlsDesc) => Does i s (fun t => ∃ v : State, t = (v.disarm w).pump ∧ let f := (v.wing w).fls
        let g := (u.wing w).fls
        f.queue ++ f.mine = g.queue ++ g.mine ++ ds.map (fun d => { d with own := some g.jobNo }) ∧
        f.queue.length = min (g.queue.length + (32 - g.load)) (g.queue.length + g.mine.length + ds.length) ∧
        f.jobs = g.jobs ++ [{ job := g.jobNo, who := some n }] ∧ f.jobNo = g.jobNo + 1 ∧ f.lines = g.lines ∧ v.port = u.port)
      (∀ (c : Octet) (asn : BitVec 40) (oid : Word) (act par ttl : Octet), let b := [c] ++ natLe 5 asn.toNat ++ natLe 2 oid.toNat ++ [act, par, ttl]
        let u := hand 0x38 b
        let msg := [o8 (1 + 16 * c.toNat), ttl, 0, 0] ++ zeros 17 ++ slice b 1 9 ++ zeros 16
        (c.toNat = 0 ∨ 3 < c.toNat → no (.order rq w c asn oid act par ttl) u .range) ∧
        ∀ ok y, 1 ≤ c.toNat → c.toNat ≤ 3 → (u.wing w).ownSend 0x400 (u.dataFrame w false none msg) = (ok, y) →
          no (.order rq w c asn oid act par ttl) (u.setWing w y) (if ok then .ok else .ringFull)) ∧
      (let u := hand 0x3A []
       ((u.wing w).stageShut = true → no (.stageErase rq w) u .refused) ∧
       ((u.wing w).stageShut = false → job (.stageErase rq w) u
          ((List.range 64).map (fun i => { op := 2, tag := 0, addr := 0x4C0000 + 0x800 * i, buf := 0, lines := 0 })))) ∧
      (∀ (off : BitVec 32) (v : Octets), let u := hand 0x3B (natLe 4 off.toNat ++ v)
        let fits := off.toNat % 16 = 0 ∧ off.toNat + v.length ≤ 262144
        16 ≤ v.length → v.length ≤ 1024 → v.length % 16 = 0 →
          (¬fits → no (.stageWrite rq w off v) u .range) ∧
          (fits → (u.wing w).stageShut = true → no (.stageWrite rq w off v) u .refused) ∧
          (fits → (u.wing w).stageShut = false → job (.stageWrite rq w off v) u
            [{ op := 1, tag := 0, addr := 0x4C0000 + off.toNat / 2, buf := (u.wing w).exchBuf n + 8, lines := v.length / 16 }])) ∧
      (∀ (off : BitVec 32) (c : Word), let u := hand 0x3C (natLe 4 off.toNat ++ natLe 2 c.toNat)
        (262144 < off.toNat + c.toNat → no (.stageRead rq w off c) u .range) ∧
        (off.toNat + c.toNat ≤ 262144 → 1424 < c.toNat → no (.stageRead rq w off c) u .badLength) ∧
        (off.toNat + c.toNat ≤ 262144 → c.toNat ≤ 1424 →
          exec (.stageRead rq w off c) s = .next (answered w n (some (.ok, false, (u.wing w).fls.oct 384 off.toNat c.toNat), u))))) ∧
    (∀ (nb : Word) (op realm : Octet) (idx : Word) (sub : Octet) (v : Octets), s.fresh rq .operator = true → s.canHand w n = true →
      let b := natLe 2 nb.toNat ++ [op, realm] ++ natLe 2 idx.toNat ++ [sub] ++ natLe 2 v.length ++ v
      let u := hand 0x39 b
      let t := (u.port.trans + 1) % 65536
      let msg := meshMsg 1 t (b.drop 2)
      let valid := nb.toNat < 1024 ∧ ((u.wing w).nb nb.toNat).valid = true
      let long := (u.wing w).meshLong nb.toNat (u.dataFrame w true (some ((u.wing w).nb nb.toNat)) msg).length
      let i := Instr.forward rq w nb op realm idx sub v
      v.length < 65536 → (¬valid → exec i s = .next (answered w n (some (.neighbourInvalid, false, []), u))) ∧
        (valid → long = true → exec i s = .next (answered w n (some (.badLength, false, []), u))) ∧
        (∀ y, valid → long = false → u.meshSend w nb.toNat msg = (false, y) → exec i s = .next (answered w n (some (.ringFull, false, []), y))) ∧
        (∀ y, valid → long = false → u.meshSend w nb.toNat msg = (true, y) →
          let f : Fwd := { session := n, seq := rq.seq, wing := w, nb := nb.toNat, trans := t }
          exec i s = .next (State.pump { y with port := { y.port with trans := t, fwds := y.port.fwds ++ [f] } }))) ∧
    (∀ (m : Fin 8) (q : BitVec 32), let found := s.port.fwds.find? (fun f => f.session == m.val && f.seq == q.toNat)
      (∀ f, found = some f → exec (.forwardTimeout m q) s = .next (s.forwardEnd f .timeout [])) ∧ (found = none → Rests (.forwardTimeout m q) s))

/-- READ, READ_RECORD, DOMAIN_BEGIN, DOMAIN_BLOCK, DOMAIN_END and DOMAIN_TRANSFER_TIMEOUT (R267, R270, R274, R275, R303), in an open session with nothing waiting, on realm D or P or on a live wing with its mailbox free: a READ of an entry that the role may read answers its value; a record answers its
fields; without the entry the answer is NO_ENTRY, and to a lower role ROLE; the begin of a write that passes its checks opens the transfer; a block in it leaves its octets and answers OK, without a transfer REFUSED, after its time-out TIMEOUT, past its length
BAD_LENGTH; the end commits a value whose octets have all been written; a block of a read gives the octets from OFFSET. To a wing that is not live the answer is WING_UNAVAILABLE, and while its mailbox is not free RING_FULL. A transfer whose time has passed is marked and loses its data, and no other transfer changes. -/
def Obligations.CatalogueReads : Prop :=
  ∀ (s : State) (rq : Req) (realm : Realm) (idx : Word) (sub : Octet), let n := rq.session.val
    let role := (s.port.sessions.get n).role
    let h := s.heard rq
    let i := idx.toNat
    let u := fun (op : Nat) (b : Octets) => let q := rq.ask op realm.code realm.code
      match realm with | .wing _ => h.handed q b | _ => h.waitFor q
    let out := fun (op : Nat) (r : Ans × State) => match realm with | .wing w => answered w n r | _ => finished (rq.ask op realm.code realm.code) r
    let body := natLe 2 i ++ [sub]
    let rows : List (Nat × Instr) := [(0x10, .read rq realm idx sub), (0x12, .readRecord rq realm idx), (0x16, .domainEnd rq realm idx sub)]
    let no := fun (op : Nat) (c : Instr) (v : State) (st : Status) => exec c s = .next (out op (some (st, false, []), v))
    (s.fresh rq .observer = true → ∀ w, realm = .wing w →
      ((s.wing w).live = false → ∀ e ∈ rows, exec e.2 s = .next (finished (rq.ask e.1 w w) (some (.wingUnavailable, false, []), h.waitFor (rq.ask e.1 w w)))) ∧
      ((s.wing w).live = true → ((s.wing w).mb (n % 4)).state ≠ .free →
        ∀ e ∈ rows, exec e.2 s = .next (finished (rq.ask e.1 w w) (some (.ringFull, false, []), h.waitFor (rq.ask e.1 w w))))) ∧
    (s.fresh rq .observer = true → (∀ w, realm = .wing w → s.canHand w n = true) →
      (realm.entry i sub.toNat = none → no 0x10 (.read rq realm idx sub) (u 0x10 body) .noEntry ∧ no 0x16 (.domainEnd rq realm idx sub) (u 0x16 body) .noEntry) ∧
      (∀ e, realm.entry i sub.toNat = some e → role.rank < e.rd.rank → no 0x10 (.read rq realm idx sub) (u 0x10 body) .role) ∧
      (∀ e v t, realm.entry i sub.toNat = some e → e.rd.rank ≤ role.rank → (u 0x10 body).readValue realm i sub.toNat e = (some v, t) → v.length ≤ 1424 →
        exec (.read rq realm idx sub) s = .next (out 0x10 (some (.ok, false, v), t))) ∧
      (let es := (realm.subs i).filterMap (fun k => realm.entry i k)
       let ur := u 0x12 (natLe 2 i)
       (es = [] → no 0x12 (.readRecord rq realm idx) ur .noEntry) ∧
       (es ≠ [] → (∃ e ∈ es, role.rank < e.rd.rank) → no 0x12 (.readRecord rq realm idx) ur .role) ∧
       (∀ v t, es ≠ [] → (∀ e ∈ es, e.rd.rank ≤ role.rank) → i ≠ 0x2822 → ur.catRecord realm i = (v, t) → v.length ≤ 1424 →
        exec (.readRecord rq realm idx) s = .next (out 0x12 (some (.ok, false, v), t)))) ∧
      (∀ e k f, realm.entry i sub.toNat = some e → e.ty = .domain k f →
        (∀ len, len < 2 ^ 32 → let c := Instr.domainBegin rq realm idx sub true len
          let v := u 0x14 (body ++ 0 :: natLe 4 len)
          (∀ st, v.beginCheck realm i sub.toNat e n len = some st → no 0x14 c v st) ∧
          (v.beginCheck realm i sub.toNat e n len = none → exec c s = .next (out 0x14 (some (.ok, false, []),
            v.beginTransfer n realm { realm := realm.code, index := i, sub := sub.toNat, write := true, length := len })))) ∧
        (∀ len, exec (.domainBegin rq realm idx sub false len) s =
          .next (out 0x14 ((u 0x14 (body ++ [1])).domainBegin n realm i sub.toNat e false 0))) ∧
        (∀ off count value, off < 2 ^ 32 → 1 ≤ value.length → value.length ≤ 1024 → let c := Instr.domainBlock rq realm idx sub off count value
          let v := u 0x15 (body ++ natLe 4 off ++ value)
          (∀ st, v.transferOf n realm i sub.toNat = .error st → no 0x15 c v st) ∧
          (∀ x, v.transferOf n realm i sub.toNat = .ok x → x.write = true →
            (x.length < off + value.length → no 0x15 c v .badLength) ∧
            (off + value.length ≤ x.length → exec c s = .next (out 0x15 (some (.ok, false, []),
              v.putTransfer n realm { x with data := tputs 256 off (value.map (fun o => o.toNat)) x.data })))) ∧
          (∀ x, v.transferOf n realm i sub.toNat = .ok x → x.write = false → value.length ≠ 2 → no 0x15 c v .badMessage)) ∧
        (∀ off count, off < 2 ^ 32 → count < 65536 → let c := Instr.domainBlock rq realm idx sub off count []
          let v := u 0x15 (body ++ natLe 4 off ++ natLe 2 count)
          (∀ st, v.transferOf n realm i sub.toNat = .error st → no 0x15 c v st) ∧
          (∀ x, v.transferOf n realm i sub.toNat = .ok x → x.write = false → x.taken = true → count ≤ 1024 → off ≤ x.length →
            let k := min count (x.length - off)
            exec c s = .next (out 0x15 (some (.ok, decide (off + k < x.length), x.octets off k),
              if off + k < x.length then v.putTransfer n realm x else v.endTransfer n realm x.index x.sub))) ∧
          (∀ x, v.transferOf n realm i sub.toNat = .ok x → x.write = false → x.taken = false →
            exec c s = .next (out 0x15 (v.blockRead n realm e x off count)))) ∧
        (let v := u 0x16 body
         let c := Instr.domainEnd rq realm idx sub
         (∀ st, v.transferOf n realm i sub.toNat = .error st → no 0x16 c v st) ∧
         (∀ x, v.transferOf n realm i sub.toNat = .ok x → x.write = false → no 0x16 c (v.endTransfer n realm i sub.toNat) .ok) ∧
         (∀ x, v.transferOf n realm i sub.toNat = .ok x → x.write = true → x.data.length ≠ x.length → no 0x16 c v .badLength) ∧
         (∀ x t, v.transferOf n realm i sub.toNat = .ok x → x.write = true → x.data.length = x.length →
           v.catWrite realm i { role := role, who := some n } (some n) [{ sub := sub.toNat, ent := e, val := e.ty.wire (x.octets 0 x.length) }] true = (some .ok, t) →
           no 0x16 c (t.endTransfer n realm i sub.toNat) .ok)))) ∧
    (∀ m : Fin 8, Does (.domainTransferTimeout m realm idx sub) s (fun t => ∀ k : Fin 8,
      (t.port.sessions.get k).transfers = (if k = m then ((s.port.sessions.get k).transfers.map (fun x =>
        if x.isOf realm i sub.toNat then { x with timedOut := true, data := [] } else x)) else (s.port.sessions.get k).transfers) ∧
      (t.port.sessions.get k).isOpen = (s.port.sessions.get k).isOpen))

/-- WRITE, WRITE_RECORD, STORE and RESTORE (R267, R268, R271, R279 to R281), in an open session with nothing waiting: a value that the checks of R267 refuse changes nothing but the answer, an entry that does not exist answers NO_ENTRY, and a value that they pass is committed, in the wing or in realm D or P; to an index that
goes to both wings of a pair it is delivered as R281 says; a record's values are checked and committed together. STORE and RESTORE are writes of the Catalogue control; an accepted one asks for a store, or restores the settings and asks for one, which answers later, and a
restore that may not be answers why. -/
def Obligations.CatalogueWrites : Prop :=
  ∀ (s : State) (rq : Req) (idx : Word) (sub : Octet) (v : Octets), let n := rq.session.val
    let a : Actor := { role := (s.port.sessions.get n).role, who := some n }
    let h := s.heard rq
    let i := idx.toNat
    let ans := fun (r : Option Status × State) => ((r.1.map (fun st => (st, false, [])), r.2) : Ans × State)
    let body := natLe 2 i ++ [sub] ++ v
    let ctl := fun (r : Realm) => match r with | .wing _ => (0x2004 : Word) | .dome => 0x12F0 | .port => 0x11F0
    (∀ (r : Realm) (b : Octet) (c : Word), exec (.store rq r b) s = exec (.write rq r (ctl r) 1 [b]) s ∧
      exec (.restore rq r c) s = exec (.write rq r (ctl r) 4 (natLe 2 c.toNat)) s) ∧
    (s.fresh rq .observer = true →
      (∀ (w : WingId), s.canHand w n = true → s.pairOf w = none →
        let u := h.handed (rq.ask 0x11 w w) body
        (onePut (.wing w) i sub.toNat v = none → exec (.write rq (.wing w) idx sub v) s = .next (answered w n (some (.noEntry, false, []), u))) ∧
        (∀ p e, onePut (.wing w) i sub.toNat v = some p → u.writeCheck (.wing w) i a.role none [p] true = some e →
          exec (.write rq (.wing w) idx sub v) s = .next (answered w n (some (e, false, []), u))) ∧
        (∀ p, onePut (.wing w) i sub.toNat v = some p → u.writeCheck (.wing w) i a.role none [p] true = none →
          exec (.write rq (.wing w) idx sub v) s = .next (answered w n (ans (u.commitWing w i [p] (some n)))))) ∧
      (∀ r ∈ ([.dome, .port] : List Realm), let q := rq.ask 0x11 r.code r.code
        let u := h.waitFor q
        let k := (Realm.writables r i)
        let qr := rq.ask 0x13 r.code r.code
        (onePut r i sub.toNat v = none → exec (.write rq r idx sub v) s = .next (finished q (some (.noEntry, false, []), u))) ∧
        (∀ p e, onePut r i sub.toNat v = some p → u.writeCheck r i a.role none [p] true = some e →
          exec (.write rq r idx sub v) s = .next (finished q (some (e, false, []), u))) ∧
        (∀ p, onePut r i sub.toNat v = some p → u.writeCheck r i a.role none [p] true = none → exec (.write rq r idx sub v) s =
          .next (finished q (ans (if r = .dome then u.commitDome i [p] (some n) else u.commitPort i [p] (some n))))) ∧
        (k ≠ [] → exec (.writeRecord rq r idx v) s =
          .next (finished qr (ans ((h.waitFor qr).catWrite r i a none (recordPuts k v).1 (recordPuts k v).2))))) ∧
      (∀ (w : WingId) (c : Fin 4) (p : Put), s.pairOf w = some c.val → dualIndex i = true → (s.port.pair c).head < 8 →
        s.canHand (s.port.pair c).head n = true → (s.wing w).live = true → onePut (.wing w) i sub.toNat v = some p →
        let u := h.handed (rq.ask 0x11 w (s.port.pair c).head) body
        (u.wing w).live = true →
        exec (.write rq (.wing w) idx sub v) s = .next (answered (s.port.pair c).head n (ans (u.pairedWrite c.val i a none [p] true)))) ∧
      (∀ w : WingId, s.canHand w n = true → s.pairOf w = none →
        let u := h.handed (rq.ask 0x13 w w) (natLe 2 i ++ v)
        let k := (Realm.wing w).writables i
        ((Realm.wing w).subs i = [] → exec (.writeRecord rq (.wing w) idx v) s = .next (answered w n (some (.noEntry, false, []), u))) ∧
        ((Realm.wing w).subs i ≠ [] → k = [] → exec (.writeRecord rq (.wing w) idx v) s = .next (answered w n (some (.readOnly, false, []), u))) ∧
        (k ≠ [] → exec (.writeRecord rq (.wing w) idx v) s =
          .next (answered w n (ans (u.wingWrite w i a none (recordPuts k v).1 (recordPuts k v).2))))) ∧
      (∀ w : WingId, s.canHand w n = true → s.pairOf w = none →
        (let u := h.handed (rq.ask 0x11 w w) (natLe 2 0x2004 ++ [1, 1])
         u.accepts (.wing w) 0x2004 1 a.role [1] = true → exec (.store rq (.wing w) 1) s = .next (answered w n (none, u.wingStore w (some n) []))) ∧
        (∀ code : Word, let u := h.handed (rq.ask 0x11 w w) (natLe 2 0x2004 ++ [4] ++ natLe 2 code.toNat)
         u.accepts (.wing w) 0x2004 4 a.role (natLe 2 code.toNat) = true →
          ((u.wing w).restoreMay code.toNat = none →
            exec (.restore rq (.wing w) code) s = .next (answered w n (none, (u.restoreWing w (code = 3)).wingStore w (some n) [code.toNat]))) ∧
          (∀ e, (u.wing w).restoreMay code.toNat = some e → exec (.restore rq (.wing w) code) s = .next (answered w n (some (e, false, []), u))))) ∧
      (let q := rq.ask 0x11 0xD 0xD
       let u := h.waitFor q
       (u.accepts .dome 0x12F0 1 a.role [1] = true →
         exec (.store rq .dome 1) s = .next (finished q (none, { u with port := u.port.storeAsk 0xD (some n) [] }))) ∧
       (∀ code : Word, u.accepts .dome 0x12F0 4 a.role (natLe 2 code.toNat) = true → code ≠ 3 →
         let t := ({ u with port := u.port.restore false }.trimPush).watchWrite 0xFF
         exec (.restore rq .dome code) s = .next (finished q (none, { t with port := t.port.storeAsk 0xD (some n) [code.toNat] })))) ∧
      (let q := rq.ask 0x11 0xE 0xE
       let u := h.waitFor q
       (u.accepts .port 0x11F0 1 a.role [1] = true →
         exec (.store rq .port 1) s = .next (finished q (none, { u with port := u.port.storeAsk 0xE (some n) [] }))) ∧
       (∀ code : Word, u.accepts .port 0x11F0 4 a.role (natLe 2 code.toNat) = true → code ≠ 3 →
         let t := [1, 2].foldl (fun (t : State) k => t.solicit k) { u with port := (u.port.restore true).moveAddresses u.port }
         exec (.restore rq .port code) s = .next (finished q (none, { t with port := t.port.storeAsk 0xE (some n) [code.toNat] })))))

/-- RESET_REQUEST, STOP_REQUEST, HOP_SEED, WL_ENTRY_WRITE, OPTION_LOCK_WRITE, DEBUG_HALT and DEBUG_RESUME (R60, R148, R283, R395, R397, R432) are writes of their Catalogue entries, and to a wing that is no twin, accepted: the wing enters RESET with cause HOST; the stop request is set or cleared, and cleared in STOPPED it enters
RUNNING; the hopping sequence of the seed is made; the Curator submits the descriptors that rewrite the option sector with the field, or the one that locks the option area, and answers when they have ended; the core is halted, where debug is enabled, and resumed. Each of the
others answers OK. -/
def Obligations.SettingRows : Prop :=
  ∀ (s : State) (rq : Req) (w : WingId), let n := rq.session.val
    let job := fun (i : Instr) (idx sub : Nat) (value : Octets) (ds : State → List FlsDesc) =>
      let u := (s.heard rq).handed (rq.ask 0x11 w w) (natLe 2 idx ++ [o8 sub] ++ value)
      s.fresh rq .observer = true → s.canHand w n = true → s.pairOf w = none →
      u.accepts (.wing w) idx sub (u.port.sessions.get n).role value = true →
      exec i s = .next (answered w n (none, u.modWing w (Wing.flsJob (some n) (ds u))))
    (∀ (v : Word) (b : Bool) (idx : Word) (sub : Octet) (l : Octets), let wr := fun (k : Word) (j : Octet) (x : Octets) => exec (.write rq (.wing w) k j x) s
      exec (.resetRequest rq w v) s = wr 0x2001 3 (natLe 2 v.toNat) ∧ exec (.stopRequest rq w b) s = wr 0x2000 2 [o8 (b2n b)] ∧
      exec (.hopSeed rq w v) s = wr 0x2311 2 (natLe 2 v.toNat) ∧ exec (.optionLockWrite rq w v) s = wr 0x2702 0 (natLe 2 v.toNat) ∧
      exec (.debugHalt rq w) s = wr 0x2820 2 [1] ∧ exec (.debugResume rq w) s = wr 0x2820 2 [0] ∧
      exec (.wlEntryWrite rq w idx sub l) s = wr idx sub l) ∧
    Sets (.resetRequest rq w 0xA5C3) rq w 0x2001 3 (natLe 2 0xA5C3) (fun u => u.enterReset w .host) s ∧
    (∀ b : Bool, Sets (.stopRequest rq w b) rq w 0x2000 2 [o8 (b2n b)] (fun u =>
      let t := u.modWing w (fun x => { x with sys := { x.sys with stopReq := b } })
      if !b && (t.wing w).sys.state = .stopped then t.enterRunning w else t) s) ∧
    (∀ v : Word, v ≠ 0xFFFF → Sets (.hopSeed rq w v) rq w 0x2311 2 (natLe 2 v.toNat) (fun u =>
      match onePut (.wing w) 0x2311 2 (natLe 2 v.toNat) with
      | none => u
      | some p => (u.modWing w (fun x => (x.keepVal 0x2311 p).push w 0x2311)).modWing w (Wing.hopSeed v.toNat)) s) ∧
    (∀ (idx : Word) (sub : Octet) (v : Octets) (a k : Nat), 0x2200 ≤ idx.toNat → idx.toNat < 0x2209 → optField idx.toNat sub.toNat = some (a, k) →
      job (.wlEntryWrite rq w idx sub v) idx.toNat sub.toNat v (fun u => (u.wing w).fls.optRewrite (a / 0x800) [(a, v)])) ∧
    (∀ v : Word, job (.optionLockWrite rq w v) 0x2702 0 (natLe 2 v.toNat) (fun _ => [{ op := 7, tag := 0, addr := 0, buf := 0, lines := 0 }])) ∧
    Sets (.debugHalt rq w) rq w 0x2820 2 [1] (fun u => if (u.wing w).debug && (u.wing w).core.run ≠ .halted then u.halt w else u) s ∧
    Sets (.debugResume rq w) rq w 0x2820 2 [0] (fun u => u.unhalt w) s

/-- APPLET_INSTALL, APPLET_REMOVE, APPLET_IN, NETWORK_ROOT_WRITE, SESSION_KEY, UPDATE_PENDING, OWNER_ROOT_WRITE, REGENERATE and CHALLENGE (R434, R453, R481, R496, R505, R511, R513, R514) are writes of their Catalogue entries, and to a wing that is no twin, passed by the checks of R267: the applet partition is programmed from Staging when its
header, windows and signature hold, with the answer OK, and otherwise the answer is REFUSED; it is erased; words go to ring 14; the root is written and a store asked for, or the answer is REFUSED; the session's key page is filled; the pending update and the regeneration are noted; the Curator submits the descriptors that
write the trust area and answers when they have ended; the provenance record is made where it may be, and otherwise the answer is REFUSED. -/
def Obligations.SettingRows2 : Prop :=
  ∀ (s : State) (rq : Req) (w : WingId), let n := rq.session.val
    let took := fun (i : Instr) (idx sub : Nat) (value : Octets) (f : State → Ans × State) =>
      let u := (s.heard rq).handed (rq.ask 0x11 w w) (natLe 2 idx ++ [o8 sub] ++ value)
      s.fresh rq .observer = true → s.canHand w n = true → s.pairOf w = none →
      u.accepts (.wing w) idx sub (u.port.sessions.get n).role value = true → exec i s = .next (answered w n (f u))
    let yes := fun (ok : Bool) => ((some (if ok then .ok else .refused, false, [])) : Ans)
    (∀ (sub b : Octet) (v : Word) (l : Octets), let wr := fun (k : Word) (j : Octet) (x : Octets) => exec (.write rq (.wing w) k j x) s
      exec (.appletInstall rq w) s = wr 0x2810 2 [1] ∧ exec (.appletRemove rq w) s = wr 0x2810 2 [2] ∧ exec (.appletIn rq w l) s = wr 0x2A03 0 l ∧
      exec (.networkRootWrite rq w l) s = wr 0x2B10 1 l ∧ exec (.sessionKey rq w l) s = wr 0x2B20 0 l ∧
      exec (.updatePending rq w b) s = wr 0x2C01 0 [b] ∧ exec (.ownerRootWrite rq w sub l) s = wr 0x2C02 sub l ∧
      exec (.regenerate rq w v) s = wr 0x2C10 4 (natLe 2 v.toNat) ∧ exec (.challenge rq w l) s = wr 0x2C20 0 l) ∧
    took (.appletInstall rq w) 0x2810 2 [1] (fun u => let r := (u.wing w).appletInstall
      (yes r.1, u.setWing w r.2)) ∧
    took (.appletRemove rq w) 0x2810 2 [2] (fun u => (yes true, u.modWing w Wing.appletRemove)) ∧
    (∀ v, Sets (.appletIn rq w v) rq w 0x2A03 0 v (fun u => ((u.modWing w (fun x => (x.publish 14 false (packW v)).2))).ring14In w) s) ∧
    (∀ v, took (.networkRootWrite rq w v) 0x2B10 1 v (fun u => let r := u.rootWrite w v
      if r.1 then (none, r.2.wingStore w (some n) []) else (yes false, r.2))) ∧
    (∀ v, Sets (.sessionKey rq w v) rq w 0x2B20 0 v (fun u => u.modWing w (Wing.sessionKey n v)) s) ∧
    (∀ v : Octet, Sets (.updatePending rq w v) rq w 0x2C01 0 [v] (fun u =>
      let b := (u.wing w).tru.boot
      u.putBoot w (bootState b (b % 4) (b / 4 % 2) v.toNat (b / 256 % 256))) s) ∧
    (∀ (sub : Octet) v, sub = 2 ∨ sub = 3 → took (.ownerRootWrite rq w sub v) 0x2C02 sub.toNat v (fun u =>
      (none, u.modWing w (Wing.flsJob (some n) ((u.wing w).fls.trustWrite [(if sub = 2 then 0x20 else 0x30, v)]))))) ∧
    (∀ v : Word, Sets (.regenerate rq w v) rq w 0x2C10 4 (natLe 2 v.toNat) (fun u => u.putBoot w ((u.wing w).tru.boot ||| 16)) s) ∧
    (∀ v, took (.challenge rq w v) 0x2C20 0 v (fun u => let r := u.provenance w v
      (yes r.1, r.2)))

/-- PAIR_FORM, PAIR_DISSOLVE, SWITCH and TIME_WRITE (R243, R252, R360, R367), in an open session with nothing waiting, are writes of the pair's record, of its SWITCH and of the calendar; passed by the checks of R267 they are answered OK: the pair's wings are written; 0xFF to both dissolves it; the planned switch is asked of the active; the calendar takes the time as
a whole, with its divider at 0. A pair or a switch that may not be is answered REFUSED and changes nothing; a time is REFUSED and counted while backup writes are frozen, and BUSY while another port holds the calendar. -/
def Obligations.PairTimeRows : Prop :=
  ∀ (s : State) (rq : Req) (p : Fin 4), let idx : Word := BitVec.ofNat 16 (0x1180 + p.val)
    (∀ (a b v : Octet) (l : Octets), exec (.pairForm rq p a b) s = exec (.writeRecord rq .port idx [a, b]) s ∧
      exec (.pairDissolve rq p) s = exec (.writeRecord rq .port idx [0xFF, 0xFF]) s ∧ exec (.switch rq p v) s = exec (.write rq .port idx 6 [v]) s ∧
      exec (.timeWrite rq l) s = exec (.write rq .dome 0x1210 1 l) s) ∧
    (s.fresh rq .observer = true →
      let role := (s.port.sessions.get rq.session).role
      let done := fun (q : WaitReq) (st : Status) (t : State) => finished q (some (st, false, []), t)
      let q3 := rq.ask 0x13 0xE 0xE
      let q1 := fun (r : Nat) => rq.ask 0x11 r r
      let pairTo := fun (i : Instr) (a b : Octet) => let u := (s.heard rq).waitFor q3
        u.writeCheck .port (0x1180 + p.val) role none (recordPuts (Realm.port.writables (0x1180 + p.val)) [a, b]).1 true = none →
        (∀ t, u.pairWrite p a.toNat b.toNat = (.ok, t) → exec i s = .next (done q3 .ok t)) ∧
        (∀ t e, u.pairWrite p a.toNat b.toNat = (e, t) → e ≠ .ok → exec i s = .next (done q3 e u))
      (∀ (a b : Octet), pairTo (.pairForm rq p a b) a b) ∧ pairTo (.pairDissolve rq p) 0xFF 0xFF ∧
      (∀ (v : Octet), let u := (s.heard rq).waitFor (q1 0xE)
        let x := u.port.pair p
        u.accepts .port (0x1180 + p.val) 6 role [v] = true →
          (∀ a, x.token = some a → x.formed = true → x.state = .dual → v.toNat = x.other a → x.switching = false →
            exec (.switch rq p v) s = .next (done (q1 0xE) .ok ((u.setPair p { x with switching := true }).raise a 59))) ∧
          (x.token = none ∨ x.formed = false ∨ x.state ≠ .dual ∨ x.switching = true ∨ (∃ a, x.token = some a ∧ v.toNat ≠ x.other a) → exec (.switch rq p v) s = .next (done (q1 0xE) .refused u))) ∧
      (∀ v : Octets, let u := (s.heard rq).waitFor (q1 0xD)
        let free := s.cal.owner = none ∨ s.cal.owner = some 8
        u.accepts .dome 0x1210 1 role v = true →
          (s.dome.writeFrozen = false → free → exec (.timeWrite rq v) s = .next (done (q1 0xD) .ok
            (({ u with cal := { u.cal.release 8 with owner := some 8, halted := true, time := calOf v } } : State).calRelease true))) ∧
          (s.dome.writeFrozen = true → exec (.timeWrite rq v) s = .next (done (q1 0xD) .refused u.frozenWrite)) ∧
          (s.dome.writeFrozen = false → ¬free → exec (.timeWrite rq v) s = .next (done (q1 0xD) .busy u))))

/-- HELLO, OPEN, HELLO_RESERVATION_EXPIRY, LOCKOUT_EXPIRY and SESSION_IDLE_TIMEOUT (R296, R298, R300 to R302), with the image final and no power failure: HELLO reserves the lowest session that is neither open, opening nor reserved, with the nonces, or opens it at once as a provisioning session where that may be; OPEN with the proof of the
credential's secret opens it with the credential's role, on SPI once its response has left, and clears the failures; a wrong proof drops the reservation and counts, and every fourth failure locks the credential out; a locked-out credential opens nothing and loses its reservation; a proof that
is not 32 octets long changes no session; a reservation, a lockout and an idle session end. Outside these conditions an expiry or a time-out leaves the state as it was, and a HELLO or an OPEN changes no session. -/
def Obligations.Sessions : Prop :=
  ∀ (s : State) (n : Fin 8), let p := s.port
    let x := p.sessions.get n
    let used := fun (k : Fin 8) => (p.sessions.get k).isOpen = true ∨ (p.sessions.get k).opening = true ∨ (p.sessions.get k).reserved = true
    let only := fun (t : State) => (∀ k : Fin 8, k ≠ n → t.port.sessions.get k = p.sessions.get k) ∧ t.wings = s.wings ∧ t.dome = s.dome ∧ t.cal = s.cal
    (∀ (seq : BitVec 32) (cred : Octet) (nonce peer : Octets), let prov := (cred = 0xFF ∧ s.dome.bootsel.getLsbD 0 = true ∧ p.owned = false ∧
        ∀ k : Fin 8, (p.sessions.get k).prov = false)
      (p.powerFail = false → p.imageFinal = true → p.randFail = false → ¬used n → (∀ k : Fin 8, k < n → used k) →
        (¬prov → Does (.hello seq cred nonce peer) s (fun t => let y := t.port.sessions.get n
          y.reserved = true ∧ y.isOpen = false ∧ y.opening = false ∧ y.cred = cred.toNat ∧ y.cliNonce = nonce ∧ y.devNonce.length = 16 ∧ y.peer = peer ∧ only t)) ∧
        (prov → Does (.hello seq cred nonce peer) s (fun t => let y := t.port.sessions.get n
          y.isOpen = true ∧ y.prov = true ∧ y.role = .owner ∧ y.peer = peer ∧ y.highest = some seq.toNat ∧ only t))) ∧
      (p.imageFinal = false ∨ p.randFail = true ∨ (∀ k : Fin 8, used k) →
        Does (.hello seq cred nonce peer) s (fun t => t.port.sessions = p.sessions ∧ t.wings = s.wings ∧ t.dome = s.dome))) ∧
    (∀ (rq : Req) (proof : Octets), rq.session = n → p.powerFail = false → p.imageFinal = true →
      (x.reserved = true → x.isOpen = false → x.opening = false → (s.spi = true ∨ samePeer rq.peer x.peer = true) →
        let fails := (Does (.open_ rq proof) s (fun t => let k := (tget 0 p.failures x.cred + 1) % 65536
            (t.port.sessions.get n) = {} ∧ t.port.openFailures = (p.openFailures + 1) % 2 ^ 32 ∧ t.wings = s.wings ∧
            (x.cred < 32 → t.port.failures = tset 0 x.cred k p.failures ∧ t.port.lockout = (if k % 4 = 0 then x.cred :: p.lockout else p.lockout)) ∧
            (32 ≤ x.cred → t.port.failures = p.failures ∧ t.port.lockout = p.lockout)))
        (proof.length ≠ 32 → Does (.open_ rq proof) s (fun t => t.port.sessions = p.sessions ∧ t.port.failures = p.failures ∧ t.wings = s.wings)) ∧
        (proof.length = 32 → x.cred ∈ p.lockout → Does (.open_ rq proof) s (fun t => (t.port.sessions.get n) = {} ∧ t.port.failures = p.failures ∧ only t)) ∧
        (proof.length = 32 → ¬ x.cred ∈ p.lockout → p.secret x.cred = none → fails) ∧
        (∀ key, proof.length = 32 → ¬ x.cred ∈ p.lockout → p.secret x.cred = some key →
          (proof = kmac256 key (x.openInput n) 32 (ascii "FERAN-OPEN") → Does (.open_ rq proof) s (fun t => let y := t.port.sessions.get n
            y.isOpen = !s.spi ∧ y.opening = s.spi ∧ y.reserved = false ∧ y.cred = x.cred ∧ y.role = roleOf (p.cred x.cred 2 0) ∧ y.peer = rq.peer ∧
            y.highest = some rq.seq ∧ y.key = kmac256 key (x.openInput n) 32 (ascii "FERAN-SESSION") ∧ t.port.failures = tset 0 x.cred 0 p.failures ∧
            only t)) ∧
          (proof ≠ kmac256 key (x.openInput n) 32 (ascii "FERAN-OPEN") → fails))) ∧
      (x.isOpen = true ∨ x.opening = true ∨ x.reserved = false ∨ (s.spi = false ∧ samePeer rq.peer x.peer = false) →
        Does (.open_ rq proof) s (fun t => t.port.sessions = p.sessions ∧ t.port.failures = p.failures ∧ t.wings = s.wings))) ∧
    (p.powerFail = true → (∀ seq cred nonce peer, Rests (.hello seq cred nonce peer) s) ∧ (∀ rq proof, Rests (.open_ rq proof) s)) ∧
    (x.reserved = true → exec (.helloReservationExpiry n) s = .next { s with port := { p with sessions := p.sessions.set n {} } }) ∧
    (x.reserved = false → Rests (.helloReservationExpiry n) s) ∧
    (∀ c : Fin 32, exec (.lockoutExpiry c) s = .next { s with port := { p with lockout := p.lockout.filter (· ≠ c.val) } }) ∧
    (x.isOpen = true ∨ x.opening = true → Does (.sessionIdleTimeout n) s (fun t => (t.port.sessions.get n) = {} ∧ t.dome = s.dome ∧ t.cal = s.cal ∧
      (∀ k : Fin 8, k ≠ n → t.port.sessions.get k = p.sessions.get k) ∧ (∀ q ∈ t.port.waits, q.session ≠ n.val) ∧
      ∀ w : WingId, (t.wing w).core = (s.wing w).core ∧ (t.wing w).sys = (s.wing w).sys)) ∧
    (x.isOpen = false → x.opening = false → Rests (.sessionIdleTimeout n) s)

/-- ETH_FRAME_RECEIVED, ICMP_ECHO, NEIGHBOUR_SOLICITATION, SPI_STATUS, SPI_WRITE and SPI_READ (R5, R289 to R291, R298, R307): a frame that passes the MAC's filter goes to its protocol, and any other is ignored; an SPI status gives PORT_INT_N's cause, room, OVERRUN and the length that waits, clears OVERRUN and
leaves but the receive buffer's content as it was; a write with no room, a wrong length or too few octets sets
OVERRUN, any other is a Feran message; a read of a whole waiting message removes it, and an OPEN response so removed opens its session; a shorter one leaves it. On T1L the transfers do nothing. -/
def Obligations.PortFrames : Prop :=
  ∀ (s : State), let p := s.port
    (∀ f q, s.frameIn f = some q → exec (.ethFrameReceived f) s = .next (s.ipIn q) ∧
      (q.next = 58 → ipSum q.src q.dst 58 q.data = 0 → q.data.getD 0 0 = 128 → exec (.icmpEcho f) s = .next (s.echoIn q) ∧
        (p.isOwn q.dst = true → 8 ≤ q.data.length → q.data.length ≤ 1460 → exec (.icmpEcho f) s = .next (s.sendFrame
          (ipFrame q.mac q.dst q.src p.hop 58 (icmpPacket q.dst q.src 129 0 (q.data.drop 4)))))) ∧
      (q.next = 58 → ipSum q.src q.dst 58 q.data = 0 → q.data.getD 0 0 = 135 → exec (.neighbourSolicitation f) s = .next (s.solicitIn q)) ∧
      (¬(q.next = 58 ∧ q.data.getD 0 0 = 128 ∧ ipSum q.src q.dst 58 q.data = 0) → Rests (.icmpEcho f) s) ∧
      (¬(q.next = 58 ∧ q.data.getD 0 0 = 135 ∧ ipSum q.src q.dst 58 q.data = 0) → Rests (.neighbourSolicitation f) s)) ∧
    (∀ f, s.frameIn f = none → ∀ i ∈ ([.ethFrameReceived f, .icmpEcho f, .neighbourSolicitation f] : List Instr), Rests i s) ∧
    (s.spi = false → ∀ (held : Fin 3) (len k : Nat) (d : Octets), Rests (.spiStatus held) s ∧ Rests (.spiWrite held len d) s ∧ Rests (.spiRead held len k) s) ∧
    (s.spi = true → ∀ held : Fin 3,
      let u : State := { s with port := { p with rxHeld := held.val } }
      let wait := match s.waitingMsg with | none => 0 | some m => m.1.length
      let stat := (if p.powerFail then 8 else o8 (b2n s.waitingMsg.isSome + 2 * b2n (decide (held.val < 2)) + 4 * b2n p.overrun + 16 * b2n p.imageFinal)) :: 0xA5 :: natLe 2 wait
      let out := fun (d : Octets) => { u with port := { u.port with sent := p.sent ++ [stat ++ d], overrun := false } }
      exec (.spiStatus held) s = .next (out []) ∧
      (∀ (len : Nat) (d : Octets),
        (p.powerFail = true → exec (.spiWrite held len d) s = .next (out [])) ∧
        (p.powerFail = false → (held = 2 ∨ len < 12 ∨ 1452 < len ∨ d.length < len) →
          exec (.spiWrite held len d) s = .next { out [] with port := { (out []).port with overrun := true } }) ∧
        (p.powerFail = false → held ≠ 2 → 12 ≤ len → len ≤ 1452 → len ≤ d.length → exec (.spiWrite held len d) s = .next (((out []).feranIn [] (d.take len)).pump))) ∧
      (∀ (len k : Nat), (s.waitingMsg = none → exec (.spiRead held len k) s = .next (out (zeros k))) ∧
        (∀ m t, u.waitingMsg = some (m, t) →
          (len < m.length → exec (.spiRead held len k) s = .next (out (zeros k))) ∧
          (m.length ≤ len → k < m.length → exec (.spiRead held len k) s = .next (out (m.take k))) ∧
          (m.length ≤ len → m.length ≤ k → exec (.spiRead held len k) s =
            .next { t with port := { t.port with sent := (out (m ++ zeros (k - m.length))).port.sent, overrun := false } }))) ∧
      (∀ m rest, p.powerFail = false → p.out = m :: rest → ∃ t, u.waitingMsg = some (m.data, t) ∧ t.port.out = rest ∧
        (∀ c : Fin 8, m.session = c.val → (p.sessions.get c).opening = true → (m.data.getD 1 0).toNat = 2 →
          (t.port.sessions.get c).isOpen = true ∧ (t.port.sessions.get c).opening = false)))

/-- DOCENT_HOST_POLL, ITEM_REPORT_DELIVERY, WING_RESPONSE, MESH_FERAN_EXECUTE and FORWARD_RESPONSE (R304, R306, R307, R311, R312, R449, R461): a poll sends the map of host-pending sources and clears it, and nothing where it is empty (the model's choice, log 37); a descriptor that the Curator has passed is taken from its ring, one whose words are
all ones with no further effect but what waited behind it; a MESH descriptor sends its event; a
response's notice is acknowledged and its mailbox freed, the request that waits for it answered with the octets of the exchange buffer, and the next notice of the mailbox posted; a mesh message is executed where its item stands released, and otherwise nothing happens. -/
def Obligations.PortFetch : Prop :=
  ∀ (s : State) (w : WingId), let x := s.wing w
    (x.doc.hostPend = 0 → Rests (.docentHostPoll w) s) ∧
    (x.doc.hostPend ≠ 0 → exec (.docentHostPoll w) s = .next ((s.setWing w { x with doc := { x.doc with hostPend := 0 } }).event 2 w 0x0100
      (natLe 16 x.doc.hostPend.toNat))) ∧
    (∀ r : Fin 2, let g := x.ring (4 + r.val)
      let t := s.setWing w ((x.ringTook (4 + r.val)).complRelease).reportPump
      let d := x.lds (g.slot g.take) 8
      let takes := fun (u : State) => exec (.itemReportDelivery w r) s = .next u.pump
      (s.port.powerFail = true ∨ x.live = false ∨ g.take = g.pass → Rests (.itemReportDelivery w r) s) ∧
      (s.port.powerFail = false → x.live = true → g.take ≠ g.pass → takes (t.taken w (4 + r.val) d) ∧
        (d.all (· == 0xFFFF) = true → takes t) ∧
        (∀ code data rest, d.all (· == 0xFFFF) = false → r = 1 → (d.getD 0 0).getLsbD 15 = true → (t.wing w).wrk.events = (code, data) :: rest →
          takes ((t.modWing w (fun y => { y with wrk := { y.wrk with events := rest } })).event 4 w code data)))) ∧
    (∀ m : Fin 2, let b := x.mb (4 + m.val)
      let n := (b.words.getD 0 0).toNat % 8
      let os := x.octets (x.exchBuf n) 0 ((b.words.getD 1 0).toNat % 2048)
      let o := fun i => (os.getD i 0).toNat
      let y := s.setWing w (x.mbEnd (4 + m.val) 0)
      let mine := fun (q : WaitReq) => q.session == n && q.wing == w.val && bit (o 3) 0 && q.opcode == o 1 && q.seq == leNat (slice os 4 4)
      let next := fun (t : State) => match (t.wing w).wrk.replies.find? (fun k => k / 4 == m.val) with
        | none => t
        | some k => (t.modWing w (fun z => { z with wrk := { z.wrk with replies := z.wrk.replies.erase k } })).postNotice w k
      (b.state ≠ .full ∨ b.party ≠ some .core → Rests (.wingResponse w m) s) ∧
      (b.state = .full → b.party = some .core → s.port.waits.find? mine = none → exec (.wingResponse w m) s = .next (next y).pump) ∧
      (∀ q, b.state = .full → b.party = some .core → s.port.waits.find? mine = some q → exec (.wingResponse w m) s =
        .next (next (({ y with port := { y.port with waits := y.port.waits.filter (fun p => !mine p) } }).replyCode q (o 11) (bit (o 3) 2)
          (slice os 12 (leNat (slice os 8 2))))).pump)) ∧
    (let runs := fun (i : Instr) (p : Item → Octets → Bool) => let hit := x.wrk.items.find? (fun k => match x.meshItem k with | some o => p k o | none => false)
       (∀ k o, x.live = true → hit = some k → x.meshItem k = some o → exec i s = .next ((s.meshFeran w k o).pump)) ∧
       (x.live = false ∨ hit = none → Rests i s)
     (∀ a : BitVec 48, runs (.meshFeranExecute w a) (fun k _ => k.acc == a.toNat)) ∧
     (∀ n : Word, runs (.forwardResponse w n) (fun _ o => o.getD 1 0 = 2 && leNat (slice o 2 2) == n.toNat)))

/-- TWIN_BEAT, BEAT_TIMEOUT, SEALED_TIMEOUT, RELAY_HOLD_TIMEOUT, TAKEOVER, TOKEN_POWER_ON_CHOICE, RELEASE_TOKEN and SWITCH_TIMEOUT (R249 to R253, R257, R310): a beat is noted at the wing's time; a missed beat of the active fails the pair with cause 1, one of the standby, a missing SEALED and a message held too long degrade it, none of it in a pair that is stopped; once the failed active is down the standby takes
over with the cause noted; at power-on the token goes to the wing with the newest active record; a release, or its timeout, fails the active with cause 2. Outside these conditions the commands leave the state as it was. -/
def Obligations.PairEvents : Prop :=
  ∀ (s : State) (p : Fin 4) (w : WingId), let q := s.port.pair p
    let formed := q.a < 8 ∧ q.b < 8
    let idle := s.pairStopped q = true
    ((s.wing w).awake = true → s.pairOf w = some p.val → exec (.twinBeat w) s = .next (s.setPair p
      (if s.role w = .active then { q with beat := some (s.wing w).now } else { q with standbyBeat := some (s.wing w).now }))) ∧
    ((s.wing w).awake = false ∨ s.pairOf w = none → Rests (.twinBeat w) s) ∧
    (formed → q.token ≠ none → ¬idle → exec (.beatTimeout p false) s = .next (s.failPair p 1) ∧
      exec (.beatTimeout p true) s = .next (s.degrade p)) ∧
    (¬formed ∨ q.token = none ∨ idle → ∀ b, Rests (.beatTimeout p b) s) ∧
    (∀ a c, q.token = some a → (s.wing a).sys.state ≠ .reset → (s.wing a).sys.state ≠ .faulted → c ≠ 0 → s.failPair p c =
      (s.setPair p { q with failed := some c, switching := false }).enterReset a .host) ∧
    (∀ a, q.token = some a → (s.wing a).wrk.sealWait ≠ [] → exec (.sealedTimeout p) s = .next (s.degrade p)) ∧
    (q.token = none ∨ (∃ a, q.token = some a ∧ (s.wing a).wrk.sealWait = []) → Rests (.sealedTimeout p) s) ∧
    (q.holdA ≠ [] ∨ q.holdB ≠ [] → exec (.relayHoldTimeout p) s = .next (s.degrade p)) ∧
    (q.holdA = [] → q.holdB = [] → Rests (.relayHoldTimeout p) s) ∧
    (∀ a, formed → q.chosen = true → q.token = some a → (s.wing a).live = false → exec (.takeover p) s = .next (s.takeover p (q.failed.getD 0))) ∧
    (∀ c, formed → q.chosen = true → q.token = none → q.failed = some c → ((s.wing q.a).live = true ∨ (s.wing q.b).live = true) →
      exec (.takeover p) s = .next (s.takeover p c)) ∧
    (∀ a c, q.token = some a → (s.wing (q.other a)).live = true →
      let u := (((s.setPair p { q with token := none, failed := some c }).putPairState p .degraded)).countTakeover p
      s.takeover p c = ((u.giveToken p (q.other a) c).modWing (q.other a) (Wing.bump 0 0x252010)).takeWork (q.other a)) ∧
    (¬formed ∨ q.chosen = false ∨ (∃ a, q.token = some a ∧ (s.wing a).live = true) ∨ (q.token = none ∧ q.failed = none) ∨
      (q.token = none ∧ (s.wing q.a).live = false ∧ (s.wing q.b).live = false) → Rests (.takeover p) s) ∧
    (let up := [q.a, q.b].filter (fun w => (s.wing w).isRunning)
     (∀ v, formed → q.chosen = false → q.token = none → s.port.imageFinal = true → s.newestActive up = some v →
      exec (.tokenPowerOnChoice p) s = .next (((s.giveToken p v 3).takeWork v).holdItems (q.other v))) ∧
     (¬formed ∨ q.chosen = true ∨ q.token ≠ none ∨ s.port.imageFinal = false ∨ up = [] → Rests (.tokenPowerOnChoice p) s)) ∧
    (s.pairOf w = some p.val → let may := (s.wing w).live = true ∧ s.role w = .active ∧ q.switching = true ∧ ¬idle ∧ (s.wing w).quiet = true
      (may → exec (.releaseToken w) s = .next ((s.setWing w { s.wing w with wrk := { (s.wing w).wrk with release := true } }).failPair p 2)) ∧
      (¬may → Rests (.releaseToken w) s)) ∧
    (s.pairOf w = none → Rests (.releaseToken w) s) ∧
    (q.switching = true → ¬idle → exec (.switchTimeout p) s = .next (s.failPair p 2)) ∧
    (q.switching = false ∨ idle → Rests (.switchTimeout p) s) ∧
    (∀ a, q.token = some a → q.switching = true → ¬idle → (s.wing a).sys.state = .reset →
      exec (.switchTimeout p) s = .next (s.setPair p { q with failed := some 2, switching := false }))

/-- TWIN_BIND, TWIN_RECORD, TWIN_STATE, TWIN_SEALED, SEED_BEGIN, SEED_END and RELAY_FORWARD (R244 to R247, R253, R310), for the wing whose role each concerns and with the message in its mailbox: a BIND without its descriptor is acknowledged alone, and the queries that waited for it go on (R242); a part of a record is kept until the last, which is followed and, in a DUAL pair, sealed; a state message changes the words it names of one neighbour record; SEALED removes
what it names; the standby erases its journal and answers SEED_END with SEALED; the active asks for a seeding once, and SEALED of its end makes the pair DUAL, unless records have been written meanwhile; the port moves a posted message on to a twin that is RUNNING, or holds up to four. While its flash takes no pulse (R46) a standby takes
no message that it would journal. -/
def Obligations.PairMessages : Prop :=
  ∀ (s : State) (w : WingId), let x := s.wing w
    let n := fun (ws : List Word) i k => wordsNat ws i k
    (s.role w ≠ .standby ∨ x.fls.blocked = true ∨ x.relayIn 6 1 = none → exec (.twinBind w) s = .next (s.queryPump w)) ∧
    (s.role w ≠ .standby ∨ x.fls.blocked = true ∨ x.relayIn 6 2 = none → Rests (.twinRecord w) s) ∧
    (s.role w ≠ .standby ∨ x.relayIn 6 4 = none → Rests (.twinState w) s) ∧
    (s.role w ≠ .active ∨ x.relayIn 7 3 = none → Rests (.twinSealed w) s) ∧
    (s.role w = .single → Rests (.seedBegin w) s ∧ Rests (.seedEnd w) s) ∧
    (s.role w = .standby → (x.fls.blocked = true ∨ x.relayIn 6 5 = none → Rests (.seedBegin w) s) ∧ (x.relayIn 6 6 = none → Rests (.seedEnd w) s)) ∧
    (s.role w = .standby → let free := x.fls.blocked = false
      (∀ ws, x.relayIn 6 1 = some ws → ((s.relayOk w 6).wing w).takeTo (n ws 1 1 % 4) (n ws 2 1) = none → free →
        exec (.twinBind w) s = .next ((s.relayOk w 6).queryPump w)) ∧
      (∀ ws d f y, x.relayIn 6 1 = some ws → ((s.relayOk w 6).wing w).takeTo (n ws 1 1 % 4) (n ws 2 1) = some (d, f, y) → free →
        let word := fun (k : Nat) => (d.getD k 0).toNat
        let body := itemBody (n ws 3 3) (n ws 1 1 % 4) (n ws 2 1) (n ws 6 1) (n ws 7 2) (if word 4 / 256 = 0 then y.num 0x250102 4 else word 4 / 256)
          (if word 7 = 0 then y.num 0x250103 64 else word 7) (y.nb (word 0 % 1024)).eui d f
        let item := { itemOf { typ := 1, seq := 0, at_ := 0, body := body } y.now y.sfTicks with waits := true }
        exec (.twinBind w) s = .next ((((((s.relayOk w 6).setWing w y).jWrite w 1 body).modWing w (fun z =>
          { z with wrk := { z.wrk with next := max z.wrk.next (n ws 3 3 + 1), items := z.wrk.items ++ [item] } })).relaySend w [sealedMsg (n ws 3 3) 1]).queryPump w)) ∧
      (∀ ws, x.relayIn 6 2 = some ws → let part := (ws.getD 0 0).toNat / 256
        let os := (if part = 0 then [] else x.wrk.parts) ++ unpackW (ws.drop 2)
        part + 1 < (ws.getD 1 0).toNat → free → exec (.twinRecord w) s =
          .next ((s.relayOk w 6).modWing w (fun z => { z with wrk := { z.wrk with parts := os } }))) ∧
      (∀ ws, x.relayIn 6 2 = some ws → let part := (ws.getD 0 0).toNat / 256
        let os := (if part = 0 then [] else x.wrk.parts) ++ unpackW (ws.drop 2)
        let typ := (os.getD 0 0).toNat
        let rcd : JRec := { typ := typ, seq := 0, at_ := 0, body := slice os 16 (16 * ((os.getD 1 0).toNat - 1)) }
        let u := (s.relayOk w 6).modWing w (fun z => ({ z with wrk := { z.wrk with parts := [] } }).follow rcd)
        (ws.getD 1 0).toNat ≤ part + 1 → free → exec (.twinRecord w) s =
          .next (if u.pairState w = .dual then u.relaySend w [sealedMsg (sealedAcc typ rcd.body) typ] else u)) ∧
      (∀ ws, x.relayIn 6 4 = some ws → exec (.twinState w) s = .next ((s.modWing w (Wing.modNb ((ws.getD 1 0).toNat % 1024) (fun z =>
        (List.range 13).foldl (fun (z : Nb) k => if (ws.getD 2 0).toNat + k < 32 then z.putWord ((ws.getD 2 0).toNat + k) (ws.getD (3 + k) 0) else z) z))).relayOk w 6)) ∧
      (∀ ws, x.relayIn 6 5 = some ws → free → exec (.seedBegin w) s = .next ((s.setWing w x.jErase).relayOk w 6)) ∧
      (∀ ws, x.relayIn 6 6 = some ws → exec (.seedEnd w) s = .next ((s.relayOk w 6).relaySend w [sealedMsg 0 0]))) ∧
    (s.role w = .active →
      (∀ ws, x.relayIn 7 3 = some ws → ¬ (n ws 4 1, n ws 1 3) ∈ x.wrk.sealWait → exec (.twinSealed w) s = .next (s.relayOk w 7)) ∧
      (∀ ws, x.relayIn 7 3 = some ws → (n ws 4 1, n ws 1 3) ∈ x.wrk.sealWait → n ws 4 1 ≠ 0 → exec (.twinSealed w) s =
        .next (((s.relayOk w 7).modWing w (fun y => { y with wrk := { y.wrk with sealWait := dropFirst (n ws 4 1, n ws 1 3) y.wrk.sealWait } })).sealResolve
          w (n ws 4 1) (n ws 1 3) false)) ∧
      (∀ ws j p, x.relayIn 7 3 = some ws → (n ws 4 1, n ws 1 3) ∈ x.wrk.sealWait → n ws 4 1 = 0 → x.wrk.seeding = some j → (s.relayOk w 7).pairOf w = some p →
        let u := (s.relayOk w 7).modWing w (fun y => { y with wrk := { y.wrk with sealWait := dropFirst (n ws 4 1, n ws 1 3) y.wrk.sealWait } })
        (x.seedRecords j ≠ [] → exec (.twinSealed w) s = .next (u.seedOn w j)) ∧
        (x.seedRecords j = [] → exec (.twinSealed w) s = .next ((u.modWing w (fun y => { y with wrk := { y.wrk with seeding := none } })).putPairState p .dual))) ∧
      (∀ b, s.twin w = some b → x.isRunning = true → (s.wing b).isRunning = true → s.pairState w ≠ .dual →
        let j := x.wrk.jseq
        let nbs := (x.msh.nbs.filter (fun (e : Nat × Nb) => e.2.valid)).flatMap (fun e => e.2.stateMsgs e.1)
        exec (.seedBegin w) s =
          .next ((s.setWing w { x with wrk := { x.wrk with outbox := [], sealWait := [], seeding := some j } }).relaySend w
            ([5, BitVec.ofNat 16 j, BitVec.ofNat 16 (j / 2 ^ 16), BitVec.ofNat 16 (j / 2 ^ 32)] :: (nbs ++ seedMsgs (x.seedRecords 0))))) ∧
      (∀ j, x.wrk.seeding = some j → x.live = true → x.wrk.outbox = [] → x.wrk.sealWait = [] → exec (.seedEnd w) s = .next (s.seedOn w j))) ∧
    (∀ (m : Fin 2) (p t : Nat), let b := x.mb (6 + m.val)
      let q := s.port.pair p
      s.pairOf w = some p → s.twin w = some t → b.state = .full → b.party = some .core →
      (((s.wing t).mb (6 + m.val)).state = .free → q.heldTo t = [] → (s.wing t).isRunning = true →
        let u := s.modWing t (Wing.mbDeliver (6 + m.val) (.relay w) (o8 (0x20 + w.val)) b.words)
        exec (.relayForward w m) s = .next ((({ u with port := { u.port with relayed := (s.port.relayed + 1) % 2 ^ 32 } } : State).modWing w
          (Wing.mbEnd (6 + m.val) 0)).relayPump w)) ∧
      (((s.wing t).mb (6 + m.val)).state ≠ .free ∨ q.heldTo t ≠ [] ∨ (s.wing t).isRunning = false → 4 ≤ (q.heldTo t).length → Rests (.relayForward w m) s) ∧
      (((s.wing t).mb (6 + m.val)).state ≠ .free ∨ q.heldTo t ≠ [] ∨ (s.wing t).isRunning = false → (q.heldTo t).length < 4 → let u := s.setPair p (q.setHeld t (q.heldTo t ++ [(6 + m.val, b.words)]))
        exec (.relayForward w m) s = .next ((({ u with port := { u.port with relayHolds := (u.port.relayHolds + 1) % 2 ^ 32 } } : State).modWing w
          (Wing.mbEnd (6 + m.val) 0)).relayPump w))) ∧
    (∀ m : Fin 2, s.pairOf w = none ∨ (x.mb (6 + m.val)).state ≠ .full ∨ (x.mb (6 + m.val)).party ≠ some .core → Rests (.relayForward w m) s)

/-- TIMEBASE_WRAP, CAR_TB_LAP_READ, LF_RUNNING_ENTRY, REPHASE and LF_EDGE (R318, R321, R323, R336, R337, R340, R346, R363): at the wrap the timebase is 0, the lap rises mod 2^16, WRAP is set, with LAPWRAP when the lap wraps, and source 47 is raised; the first read of the 64-bit time returns the lap and freezes the reader's own shadow, not the other's; entry
to LF running stops fine counting, a re-phasing starts it; an LF edge moves each wing's phase by one mod 32 and, in fine running, nothing else of its time, and moves the divider by one, by none or by two where a correction is due. Outside their conditions the commands leave the
state as it was. -/
def Obligations.Timebase : Prop :=
  ∀ (s : State) (w : WingId) (dt : Nat), let x := s.wing w
    let y := x.advance dt
    let c := x.car
    (c.started = true → c.fine = true → Does (.timebaseWrap w) s (fun t => ∃ z : Wing, t = s.setWing w z ∧ z.car = { c with
      tb := 0, lap := (c.lap + 1) % 2 ^ 16, wrap := true, lapwrap := c.lapwrap || decide (c.lap = 0xFFFF) } ∧ z.doc.pend.getLsbD 47 = true ∧ z.core = x.core)) ∧
    (c.started = false ∨ c.fine = false → Rests (.timebaseWrap w) s) ∧
    (∀ ap : Bool, (x.awake = true → let v := y.car.lap * 2 ^ 48 + y.car.tb
      let z := if ap then { y.car with shadowA := v } else { y.car with shadowK := v }
      exec (.carTbLapRead w ap dt) s = .next (s.setWing w { y with rdata := BitVec.ofNat 16 y.car.lap, car := z })) ∧
      (x.awake = false → Rests (.carTbLapRead w ap dt) s)) ∧
    (let may := c.started = true ∧ c.fine = true ∧ (c.pllLocked = false ∨ s.dome.refLost = true ∨ x.core.run = .halted ∨
        (x.core.run = .asleep ∧ (x.rx.radio = .standby ∨ x.rx.radio = .off) ∧ y.bellNear = false))
     (may → Does (.lfRunningEntry w dt) s (fun t => ∃ z : Wing, t = s.setWing w z ∧ z.car = { y.car with fine := false, wakeReq := false, trimAcc := 0, lfError := x.rx.calLf } ∧
        z.core = x.core)) ∧ (¬may → Rests (.lfRunningEntry w dt) s)) ∧
    (let may := c.started = true ∧ c.fine = false ∧ c.pllLocked = true ∧ s.dome.refLost = false ∧ 750 ≤ s.dome.vcore ∧ (c.wakeReq = true ∨ x.core.run = .running)
     (may → Does (.rephase w) s (fun t => ∃ z : Wing, t = s.setWing w z ∧ z.car = { c with fine := true, wakeReq := false } ∧ z.core = x.core)) ∧
     (¬may → Rests (.rephase w) s)) ∧
    (s.lfRuns = true → let step := if s.cal.corrections = 0 ∨ s.cal.trim = 0 then 1 else if 0 < s.cal.trim then 0 else 2
      Does .lfEdge s (fun t => t.cal.divider = (s.cal.divider + step) % 32768 ∧
        (s.cal.divider + step < 32768 → t.cal = { s.cal with divider := s.cal.divider + step, corrections := s.cal.corrections - 1 }) ∧
        t.dome = s.dome ∧ t.port = s.port ∧ ∀ v : WingId, (t.wing v).core = (s.wing v).core ∧ (t.wing v).car.phase = ((s.wing v).car.phase + 1) % 32 ∧
          ((s.wing v).car.started = true → (s.wing v).car.fine = true → (t.wing v).car = { (s.wing v).car with phase := ((s.wing v).car.phase + 1) % 32 }))) ∧
    (s.lfRuns = false → Rests .lfEdge s)

/-- BELL_CFG_WRITE, BELL_COMPARE_COMMIT, BELL_MATCH, BELL_CAPTURE, BELL_CAPTURE_READ and BELL_TALLY_EVENT (R326 to R332), on a wing that is out of RESET: a new mode or source clears the bell's values and disarms it; the write of VAL2 commits V and arms the bell at the distance from the count, a whole lap for the count itself, LATE when it is within 2^20 ticks of a lap and
then, with IMMEDIATE, at the next tick, after a previous value that matches at the very count has fired; a match raises the bell's source, sets MATCH and OVERRUN if that was set, and disarms the bell or, with an interval, aims it that far on; a capture holds the count and CAPFULL, OVERRUN if it was full; a read of it clears CAPFULL; a tally
counts, and wraps with its flag. Other bells stay. In another mode the commands leave the state as it was. -/
def Obligations.Bells : Prop :=
  ∀ (s : State) (w : WingId) (b : Fin 32) (dt : Nat), let x := s.wing w
    let y := x.advance dt
    let o := x.bell b
    trising x.car.bells = true →
    let gives := fun (i : Instr) (P : Bell → Wing → Prop) => Does i s (fun t => ∃ z : Wing, t = s.setWing w z ∧ P (z.bell b) z ∧
      (∀ k : Fin 32, k ≠ b → z.bell k = x.bell k) ∧ z.core = x.core ∧ z.sys = x.sys)
    (x.awake = false → (∀ v, Rests (.bellCfgWrite w b v) s ∧ Rests (.bellCompareCommit w b v dt) s) ∧ Rests (.bellCaptureRead w b) s) ∧
    (∀ v : Word, x.awake = true →
      (bits (v &&& 0x7FFF).toNat 5 0 ≠ bits o.cfg.toNat 5 0 → gives (.bellCfgWrite w b v) (fun n _ => n.cfg = v &&& 0x7FFF ∧ n.armed = false ∧ n.capfull = false ∧
        n.v = 0 ∧ n.capture = 0 ∧ n.tally = 0 ∧ n.matched = o.matched ∧ n.interval = o.interval)) ∧
      (bits (v &&& 0x7FFF).toNat 5 0 = bits o.cfg.toNat 5 0 → gives (.bellCfgWrite w b v) (fun n _ => n = { o with cfg := v &&& 0x7FFF }))) ∧
    (∀ v2 : Word, x.awake = true → o.mode = .compare → let v := o.st0.toNat + o.st1.toNat * 2 ^ 16 + v2.toNat * 2 ^ 32
      let r := (v + 2 ^ 48 - y.car.tb) % 2 ^ 48
      let d := if r = 0 then 2 ^ 48 else r
      let late := decide (2 ^ 48 - 2 ^ 20 < d)
      let now := y.car.fine = true ∧ o.waits = true ∧ (o.c + o.d) % 2 ^ 48 = y.car.tb ∧ o.c ≠ y.car.tb
      gives (.bellCompareCommit w b v2 dt) (fun n z => n.armed = true ∧ n.v = v ∧ n.c = y.car.tb ∧ n.d = (if late && bit o.cfg.toNat 9 then 1 else d) ∧
        n.late = late ∧ n.cfg = o.cfg ∧ (now → n.matched = true ∧ z.doc.pend.getLsbD b.val = true) ∧ (¬now → n.matched = o.matched ∧ z.doc = x.doc))) ∧
    (∀ v2 : Word, x.awake = true → o.mode ≠ .compare → gives (.bellCompareCommit w b v2 dt) (fun n _ => n = o)) ∧
    (x.car.started = true → x.car.fine = true → o.waits = true → let m := (o.c + o.d) % 2 ^ 48
      gives (.bellMatch w b) (fun n z => n.matched = true ∧ n.overrun = (o.overrun || o.matched || (decide (o.interval ≠ 0) && n.overrun)) ∧
        n.armed = decide (o.interval ≠ 0) ∧ z.car.tb = m ∧ z.doc.pend.getLsbD b.val = true ∧
        (o.interval ≠ 0 → (o.v = m ∨ (o.d = 1 ∧ o.late = true)) → n.v = (m + o.interval) % 2 ^ 48 ∧ n.c = m ∧ n.d = o.interval))) ∧
    (x.car.started = false ∨ x.car.fine = false ∨ o.waits = false → Rests (.bellMatch w b) s) ∧
    (o.mode = .capture → o.source < 10 → gives (.bellCapture w b dt) (fun n z => n.capture = y.car.tb ∧ n.capfull = true ∧
      n.overrun = (o.overrun || o.capfull) ∧ z.doc.pend.getLsbD b.val = true)) ∧
    (o.mode = .capture → 10 ≤ o.source → gives (.bellCapture w b dt) (fun n z => n = o ∧ z.doc = x.doc)) ∧
    (o.mode ≠ .capture → Rests (.bellCapture w b dt) s ∧ Rests (.bellCaptureRead w b) s) ∧
    (x.awake = true → o.mode = .capture → gives (.bellCaptureRead w b) (fun n z => n = { o with capfull := false } ∧ z.rdata = BitVec.ofNat 16 o.capture)) ∧
    (o.mode = .tally → o.source < 10 →
      (o.tally ≠ 2 ^ 32 - 1 → gives (.bellTallyEvent w b) (fun n z => n = { o with tally := o.tally + 1 } ∧ z.doc = x.doc)) ∧
      (o.tally = 2 ^ 32 - 1 → gives (.bellTallyEvent w b) (fun n z => n.tally = 0 ∧ n.tallyWrap = true ∧ n.overrun = (o.overrun || o.tallyWrap) ∧
        z.doc.pend.getLsbD b.val = true))) ∧
    (o.mode ≠ .tally ∨ 10 ≤ o.source → Rests (.bellTallyEvent w b) s)

/-- SECONDS_CARRY, PWRON_WINDOW_END, LF_STOP_DETECTED and LF_RESTART (R346 to R350, R357, R363, R365, R528): a carry leaves the divider at 0 and takes the trim of the next second from the accumulator; not halted, the time goes to the next second, of the proleptic calendar's length of month, from 23:59:59 of 31 December 2099 to 2000 with ROLLOVER,
and a time that the alarm hits sets ALARM with its latches and sources, and drives PWRON when it is enabled and main good is absent; halted, a carry is held, and a further one is counted as discarded;
an LF stop is counted and sets OSF; the LF edge after it runs the clock again. While the LF clock is stopped, or the backup domain held in reset, the commands leave the state as it was. -/
def Obligations.CalendarCarry : Prop :=
  ∀ s : State, let c := s.cal
    let acc := c.acc + c.trim.natAbs * 32768
    let trimmed := fun (t : State) => t.cal.acc = acc % 100000000 ∧ t.cal.corrections = acc / 100000000
    (s.lfRuns = true → c.halted = false → Does .secondsCarry s (fun t => t.cal.divider = 0 ∧ t.cal.time = c.time.tick.1 ∧ trimmed t ∧
      t.cal.rollover = (c.rollover || c.time.tick.2) ∧ t.cal.bram = c.bram ∧ t.cal.osf = c.osf ∧ t.dome = s.dome ∧ (∀ w : WingId, (t.wing w).core = (s.wing w).core) ∧
      (c.alarm.hits c.time.tick.1 = false → t.cal.alarmFlag = c.alarmFlag ∧ t.cal.drive = c.drive ∧ t.cal.alarmLatch = c.alarmLatch) ∧
      (c.alarm.hits c.time.tick.1 = true → t.cal.alarmFlag = true ∧ t.cal.drive = (c.drive || (c.alarm.pwron && !s.dome.mainGood)) ∧
        (c.alarmFlag = false → t.cal.alarmLatch = List.range 8 ∧ ∀ w : WingId, (s.wing w).live = true → (t.wing w).doc.pend.getLsbD 61 = true)))) ∧
    (s.lfRuns = true → c.halted = true → Does .secondsCarry s (fun t => t.cal.divider = 0 ∧ t.cal.time = c.time ∧ t.cal.carryPending = true ∧ trimmed t ∧
      t.cal.discarded = (if c.carryPending then min (c.discarded + 1) 0xFFFF else c.discarded))) ∧
    (s.lfRuns = false → Rests .secondsCarry s) ∧
    exec .pwronWindowEnd s = .next { s with cal := { c with drive := false } } ∧
    (s.dome.bpor = false → c.lfRunning = true → c.lfStopped = false → Does .lfStopDetected s (fun t => t.cal.lfStopped = true ∧ t.cal.osf = true ∧
      t.cal.lfStops = min (c.lfStops + 1) 0xFFFF ∧ t.cal.time = c.time ∧ t.dome = s.dome ∧
      ∀ w : WingId, (s.wing w).sys.state ≠ .reset → (t.wing w).doc.pend.getLsbD 62 = true)) ∧
    (s.dome.bpor = true ∨ c.lfRunning = false ∨ c.lfStopped = true → Rests .lfStopDetected s) ∧
    (s.dome.bpor = false → exec .lfRestart s = .next { s with cal := { c with lfRunning := true, lfStopped := false } }) ∧
    (s.dome.bpor = true → Rests .lfRestart s) ∧
    (∀ t : CalTime, ((t.sec = 0x59 ∧ t.min = 0x59 ∧ t.hour = 0x23 ∧ t.day = 0x31 ∧ t.month = 0x12 ∧ t.year = 0x2099) →
      t.tick.1.year = 0x2000 ∧ t.tick.1.month = 1 ∧ t.tick.1.day = 1 ∧ t.tick.1.hour = 0 ∧ t.tick.1.min = 0 ∧ t.tick.1.sec = 0 ∧ t.tick.2 = true) ∧
      (t.sec < 0x80 → bcdOk t.sec = true → bcdVal t.sec < 59 → bcdVal t.tick.1.sec = bcdVal t.sec + 1 ∧ t.tick = ({ t with sec := t.tick.1.sec }, false)))

/-- CAL_SHADOW_FREEZE, CAL_YEAR_READ, CAL_RELEASE, SHADOW_TIMEOUT, CAL_HALT, HALT_EDGE, HALT_RELEASE, RELEASE_EDGE, CAL_FIELD_WRITE and HALT_LOST (R352 to R358), through the host's port or that of a wing out of RESET: the first read freezes the time for that port alone and a read of the year releases it; a release, or 500 ms, ends the shadow; the halt
is taken where nobody has it, and writes of another port are counted and ignored; it takes effect at an edge; its holder may release it, and only its holder writes the fields, with values of the calendar, any other being counted as invalid; a frozen backup domain takes none of these writes and counts them. From
a wing in RESET, and outside their conditions, the commands leave the state as it was. -/
def Obligations.CalendarHalt : Prop :=
  ∀ (s : State) (p : Fin 9), let c := s.cal
    let free := p = 8 ∨ ∃ w : WingId, w.val = p.val ∧ (s.wing w).awake = true
    let gives := fun (i : Instr) (c' : Calendar) => exec i s = .next { s with cal := c' }
    let rel := c.release p
    let at_ := fun (t : State) (P : CalPort → Prop) => P (t.cal.port p) ∧ (∀ q : Fin 9, q ≠ p → t.cal.port q = c.port q) ∧ t.cal.time = c.time ∧ t.cal.bram = c.bram ∧
      t.dome = s.dome ∧ t.port = s.port
    (¬free → (∀ r v dz, ∀ i ∈ ([.calShadowFreeze p r, .calYearRead p, .calRelease p, .calHalt p, .haltRelease p dz, .calFieldWrite p r v] : List Instr), Rests i s)) ∧
    (exec (.calShadowFreeze p 7) s = exec (.calYearRead p) s) ∧
    (∀ (r : Fin 8) (w : WingId), w.val = p.val → free → Does (.calShadowFreeze p r) s (fun t =>
      (t.wing w).rdata = BitVec.ofNat 16 (calField ((c.port p).shadow.getD (c.divider, c.time)) r))) ∧
    (∀ r : Fin 8, free → r ≠ 7 → Does (.calShadowFreeze p r) s (fun t => at_ t (fun q => q.shadow =
      some ((c.port p).shadow.getD (c.divider, c.time)) ∧ q.timeout = (c.port p).timeout))) ∧
    (free → Does (.calYearRead p) s (fun t => at_ t (fun q => q.shadow = none))) ∧
    (free → gives (.calRelease p) rel ∧ Does (.calRelease p) s (fun t => at_ t (fun q => q = { c.port p with shadow := none }))) ∧
    ((c.port p).shadow ≠ none → Does (.shadowTimeout p) s (fun t => at_ t (fun q => q = { c.port p with shadow := none, timeout := true }))) ∧
    ((c.port p).shadow = none → Rests (.shadowTimeout p) s) ∧
    (free → s.dome.writeFrozen = false →
      (c.owner = none → gives (.calHalt p) { rel with owner := some p.val, halted := false, releasing := none }) ∧
      (c.owner = some p.val → gives (.calHalt p) rel ∧ ∀ dz, gives (.haltRelease p dz) { rel with releasing := some dz }) ∧
      (∀ q, c.owner = some q → q ≠ p.val → gives (.calHalt p) (rel.ignore p) ∧ ∀ dz, gives (.haltRelease p dz) (rel.ignore p)) ∧
      (c.owner = none → ∀ dz, gives (.haltRelease p dz) (rel.ignore p))) ∧
    (free → s.dome.writeFrozen = true → ∀ (r : Fin 8) (v : Word) (dz : Bool), r ≠ 0 → r ≠ 4 → ∀ i ∈ ([.calHalt p, .haltRelease p dz, .calFieldWrite p r v] : List Instr), exec i s =
      .next { s with cal := rel, dome := { s.dome with frozenWrites := min (s.dome.frozenWrites + 1) 0xFFFF } }) ∧
    (c.owner ≠ none → gives .haltEdge { c with halted := true }) ∧
    (c.owner = none → Rests .haltEdge s) ∧
    (∀ dz, c.releasing = some dz → exec .releaseEdge s = .next (s.calRelease dz)) ∧
    (c.releasing = none → Rests .releaseEdge s) ∧
    (∀ (r : Fin 8) (v : Word), free →
      (r = 0 ∨ r = 4 → gives (.calFieldWrite p r v) rel) ∧
      (r ≠ 0 → r ≠ 4 → s.dome.writeFrozen = false →
        (c.owner ≠ some p.val → gives (.calFieldWrite p r v) (rel.ignore p)) ∧
        (∀ t, c.owner = some p.val → c.time.put r v.toNat = some t → gives (.calFieldWrite p r v) { rel with time := t }) ∧
        (c.owner = some p.val → c.time.put r v.toNat = none → gives (.calFieldWrite p r v) { rel with invalid := min (c.invalid + 1) 0xFFFF }))) ∧
    (c.halted = true → gives .haltLost { c with haltLost := true }) ∧ (c.halted = false → Rests .haltLost s)

/-- ADD, ADDC, ADDI and ADDL (R408, R413, R407): where the core executes and the fetch is permitted, each completes: Wd holds the sum mod
2^16, C, Z, N, V and H stand as R401 says (V by the signed sum, Z of ADDC only cleared), PC goes on, and nothing else changes. -/
def Obligations.AddResults : Prop :=
  ∀ (w : WingId) (d r : Reg) (k : Octet) (l : Word) (s : State), let c := (s.wing w).core
    (CoreRuns w 1 s →
      CoreResult w 1 (.add w d r) s (some d) (c.get d + c.get r) (FlagsAdd (c.get d) (c.get r) false (c.get d + c.get r == 0)) ∧
      (let cy := c.st.getLsbD 0
       let v := c.get d + c.get r + BitVec.ofNat 16 (b2n cy)
       CoreResult w 1 (.addc w d r) s (some d) v (FlagsAdd (c.get d) (c.get r) cy (v == 0 && c.st.getLsbD 1))) ∧
      CoreResult w 1 (.addi w d k) s (some d) (c.get d + k.signExtend 16)
        (FlagsAdd (c.get d) (k.signExtend 16) false (c.get d + k.signExtend 16 == 0))) ∧
    (CoreRuns w 2 s → CoreResult w 2 (.addl w d l) s (some d) (c.get d + l) (FlagsAdd (c.get d) l false (c.get d + l == 0)))

/-- SUB, SUBB, SUBL, NEG, CMP, CMPI, CMPL, INC and DEC (R408, R413, R407): where the core executes and the fetch is permitted, each completes
with the difference, the compares with no register written, INC and DEC with C kept; C is the borrow, V goes by the signed difference, and
nothing else changes. -/
def Obligations.SubResults : Prop :=
  ∀ (w : WingId) (d r : Reg) (k : Octet) (l : Word) (s : State), let c := (s.wing w).core
    let a := c.get d
    let b := c.get r
    let z := fun (x y : Word) => x - y == 0
    (CoreRuns w 1 s →
      CoreResult w 1 (.sub w d r) s (some d) (a - b) (FlagsSub a b false (z a b)) ∧
      (let cy := c.st.getLsbD 0
       let v := a - b - BitVec.ofNat 16 (b2n cy)
       CoreResult w 1 (.subb w d r) s (some d) v (FlagsSub a b cy (v == 0 && c.st.getLsbD 1))) ∧
      CoreResult w 1 (.neg w d) s (some d) (0 - a) (FlagsSub 0 a false (z 0 a)) ∧
      CoreResult w 1 (.cmp w d r) s none 0 (FlagsSub a b false (z a b)) ∧
      CoreResult w 1 (.cmpi w d k) s none 0 (FlagsSub a (k.signExtend 16) false (z a (k.signExtend 16))) ∧
      CoreResult w 1 (.inc w d) s (some d) (a + 1) (KeepC (FlagsAdd a 1 false (a + 1 == 0))) ∧
      CoreResult w 1 (.dec w d) s (some d) (a - 1) (KeepC (FlagsSub a 1 false (z a 1)))) ∧
    (CoreRuns w 2 s →
      CoreResult w 2 (.subl w d l) s (some d) (a - l) (FlagsSub a l false (z a l)) ∧
      CoreResult w 2 (.cmpl w d l) s none 0 (FlagsSub a l false (z a l)))

/-- AND, OR, XOR, TST, NOT, CLR, SWAB, SXT, ZXT, ANDL, ORL and XORL set Z and N of their result and no other flag; MOV, MOVI, MOVL, NOP and
FENCE change no flag; CLC and SEC change C only (R408, R413, R427). Where the core executes and the fetch is permitted, each completes so, and
nothing but Wd, those flags and PC changes. -/
def Obligations.LogicResults : Prop :=
  ∀ (w : WingId) (d r : Reg) (k : Octet) (l : Word) (s : State), let c := (s.wing w).core
    let a := c.get d
    let b := c.get r
    let gives := fun (n : Nat) (i : Instr) (v : Word) => CoreResult w n i s (some d) v (FlagsZN v)
    (CoreRuns w 1 s →
      gives 1 (.and w d r) (a &&& b) ∧ gives 1 (.or w d r) (a ||| b) ∧ gives 1 (.xor w d r) (a ^^^ b) ∧
      CoreResult w 1 (.tst w d r) s none 0 (FlagsZN (a &&& b)) ∧
      gives 1 (.not w d) (~~~ a) ∧ gives 1 (.clr w d) 0 ∧ gives 1 (.swab w d) ((a <<< 8) ||| (a >>> 8)) ∧
      gives 1 (.sxt w d) ((a.setWidth 8).signExtend 16) ∧ gives 1 (.zxt w d) ((a.setWidth 8).setWidth 16) ∧
      CoreTo w 1 (.mov w d r) s (fun c => c.put d (c.get r)) ∧ CoreTo w 1 (.movi w d k) s (fun c => c.put d (k.signExtend 16)) ∧
      CoreTo w 1 (.nop w) s (fun c => c) ∧ CoreTo w 1 (.fence w) s (fun c => c) ∧
      CoreResult w 1 (.clc w) s none 0 (fun st st' => st'.getLsbD 0 = false ∧ OnlyFlags 1 st st') ∧
      CoreResult w 1 (.sec w) s none 0 (fun st st' => st'.getLsbD 0 = true ∧ OnlyFlags 1 st st')) ∧
    (CoreRuns w 2 s →
      gives 2 (.andl w d l) (a &&& l) ∧ gives 2 (.orl w d l) (a ||| l) ∧ gives 2 (.xorl w d l) (a ^^^ l) ∧
      CoreTo w 2 (.movl w d l) s (fun c => c.put d l))

/-- SHZ.L, SHZ.R, SHS.R, ROT.L, ROT.R, RTC.L, RTC.R, BIT.S, BIT.C, BIT.I and BIT.T (R412): where the core executes, each completes. A shift shifts
Wd by the count (the constant, 0 meaning 16, or Wc[3:0]); C is the last bit out, RTC turns C and Wd as a ring of 17 bits, V is set by SHZ.L alone when
bit 15 changed at a step; a count of 0 leaves Wd, C and V and sets Z and N. A bit instruction sets, clears, inverts or leaves bit i of Wd, i the
constant or Wn[3:0], and C takes the bit's old value. Nothing else changes. -/
def Obligations.ShiftAndBitResults : Prop :=
  ∀ (w : WingId) (d : Reg) (byReg : Bool) (cr : Reg) (s : State), CoreRuns w 1 s →
    let c := (s.wing w).core
    let a := c.get d
    let n := shiftCount byReg cr c
    let ring := fun (x : BitVec 17) => (x.setWidth 16, x.msb)
    let cy := BitVec.cons (c.st.getLsbD 0) a
    let all : List (Instr × Word × Bool × Bool) :=
      [(.shzL w d byReg cr, a <<< n, a.getLsbD (16 - n), (List.range n).any (fun j => (a <<< j).msb != (a <<< (j + 1)).msb)),
       (.shzR w d byReg cr, a >>> n, a.getLsbD (n - 1), false), (.shsR w d byReg cr, a.sshiftRight n, a.getLsbD (n - 1), false),
       (.rotL w d byReg cr, a.rotateLeft n, a.getLsbD (16 - n), false), (.rotR w d byReg cr, a.rotateRight n, a.getLsbD (n - 1), false),
       (.rtcL w d byReg cr, (ring (cy.rotateLeft n)).1, (ring (cy.rotateLeft n)).2, false),
       (.rtcR w d byReg cr, (ring (cy.rotateRight n)).1, (ring (cy.rotateRight n)).2, false)]
    let i := if byReg then (c.get cr).toNat % 16 else cr.val
    let bitOf := fun (ins : Instr) (b : Bool) => ∃ v : Word, v.getLsbD i = b ∧ (∀ j : Fin 16, j.val ≠ i → v.getLsbD j = a.getLsbD j) ∧
      CoreResult w 1 ins s (some d) v (fun st st' => st'.getLsbD 0 = a.getLsbD i ∧ OnlyFlags 1 st st')
    (∀ e ∈ all, if n = 0 then CoreResult w 1 e.1 s (some d) a (FlagsZN a)
      else CoreResult w 1 e.1 s (some d) e.2.1 (FlagsShift e.2.1 e.2.2.1 e.2.2.2)) ∧
    bitOf (.bitS w d byReg cr) true ∧ bitOf (.bitC w d byReg cr) false ∧ bitOf (.bitI w d byReg cr) (!a.getLsbD i) ∧
      bitOf (.bitT w d byReg cr) (a.getLsbD i)

/-- MULU, MULS and DIVU (R413): for an even d, where the core executes, MULU and MULS leave the 32-bit product in W(d+1):Wd with its Z and N
and with C and V 0; DIVU leaves quotient and remainder with Z of the quotient and N, C and V 0 when W(d+1) is below Ws, only V 1, N 0 and C 0
(Z a free value, log 29) when it is not, and takes the DIVIDE trap for Ws = 0; an odd d takes RESERVED_OP. Nothing else changes. -/
def Obligations.MulDivResults : Prop :=
  ∀ (w : WingId) (d r : Reg) (s : State), CoreRuns w 1 s →
    let c := (s.wing w).core
    let a := c.get d
    let b := c.get r
    let hi := c.get (d + 1)
    let pair := fun (i : Instr) (lo h : Word) (F : Word → Word → Prop) => ∃ st, F c.st st ∧
      CoreTo w 1 i s (fun c => { (c.put d lo).put (d + 1) h with st := st })
    let flags := fun (z n v : Bool) (st st' : Word) => st'.getLsbD 0 = false ∧ st'.getLsbD 1 = z ∧ st'.getLsbD 2 = n ∧
      st'.getLsbD 3 = v ∧ OnlyFlags 0x000F st st'
    let u : BitVec 32 := a.setWidth 32 * b.setWidth 32
    let m : BitVec 32 := a.signExtend 32 * b.signExtend 32
    let n := hi.toNat * 65536 + a.toNat
    if d.val % 2 = 1 then
      (∀ i ∈ ([.mulu w d r, .muls w d r, .divu w d r] : List Instr), ∃ op, exec i s = .next (s.raiseTrap w op .reserved))
    else
      pair (.mulu w d r) (u.setWidth 16) ((u >>> 16).setWidth 16) (flags (decide (u = 0)) u.msb false) ∧
      pair (.muls w d r) (m.setWidth 16) ((m >>> 16).setWidth 16) (flags (decide (m = 0)) m.msb false) ∧
      (if b = 0 then ∃ op, exec (.divu w d r) s = .next (s.raiseTrap w op .divide)
       else if b.toNat ≤ hi.toNat then ∃ z st, flags z false true c.st st ∧
         exec (.divu w d r) s = .next { s.modCore w (fun c => { c with st := st, pc := c.pc + 1 }) with free := s.free + 1 }
       else pair (.divu w d r) (BitVec.ofNat 16 (n / b.toNat)) (BitVec.ofNat 16 (n % b.toNat))
         (flags (decide (n / b.toNat = 0)) false false))

/-- ADDD, SUBD, DSHL, DSHR, DAA and DAS (R415): where the core executes, each completes. On packed decimal digits ADDD and SUBD give the decimal
sum and difference with C the decimal carry or borrow, H that of digit 0, Z of the word, N 0 and V 0, and V is 1 when a digit exceeds 9; DSHL
and DSHR move one digit, C telling whether the digit shifted out was not 0; DAA and DAS correct as R415 says. Nothing else changes. -/
def Obligations.DecimalResults : Prop :=
  ∀ (w : WingId) (d r : Reg) (s : State), CoreRuns w 1 s →
    let c := (s.wing w).core
    let a := c.get d
    let b := c.get r
    let k := b2n (c.st.getLsbD 0)
    let low := a.toNat % 256
    let h := c.st.getLsbD 4
    let six := if h || decide (9 < low % 16) then 6 else 0
    let bcd := fun (v : Word) (co ho bad : Bool) (st st' : Word) => st'.getLsbD 0 = co ∧ st'.getLsbD 1 = decide (v = 0) ∧
      st'.getLsbD 2 = false ∧ st'.getLsbD 3 = bad ∧ st'.getLsbD 4 = ho ∧ OnlyFlags 0x001F st st'
    let adj := fun (v : Word) (co : Bool) (st st' : Word) => st'.getLsbD 0 = co ∧ st'.getLsbD 1 = decide (v = 0) ∧
      st'.getLsbD 2 = v.msb ∧ st'.getLsbD 4 = false ∧ OnlyFlags 0x0017 st st'
    let dig := fun (v : Word) (co : Bool) (st st' : Word) => st'.getLsbD 0 = co ∧ st'.getLsbD 1 = decide (v = 0) ∧
      st'.getLsbD 2 = v.msb ∧ OnlyFlags 0x0007 st st'
    (∃ v co, (decOk a = true → decOk b = true → decOk v = true ∧ decValue v + 10000 * b2n co = decValue a + decValue b + k) ∧
      CoreResult w 1 (.addd w d r) s (some d) v
        (bcd v co (decide (10 ≤ a.toNat % 16 + b.toNat % 16 + k)) (!(decOk a && decOk b)))) ∧
    (∃ v co, (decOk a = true → decOk b = true → decOk v = true ∧ decValue v + decValue b + k = decValue a + 10000 * b2n co) ∧
      CoreResult w 1 (.subd w d r) s (some d) v
        (bcd v co (decide (a.toNat % 16 < b.toNat % 16 + k)) (!(decOk a && decOk b)))) ∧
    (let v := BitVec.ofNat 16 (a.toNat * 16 + b.toNat / 4096)
     CoreResult w 1 (.dshl w d r) s (some d) v (dig v (decide (a.toNat / 4096 ≠ 0)))) ∧
    (let v := BitVec.ofNat 16 (b.toNat * 4096 + a.toNat / 16)
     CoreResult w 1 (.dshr w d r) s (some d) v (dig v (decide (a.toNat % 16 ≠ 0)))) ∧
    (let co := a.getLsbD 8 || decide (0x99 < low)
     let v := BitVec.ofNat 16 ((low + six + (if co then 0x60 else 0)) % 256)
     CoreResult w 1 (.daa w d) s (some d) v (adj v co)) ∧
    (let high := a.getLsbD 8 || decide (0x99 < low)
     let v := BitVec.ofNat 16 ((low + 512 - six - (if high then 0x60 else 0)) % 256)
     CoreResult w 1 (.das w d) s (some d) v (adj v (a.getLsbD 8)))

/-- LDW, STW in their three forms, LDA, STA and XCH (R404, R405, R408, R409, R413): where the core executes, an access that R405 forbids is the
ACCESS_FAULT trap and nothing else; one that it permits is made at the physical address of its effective address, Wd then takes the word after
any change of Wb, a store writes the register as it was before it; XCH reads and then writes. In SRAM outside the fence the word is
the SRAM's, a store changes that one word, and nothing else but Wd, Wb and PC changes. -/
def Obligations.LoadsAndStores : Prop :=
  ∀ (w : WingId) (d b : Reg) (k : BitVec 4) (l : Word) (s : State), let c := (s.wing w).core
    let x := s.wing w
    let step := fun (n : Nat) => s.modCore w (fun c => { c with pc := c.pc + BitVec.ofNat 24 n })
    let traps := fun (i : Instr) (e : Trap) => ∃ op, exec i s = .next (s.raiseTrap w op e)
    let ram := fun (a : Word) => inSram (c.phys a) ∧ x.fenced (c.phys a) = false
    let near := c.get b + BitVec.ofNat 16 k.toNat
    let loads : List (Nat × Instr × Word × (Word → Core → Core)) :=
      [(1, .ldwDisp w d b k, near, fun v c => c.put d v), (1, .ldwPostinc w d b, c.get b, fun v c => (c.put b (c.get b + 1)).put d v),
       (1, .ldwPredec w d b, c.get b - 1, fun v c => (c.put b (c.get b - 1)).put d v), (2, .lda w d l, l, fun v c => c.put d v)]
    let stores : List (Nat × Instr × Word × (Core → Core)) :=
      [(1, .stwDisp w d b k, near, fun c => c), (1, .stwPostinc w d b, c.get b, fun c => c.put b (c.get b + 1)),
       (1, .stwPredec w d b, c.get b - 1, fun c => c.put b (c.get b - 1)), (2, .sta w d l, l, fun c => c)]
    let put := fun (t : State) (a v : Word) => t.modWing w (fun x => { x with sram := tset 0 (c.phys a) v x.sram })
    (∀ e ∈ loads, CoreRuns w e.1 s →
      (∀ f, x.eaFault false e.2.2.1 = some f → traps e.2.1 f) ∧
      (x.eaFault false e.2.2.1 = none → let r := (step e.1).eaRead w e.2.2.1
        exec e.2.1 s = .next (r.2.modCore w (e.2.2.2 r.1)) ∧
        (ram e.2.2.1 → r = (s.sramWord w (c.phys e.2.2.1), step e.1)))) ∧
    (∀ e ∈ stores, CoreRuns w e.1 s →
      (∀ f, x.eaFault true e.2.2.1 = some f → traps e.2.1 f) ∧
      (x.eaFault true e.2.2.1 = none → let u := (step e.1).modCore w e.2.2.2
        exec e.2.1 s = .next (u.eaWrite w e.2.2.1 (c.get d)) ∧
        (ram e.2.2.1 → u.eaWrite w e.2.2.1 (c.get d) = put u e.2.2.1 (c.get d)))) ∧
    (CoreRuns w 1 s → let a := c.get b
      (∀ f, (x.eaFault false a = some f ∨ x.eaFault false a = none ∧ x.eaFault true a = some f) → traps (.xch w d b) f) ∧
      (x.eaFault false a = none → x.eaFault true a = none → let r := (step 1).eaRead w a
        exec (.xch w d b) s = .next ((r.2.modCore w (fun c => c.put d r.1)).busWrite c.applet w (c.phys a) (c.get d)) ∧
        (ram a → exec (.xch w d b) s =
          .next (put ((step 1).modCore w (fun c => c.put d (s.sramWord w (c.phys a)))) a (c.get d))))) ∧
    (trising x.sram = true → ∀ (t : State) (a v : Word), (t.wing w).sram = x.sram →
      (put t a v).sramWord w (c.phys a) = v ∧ ∀ p, p ≠ c.phys a → (put t a v).sramWord w p = s.sramWord w p)

/-- Bcc, BRA, CALL, JMP, CALL Wd, RET, JMPF, CALLF and RETF (R403, R408, R410, R413): where the core executes, each completes. A near transfer
leaves the segment and sets PC[15:0] to its target, counted from the next word; Bcc does so under its condition of R410 and otherwise goes on;
CALL and CALLF leave the return address in W14, CALLF pushes its segment, RETF pops it. A forbidden stack access is the ACCESS_FAULT trap.
No flag and no other register changes. -/
def Obligations.ControlTransfers : Prop :=
  ∀ (w : WingId) (cc : BitVec 4) (k : Octet) (m : BitVec 12) (d : Reg) (l : BitVec 24) (s : State), let c := (s.wing w).core
    let x := s.wing w
    let f := fun (i : Nat) => c.st.getLsbD i
    let next := BitVec.ofNat 16 (c.pc + 1).toNat
    let gives := fun (t : Word) => BitVec.ofNat 24 (c.pc.toNat / 65536 * 65536 + t.toNat)
    let goes := fun (i : Instr) (g : Core → Core) (p : BitVec 24) => exec i s = .next (s.modCore w (fun c => { g c with pc := p }))
    let same := fun (c : Core) => c
    let link := fun (v : Word) (c : Core) => c.put 14 v
    let holds : List Bool := [f 1, !f 1, f 0, !f 0, f 2, !f 2, f 3, !f 3, !f 0 && !f 1, f 0 || f 1, f 2 == f 3, f 2 != f 3,
      !f 1 && f 2 == f 3, f 1 || f 2 != f 3, f 4, !f 4]
    let traps := fun (i : Instr) (e : Trap) => ∃ op, exec i s = .next (s.raiseTrap w op e)
    let ram := fun (a : Word) => inSram (c.phys a) ∧ x.fenced (c.phys a) = false
    (CoreRuns w 1 s →
      goes (.bcc w cc k) same (if holds.getD cc.toNat false then gives (next + k.signExtend 16) else c.pc + 1) ∧
      goes (.bra w m) same (gives (next + m.signExtend 16)) ∧ goes (.call w m) (link next) (gives (next + m.signExtend 16)) ∧
      goes (.jmpReg w d) same (gives (c.get d)) ∧ goes (.callReg w d) (link next) (gives (c.get d)) ∧ goes (.ret w) same (gives (c.get 14)) ∧
      (let sp := c.get 15
       (∀ e, x.stackFault false sp = some e → traps (.retf w) e) ∧
       (x.stackFault false sp = none → ram sp →
         goes (.retf w) (fun c => c.put 15 (sp + 1))
           (BitVec.ofNat 24 ((s.sramWord w (c.phys sp)).toNat % 256 * 65536 + (c.get 14).toNat))))) ∧
    (CoreRuns w 2 s →
      goes (.jmpf w l) same l ∧
      (let sp := c.get 15 - 1
       (∀ e, x.stackFault true sp = some e → traps (.callf w l) e) ∧
       (x.stackFault true sp = none → ram sp → exec (.callf w l) s =
         .next ((s.modCore w (fun c => { (c.put 15 sp).put 14 (BitVec.ofNat 16 (c.pc + 2).toNat) with pc := l })).modWing w
           (fun x => { x with sram := tset 0 (c.phys sp) (BitVec.ofNat 16 ((c.pc + 2).toNat / 65536)) x.sram })))))

/-- DBNZ (R411): in either mode, where the core executes, Wd takes (Wd − 1) mod 2^16, PC goes to the target in its segment if the new Wd is
not 0 and otherwise to the next word, no flag and nothing else changes; counted down from 0, Wd first is 0 again after 65,536 steps, so that a loop
entered with Wd = 0 runs 65,536 times. -/
def Obligations.DbnzRule : Prop :=
  ∀ (w : WingId) (d : Reg) (k : Octet) (s : State), CoreRuns w 1 s →
    let c := (s.wing w).core
    let v := BitVec.ofNat 16 ((c.get d).toNat + 65535)
    (exec (.dbnz w d k) s = .next (s.modCore w (fun c => { c.put d v with
      pc := if v = 0 then c.pc + 1
            else BitVec.ofNat 24 (c.pc.toNat / 65536 * 65536 + (BitVec.ofNat 16 (c.pc + 1).toNat + k.signExtend 16).toNat) }))) ∧
    (c.put d v).st = c.st ∧
    ∀ n, 0 < n → n ≤ 65536 → ((0 : Word) - BitVec.ofNat 16 n = 0 ↔ n = 65536)

/-- RETI (R422), in Keeper mode with a frame that the core may read: the words at W15, W15 + 1 and W15 + 2 are read in that order and give ST,
PC[15:0] and PC[23:16]; W15 of Keeper mode is 3 higher; the bits of ST are those of the frame, AM and TA included; the register W15 names the
applet copy from then on if the restored AM is 1. With a frame in SRAM nothing else changes. -/
def Obligations.RetiRule : Prop :=
  ∀ (w : WingId) (s : State), CoreRuns w 1 s → let x := s.wing w
    let c := x.core
    c.applet = false → x.stackFault false c.kSp = none → x.stackFault false (c.kSp + 1) = none → x.stackFault false (c.kSp + 2) = none →
    let r0 := (s.modCore w (fun c => { c with pc := c.pc + 1 })).eaRead w c.kSp
    let r1 := r0.2.eaRead w (c.kSp + 1)
    let r2 := r1.2.eaRead w (c.kSp + 2)
    let back := fun (st lo seg : Word) (c' : Core) =>
      { c' with kSp := c.kSp + 3, st := st &&& 0xFF, pc := BitVec.ofNat 24 (seg.toNat % 256 * 65536 + lo.toNat) }
    exec (.reti w) s = .next (r2.2.modCore w (back r0.1 r1.1 r2.1)) ∧
    (∀ i < 8, (r0.1 &&& 0xFF).getLsbD i = r0.1.getLsbD i) ∧
    (∀ c' : Core, let e := back r0.1 r1.1 r2.1 c'
      e.applet = r0.1.getLsbD 6 ∧ e.get 15 = if r0.1.getLsbD 6 then c'.aSp else c.kSp + 3) ∧
    (let ram := fun (a : Word) => inSram (c.phys a) ∧ x.fenced (c.phys a) = false
     let v := fun (a : Word) => s.sramWord w (c.phys a)
     ram c.kSp → ram (c.kSp + 1) → ram (c.kSp + 2) →
       exec (.reti w) s = .next (s.modCore w (back (v c.kSp) (v (c.kSp + 1)) (v (c.kSp + 2)))))

/-- EI, DI, SLEEP, BRK with debug enabled, MFS, MTS and the Keeper-only encodings in applet mode (R407, R408, R414, R425, R432): where the core
executes, each completes. EI and DI write IE alone; SLEEP stops the core unless a request is presented; BRK halts with PC at itself; MFS reads and
MTS writes what R414's table gives, and changes nothing else; numbers 6 and up in applet mode, and every Keeper-only instruction there, are RESERVED_OP. -/
def Obligations.SystemInstructions : Prop :=
  ∀ (w : WingId) (d : Reg) (n : Fin 16) (s : State), CoreRuns w 1 s →
    let x := s.wing w
    let c := x.core
    let v := c.get d
    let ie := fun (b : Bool) (st st' : Word) => st'.getLsbD 5 = b ∧ OnlyFlags 0x0020 st st'
    let reserved := fun (i : Instr) => ∃ op, exec i s = .next (s.raiseTrap w op .reserved)
    let b10 : BitVec 10 := v.setWidth 10
    let reads : List Word := [c.st, c.b0.setWidth 16, c.b1.setWidth 16, c.b2.setWidth 16, c.b3.setWidth 16, BitVec.ofNat 16 (c.pc.toNat / 65536),
      c.vbase, c.aSp, c.faddr, c.finfo, c.trapnum, c.spare]
    let writes : List (Core → Core) := [fun c => { c with st := c.st }, fun c => { c with b0 := b10 }, fun c => { c with b1 := b10 },
      fun c => { c with b2 := b10 }, fun c => { c with b3 := b10 }, fun c => c, fun c => { c with vbase := v }, fun c => { c with aSp := v },
      fun c => c, fun c => c, fun c => c, fun c => { c with spare := v }]
    let may : Word := if c.applet then 0x001F else 0x00BF
    (c.applet = true → ∀ i ∈ ([.ei w, .di w, .sleep w, .reti w] : List Instr), reserved i) ∧
    (c.applet = false →
      CoreResult w 1 (.ei w) s none 0 (ie true) ∧ CoreResult w 1 (.di w) s none 0 (ie false) ∧
      CoreTo w 1 (.sleep w) s (fun c => if x.doc.request then c else { c with run := .asleep })) ∧
    (x.flag 0x282001 false = true →
      exec (.brk w) s = .next (s.modCore w (fun c => { c with run := .halted, wasAsleep := false }))) ∧
    (c.applet = true → 6 ≤ n.val → reserved (.mfs w d n) ∧ reserved (.mts w n d)) ∧
    (c.applet = false ∨ n.val < 6 →
      CoreTo w 1 (.mfs w d n) s (fun c => c.put d (reads.getD n.val 0)) ∧
      (n.val ≠ 0 → CoreTo w 1 (.mts w n d) s (writes.getD n.val (fun c => c))) ∧
      (n.val = 0 → ∃ st : Word, CoreTo w 1 (.mts w n d) s (fun c => { c with st := st }) ∧ OnlyFlags may c.st st ∧
        ∀ i : Fin 16, may.getLsbD i = true → st.getLsbD i = v.getLsbD i))

/-- RPT MOVS, FILLS, CMPS and SCANS (R416, R417): in Keeper mode, where the core executes, each completes. With W11 = 0 only PC goes on, and Z is 1
for CMPS and 0 for SCANS. A forbidden access is the ACCESS_FAULT trap with nothing changed. Otherwise one element moves, fills or compares as the table
says, W11 falls by 1, W12 and W13 rise, and PC goes on when W11 is 0 or the instruction stops early. More elements are the instruction again, so
long as nothing comes between. -/
def Obligations.StringInstructions : Prop :=
  ∀ (w : WingId) (s : State), CoreRuns w 1 s → let x := s.wing w
    let c := x.core
    let g := fun (r : Nat) => tget 0 c.w r
    let all : List (Word → Instr) := [.rptMovs w, .rptFills w, .rptCmps w, .rptScans w]
    c.applet = false →
    (g 11 = 0 → ∀ n, CoreTo w 1 (.rptMovs w n) s (fun c => c) ∧ CoreTo w 1 (.rptFills w n) s (fun c => c) ∧
      CoreResult w 1 (.rptCmps w n) s none 0 (fun st st' => st'.getLsbD 1 = true ∧ OnlyFlags 2 st st') ∧
      CoreResult w 1 (.rptScans w n) s none 0 (fun st st' => st'.getLsbD 1 = false ∧ OnlyFlags 2 st st')) ∧
    (g 11 ≠ 0 →
      let past := fun (a b : Word) (c : Core) => let h := fun (r : Nat) => tget 0 c.w r
        { c with w := tset 0 11 (h 11 - 1) (tset 0 12 (h 12 + a) (tset 0 13 (h 13 + b) c.w)) }
      let ends := fun (stop : Bool) (t : State) =>
        if (stop || tget 0 (t.wing w).core.w 11 == 0) && (t.wing w).awake then t.modCore w (fun c => { c with pc := c.pc + 1 }) else t
      let from12 := s.busRead false w (c.phys (g 12))
      let traps := fun (i : Instr) (ea : Word) (wr : Bool) => ∀ e, x.eaFault wr ea = some e → ∃ op, exec i s = .next (s.raiseTrap w op e)
      let may := fun (ea : Word) (wr : Bool) => x.eaFault wr ea = none
      let cmp := fun (i : Instr) (t : State) (step : Core → Core) (a b : Word) (stop : Bool) =>
        ∃ st, FlagsSub a b false (a - b == 0) (t.wing w).core.st st ∧
          exec i s = .next (ends stop (t.modCore w (fun c => { step c with st := st })))
      traps (.rptMovs w 1) (g 12) false ∧ (may (g 12) false → traps (.rptMovs w 1) (g 13) true) ∧
      (may (g 12) false → may (g 13) true → exec (.rptMovs w 1) s =
        .next (ends false ((from12.2.modCore w (past 1 1)).busWrite false w (c.phys (g 13)) from12.1))) ∧
      traps (.rptFills w 1) (g 13) true ∧
      (may (g 13) true → exec (.rptFills w 1) s =
        .next (ends false ((s.modCore w (past 0 1)).busWrite false w (c.phys (g 13)) (g 0)))) ∧
      traps (.rptCmps w 1) (g 12) false ∧ (may (g 12) false → traps (.rptCmps w 1) (g 13) false) ∧
      (may (g 12) false → may (g 13) false → let r := from12.2.busRead false w (c.phys (g 13))
        cmp (.rptCmps w 1) r.2 (past 1 1) from12.1 r.1 (from12.1 != r.1)) ∧
      traps (.rptScans w 1) (g 12) false ∧
      (may (g 12) false → cmp (.rptScans w 1) from12.2 (past 1 0) from12.1 (g 0) (from12.1 == g 0))) ∧
    (∀ i ∈ all, ∀ (n : Word) (t : State), n.toNat < 65535 → exec (i 1) s = .next t → (t.wing w).core.pc = c.pc → CoreRuns w 1 t →
      (t.wing w).core.applet = false → tget 0 (t.wing w).core.w 11 ≠ 0 → exec (i (n + 1)) s = exec (i n) t)

/-- SVC, BRK with debug disabled, a reserved encoding, a fetch access fault, INTERRUPT_ENTRY and CORE_WAKE (R406, R419 to R425): in Keeper mode,
with a stack in SRAM and a vector table in ROM, each enters its vector with the frame of R420, the PC saved being that of the next instruction for SVC
and BRK and of the instruction otherwise; the interrupt also from applet mode. A trap of vectors 1 to 5 while TA is 1 is lock-up: the PC is latched
and the wing resets. A wake without IE goes on behind the SLEEP, and asks for a wake of the Carillon unless it runs fine. -/
def Obligations.TrapEntries : Prop :=
  ∀ (w : WingId) (n : Octet) (e : Word) (s : State), let x := s.wing w
    let c := x.core
    (CoreRuns w 1 s → c.applet = false →
      (CanTrap w 4 s → Does (.svc w n) s (Entered w 4 (c.pc + 1) s)) ∧
      (CanTrap w 5 s → x.flag 0x282001 false = false → Does (.brk w) s (Entered w 5 (c.pc + 1) s)) ∧
      (CanTrap w 1 s → coreReserved e = true → Does (.reservedEncoding w e) s (Entered w 1 c.pc s)) ∧
      (c.st.getLsbD 7 = true → coreReserved e = true →
        Does (.reservedEncoding w e) s (fun t => (t.wing w).core.lockupPc = c.pc ∧ (t.wing w).awake = false))) ∧
    (CoreRuns w 1 s → Rests (.fetchAccessFault w) s) ∧
    (x.ready = true → c.applet = false → CanTrap w 2 s → ∀ k u, s.fetchFault w 1 = some (k, u) →
      Does (.fetchAccessFault w) s (fun t => Entered w 2 c.pc s t ∧ bits (t.wing w).core.finfo.toNat 2 0 = 0)) ∧
    (x.awake = true → c.run = .running → x.intDue = true → CanTrap w 6 s → Does (.interruptEntry w) s (Entered w 6 c.pc s)) ∧
    (x.awake = true → c.run = .asleep → x.doc.request = true →
      (x.intDue = true → CanTrap w 6 s → Does (.coreWake w) s (fun t => Entered w 6 c.pc s t ∧ (t.wing w).core.run = .running)) ∧
      (x.intDue = false → exec (.coreWake w) s = .next (s.setWing w
        { x with core := { c with run := .running }, car := { x.car with wakeReq := x.car.wakeReq || !x.car.fine } })))

/-- The APPLET rows, RPT and a trap in applet mode, and the four WATCHDOG rows (R418, R431, R435, R436): an applet starts at its entry in its windows, with
its registers as R435 says; YIELD, PUT, GET and WAIT return or suspend it as R435 says, EXIT ends it TERMINATED with W0, a reserved encoding
FAULTED with cause 2, each in Keeper mode with the trap frame gone. The watchdog, once enabled, is fixed; a kick of 0xC35A restarts it, any other
value or its expiry resets the wing, and half its period raises source 46. -/
def Obligations.AppletsAndWatchdog : Prop :=
  ∀ (w : WingId) (e v n : Word) (s : State), let x := s.wing w
    let c := x.core
    let a := x.apl
    let base := x.num 0x281004 0x118000
    let runs := fun (t : State) => let y := t.wing w
      y.apl.state = .running ∧ y.apl.startAt = x.now ∧ y.apl.codeLo = 0x440010 ∧ y.apl.codeHi = 0x440010 + a.codeWords - 1 ∧ y.apl.dataLo = base ∧
      y.apl.dataHi = base + a.dataWords - 1 ∧ y.core.w = [] ∧ y.core.aSp = BitVec.ofNat 16 (0x4000 + a.dataWords) ∧ y.core.applet = true ∧
      y.core.b0 = 0x110 ∧ y.core.b1 = BitVec.ofNat 10 (base / 0x4000) ∧ y.core.b2 = y.core.b1 + 1 ∧ y.core.b3 = 0x3FC ∧
      y.core.pc = BitVec.ofNat 24 (0x440010 + a.entry) ∧ y.core.kSp = c.kSp
    let over_ := fun (st : AppletState) (cause : Nat) (exit : Word) (sp : Word) (t : State) => let y := t.wing w
      y.apl.state = st ∧ y.apl.cause = cause ∧ y.apl.exitCode = exit ∧ y.apl.waitUntil = none ∧ y.core.applet = false ∧ y.core.kSp = sp
    let fits := x.appletFits = true
    let p := tget 0 c.w 1
    let words := (List.range 8).map (fun i => s.sramWord w (c.phys (p + BitVec.ofNat 16 i)))
    let reach := ∀ i < 8, inSram (c.phys (p + BitVec.ofNat 16 i)) ∧ x.fenced (c.phys (p + BitVec.ofNat 16 i)) = false
    (x.sys.state = .running → a.due = true → x.flag 0x281003 false = true → a.barred = false → a.state = .installed ∨ a.state = .terminated →
      (fits → Does (.appletStart w) s runs) ∧
      (¬fits → Does (.appletStart w) s (fun t => (t.wing w).apl.state = .faulted ∧ (t.wing w).apl.cause = 10 ∧ (t.wing w).core = c))) ∧
    (x.sys.state = .running → a.restartDue = true → x.flag 0x281003 false = true → a.startAt + us 1000000 ≤ x.now → c.applet = false → fits →
      Does (.appletRestart w) s runs) ∧
    (s.inSvc w = true →
      (∀ t, s.reti w = .ok t → exec (.appletYield w) s = .next t ∧
        Does (.appletWait w) s (fun u => (u.wing w).apl.saved = some (t.wing w).core ∧ (u.wing w).core.kSp = c.kSp + 3 ∧
          (u.wing w).apl.waitUntil = some (x.now + us (1000 * (tget 0 (t.wing w).core.w 0).toNat)))) ∧
      (a.waitUntil = none → Does (.appletExit w) s (over_ .terminated 1 (tget 0 c.w 0) (c.kSp + 3))) ∧
      (x.ringHead 14 = none → exec (.appletGet w) s = .next (s.svcReturn w (some true))) ∧
      (reach → x.svcFault false = false → (x.ring 15).full = true → exec (.appletPut w) s = .next (s.svcReturn w (some true))) ∧
      (reach → x.svcFault false = false → (x.ring 15).full = false → exec (.appletPut w) s =
        .next (((s.modWing w (fun y => (y.publish 15 true words).2)).bridgeOut w).svcReturn w (some false))) ∧
      (reach → x.svcFault true = false → ∀ d, x.ringHead 14 = some d → exec (.appletGet w) s =
        .next (((List.range 8).foldl (fun (u : State) i => u.modWing w (Wing.st (c.phys (p + BitVec.ofNat 16 i)) (d.getD i 0)))
          (s.modWing w (Wing.ringTook 14))).svcReturn w (some false)))) ∧
    (∀ at_ k, x.awake = true → a.waitUntil = some at_ → at_ ≤ x.now → a.saved = some k → c.run ≠ .halted → Does (.appletWaitExpiry w) s (fun t =>
      let y := (t.wing w).core
      y.w = k.w ∧ y.aSp = k.aSp ∧ y.st = k.st ∧ y.pc = k.pc ∧ y.run = .running ∧ y.kSp = c.kSp ∧ (t.wing w).apl.waitUntil = none)) ∧
    (CoreRuns w 1 s → c.applet = true → CanTrap w 1 s → a.waitUntil = none →
      (coreReserved e = true → Does (.reservedEncoding w e) s (over_ .faulted 2 a.exitCode c.kSp)) ∧
      (tget 0 c.w 11 = 0 → Does (.rptMovs w n) s (fun t => let y := (t.wing w).core
        y.pc = c.pc + 1 ∧ y.w = c.w ∧ y.kSp = c.kSp ∧ y.aSp = c.aSp ∧ y.applet = true ∧ ∀ i < 5, y.st.getLsbD i = c.st.getLsbD i))) ∧
    (x.awake = true →
      let p := bits v.toNat 5 1
      exec (.watchdogEnable w v) s = .next (if x.wdt.en then s else s.setWing w { x with wdt := { x.wdt with
        period := (if 5 ≤ p ∧ p ≤ 21 then p else x.wdt.period), sleepRun := v.getLsbD 6, en := v.getLsbD 0, count := 0, warned := false } }) ∧
      (v = 0xC35A → exec (.watchdogKick w v) s = .next (s.setWing w { x with wdt := { x.wdt with count := 0, warned := false } })) ∧
      (v ≠ 0xC35A → x.wdt.en = false → Rests (.watchdogKick w v) s) ∧
      (x.wdt.en = true → x.wdt.warned = false → 2 ^ (x.wdt.period - 1) ≤ x.wdt.count → exec (.watchdogWarn w) s =
        .next (s.setWing w ({ x with wdt := { x.wdt with warned := true } }.raise 46))) ∧
      (∀ i ∈ ([.watchdogKick w v, .watchdogExpiry w] : List Instr), x.wdt.en = true → v ≠ 0xC35A → 2 ^ x.wdt.period ≤ x.wdt.count →
        Does i s (fun t => (t.wing w).sys.state = .reset ∧ (t.wing w).sys.cause.getLsbD 5 = true)))

/-- DOCENT_COMPLETE (R448): the core of an awake wing writes the number of a source in service: its IN_SERVICE bit clears, and the level is again the
highest priority in service, or 0. A source not in service, a value above 127, and a write from applet mode are stray: nothing changes but
DOC_CNT_STRAY, one higher up to 65,535, and its entry. A winner's priority is above the level, so that services nest only as far as the priorities
allow. -/
def Obligations.CompletionRule : Prop :=
  ∀ (w : WingId) (v : Word) (applet : Bool) (s : State), let x := s.wing w
    let d := x.doc
    let n := v.toNat
    let strays := fun (t : State) => t = s.setWing w { x with cnt16 := (t.wing w).cnt16, cnt32 := (t.wing w).cnt32 } ∧
      (trising x.cnt16 = true → (t.wing w).cnt 0xFF0005 = min (x.cnt 0xFF0005 + 1) 65535 ∧
        ∀ r, r ≠ 0xFF0005 → (t.wing w).cnt r = x.cnt r)
    (x.awake = true →
      (n < 128 → d.service.getLsbD n = true → ∃ m : BitVec 128, m.getLsbD n = false ∧
        (∀ i : Fin 128, i.val ≠ n → m.getLsbD i = d.service.getLsbD i) ∧
        exec (.docentComplete w v) s = .next (s.setWing w { x with doc := { d with service := m } })) ∧
      (128 ≤ n ∨ d.service.getLsbD n = false → Does (.docentComplete w v) s strays)) ∧
    (applet = true → strays (s.docWrite applet w 2 v)) ∧
    (∀ e : Docent, (∀ i < 128, e.service.getLsbD i = true → e.priority i ≤ e.level) ∧
      (e.level = 0 ∨ ∃ i < 128, e.service.getLsbD i = true ∧ e.priority i = e.level) ∧
      (∀ i, e.winner = some i → e.level < e.priority i))

/-- DOORBELL, DOCENT_CLAIM, PEND_SET, PEND_CLR, MASK_SET, MASK_CLR, RING_PUBLISH, RING_TAKE, RING_PASS, MBX_LOCK, MBX_POST, MBX_ACK and MBX_RELEASE (R442 to
R447, R451 to R459) by the core of an awake wing: a claim reads the winner, puts it in service and clears its pending bit and backup latch, or reads 0 and
changes nothing; a doorbell raises the message source it names in reach, else is counted; masks change bit by bit; IN7 writes the descriptor at PUT and
advances PUT unless the ring is full; TAKE and PASS advance where the core takes and passes; a lock reads 0 to 3 as R457 says; the holder posts or
releases; the receiver's acknowledgement frees the mailbox. -/
def Obligations.DocentRingsMailboxes : Prop :=
  ∀ (w : WingId) (v : Word) (g : Fin 8) (m : Fin 8) (r : Fin 16) (code : Octet) (s : State), let x := s.wing w
    let d := x.doc
    let b := x.mb m
    let q := x.ring r
    let group := fun (old new : BitVec 128) (on : Bool) => ∀ i : Fin 128,
      new.getLsbD i = if i.val / 16 = g.val ∧ v.getLsbD (i.val % 16) then on else old.getLsbD i
    let raised := fun (n : Nat) (y : Wing) => y.doc.pend.getLsbD n = true ∧ y.doc.mask = d.mask ∧ y.doc.service = d.service
    x.awake = true →
    (d.winner = none → exec (.docentClaim w) s = .next (s.setWing w { x with rdata := 0 })) ∧
    (∀ n, d.winner = some n → Does (.docentClaim w) s (fun t => let y := t.wing w
      y.rdata = BitVec.ofNat 16 (0x8000 + tget 0 d.arrivals n * 128 + n) ∧ y.doc.pend.getLsbD n = false ∧ y.doc.service.getLsbD n = true ∧
      y.doc.mask = d.mask ∧ (n = 61 → w.val ∉ t.cal.alarmLatch) ∧ (n = 62 → w.val ∉ t.cal.osfLatch) ∧
      (∀ i : Fin 128, i.val ≠ n → y.doc.pend.getLsbD i = d.pend.getLsbD i ∧ y.doc.service.getLsbD i = d.service.getLsbD i))) ∧
    (∀ applet : Bool, let low := if applet then 120 else 64
      (low ≤ v.toNat → v.toNat < 128 → Does (.doorbell w applet v) s (fun t => raised v.toNat (t.wing w))) ∧
      (v.toNat < low ∨ 128 ≤ v.toNat → Does (.doorbell w applet v) s (fun t => (t.wing w).doc.pend.setWidth 64 = (x.carEvent 8).doc.pend.setWidth 64 ∧
        (t.wing w).cnt16 = tmod 0 0xFF0006 sat16 (x.carEvent 8).cnt16))) ∧
    Does (.pendSet w g v) s (fun t => ∀ i : Fin 128, (t.wing w).doc.pend.getLsbD i =
      (d.pend.getLsbD i || (decide (64 ≤ i.val) && decide (i.val / 16 = g.val) && v.getLsbD (i.val % 16)))) ∧
    Does (.pendClr w g v) s (fun t => group d.pend (t.wing w).doc.pend false ∧ (t.wing w).doc.mask = d.mask) ∧
    (∃ k, group d.mask k true ∧ exec (.maskSet w g v) s = .next (s.setWing w { x with doc := { d with mask := k } })) ∧
    (∃ k, group d.mask k false ∧ exec (.maskClr w g v) s = .next (s.setWing w { x with doc := { d with mask := k } })) ∧
    (let puts := r.val = 4 ∨ r.val = 5 ∨ r.val = 10 ∨ r.val = 11 ∨ 14 ≤ r.val
     let ws := tgets 0 q.stage 0 7 ++ [v]
     let put := ((x.sts (q.base + 8 * (q.put.toNat % q.depth)) ws).setRing r { q with put := q.put + 1 })
     (¬puts → Rests (.ringPublish w r v) s) ∧
     (puts → r.val ≠ 15 → (q.put - q.take).toNat < q.depth → exec (.ringPublish w r v) s =
       .next (s.setWing w (if r.val = 14 then put.raise 42 else put))) ∧
     (puts → r.val ≠ 15 → q.depth ≤ (q.put - q.take).toNat → Does (.ringPublish w r v) s (fun t => (t.wing w).sram = x.sram ∧
       (t.wing w).doc = d ∧ (t.wing w).rings = tset (ringReset r) r { q with refused := true } x.rings)) ∧
     (r.val = 15 → x.flag 0x2A0200 true = false → (q.put - q.take).toNat < q.depth → exec (.ringPublish w r v) s =
       .next (s.setWing w (put.raise 43)))) ∧
    (let takes := r.val < 4 ∨ (6 ≤ r.val ∧ r.val ≤ 9) ∨ 14 ≤ r.val
     (takes → q.put ≠ q.take → x.fls.held = [] → exec (.ringTake w r) s = .next (s.setWing w (x.setRing r { q with take := q.take + 1 }))) ∧
     (takes → q.put = q.take → x.fls.held = [] → Rests (.ringTake w r) s) ∧
     (¬takes → r.val ≠ 13 → Rests (.ringTake w r) s) ∧
     (r.val = 4 ∨ r.val = 5 → q.pass ≠ q.put → exec (.ringPass w r) s = .next (s.setWing w (x.setRing r { q with pass := q.pass + 1 }))) ∧
     (r.val ≠ 4 ∧ r.val ≠ 5 ∨ q.pass = q.put → Rests (.ringPass w r) s)) ∧
    (let may := coreMaySend (s.role w) m = true
     let reads := fun (k : Word) (t : State) => (t.wing w).rdata = k
     (may → b.state = .free → exec (.mbxLock w m) s = .next (s.setWing w
       { x.setMb m { b with state := .locked, party := some .core, data := [], sender := 0 } with rdata := 0 })) ∧
     (may → b.state = .locked → b.party = some .core → exec (.mbxLock w m) s = .next (s.setWing w { x with rdata := 3 })) ∧
     (may → (b.state = .locked ∧ b.party ≠ some .core ∨ b.state = .full) →
       Does (.mbxLock w m) s (fun t => reads 1 t ∧ (t.wing w).mbx = x.mbx)) ∧
     (¬may → Does (.mbxLock w m) s (fun t => reads 2 t ∧ (t.wing w).mbx = x.mbx)) ∧
     (b.heldByCore = true →
       Does (.mbxPost w m) s (fun t => (t.wing w).mbx = tset {} m { b with state := .full } x.mbx ∧ (t.wing w).sram = x.sram) ∧
       exec (.mbxRelease w m) s = .next (s.setWing w (x.setMb m { b with state := .free, party := none, data := [] }))) ∧
     (b.heldByCore = false → Rests (.mbxPost w m) s ∧ Rests (.mbxRelease w m) s)) ∧
    (let mine := coreReceives (s.role w) m = true ∧ b.state = .full
     let stored : Octet := if 3 ≤ code.toNat ∧ code.toNat < 0x80 then 2 else code
     (¬mine → Does (.mbxAck w m code) s (fun t => (t.wing w).mbx = x.mbx ∧ (t.wing w).doc = d)) ∧
     let freed := s.setWing w (x.setMb m { b with state := .free, party := none, data := [], acked := true, code := stored })
     (mine → ∀ n, b.party = some (Party.relay n) → exec (.mbxAck w m code) s = .next (freed.relayDrain w)) ∧
     (mine → ∀ n, b.party = some (Party.session n) → exec (.mbxAck w m code) s = .next (if stored = 1 then freed.answer w n .busy []
       else if stored = 2 then freed.answer w n .badMessage [] else freed)))

/-- The twenty job rows, CIPHER_JOB_COMPLETE, CIPHER_ABORT, KEY_COMMIT_PAGE, KEY_COMMIT_ROOT, PAGE_CLEAR, PAGE_CFG_WRITE, RANDOM_READ, RANDOM_READY and
RANDOM_HEALTH_FAIL (R468 to R472, R478 to R483, R487, R489): a job is refused while one runs, ends with the first check that fails and nothing written, or
runs with a copy of its key; at its end OUT holds what its operation gives (values of AES, CCM, GCM, CMAC, SHAKE256, KMAC and XMSS by the model's functions), a failed tag
or a FAULT leaves zeros; a commit empties the staging; LINK pages are not written; a random read gives a free value once the source is ready. -/
def Obligations.CipherAndKeys : Prop :=
  ∀ (w : WingId) (j : CphJob) (v : Word) (s : State), let x := s.wing w
    let h := x.cph
    let rows : List (Nat × Instr) := [(0x01, .ecbEnc w j), (0x02, .ecbDec w j), (0x03, .ctr w j), (0x04, .ccmEnc w j), (0x05, .ccmDec w j),
      (0x06, .gcmEnc w j), (0x07, .gcmDec w j), (0x08, .cmacGen w j), (0x09, .cmacVerify w j), (0x10, .shake256 w j), (0x11, .kmacGen w j),
      (0x12, .kmacVerify w j), (0x13, .derive w j), (0x14, .wrap w j), (0x15, .unwrap w j), (0x18, .xmssF w j), (0x19, .xmssH w j),
      (0x1A, .xmssPrf w j), (0x1B, .xmssChain w j), (0x1C, .xmssHmsg w j)]
    let quiet := fun (t : State) => (t.wing w).sram = x.sram ∧ (t.wing w).cph.pages = h.pages ∧ (t.wing w).cph.root = h.root ∧ (t.wing w).cph.run = h.run
    let put := fun (y : Wing) => exec (.cipherJobComplete w false) s = .next (s.setWing w { y with cph := { y.cph with result := .ok } })
    let staged := { x with cph := { h with staging := [] } }
    let page := x.page h.sel
    let words := (List.range 16).map (fun i => tget 0 h.staging i)
    (x.awake = true → ∀ e ∈ rows,
      (h.run.isSome = true → Does e.2 s (fun t => quiet t ∧ (t.wing w).cph.refused = true ∧ (t.wing w).cph.result = h.result)) ∧
      (h.run = none → ∀ r, x.cphCheck { j with op := e.1 } = .error r → Does e.2 s (fun t => quiet t ∧ (t.wing w).cph.result = r)) ∧
      (h.run = none → ∀ k, x.cphCheck { j with op := e.1 } = .ok k →
        exec e.2 s = .next (s.setWing w { x with cph := { h with run := some { job := { j with op := e.1 }, key := k } } }))) ∧
    (h.run = none → Rests (.cipherJobComplete w false) s ∧ Rests (.cipherJobComplete w true) s) ∧
    (∀ q : CphRun, h.run = some q → let i := q.job
      let y := { x with cph := { h with run := none } }
      let aad := y.octets i.inA 0 i.aadLen
      let data := y.octets i.inA i.aadLen i.length
      let tag := y.octets i.inA (i.aadLen + i.length) i.tagLen
      let nonce := fun (n : Nat) => y.octets i.nonceA 0 n
      let aux := fun (n : Nat) => y.octets i.auxA 0 n
      let text := fun (os : Octets) => put (y.putOctets i.outA i.aadLen os)
      let out := fun (os : Octets) => put (y.putOctets i.outA 0 os)
      let fails := fun (z : Wing) => Does (.cipherJobComplete w false) s (fun t => (t.wing w).cph.result = .authFail ∧ (t.wing w).cph.run = none ∧
        (t.wing w).sram = z.sram)
      (i.op = 0x01 → text (aesEcb false q.key data)) ∧ (i.op = 0x02 → text (aesEcb true q.key data)) ∧
      (i.op = 0x03 → text (aesCtr q.key (nonce 16) data)) ∧
      (i.op = 0x04 → text ((ccmEnc q.key (nonce i.nonceLen) aad data i.tagLen).1 ++ (ccmEnc q.key (nonce i.nonceLen) aad data i.tagLen).2)) ∧
      (i.op = 0x05 → (∀ p, ccmDec q.key (nonce i.nonceLen) aad data tag = some p → text p) ∧
        (ccmDec q.key (nonce i.nonceLen) aad data tag = none → fails (y.putOctets i.outA i.aadLen (zeros i.length)))) ∧
      (i.op = 0x06 → text ((gcmEnc q.key (nonce i.nonceLen) aad data i.tagLen).1 ++ (gcmEnc q.key (nonce i.nonceLen) aad data i.tagLen).2)) ∧
      (i.op = 0x07 → (∀ p, gcmDec q.key (nonce i.nonceLen) aad data tag = some p → text p) ∧
        (gcmDec q.key (nonce i.nonceLen) aad data tag = none → fails (y.putOctets i.outA i.aadLen (zeros i.length)))) ∧
      (i.op = 0x08 → put (y.putOctets i.outA (i.aadLen + i.length) (cmac q.key (aad ++ data) i.tagLen))) ∧
      (i.op = 0x09 → (cmac q.key (aad ++ data) i.tagLen = tag → put y) ∧ (cmac q.key (aad ++ data) i.tagLen ≠ tag → Does (.cipherJobComplete w false) s
        (fun t => (t.wing w).cph.result = .authFail ∧ (t.wing w).cph.run = none))) ∧
      (i.op = 0x10 → out (shake256 (aad ++ data) i.outLen)) ∧ (i.op = 0x11 → out (kmac256 q.key (aad ++ data) i.tagLen (nonce i.nonceLen))) ∧
      (i.op = 0x12 → kmac256 q.key (aad ++ data) i.tagLen (nonce i.nonceLen) = tag → put y) ∧
      (i.op = 0x13 → put (y.setPage i.dest { y.page i.dest with
        key := kmac256 q.key (aux 40) ((aux 40).getD 2 0).toNat (ascii "VY-KEY"), state := 2 })) ∧
      (i.op = 0x14 → h.randFail = true → Does (.cipherJobComplete w false) s (fun t => (t.wing w).cph.result = .fault ∧
        (t.wing w).sram = (y.putOctets i.outA 0 (zeros 60)).sram)) ∧
      (i.op = 0x14 → h.randFail = false → Does (.cipherJobComplete w false) s (fun t => (t.wing w).cph.result = .ok ∧ ∃ iv : Octets, iv.length = 12 ∧
        let c := gcmEnc (wrapKey w) iv [] ((q.key ++ zeros 32).take 32) 16
        (t.wing w).sram = (y.putOctets i.outA 0 (iv ++ c.1 ++ c.2)).sram)) ∧
      (i.op = 0x15 → i.dest ≠ 0xFF → let b := y.octets i.inA 0 60
        ∀ k, gcmDec (wrapKey w) (b.take 12) [] (slice b 12 32) (b.drop 44) = some k → put (y.setPage i.dest { y.page i.dest with
          key := (if (y.page i.dest).len32 then k else k.take 16), state := 3 })) ∧
      (i.op = 0x18 → out (xmssF (nonce 32) (aux 32) (aad ++ data))) ∧
      (i.op = 0x19 → out (xmssH (nonce 32) (aux 32) ((aad ++ data).take 32) ((aad ++ data).drop 32))) ∧
      (i.op = 0x1A → out (xmssPrf q.key (aad ++ data))) ∧
      (i.op = 0x1B → out (xmssChain (nonce 32) (aux 32) (i.w12 / 256) (i.w12 % 256) (aad ++ data))) ∧
      (i.op = 0x1C → out (xmssHash 2 [] (aad ++ data))) ∧
      Does (.cipherJobComplete w true) s (fun t => (t.wing w).cph.run = none ∧ (t.wing w).cph.result = .fault) ∧
      (x.awake = true → Does (.cipherAbort w 0x5A5A) s (fun t => (t.wing w).cph.run = none ∧ (t.wing w).cph.result = .aborted))) ∧
    (x.awake = true →
      (v ≠ 0x5A5A → Rests (.cipherAbort w v) s) ∧
      (page.owner = 4 ∨ page.owner = 0 → Does (.keyCommitPage w) s (fun t => quiet t ∧ (t.wing w).cph.staging = [])) ∧
      (page.owner ≠ 4 → page.owner ≠ 0 → exec (.keyCommitPage w) s = .next (s.setWing w (staged.setPage h.sel
        { page with key := unpackW (words.take (if page.len32 then 16 else 8)), state := 1 }))) ∧
      (x.sys.state = .stopped → Does (.keyCommitRoot w) s (fun t => (t.wing w).cph.root = some (unpackW words) ∧ (t.wing w).cph.staging = [] ∧
        (t.wing w).cph.kcv = (kmac256 (unpackW words) [] 32 (ascii "VY-KCV")).take 4)) ∧
      (x.sys.state ≠ .stopped → Does (.keyCommitRoot w) s (fun t => quiet t ∧ (t.wing w).cph.staging = [])) ∧
      (let p := v.toNat % 64
       (p < 16 → Rests (.pageClear w v) s) ∧
       (16 ≤ p → h.run = none → exec (.pageClear w v) s = .next (s.setWing w (x.setPage p { x.page p with key := [], state := 0, label := [] })))) ∧
      (let o := bits v.toNat 2 0
       let u := bits v.toNat 5 3
       (h.sel < 16 ∨ 4 ≤ o → Rests (.pageCfgWrite w v) s) ∧
       (16 ≤ h.sel → o < 4 → h.run = none → (o ≠ page.owner ∨ u ≠ page.session) → exec (.pageCfgWrite w v) s =
         .next (s.setWing w (x.setPage h.sel { page with key := [], state := 0, label := [], owner := o, session := u, len32 := bit v.toNat 6,
                                                         usage := BitVec.ofNat 6 (bits v.toNat 12 7) }))) ∧
       (16 ≤ h.sel → o = page.owner → o < 4 → u = page.session → page.state ≠ 0 → exec (.pageCfgWrite w v) s =
         .next (s.setWing w (x.setPage h.sel page)))) ∧
      (h.randFail = true ∨ h.randReady = false → Does (.randomRead w) s (fun t => (t.wing w).rdata = 0 ∧ quiet t)) ∧
      (h.randFail = false → h.randReady = true → exec (.randomRead w) s = .next { s.setWing w { x with rdata := BitVec.ofNat 16 (Config.freeValue s.free).toNat }
        with free := s.free + 1 }) ∧
      exec (.randomReady w) s = .next (s.setWing w { x with cph := { h with randReady := true } }) ∧
      exec (.randomHealthFail w) s = .next ((s.setWing w { x with cph := { h with randFail := true } }).event 2 w 6 []))

/-- BOOT_COMPLETE, WING_ENTER_STOPPED, TRIAL_END, SUCCESSOR_GENERATE and SUCCESSOR_READY (R16, R283, R502, R512): BOOT ends in RUNNING, or in STOPPED
with the stop request set, with its time kept; a RUNNING wing with the stop request and no transmission left enters STOPPED with intake closed;
a trial ends with TRIAL clear and MIN_SECURITY_VERSION the larger of the two; a successor is generated from leaf 61,440 on, and when ready takes the place
of the key, as its generation plus 1 with leaf 0, certified. In any other state nothing happens. -/
def Obligations.BootAndTrust : Prop :=
  ∀ (w : WingId) (us : BitVec 32) (s : State), let x := s.wing w
    let k := x.tru
    (x.sys.state = .boot → Does (.bootComplete w us) s (fun t => let y := t.wing w
      y.sys.bootTime = us.toNat ∧ y.sys.state = (if x.sys.stopReq then .stopped else .running) ∧ y.sys.cause = x.sys.cause ∧ y.wdt.en = true)) ∧
    (x.sys.state ≠ .boot → Rests (.bootComplete w us) s) ∧
    (x.sys.state = .running → x.sys.stopReq = true → x.quiet = true → x.apl.state ≠ .running → Does (.wingEnterStopped w) s (fun t => let y := t.wing w
      y.sys.state = .stopped ∧ y.wrk.open_ = false ∧ y.sram = x.sram ∧ y.core = x.core)) ∧
    (x.sys.state ≠ .running ∨ x.sys.stopReq = false ∨ x.quiet = false → Rests (.wingEnterStopped w) s) ∧
    (x.sys.state = .running → bit k.boot 2 = true → Does (.trialEnd w) s (fun t => let b := (t.wing w).tru.boot
      bit b 2 = false ∧ bits b 31 16 = max (bits k.boot 31 16) (leNat (x.fls.oct (slotSector k.slot) 12 2)) ∧ b % 4 = k.boot % 4 ∧
      bit b 3 = bit k.boot 3 ∧ bit b 4 = bit k.boot 4 ∧ bits b 15 8 = bits k.boot 15 8 ∧ b / 2 ^ 32 = k.boot / 2 ^ 32)) ∧
    (x.sys.state ≠ .running ∨ bit k.boot 2 = false → Rests (.trialEnd w) s) ∧
    (x.sys.state = .running → 61440 ≤ k.leaf → k.attest = 1 → x.cph.randFail = false → exec (.successorGenerate w) s =
      .next (s.setWing w { x with tru := { k with attest := 2 } })) ∧
    (x.sys.state ≠ .running ∨ k.leaf < 61440 ∨ k.attest ≠ 1 ∨ x.cph.randFail = true → Rests (.successorGenerate w) s) ∧
    (x.live = true → k.attest = 2 → k.file.isSome = true → x.cph.randFail = false → Does (.successorReady w) s (fun t => let u := (t.wing w).tru
      u.attest = 1 ∧ u.successor = none ∧ (∃ seeds root, u.file = some (k.keyGen + 1, seeds, root)) ∧ u.position = k.keyGen + 1 ∧
      u.certs.length = min (k.certs.length + 1) 16))
end

