-- ==== Sys2Proof/Laws/State.lean ====
section
/-! SUPPORT. What the updates of the state leave alone: one lemma for each field and each update. -/
namespace Sys2Proof.Machine
open Sys2Proof

@[simp] theorem Oct.get_set_same {α : Type} (o : Oct α) (w : Fin 8) (v : α) : (o.set w v).get w = v := by
  match w with
  | 0 => rfl | 1 => rfl | 2 => rfl | 3 => rfl | 4 => rfl | 5 => rfl | 6 => rfl | 7 => rfl

theorem Oct.get_set_other {α : Type} (o : Oct α) (w u : Fin 8) (v : α) (h : u ≠ w) : (o.set w v).get u = o.get u := by
  match w, u with
  | 0, 0 => exact absurd rfl h | 1, 1 => exact absurd rfl h | 2, 2 => exact absurd rfl h | 3, 3 => exact absurd rfl h
  | 4, 4 => exact absurd rfl h | 5, 5 => exact absurd rfl h | 6, 6 => exact absurd rfl h | 7, 7 => exact absurd rfl h
  | 0, 1 => rfl | 0, 2 => rfl | 0, 3 => rfl | 0, 4 => rfl | 0, 5 => rfl | 0, 6 => rfl | 0, 7 => rfl
  | 1, 0 => rfl | 1, 2 => rfl | 1, 3 => rfl | 1, 4 => rfl | 1, 5 => rfl | 1, 6 => rfl | 1, 7 => rfl
  | 2, 0 => rfl | 2, 1 => rfl | 2, 3 => rfl | 2, 4 => rfl | 2, 5 => rfl | 2, 6 => rfl | 2, 7 => rfl
  | 3, 0 => rfl | 3, 1 => rfl | 3, 2 => rfl | 3, 4 => rfl | 3, 5 => rfl | 3, 6 => rfl | 3, 7 => rfl
  | 4, 0 => rfl | 4, 1 => rfl | 4, 2 => rfl | 4, 3 => rfl | 4, 5 => rfl | 4, 6 => rfl | 4, 7 => rfl
  | 5, 0 => rfl | 5, 1 => rfl | 5, 2 => rfl | 5, 3 => rfl | 5, 4 => rfl | 5, 6 => rfl | 5, 7 => rfl
  | 6, 0 => rfl | 6, 1 => rfl | 6, 2 => rfl | 6, 3 => rfl | 6, 4 => rfl | 6, 5 => rfl | 6, 7 => rfl
  | 7, 0 => rfl | 7, 1 => rfl | 7, 2 => rfl | 7, 3 => rfl | 7, 4 => rfl | 7, 5 => rfl | 7, 6 => rfl

@[simp] theorem Oct.set_set {α : Type} (o : Oct α) (w : Nat) (a b : α) : (o.set w a).set w b = o.set w b := by
  match w with
  | 0 => rfl | 1 => rfl | 2 => rfl | 3 => rfl | 4 => rfl | 5 => rfl | 6 => rfl | _ + 7 => rfl

@[simp] theorem Oct.set_get {α : Type} (o : Oct α) (w : Nat) : o.set w (o.get w) = o := by
  match w with
  | 0 => rfl | 1 => rfl | 2 => rfl | 3 => rfl | 4 => rfl | 5 => rfl | 6 => rfl | _ + 7 => rfl

@[simp] theorem Oct.get_map {α β : Type} (f : Nat → α → β) (o : Oct α) (w : Fin 8) : (o.map f).get w = f w (o.get w) := by
  match w with
  | 0 => rfl | 1 => rfl | 2 => rfl | 3 => rfl | 4 => rfl | 5 => rfl | 6 => rfl | 7 => rfl

@[simp] theorem State.wing_setWing (s : State) (w : Fin 8) (x : Wing) : (s.setWing w x).wing w = x := by
  simp [State.setWing, State.wing]

theorem State.wing_setWing_other (s : State) (w u : Fin 8) (x : Wing) (h : u ≠ w) : (s.setWing w x).wing u = s.wing u := by
  simp [State.setWing, State.wing, Oct.get_set_other _ _ _ _ h]

@[simp] theorem State.setWing_setWing (s : State) (w : Nat) (x y : Wing) : (s.setWing w x).setWing w y = s.setWing w y := by
  simp [State.setWing]

@[simp] theorem State.setWing_wing (s : State) (w : Nat) : s.setWing w (s.wing w) = s := by
  simp [State.setWing, State.wing]

@[simp] theorem State.setWing_dome (s : State) (w : Nat) (x : Wing) : (s.setWing w x).dome = s.dome := rfl
@[simp] theorem State.setWing_cal (s : State) (w : Nat) (x : Wing) : (s.setWing w x).cal = s.cal := rfl
@[simp] theorem State.setWing_port (s : State) (w : Nat) (x : Wing) : (s.setWing w x).port = s.port := rfl
@[simp] theorem State.setWing_free (s : State) (w : Nat) (x : Wing) : (s.setWing w x).free = s.free := rfl
@[simp] theorem State.setWing_pending (s : State) (w : Nat) (x : Wing) : (s.setWing w x).pending = s.pending := rfl

@[simp] theorem State.wing_modWing (s : State) (w : Fin 8) (f : Wing → Wing) : (s.modWing w f).wing w = f (s.wing w) := by
  simp [State.modWing]

theorem State.wing_modWing_other (s : State) (w u : Fin 8) (f : Wing → Wing) (h : u ≠ w) : (s.modWing w f).wing u = s.wing u :=
  State.wing_setWing_other s w u _ h

@[simp] theorem State.modWing_modWing (s : State) (w : Fin 8) (f g : Wing → Wing) :
    (s.modWing w f).modWing w g = s.modWing w (fun x => g (f x)) := by
  simp [State.modWing]

@[simp] theorem State.modWing_dome (s : State) (w : Nat) (f : Wing → Wing) : (s.modWing w f).dome = s.dome := rfl
@[simp] theorem State.modWing_cal (s : State) (w : Nat) (f : Wing → Wing) : (s.modWing w f).cal = s.cal := rfl
@[simp] theorem State.modWing_port (s : State) (w : Nat) (f : Wing → Wing) : (s.modWing w f).port = s.port := rfl
@[simp] theorem State.modWing_free (s : State) (w : Nat) (f : Wing → Wing) : (s.modWing w f).free = s.free := rfl
@[simp] theorem State.modWing_pending (s : State) (w : Nat) (f : Wing → Wing) : (s.modWing w f).pending = s.pending := rfl

@[simp] theorem State.modCore_dome (s : State) (w : Nat) (f : Core → Core) : (s.modCore w f).dome = s.dome := rfl
@[simp] theorem State.modCore_cal (s : State) (w : Nat) (f : Core → Core) : (s.modCore w f).cal = s.cal := rfl
@[simp] theorem State.modCore_port (s : State) (w : Nat) (f : Core → Core) : (s.modCore w f).port = s.port := rfl
@[simp] theorem State.modCore_free (s : State) (w : Nat) (f : Core → Core) : (s.modCore w f).free = s.free := rfl
@[simp] theorem State.modCore_pending (s : State) (w : Nat) (f : Core → Core) : (s.modCore w f).pending = s.pending := rfl

@[simp] theorem State.modCore_modCore (s : State) (w : Fin 8) (f g : Core → Core) :
    (s.modCore w f).modCore w g = s.modCore w (fun c => g (f c)) := by
  simp [State.modCore]

@[simp] theorem State.wing_modCore (s : State) (w : Fin 8) (f : Core → Core) :
    (s.modCore w f).wing w = { s.wing w with core := f (s.wing w).core } := by
  simp [State.modCore]

@[simp] theorem State.modDome_dome (s : State) (f : Dome → Dome) : (s.modDome f).dome = f s.dome := rfl
@[simp] theorem State.modDome_cal (s : State) (f : Dome → Dome) : (s.modDome f).cal = s.cal := rfl
@[simp] theorem State.modDome_port (s : State) (f : Dome → Dome) : (s.modDome f).port = s.port := rfl
@[simp] theorem State.modDome_wings (s : State) (f : Dome → Dome) : (s.modDome f).wings = s.wings := rfl
@[simp] theorem State.modDome_pending (s : State) (f : Dome → Dome) : (s.modDome f).pending = s.pending := rfl

@[simp] theorem State.eventTo_dome (s : State) (p m c w k d) : (s.eventTo p m c w k d).dome = s.dome := rfl
@[simp] theorem State.eventTo_cal (s : State) (p m c w k d) : (s.eventTo p m c w k d).cal = s.cal := rfl
@[simp] theorem State.eventTo_wings (s : State) (p m c w k d) : (s.eventTo p m c w k d).wings = s.wings := rfl
@[simp] theorem State.eventTo_free (s : State) (p m c w k d) : (s.eventTo p m c w k d).free = s.free := rfl
@[simp] theorem State.eventTo_pending (s : State) (p m c w k d) : (s.eventTo p m c w k d).pending = s.pending := rfl
@[simp] theorem State.event_dome (s : State) (c w k d) : (s.event c w k d).dome = s.dome := rfl
@[simp] theorem State.event_cal (s : State) (c w k d) : (s.event c w k d).cal = s.cal := rfl
@[simp] theorem State.event_wings (s : State) (c w k d) : (s.event c w k d).wings = s.wings := rfl
@[simp] theorem State.event_free (s : State) (c w k d) : (s.event c w k d).free = s.free := rfl
@[simp] theorem State.event_pending (s : State) (c w k d) : (s.event c w k d).pending = s.pending := rfl
@[simp] theorem State.event_pairs (s : State) (c w k d) : (s.event c w k d).port.pairs = s.port.pairs := rfl

@[simp] theorem State.draw_dome (s : State) : s.draw.2.dome = s.dome := rfl
@[simp] theorem State.draw_cal (s : State) : s.draw.2.cal = s.cal := rfl
@[simp] theorem State.draw_port (s : State) : s.draw.2.port = s.port := rfl
@[simp] theorem State.draw_wings (s : State) : s.draw.2.wings = s.wings := rfl
@[simp] theorem State.draw_pending (s : State) : s.draw.2.pending = s.pending := rfl

end Sys2Proof.Machine
end

