-- ==== Sys2Proof/Laws/Core.lean ====
section
/-! SUPPORT. What the frame of the core's instructions does: one lemma for each shared operation. -/
namespace Sys2Proof.Machine
open Sys2Proof

/-- An instruction whose core executes and whose fetch is permitted does what `f` says. -/
theorem coreRun_runs {w : WingId} {op : Word} {len : Nat} {f : State → Except Trap State} {s : State} (h : CoreRuns w len s) :
    coreRun w op len f s =
      .next (match f (s.modCore w (fun c => { c with pc := c.pc + BitVec.ofNat 24 len })) with
        | .ok t => t
        | .error t => s.raiseTrap w op t) := by
  simp only [coreRun, h.1, h.2]
  rfl

/-- An instruction that changes the core only. -/
theorem coreStep_runs {w : WingId} {op : Word} {len : Nat} {f : Core → Core} {s : State} (h : CoreRuns w len s) :
    coreStep w op len f s = .next (s.modCore w (fun c => f { c with pc := c.pc + BitVec.ofNat 24 len })) := by
  rw [coreStep, coreRun_runs h]
  simp

@[simp] theorem Core.get_pc (c : Core) (p : BitVec 24) (r : Reg) : ({ c with pc := p } : Core).get r = c.get r := rfl

@[simp] theorem Core.put_pc (c : Core) (p : BitVec 24) (r : Reg) (v : Word) :
    ({ c with pc := p } : Core).put r v = { c.put r v with pc := p } := by
  unfold Core.put Core.applet
  by_cases h : r = 15
  · simp only [h, if_true]
    cases c.st.getLsbD fAM <;> rfl
  · simp only [h, if_false]

/-- Bit `j` of a status word after bit `i` is set to `b`. -/
theorem getLsbD_putBit (i j : Nat) (b : Bool) (st : Word) (hi : i < 16) (hj : j < 16) :
    (putBit i b st).getLsbD j = if i = j then b else st.getLsbD j := by
  unfold putBit
  cases b
  · simp only [Bool.false_eq_true, if_false, BitVec.getLsbD_and, BitVec.getLsbD_not, BitVec.getLsbD_twoPow, hj, decide_true, Bool.true_and, hi]
    by_cases h : i = j <;> simp [h]
  · simp only [if_true, BitVec.getLsbD_or, BitVec.getLsbD_twoPow, hi, decide_true, Bool.true_and]
    by_cases h : i = j <;> simp [h]

end Sys2Proof.Machine
end

