-- ==== Sys2Proof/Laws/Feran.lean ====
section
/-! SUPPORT. What a request of a session does once it has passed the port's checks: one lemma for the wings and one for the port's own
realms. -/
namespace Sys2Proof.Machine
open Sys2Proof

/-- A fresh request whose body and realm fit is carried out (R296). -/
theorem State.request_fresh {rq : Req} {role : SRole} {op realm : Nat} {body : Octets} {s : State} (h : s.fresh rq role = true)
    (hb : bodyFits op body = true) (hr : realmFits op realm = true) (ho : (opRole op).rank ≤ role.rank) :
    s.request rq.session rq.seq op realm rq.auth rq.peer body = (s.heard rq).carryOut (rq.ask op realm 0xF) body := by
  simp only [State.fresh, Bool.and_eq_true, Bool.not_eq_true', decide_eq_true_eq] at h
  obtain ⟨⟨⟨⟨⟨⟨⟨⟨⟨⟨⟨h1, h2⟩, h3⟩, h4⟩, h5⟩, h6⟩, h7⟩, h8⟩, h9⟩, h10⟩, -⟩, -⟩ := h
  have hn : rq.session.val < 8 := rq.session.isLt
  have hc : (s.port.sessions.get rq.session).cache.find? (fun (c : Nat × Octets) => c.1 == rq.seq) = none := by
    rw [List.find?_eq_none]
    intro x hx he
    have := (List.any_eq_false.1 h6) x hx
    exact this he
  have hold : (match (s.port.sessions.get rq.session).highest with | none => false | some h => decide (rq.seq + 64 ≤ h)) = false := by
    revert h8
    cases (s.port.sessions.get rq.session).highest with
    | none => simp
    | some x => simp only [decide_eq_true_eq, decide_eq_false_iff_not]; omega
  have hfull : decide (8 ≤ s.unanswered rq.session) = false := by simp only [decide_eq_false_iff_not]; omega
  have hrole : ¬ (s.port.sessions.get rq.session).role.rank < (opRole op).rank := by omega
  have hpeer : ((!s.spi && !samePeer rq.peer (s.port.sessions.get rq.session).peer) || (!(s.port.sessions.get rq.session).prov && !rq.auth)) = false := by
    revert h4 h5
    cases s.spi <;> cases samePeer rq.peer (s.port.sessions.get rq.session).peer <;> cases (s.port.sessions.get rq.session).prov <;>
      cases rq.auth <;> simp
  unfold State.request
  simp only [h1, h2, h3, h7, hn, hc, hfull, hrole, hpeer, hb, hr, decide_true, Bool.and_self, Bool.not_true, Bool.false_eq_true, if_false,
    Bool.false_or]
  exact if_neg (Bool.eq_false_iff.1 hold)

@[simp] theorem State.modSession_waits (s : State) (n : Nat) (f : Session → Session) : (s.modSession n f).port.waits = s.port.waits := rfl
@[simp] theorem State.modSession_queue (s : State) (n : Nat) (f : Session → Session) : (s.modSession n f).port.queue = s.port.queue := rfl
@[simp] theorem State.modSession_pairs (s : State) (n : Nat) (f : Session → Session) : (s.modSession n f).port.pairs = s.port.pairs := rfl
@[simp] theorem State.modSession_wing (s : State) (n : Nat) (f : Session → Session) (w : Nat) : (s.modSession n f).wing w = s.wing w := rfl
@[simp] theorem State.modSession_dome (s : State) (n : Nat) (f : Session → Session) : (s.modSession n f).dome = s.dome := rfl

theorem State.fresh_idle {rq : Req} {role : SRole} {s : State} (h : s.fresh rq role = true) :
    s.port.waits = [] ∧ s.port.queue = [] := by
  simp only [State.fresh, Bool.and_eq_true, List.isEmpty_iff] at h
  exact ⟨h.1.2, h.2⟩

@[simp] theorem Wing.st_sys (a : Nat) (v : Word) (x : Wing) : (x.st a v).sys = x.sys := by
  unfold Wing.st; split <;> rfl

@[simp] theorem Wing.putOctets_sys (a : Nat) : ∀ (os : Octets) (off : Nat) (x : Wing), (x.putOctets a off os).sys = x.sys
  | [], _, _ => rfl
  | _ :: os, off, x => (Wing.putOctets_sys a os (off + 1) _).trans (Wing.st_sys _ _ x)

@[simp] theorem Wing.raiseIf_sys (c : Bool) (n : Nat) (x : Wing) : (x.raiseIf c n).sys = x.sys := by
  cases c <;> rfl

@[simp] theorem Wing.mbEnd_sys (m : Nat) (code : Octet) (x : Wing) : (x.mbEnd m code).sys = x.sys := Wing.raiseIf_sys _ _ _

@[simp] theorem Wing.mbDeliver_sys (m : Nat) (p : Party) (o : Octet) (ws : List Word) (x : Wing) : (x.mbDeliver m p o ws).sys = x.sys := rfl

/-- Delivering a request does not change the wing's state. -/
theorem State.handed_sys (q : WaitReq) (body : Octets) (s : State) (w : WingId) (hw : q.wing = w) :
    ((s.handed q body).wing w).sys = (s.wing w).sys := by
  unfold State.handed
  simp only [hw, State.wing_setWing, Wing.mbEnd_sys, Wing.mbDeliver_sys, Wing.putOctets_sys]
  rfl

/-- A request delivered to a wing whose mailbox is free is done by its Curator. -/
theorem State.deliver_wing (q : WaitReq) (body : Octets) (s : State) (h8 : q.wing < 8) (h20 : q.opcode ≠ 0x20) (h28 : q.opcode ≠ 0x28)
    (hl : (s.wing q.wing).live = true) (hm : ((s.wing q.wing).mb (q.session % 4)).state = .free) :
    s.deliver q body = (match (s.handed q body).wingRun q q.wing body with
      | (none, t) => t
      | (some (st, more, b), t) => t.wingRespond q.wing q.session st more b) := by
  unfold State.deliver
  refine (if_neg (by omega)).trans ((if_neg h20).trans ((if_neg h28).trans ((if_neg ?_).trans ((if_neg ?_).trans rfl))))
  · show ¬ (!(s.wing q.wing).live) = true
    rw [hl]; decide
  · show ¬ ((s.wing q.wing).mb (q.session % 4)).state ≠ .free
    exact fun h => h hm

/-- A request for a wing that is not CLOSE, PING, SUBMIT or WING_RESET, fresh, with the wing's mailbox free, is done by the wing's Curator
and answered (R461). -/
theorem State.ask_wing {rq : Req} {role : SRole} {op : Nat} {w : WingId} {body : Octets} {s : State} (h : s.fresh rq role = true)
    (hc : s.canHand w rq.session = true) (hb : bodyFits op body = true) (hr : realmFits op w = true) (ho : (opRole op).rank ≤ role.rank)
    (h3 : op ≠ 0x03) (h4 : op ≠ 0x04) (h20 : op ≠ 0x20) (h28 : op ≠ 0x28) (ht : s.target op (.wing w) body = w) :
    s.ask rq op (.wing w) body =
      .next (answered w rq.session ((((s.heard rq).handed (rq.ask op w w) body)).wingRun (rq.ask op w w) w body)) := by
  obtain ⟨hw, hq⟩ := State.fresh_idle h
  have hreq := State.request_fresh h hb hr ho
  have hw8 : w.val < 8 := w.isLt
  simp only [State.canHand, Bool.and_eq_true, decide_eq_true_eq] at hc
  have htar : (s.heard rq).target op (.wing w) body = w := ht
  have hrealm : realmOf w.val = some (.wing w) := by simp [realmOf, hw8]
  have hcarry : (s.heard rq).carryOut (rq.ask op w 0xF) body = (s.heard rq).deliver (rq.ask op w w) body := by
    unfold State.carryOut
    split
    · rename_i e; exact absurd e h3
    · rename_i e; exact absurd e h4
    · have e : realmOf (rq.ask op w 0xF).realm = some (.wing w) := hrealm
      rw [e]
      have hw' : (s.heard rq).port.waits = [] := hw
      have hq' : (s.heard rq).port.queue = [] := hq
      refine (if_neg ?_).trans ?_
      · rw [hw', hq']; simp
      · exact congrArg (fun v => (s.heard rq).deliver { rq.ask op w 0xF with wing := v } body) htar
  unfold State.ask
  refine congrArg Host.Outcome.next (congrArg State.pump ?_)
  refine hreq.trans (hcarry.trans ?_)
  exact State.deliver_wing (rq.ask op w w) body (s.heard rq) hw8 h20 h28 hc.1 hc.2

/-- A row that writes one value has the effect `f`, if that is what the commit of the value does. -/
theorem Sets.of {i : Instr} {rq : Req} {w : WingId} {idx sub : Nat} {v : Octets} {f : State → State} {s : State}
  (hi : exec i s = s.ask rq 0x11 (.wing w) (natLe 2 idx ++ [o8 sub] ++ v)) (hidx : idx < 65536) (hsub : sub < 256)
  (hf : ∀ (u : State) (e : Ent) (a : Actor), (Realm.wing w).entry idx sub = some e →
     a.who = some rq.session.val → u.commitWing w idx [{ sub := sub, ent := e, val := e.ty.wire v }] a.who = (some .ok, f u)) :
  Sets i rq w idx sub v f s := by
  unfold Sets
  intro u hfr hch hp hacc
  have hle : leNat ((natLe 2 idx ++ [o8 sub] ++ v).take 2) = idx := by
    simp [natLe, leNat, o8]; omega
  have hsub' : ((natLe 2 idx ++ [o8 sub] ++ v).getD 2 0).toNat = sub := by
    simp [natLe, o8]; omega
  have hdrop : (natLe 2 idx ++ [o8 sub] ++ v).drop 3 = v := by simp [natLe]
  have ht : s.target 0x11 (.wing w) (natLe 2 idx ++ [o8 sub] ++ v) = w := by
    unfold State.target
    simp only [hp]
    simp
  have hl : (u.wing w).live = true := by
    have hc := hch
    simp only [State.canHand, Bool.and_eq_true] at hc
    show (((s.heard rq).handed (rq.ask 0x11 w w) (natLe 2 idx ++ [o8 sub] ++ v)).wing w).live = true
    rw [Wing.live, State.handed_sys _ _ _ _ rfl]
    exact hc.1
  rw [hi, State.ask_wing (role := .observer) hfr hch (by simp [bodyFits, natLe]) (by simp [realmFits]) (by decide) (by decide) (by decide) (by decide) (by decide) ht]
  congr 2
  show u.wingRun (rq.ask 0x11 w w) w (natLe 2 idx ++ [o8 sub] ++ v) = _
  unfold State.wingRun
  have hw : (Fin.ofNat 8 (rq.ask 0x11 w w).realm) = w := by simp [Req.ask]
  simp only [Req.ask] at hw ⊢
  simp only [hw]
  rw [if_neg (by decide)]
  unfold State.opCatalogue
  simp only [hle, hsub', hdrop, decide_true, Bool.or_true, if_true]
  unfold State.catRequest
  simp only [State.reachable, hl]
  unfold State.accepts onePut at hacc
  cases he : (Realm.wing w).entry idx sub with
  | none => simp [he] at hacc
  | some e =>
    simp only [he, Option.map_some] at hacc
    have hpair : (if dualIndex idx = true then u.pairOf w else none) = none := by
      have : u.pairOf w = none := hp
      simp [this]
    simp only [State.catWrite, hpair]
    unfold State.wingWrite
    simp only [hw, List.map_cons, List.map_nil, he, Option.getD_some]
    have hx : u.writeCheck (.wing w) idx (u.port.sessions.get rq.session).role none [{ sub := sub, ent := e, val := e.ty.wire v }] true = none := by
      simpa using hacc
    simp [hx, hf u e { role := (u.port.sessions.get rq.session).role, who := some rq.session.val } he rfl]

end Sys2Proof.Machine
end

