-- ==== Sys2Proof/Laws/KeptA.lean ====
section
/-! SUPPORT. What every operation keeps: the Dome outside what other units write, and the queue (OpsBase.lean to Transmit.lean). -/
namespace Sys2Proof.Machine
open Sys2Proof

/-- The Dome without what is written from outside its own commands. -/
def Dome.power (d : Dome) : Dome :=
  { d with refCount := 0, watchReq := 0xFF, watchWait := [], watchWing := 0xFF, frozenWrites := 0, cellEmpty := false, holdupShort := false }

@[simp] theorem kept_foldl {α : Type} (f : State → α → State) (h : ∀ t a, (f t a).dome.power = t.dome.power ∧ (f t a).pending = t.pending)
    (l : List α) (s : State) : (l.foldl f s).dome.power = s.dome.power ∧ (l.foldl f s).pending = s.pending := by
  induction l generalizing s with
  | nil => exact ⟨rfl, rfl⟩
  | cons a l ih => exact ⟨(ih _).1.trans (h s a).1, (ih _).2.trans (h s a).2⟩

@[simp] theorem kept_fold2 {α β : Type} (f : β × State → α → β × State)
    (h : ∀ b t a, (f (b, t) a).2.dome.power = t.dome.power ∧ (f (b, t) a).2.pending = t.pending) (l : List α) (b : β) (s : State) :
    (l.foldl f (b, s)).2.dome.power = s.dome.power ∧ (l.foldl f (b, s)).2.pending = s.pending := by
  induction l generalizing b s with
  | nil => exact ⟨rfl, rfl⟩
  | cons a l ih =>
    obtain ⟨h1, h2⟩ := h b s a
    obtain ⟨h3, h4⟩ := ih (f (b, s) a).1 (f (b, s) a).2
    exact ⟨h3.trans h1, h4.trans h2⟩

@[simp] theorem State.drawOctets_kept (s : State) (k : Nat) : (s.drawOctets k).2.dome.power = s.dome.power ∧ (s.drawOctets k).2.pending = s.pending := by
  induction k with
  | zero => exact ⟨rfl, rfl⟩
  | succ k ih => exact ih

theorem kept_foldl_from {α : Type} (f : State → α → State) (h : ∀ t a, (f t a).dome.power = t.dome.power ∧ (f t a).pending = t.pending)
    (l : List α) (s t : State) (hs : s.dome.power = t.dome.power ∧ s.pending = t.pending) :
    (l.foldl f s).dome.power = t.dome.power ∧ (l.foldl f s).pending = t.pending :=
  ⟨(kept_foldl f h l s).1.trans hs.1, (kept_foldl f h l s).2.trans hs.2⟩

theorem kept_iter (f : State → State) (h : ∀ t, (f t).dome.power = t.dome.power ∧ (f t).pending = t.pending) (n : Nat) (s : State) :
    (iter n f s).dome.power = s.dome.power ∧ (iter n f s).pending = s.pending := by
  induction n generalizing s with
  | zero => exact ⟨rfl, rfl⟩
  | succ n ih => exact ⟨(ih _).1.trans (h s).1, (ih _).2.trans (h s).2⟩

@[simp] theorem State.setWing_kept (s : State) (w : Nat) (x : Wing) :
    (State.setWing s w x).dome.power = s.dome.power ∧ (State.setWing s w x).pending = s.pending := by
  simp [State.setWing]

@[simp] theorem State.modWing_kept (s : State) (w : Nat) (f : Wing → Wing) :
    (State.modWing s w f).dome.power = s.dome.power ∧ (State.modWing s w f).pending = s.pending := by
  simp [State.modWing]

@[simp] theorem State.draw_kept (s : State) : (State.draw s).2.dome.power = s.dome.power ∧ (State.draw s).2.pending = s.pending := by
  simp [State.draw]

@[simp] theorem State.raise_kept (w n : Nat) (s : State) : (State.raise w n s).dome.power = s.dome.power ∧ (State.raise w n s).pending = s.pending := by
  simp [State.raise]

@[simp] theorem State.modSessions_kept (s : State) (f : Nat → Session → Session) :
    (State.modSessions s f).dome.power = s.dome.power ∧ (State.modSessions s f).pending = s.pending := by
  simp [State.modSessions]

@[simp] theorem State.modSession_kept (s : State) (n : Nat) (f : Session → Session) :
    (State.modSession s n f).dome.power = s.dome.power ∧ (State.modSession s n f).pending = s.pending := by
  simp [State.modSession]

@[simp] theorem State.eventTo_kept (p : Nat → Session → Bool) (more : Bool) (cls wing code : Nat) (data : Octets) (s : State) :
    (State.eventTo p more cls wing code data s).dome.power = s.dome.power ∧ (State.eventTo p more cls wing code data s).pending = s.pending := by
  simp [State.eventTo]

@[simp] theorem State.event_kept (cls wing code : Nat) (data : Octets) (s : State) :
    (State.event cls wing code data s).dome.power = s.dome.power ∧ (State.event cls wing code data s).pending = s.pending := by
  simp [State.event]

@[simp] theorem State.toState_kept (w : Nat) (st : WingState) (cause : Nat) (s : State) :
    (State.toState w st cause s).dome.power = s.dome.power ∧ (State.toState w st cause s).pending = s.pending := by
  unfold State.toState; (repeat' split) <;> simp

@[simp] theorem State.sendFrame_kept (f : Octets) (s : State) :
    (State.sendFrame f s).dome.power = s.dome.power ∧ (State.sendFrame f s).pending = s.pending := by
  unfold State.sendFrame; (repeat' split) <;> simp

@[simp] theorem State.solicit_kept (i : Nat) (s : State) : (State.solicit i s).dome.power = s.dome.power ∧ (State.solicit i s).pending = s.pending := by
  simp only [State.solicit]; (repeat' split) <;> simp

@[simp] theorem State.emit_kept (n : Nat) (peer msg : Octets) (s : State) :
    (State.emit n peer msg s).dome.power = s.dome.power ∧ (State.emit n peer msg s).pending = s.pending := by
  unfold State.emit; (repeat' split) <;> simp

@[simp] theorem State.replyBare_kept (sess op seq realm : Nat) (peer : Octets) (st : Status) (s : State) :
    (State.replyBare sess op seq realm peer st s).dome.power = s.dome.power ∧ (State.replyBare sess op seq realm peer st s).pending = s.pending := by
  simp [State.replyBare]

@[simp] theorem State.replyCode_kept (q : WaitReq) (code : Nat) (more : Bool) (body : Octets) (s : State) :
    (State.replyCode q code more body s).dome.power = s.dome.power ∧ (State.replyCode q code more body s).pending = s.pending := by
  simp only [State.replyCode]; (repeat' split) <;> simp

@[simp] theorem State.reply_kept (q : WaitReq) (st : Status) (more : Bool) (body : Octets) (s : State) :
    (State.reply q st more body s).dome.power = s.dome.power ∧ (State.reply q st more body s).pending = s.pending := by
  simp [State.reply]

@[simp] theorem State.sendEvent_kept (n : Nat) (s : State) :
    (State.sendEvent n s).dome.power = s.dome.power ∧ (State.sendEvent n s).pending = s.pending := by
  unfold State.sendEvent; (repeat' split) <;> simp

@[simp] theorem State.sendEvents_kept (s : State) : (State.sendEvents s).dome.power = s.dome.power ∧ (State.sendEvents s).pending = s.pending := by
  unfold State.sendEvents
  split
  · exact ⟨rfl, rfl⟩
  · exact kept_foldl _ (fun t n => kept_iter _ (fun u => State.sendEvent_kept n u) _ _) _ _

@[simp] theorem State.answer_kept (w n : Nat) (st : Status) (body : Octets) (s : State) :
    (State.answer w n st body s).dome.power = s.dome.power ∧ (State.answer w n st body s).pending = s.pending := by
  unfold State.answer; (repeat' split) <;> simp

@[simp] theorem State.docClear_kept (w n : Nat) (s : State) :
    (State.docClear w n s).dome.power = s.dome.power ∧ (State.docClear w n s).pending = s.pending := by
  unfold State.docClear; (repeat' split) <;> simp

@[simp] theorem State.docClaim_kept (w : Nat) (s : State) :
    (State.docClaim w s).2.dome.power = s.dome.power ∧ (State.docClaim w s).2.pending = s.pending := by
  simp only [State.docClaim]; (repeat' split) <;> simp

@[simp] theorem State.pendClr_kept (w g : Nat) (v : Word) (s : State) :
    (State.pendClr w g v s).dome.power = s.dome.power ∧ (State.pendClr w g v s).pending = s.pending := by
  unfold State.pendClr
  exact kept_foldl_from _ (fun t a => by (try dsimp only); (repeat' split) <;> simp) _ _ _ (by (repeat' split) <;> simp)

@[simp] theorem State.docRead_kept (w a : Nat) (s : State) :
    (State.docRead w a s).2.dome.power = s.dome.power ∧ (State.docRead w a s).2.pending = s.pending := by
  unfold State.docRead; (repeat' split) <;> simp

@[simp] theorem State.docWrite_kept (applet : Bool) (w a : Nat) (v : Word) (s : State) :
    (State.docWrite applet w a v s).dome.power = s.dome.power ∧ (State.docWrite applet w a v s).pending = s.pending := by
  unfold State.docWrite; (repeat' split) <;> simp

@[simp] theorem State.flsStep_kept (w : Nat) (f : Nat → Wing → Wing × FlsEvents) (s : State) :
    (State.flsStep w f s).dome.power = s.dome.power ∧ (State.flsStep w f s).pending = s.pending := by
  simp [State.flsStep]

@[simp] theorem State.randomRead_kept (w : Nat) (s : State) :
    (State.randomRead w s).2.dome.power = s.dome.power ∧ (State.randomRead w s).2.pending = s.pending := by
  simp only [State.randomRead]; (repeat' split) <;> simp

@[simp] theorem State.cphRead_kept (w a : Nat) (s : State) :
    (State.cphRead w a s).2.dome.power = s.dome.power ∧ (State.cphRead w a s).2.pending = s.pending := by
  unfold State.cphRead; (repeat' split) <;> simp

theorem State.forWings_kept (f : Nat → State → State) (s : State) (h_f : ∀ i t, (f i t).dome.power = t.dome.power ∧ (f i t).pending = t.pending) :
    (State.forWings f s).dome.power = s.dome.power ∧ (State.forWings f s).pending = s.pending := by
  exact kept_foldl _ (fun t i => h_f i t) _ _

@[simp] theorem State.alarmMatch_kept (s : State) : (State.alarmMatch s).dome.power = s.dome.power ∧ (State.alarmMatch s).pending = s.pending := by
  unfold State.alarmMatch; dsimp only; (repeat' split) <;> first | simp | exact kept_foldl_from _ (fun t a => by (try dsimp only); (repeat' split) <;> simp) _ _ _ (by (repeat' split) <;> simp) | grind [State.raise_kept, State.forWings_kept]

@[simp] theorem State.applyCarry_kept (s : State) : (State.applyCarry s).dome.power = s.dome.power ∧ (State.applyCarry s).pending = s.pending := by
  simp only [State.applyCarry]; (repeat' split) <;> simp

@[simp] theorem State.carry_kept (s : State) : (State.carry s).dome.power = s.dome.power ∧ (State.carry s).pending = s.pending := by
  simp only [State.carry]; (repeat' split) <;> simp

@[simp] theorem State.wingsLf_kept (s : State) : (State.wingsLf s).dome.power = s.dome.power ∧ (State.wingsLf s).pending = s.pending := by
  unfold State.wingsLf
  exact kept_foldl_from _ (fun t a => by (try dsimp only); (repeat' split) <;> simp) _ _ _ (by (repeat' split) <;> simp)

@[simp] theorem State.setOsf_kept (why : Nat) (s : State) : (State.setOsf why s).dome.power = s.dome.power ∧ (State.setOsf why s).pending = s.pending := by
  grind [State.setOsf, State.setWing, State.modWing, State.raise_kept, State.event_kept, State.forWings_kept]

@[simp] theorem State.frozenWrite_kept (s : State) : (State.frozenWrite s).dome.power = s.dome.power ∧ (State.frozenWrite s).pending = s.pending := by
  exact ⟨rfl, rfl⟩

@[simp] theorem State.calRelease_kept (divZero : Bool) (s : State) :
    (State.calRelease divZero s).dome.power = s.dome.power ∧ (State.calRelease divZero s).pending = s.pending := by
  simp only [State.calRelease]; (repeat' split) <;> simp

@[simp] theorem State.calDrop_kept (p : Nat) (s : State) : (State.calDrop p s).dome.power = s.dome.power ∧ (State.calDrop p s).pending = s.pending := by
  unfold State.calDrop; (repeat' split) <;> simp

@[simp] theorem State.calHalt_kept (p : Nat) (s : State) : (State.calHalt p s).dome.power = s.dome.power ∧ (State.calHalt p s).pending = s.pending := by
  simp only [State.calHalt]; (repeat' split) <;> simp

@[simp] theorem State.calUnhalt_kept (p : Nat) (divZero : Bool) (s : State) :
    (State.calUnhalt p divZero s).dome.power = s.dome.power ∧ (State.calUnhalt p divZero s).pending = s.pending := by
  simp only [State.calUnhalt]; (repeat' split) <;> simp

@[simp] theorem State.calFieldWrite_kept (p r : Nat) (v : Word) (s : State) :
    (State.calFieldWrite p r v s).dome.power = s.dome.power ∧ (State.calFieldWrite p r v s).pending = s.pending := by
  simp only [State.calFieldWrite]; (repeat' split) <;> simp

@[simp] theorem State.calSetTime_kept (t : CalTime) (s : State) :
    (State.calSetTime t s).2.dome.power = s.dome.power ∧ (State.calSetTime t s).2.pending = s.pending := by
  unfold State.calSetTime; (repeat' split) <;> simp

@[simp] theorem State.calRead_kept (w a : Nat) (s : State) :
    (State.calRead w a s).2.dome.power = s.dome.power ∧ (State.calRead w a s).2.pending = s.pending := by
  unfold State.calRead; (repeat' split) <;> simp

@[simp] theorem State.calStatusWrite_kept (w : Nat) (v : Word) (s : State) :
    (State.calStatusWrite w v s).dome.power = s.dome.power ∧ (State.calStatusWrite w v s).pending = s.pending := by
  simp only [State.calStatusWrite]; (repeat' split) <;> simp

@[simp] theorem State.calWrite_kept (w a : Nat) (v : Word) (s : State) :
    (State.calWrite w a v s).dome.power = s.dome.power ∧ (State.calWrite w a v s).pending = s.pending := by
  unfold State.calWrite; (repeat' split) <;> simp

@[simp] theorem State.leaveListen_kept (w : Nat) (s : State) :
    (State.leaveListen w s).dome.power = s.dome.power ∧ (State.leaveListen w s).pending = s.pending := by
  simp only [State.leaveListen]; (repeat' split) <;> simp

@[simp] theorem State.noiseOf_kept (w k : Nat) (s : State) :
    (State.noiseOf w k s).2.dome.power = s.dome.power ∧ (State.noiseOf w k s).2.pending = s.pending := by
  simp only [State.noiseOf]; (repeat' split) <;> simp

@[simp] theorem State.rxRead_kept (w a : Nat) (s : State) :
    (State.rxRead w a s).2.dome.power = s.dome.power ∧ (State.rxRead w a s).2.pending = s.pending := by
  unfold State.rxRead; (repeat' split) <;> simp

@[simp] theorem State.trimRefresh_kept (s : State) : (State.trimRefresh s).dome.power = s.dome.power ∧ (State.trimRefresh s).pending = s.pending := by
  simp [State.trimRefresh]

@[simp] theorem State.trimSet_kept (mode : Nat) (manual : Int) (wing : Nat) (s : State) :
    (State.trimSet mode manual wing s).dome.power = s.dome.power ∧ (State.trimSet mode manual wing s).pending = s.pending := by
  simp [State.trimSet]

@[simp] theorem State.bramPut_kept (w off : Nat) (os : Octets) (s : State) :
    (State.bramPut w off os s).2.dome.power = s.dome.power ∧ (State.bramPut w off os s).2.pending = s.pending := by
  unfold State.bramPut; (repeat' split) <;> simp

@[simp] theorem State.charge_kept (w k i us : Nat) (s : State) :
    (State.charge w k i us s).2.dome.power = s.dome.power ∧ (State.charge w k i us s).2.pending = s.pending := by
  grind [State.charge, State.setWing, State.modWing, State.modWing_kept, State.bramPut_kept]

@[simp] theorem State.refund_kept (w : Nat) (r : TxRun) (us : Nat) (s : State) :
    (State.refund w r us s).2.dome.power = s.dome.power ∧ (State.refund w r us s).2.pending = s.pending := by
  grind [State.refund, State.setWing, State.modWing, State.modWing_kept, State.bramPut_kept]

@[simp] theorem State.bucketClose1_kept (w i : Nat) (s : State) :
    (State.bucketClose1 w i s).dome.power = s.dome.power ∧ (State.bucketClose1 w i s).pending = s.pending := by
  grind [State.bucketClose1, State.setWing, State.modWing, State.modWing_kept, State.bramPut_kept]

@[simp] theorem State.bucketClose_kept (w : Nat) (s : State) :
    (State.bucketClose w s).dome.power = s.dome.power ∧ (State.bucketClose w s).pending = s.pending := by
  simp [State.bucketClose]

@[simp] theorem State.limFlush_kept (w : Nat) (s : State) : (State.limFlush w s).dome.power = s.dome.power ∧ (State.limFlush w s).pending = s.pending := by
  unfold State.limFlush
  dsimp only
  generalize hg : List.foldl _ s (s.wing w).tx.heldOpen = t
  have ht : t.dome.power = s.dome.power ∧ t.pending = s.pending := by
    subst hg
    exact kept_foldl _ (fun u e => by
      have h := State.bramPut_kept w (4 * e.1) (natLe 4 (e.2 - 1)) u
      split <;> rename_i heq <;> rw [heq] at h <;> exact h) _ _
  have h := State.bramPut_kept w 0x41 [0xA5] t
  split
  · split <;> rename_i heq <;> rw [heq] at h <;> exact ⟨h.1.trans ht.1, h.2.trans ht.2⟩
  · exact ht

@[simp] theorem State.limAck_kept (w i amount : Nat) (s : State) :
    (State.limAck w i amount s).dome.power = s.dome.power ∧ (State.limAck w i amount s).pending = s.pending := by
  simp [State.limAck]

@[simp] theorem State.setPair_kept (p : Nat) (v : Pair) (s : State) :
    (State.setPair p v s).dome.power = s.dome.power ∧ (State.setPair p v s).pending = s.pending := by
  simp [State.setPair]

@[simp] theorem State.roleChanged_kept (w : Nat) (s : State) :
    (State.roleChanged w s).dome.power = s.dome.power ∧ (State.roleChanged w s).pending = s.pending := by
  simp [State.roleChanged]

@[simp] theorem State.relayPump_kept (w : Nat) (s : State) :
    (State.relayPump w s).dome.power = s.dome.power ∧ (State.relayPump w s).pending = s.pending := by
  simp only [State.relayPump]; (repeat' split) <;> simp

@[simp] theorem State.relaySend_kept (w : Nat) (ds : List (List Word)) (s : State) :
    (State.relaySend w ds s).dome.power = s.dome.power ∧ (State.relaySend w ds s).pending = s.pending := by
  unfold State.relaySend; (repeat' split) <;> simp

@[simp] theorem State.relayForward_kept (w m : Nat) (s : State) :
    (State.relayForward w m s).dome.power = s.dome.power ∧ (State.relayForward w m s).pending = s.pending := by
  simp only [State.relayForward]; (repeat' split) <;> simp

@[simp] theorem State.relayDrain_kept (w : Nat) (s : State) :
    (State.relayDrain w s).dome.power = s.dome.power ∧ (State.relayDrain w s).pending = s.pending := by
  simp only [State.relayDrain]; (repeat' split) <;> simp

@[simp] theorem State.mbxRead_kept (w a : Nat) (s : State) :
    (State.mbxRead w a s).2.dome.power = s.dome.power ∧ (State.mbxRead w a s).2.pending = s.pending := by
  simp only [State.mbxRead]; (repeat' split) <;> simp

@[simp] theorem State.sendRecord_kept (w : Nat) (r : JRec) (s : State) :
    (State.sendRecord w r s).dome.power = s.dome.power ∧ (State.sendRecord w r s).pending = s.pending := by
  simp [State.sendRecord]

@[simp] theorem State.jWrite_kept (w typ : Nat) (body : Octets) (s : State) :
    (State.jWrite w typ body s).dome.power = s.dome.power ∧ (State.jWrite w typ body s).pending = s.pending := by
  simp only [State.jWrite]; (repeat' split) <;> simp

@[simp] theorem State.jEntry_kept (w idx sub len v : Nat) (s : State) :
    (State.jEntry w idx sub len v s).dome.power = s.dome.power ∧ (State.jEntry w idx sub len v s).pending = s.pending := by
  simp [State.jEntry]

@[simp] theorem State.reserve_kept (w : Nat) (s : State) : (State.reserve w s).dome.power = s.dome.power ∧ (State.reserve w s).pending = s.pending := by
  simp only [State.reserve]; (repeat' split) <;> simp

@[simp] theorem State.drawFc_kept (w : Nat) (s : State) : (State.drawFc w s).2.dome.power = s.dome.power ∧ (State.drawFc w s).2.pending = s.pending := by
  simp only [State.drawFc]; (repeat' split) <;> simp

@[simp] theorem State.freeTime_kept (w cap : Nat) (s : State) :
    (State.freeTime w cap s).dome.power = s.dome.power ∧ (State.freeTime w cap s).pending = s.pending := by
  grind [State.freeTime, State.draw_kept, State.modWing_kept]

@[simp] theorem State.settle_kept (w : Nat) (r : TxRun) (used : Nat) (s : State) :
    (State.settle w r used s).2.dome.power = s.dome.power ∧ (State.settle w r used s).2.pending = s.pending := by
  grind [State.settle, State.refund_kept]

@[simp] theorem State.txEnd_kept (w : Nat) (r : TxRun) (res : TxResult) (used : Nat) (s : State) :
    (State.txEnd w r res used s).dome.power = s.dome.power ∧ (State.txEnd w r res used s).pending = s.pending := by
  simp [State.txEnd]

@[simp] theorem State.txDecide_kept (w : Nat) (q : TxReq) (late : Bool) (s : State) :
    (State.txDecide w q late s).dome.power = s.dome.power ∧ (State.txDecide w q late s).pending = s.pending := by
  grind [State.txDecide, State.setWing, State.modWing, State.modWing_kept, State.charge_kept]

@[simp] theorem State.txPoint_kept (w : Nat) (q : TxReq) (s : State) :
    (State.txPoint w q s).dome.power = s.dome.power ∧ (State.txPoint w q s).pending = s.pending := by
  simp [State.txPoint]

@[simp] theorem State.testEnd_kept (w : Nat) (q : TestRun) (res : TxResult) (used : Nat) (s : State) :
    (State.testEnd w q res used s).dome.power = s.dome.power ∧ (State.testEnd w q res used s).pending = s.pending := by
  simp [State.testEnd]

@[simp] theorem State.testStop_kept (w : Nat) (q : TestRun) (res : TxResult) (used : Nat) (s : State) :
    (State.testStop w q res used s).dome.power = s.dome.power ∧ (State.testStop w q res used s).pending = s.pending := by
  simp [State.testStop]

@[simp] theorem State.synthDone_kept (w : Nat) (ok : Bool) (s : State) :
    (State.synthDone w ok s).dome.power = s.dome.power ∧ (State.synthDone w ok s).pending = s.pending := by
  simp only [State.synthDone]; (repeat' split) <;> simp

@[simp] theorem State.rampDownEnd_kept (w : Nat) (s : State) :
    (State.rampDownEnd w s).dome.power = s.dome.power ∧ (State.rampDownEnd w s).pending = s.pending := by
  simp only [State.rampDownEnd]; (repeat' split) <;> simp

@[simp] theorem State.txAbort_kept (w : Nat) (p : TxReq → Bool) (s : State) :
    (State.txAbort w p s).dome.power = s.dome.power ∧ (State.txAbort w p s).pending = s.pending := by
  simp only [State.txAbort]; (repeat' split) <;> simp

@[simp] theorem State.radioCut_kept (w : Nat) (s : State) : (State.radioCut w s).dome.power = s.dome.power ∧ (State.radioCut w s).pending = s.pending := by
  simp only [State.radioCut]; (repeat' split) <;> simp

theorem State.testBlock_kept (w ch i : Nat) (s : State) : ∀ t, (State.testBlock w ch i s) = some t → t.dome.power = s.dome.power ∧ t.pending = s.pending := by
  grind [State.testBlock, State.setWing, State.modWing, State.charge_kept]

@[simp] theorem State.txTest_kept (w : Nat) (mode : Nat) (s : State) :
    (State.txTest w mode s).dome.power = s.dome.power ∧ (State.txTest w mode s).pending = s.pending := by
  grind [State.txTest, State.setWing, State.modWing, State.modWing_kept, State.leaveListen_kept, State.testBlock_kept, State.testStop_kept]

@[simp] theorem State.txRead_kept (w a : Nat) (s : State) :
    (State.txRead w a s).2.dome.power = s.dome.power ∧ (State.txRead w a s).2.pending = s.pending := by
  unfold State.txRead; (repeat' split) <;> simp

@[simp] theorem State.txWrite_kept (w a : Nat) (v : Word) (s : State) :
    (State.txWrite w a v s).dome.power = s.dome.power ∧ (State.txWrite w a v s).pending = s.pending := by
  unfold State.txWrite; (repeat' split) <;> simp

end Sys2Proof.Machine
end

