-- ==== Sys2Proof/Laws/KeptB.lean ====
section
/-! SUPPORT. What every operation keeps: the Dome outside what other units write, and the queue (Grid.lean to Bus.lean). -/
namespace Sys2Proof.Machine
open Sys2Proof

@[simp] theorem State.nbTell_kept (w i : Nat) (s : State) : (State.nbTell w i s).dome.power = s.dome.power ∧ (State.nbTell w i s).pending = s.pending := by
  unfold State.nbTell; (repeat' split) <;> simp

@[simp] theorem State.itemDone_kept (w : Nat) (i : Item) (outcome ackStatus start : Nat) (s : State) :
    (State.itemDone w i outcome ackStatus start s).dome.power = s.dome.power ∧ (State.itemDone w i outcome ackStatus start s).pending = s.pending := by
  simp [State.itemDone]

@[simp] theorem State.itemEnd_kept (w : Nat) (i : Item) (d : List Word) (s : State) :
    (State.itemEnd w i d s).dome.power = s.dome.power ∧ (State.itemEnd w i d s).pending = s.pending := by
  simp only [State.itemEnd]; (repeat' split) <;> simp

@[simp] theorem State.intakeAccept_kept (w r epoch fc : Nat) (d : List Word) (frame : Octets) (s : State) :
    (State.intakeAccept w r epoch fc d frame s).dome.power = s.dome.power ∧ (State.intakeAccept w r epoch fc d frame s).pending = s.pending := by
  simp only [State.intakeAccept]; (repeat' split) <;> simp

@[simp] theorem State.intake_kept (w : Nat) (s : State) : (State.intake w s).dome.power = s.dome.power ∧ (State.intake w s).pending = s.pending := by
  have h := State.drawFc_kept w s
  unfold State.intake
  dsimp only
  split
  · simp
  · split
    · simp
    · split
      · simp
      · split <;> rename_i heq <;> rw [heq] at h <;> simp_all

@[simp] theorem State.retire_kept (w first last : Nat) (s : State) :
    (State.retire w first last s).2.2.dome.power = s.dome.power ∧ (State.retire w first last s).2.2.pending = s.pending := by
  simp [State.retire]

@[simp] theorem State.setLineage_kept (w epoch root : Nat) (s : State) :
    (State.setLineage w epoch root s).dome.power = s.dome.power ∧ (State.setLineage w epoch root s).pending = s.pending := by
  simp only [State.setLineage]; (repeat' split) <;> simp

@[simp] theorem State.follow_kept (w i : Nat) (b : Octets) (start endT : Nat) (s : State) :
    (State.follow w i b start endT s).dome.power = s.dome.power ∧ (State.follow w i b start endT s).pending = s.pending := by
  simp [State.follow]

@[simp] theorem State.searchHear_kept (w i : Nat) (b : Octets) (start endT : Nat) (s : State) :
    (State.searchHear w i b start endT s).dome.power = s.dome.power ∧ (State.searchHear w i b start endT s).pending = s.pending := by
  simp only [State.searchHear]; (repeat' split) <;> simp

@[simp] theorem State.lineageHear_kept (w i : Nat) (b : Octets) (start endT : Nat) (s : State) :
    (State.lineageHear w i b start endT s).dome.power = s.dome.power ∧ (State.lineageHear w i b start endT s).pending = s.pending := by
  simp only [State.lineageHear]; (repeat' split) <;> simp

@[simp] theorem State.beaconHear_kept (w i : Nat) (b : Octets) (start endT : Nat) (s : State) :
    (State.beaconHear w i b start endT s).dome.power = s.dome.power ∧ (State.beaconHear w i b start endT s).pending = s.pending := by
  unfold State.beaconHear; (repeat' split) <;> simp

@[simp] theorem State.promote_kept (w : Nat) (s : State) : (State.promote w s).dome.power = s.dome.power ∧ (State.promote w s).pending = s.pending := by
  simp only [State.promote]; (repeat' split) <;> simp

@[simp] theorem State.superframe_kept (w : Nat) (s : State) :
    (State.superframe w s).dome.power = s.dome.power ∧ (State.superframe w s).pending = s.pending := by
  simp only [State.superframe]; (repeat' split) <;> simp

@[simp] theorem State.hwm_kept (w a : Nat) (s : State) : (State.hwm w a s).dome.power = s.dome.power ∧ (State.hwm w a s).pending = s.pending := by
  simp only [State.hwm]; (repeat' split) <;> simp

@[simp] theorem State.slotBoundary_kept (w : Nat) (s : State) :
    (State.slotBoundary w s).dome.power = s.dome.power ∧ (State.slotBoundary w s).pending = s.pending := by
  grind [State.slotBoundary, State.setWing, State.modWing, State.setWing_kept, State.jEntry_kept, State.setLineage_kept, State.superframe_kept, State.hwm_kept]

@[simp] theorem State.headerChecks_kept (w : Nat) (f : RxFrame) (s : State) :
    (State.headerChecks w f s).dome.power = s.dome.power ∧ (State.headerChecks w f s).pending = s.pending := by
  simp only [State.headerChecks]; (repeat' split) <;> simp

@[simp] theorem State.frameEnd_kept (w lane : Nat) (psdu : Octets) (fcsOk fcs4 : Bool) (mcs freq snr : Nat) (s : State) :
    (State.frameEnd w lane psdu fcsOk fcs4 mcs freq snr s).dome.power = s.dome.power ∧ (State.frameEnd w lane psdu fcsOk fcs4 mcs freq snr s).pending = s.pending := by
  simp only [State.frameEnd]; (repeat' split) <;> simp

@[simp] theorem State.ackAbort_kept (w id : Nat) (s : State) :
    (State.ackAbort w id s).dome.power = s.dome.power ∧ (State.ackAbort w id s).pending = s.pending := by
  simp only [State.ackAbort]; (repeat' split) <;> simp

@[simp] theorem State.failRx_kept (w : Nat) (f : RxFrame) (count : Nat → Wing → Wing) (s : State) :
    (State.failRx w f count s).dome.power = s.dome.power ∧ (State.failRx w f count s).pending = s.pending := by
  simp only [State.failRx]; (repeat' split) <;> simp

@[simp] theorem State.floodRelay_kept (w : Nat) (f : Flood) (s : State) :
    (State.floodRelay w f s).dome.power = s.dome.power ∧ (State.floodRelay w f s).pending = s.pending := by
  simp only [State.floodRelay]; (repeat' split) <;> simp

@[simp] theorem State.holdOrder_kept (w : Nat) (o : Order) (s : State) :
    (State.holdOrder w o s).dome.power = s.dome.power ∧ (State.holdOrder w o s).pending = s.pending := by
  simp only [State.holdOrder]; (repeat' split) <;> simp

@[simp] theorem State.floodHear_kept (w : Nat) (g : RxFrame) (p : Octets) (s : State) :
    (State.floodHear w g p s).dome.power = s.dome.power ∧ (State.floodHear w g p s).pending = s.pending := by
  simp only [State.floodHear]; (repeat' split) <;> simp

@[simp] theorem State.beaconTime_kept (w : Nat) (f : RxFrame) (s : State) :
    (State.beaconTime w f s).dome.power = s.dome.power ∧ (State.beaconTime w f s).pending = s.pending := by
  simp [State.beaconTime]

@[simp] theorem State.beaconDone_kept (w : Nat) (f : RxFrame) (s : State) :
    (State.beaconDone w f s).dome.power = s.dome.power ∧ (State.beaconDone w f s).pending = s.pending := by
  simp [State.beaconDone]

@[simp] theorem State.rxKey_kept (w : Nat) (f : RxFrame) (s : State) :
    (State.rxKey w f s).2.dome.power = s.dome.power ∧ (State.rxKey w f s).2.pending = s.pending := by
  simp [State.rxKey]

@[simp] theorem State.partnerStart_kept (w : Nat) (f : RxFrame) (p : Octets) (s : State) :
    (State.partnerStart w f p s).dome.power = s.dome.power ∧ (State.partnerStart w f p s).pending = s.pending := by
  simp only [State.partnerStart]; (repeat' split) <;> simp

@[simp] theorem State.micDone_kept (w : Nat) (f : RxFrame) (s : State) :
    (State.micDone w f s).dome.power = s.dome.power ∧ (State.micDone w f s).pending = s.pending := by
  grind [State.micDone, State.setWing, State.modWing, State.modWing_kept, State.beaconHear_kept, State.failRx_kept, State.floodHear_kept, State.beaconTime_kept, State.beaconDone_kept, State.rxKey_kept, State.partnerStart_kept]

@[simp] theorem State.ackPsdu_kept (w : Nat) (f : RxFrame) (s : State) :
    (State.ackPsdu w f s).2.dome.power = s.dome.power ∧ (State.ackPsdu w f s).2.pending = s.pending := by
  grind [State.ackPsdu, State.setWing, State.modWing, State.rxKey_kept]

@[simp] theorem State.ackEvaluate_kept (w : Nat) (f : RxFrame) (s : State) :
    (State.ackEvaluate w f s).dome.power = s.dome.power ∧ (State.ackEvaluate w f s).pending = s.pending := by
  grind [State.ackEvaluate, State.setWing, State.modWing, State.setWing_kept, State.modWing_kept, State.ackPsdu_kept]

@[simp] theorem State.resolveSlot_kept (w a : Nat) (s : State) :
    (State.resolveSlot w a s).dome.power = s.dome.power ∧ (State.resolveSlot w a s).pending = s.pending := by
  simp only [State.resolveSlot]; (repeat' split) <;> simp

@[simp] theorem State.floodFill_kept (w : Nat) (p : Octets) (s : State) :
    (State.floodFill w p s).2.dome.power = s.dome.power ∧ (State.floodFill w p s).2.pending = s.pending := by
  simp only [State.floodFill]; (repeat' split) <;> simp

@[simp] theorem State.counterFor_kept (w : Nat) (f : PendTx) (s : State) :
    (State.counterFor w f s).2.dome.power = s.dome.power ∧ (State.counterFor w f s).2.pending = s.pending := by
  unfold State.counterFor; (repeat' split) <;> simp

@[simp] theorem State.firstSend_kept (w : Nat) (f : PendTx) (s : State) :
    (State.firstSend w f s).2.dome.power = s.dome.power ∧ (State.firstSend w f s).2.pending = s.pending := by
  grind [State.firstSend, State.setWing, State.modWing, State.setWing_kept, State.modWing_kept, State.floodFill_kept, State.counterFor_kept]

@[simp] theorem State.beaconSend_kept (w : Nat) (s : State) :
    (State.beaconSend w s).2.dome.power = s.dome.power ∧ (State.beaconSend w s).2.pending = s.pending := by
  grind [State.beaconSend, State.setWing, State.modWing, State.setWing_kept, State.drawFc_kept]

@[simp] theorem State.fillReq_kept (w : Nat) (q : TxReq) (s : State) :
    (State.fillReq w q s).2.dome.power = s.dome.power ∧ (State.fillReq w q s).2.pending = s.pending := by
  unfold State.fillReq; (repeat' split) <;> simp

@[simp] theorem State.decisionPoint_kept (w : Nat) (s : State) :
    (State.decisionPoint w s).dome.power = s.dome.power ∧ (State.decisionPoint w s).pending = s.pending := by
  grind [State.decisionPoint, State.setWing, State.modWing, State.setWing_kept, State.txPoint_kept, State.fillReq_kept]

@[simp] theorem State.sweep_kept (w : Nat) (s : State) : (State.sweep w s).dome.power = s.dome.power ∧ (State.sweep w s).pending = s.pending := by
  simp [State.sweep]

@[simp] theorem State.radioOff_kept (w : Nat) (s : State) : (State.radioOff w s).dome.power = s.dome.power ∧ (State.radioOff w s).pending = s.pending := by
  simp [State.radioOff]

@[simp] theorem State.refuseWaiting_kept (w : Nat) (s : State) :
    (State.refuseWaiting w s).dome.power = s.dome.power ∧ (State.refuseWaiting w s).pending = s.pending := by
  simp [State.refuseWaiting]

@[simp] theorem State.enterReset_kept (w : Nat) (src : ResetSource) (s : State) :
    (State.enterReset w src s).dome.power = s.dome.power ∧ (State.enterReset w src s).pending = s.pending := by
  simp [State.enterReset]

@[simp] theorem State.latches_kept (w : Nat) (s : State) : (State.latches w s).dome.power = s.dome.power ∧ (State.latches w s).pending = s.pending := by
  simp only [State.latches]; (repeat' split) <;> simp

@[simp] theorem State.leaveReset_kept (w : Nat) (s : State) :
    (State.leaveReset w s).dome.power = s.dome.power ∧ (State.leaveReset w s).pending = s.pending := by
  simp [State.leaveReset]

theorem State.roomNb_kept (w : Nat) (s : State) : ∀ r, (State.roomNb w s) = some r → r.2.dome.power = s.dome.power ∧ r.2.pending = s.pending := by
  unfold State.roomNb; dsimp only; (repeat' split) <;> first | simp | exact kept_foldl_from _ (fun t a => by (try dsimp only); (repeat' split) <;> simp) _ _ _ (by (repeat' split) <;> simp) | grind [State.setWing_kept]

@[simp] theorem State.makeNb_kept (w i : Nat) (n : Nb) (s : State) :
    (State.makeNb w i n s).dome.power = s.dome.power ∧ (State.makeNb w i n s).pending = s.pending := by
  simp [State.makeNb]

@[simp] theorem State.admitCand_kept (w eui : Nat) (old : Option Nat) (c : Cand) (s : State) :
    (State.admitCand w eui old c s).dome.power = s.dome.power ∧ (State.admitCand w eui old c s).pending = s.pending := by
  have key : ∀ (b : Prop) [Decidable b] (u v t : State), u.dome.power = t.dome.power ∧ u.pending = t.pending →
      v.dome.power = t.dome.power ∧ v.pending = t.pending →
      (if b then u else v).dome.power = t.dome.power ∧ (if b then u else v).pending = t.pending := by
    intro b _ u v t h1 h2; split <;> assumption
  unfold State.admitCand
  dsimp only
  split
  · split <;> simp
  · split
    · exact key _ _ _ _ (by simp) (by simp)
    · split
      · exact key _ _ _ _ (by simp) (by simp)
      · split
        · simp only [State.modWing_dome, State.modWing_pending]; exact key _ _ _ _ (by simp) (by simp)
        · rename_i heq
          have := State.roomNb_kept w s _ heq
          dsimp only at this
          exact key _ _ _ _ (by simp [this.1, this.2]) (by simp [this.1, this.2])

@[simp] theorem State.meshSend_kept (w nb : Nat) (payload : Octets) (s : State) :
    (State.meshSend w nb payload s).2.dome.power = s.dome.power ∧ (State.meshSend w nb payload s).2.pending = s.pending := by
  simp [State.meshSend]

@[simp] theorem State.meshTell_kept (w nb typ : Nat) (body : Octets) (s : State) :
    (State.meshTell w nb typ body s).dome.power = s.dome.power ∧ (State.meshTell w nb typ body s).pending = s.pending := by
  simp [State.meshTell]

@[simp] theorem State.censusPass_kept (w : Nat) (rep : Octets) (s : State) :
    (State.censusPass w rep s).dome.power = s.dome.power ∧ (State.censusPass w rep s).pending = s.pending := by
  unfold State.censusPass; (repeat' split) <;> simp

@[simp] theorem State.orderAct_kept (w : Nat) (o : Order) (late : Bool) (s : State) :
    (State.orderAct w o late s).dome.power = s.dome.power ∧ (State.orderAct w o late s).pending = s.pending := by
  unfold State.orderAct; (repeat' split) <;> simp

@[simp] theorem State.orderRun_kept (w : Nat) (o : Order) (s : State) :
    (State.orderRun w o s).dome.power = s.dome.power ∧ (State.orderRun w o s).pending = s.pending := by
  simp [State.orderRun]

@[simp] theorem State.barrierEnd_kept (w : Nat) (b : Barrier) (s : State) :
    (State.barrierEnd w b s).dome.power = s.dome.power ∧ (State.barrierEnd w b s).pending = s.pending := by
  simp only [State.barrierEnd]; (repeat' split) <;> simp

@[simp] theorem State.multi_kept (w low k val off : Nat) (s : State) :
    (State.multi w low k val off s).2.dome.power = s.dome.power ∧ (State.multi w low k val off s).2.pending = s.pending := by
  simp [State.multi]

@[simp] theorem State.rc_kept (w reg : Nat) (s : State) : (State.rc w reg s).2.dome.power = s.dome.power ∧ (State.rc w reg s).2.pending = s.pending := by
  simp [State.rc]

@[simp] theorem State.lnkRead_kept (w a : Nat) (s : State) :
    (State.lnkRead w a s).2.dome.power = s.dome.power ∧ (State.lnkRead w a s).2.pending = s.pending := by
  unfold State.lnkRead; (repeat' split) <;> simp

@[simp] theorem State.mshRead_kept (w a : Nat) (s : State) :
    (State.mshRead w a s).2.dome.power = s.dome.power ∧ (State.mshRead w a s).2.pending = s.pending := by
  unfold State.mshRead; (repeat' split) <;> simp

@[simp] theorem State.accRead_kept (w a : Nat) (s : State) :
    (State.accRead w a s).2.dome.power = s.dome.power ∧ (State.accRead w a s).2.pending = s.pending := by
  simp [State.accRead]

@[simp] theorem State.twinBeat_kept (w : Nat) (s : State) : (State.twinBeat w s).dome.power = s.dome.power ∧ (State.twinBeat w s).pending = s.pending := by
  unfold State.twinBeat; (repeat' split) <;> simp

@[simp] theorem State.accWrite_kept (w a : Nat) (v : Word) (s : State) :
    (State.accWrite w a v s).dome.power = s.dome.power ∧ (State.accWrite w a v s).pending = s.pending := by
  unfold State.accWrite; (repeat' split) <;> simp

@[simp] theorem State.portRead_kept (w a : Nat) (s : State) :
    (State.portRead w a s).2.dome.power = s.dome.power ∧ (State.portRead w a s).2.pending = s.pending := by
  unfold State.portRead; (repeat' split) <;> simp

@[simp] theorem State.wingVal_kept (w idx sub : Nat) (e : Ent) (s : State) :
    (State.wingVal w idx sub e s).2.dome.power = s.dome.power ∧ (State.wingVal w idx sub e s).2.pending = s.pending := by
  simp only [State.wingVal]; (repeat' split) <;> simp

@[simp] theorem State.dpVal_kept (p : Bool) (idx sub : Nat) (e : Ent) (s : State) :
    (State.dpVal p idx sub e s).2.dome.power = s.dome.power ∧ (State.dpVal p idx sub e s).2.pending = s.pending := by
  unfold State.dpVal
  dsimp only
  split
  · simp
  · split
    · simp
    · split
      · exact ⟨rfl, rfl⟩
      · constructor <;> (simp only []; split <;> rfl)

@[simp] theorem State.catVal_kept (r : Realm) (idx sub : Nat) (e : Ent) (s : State) :
    (State.catVal r idx sub e s).2.dome.power = s.dome.power ∧ (State.catVal r idx sub e s).2.pending = s.pending := by
  simp only [State.catVal]; (repeat' split) <;> simp

@[simp] theorem State.catRecord_kept (r : Realm) (idx : Nat) (s : State) :
    (State.catRecord r idx s).2.dome.power = s.dome.power ∧ (State.catRecord r idx s).2.pending = s.pending := by
  unfold State.catRecord
  exact kept_fold2 _ (fun b t a => by dsimp only; split <;> simp) _ _ _

@[simp] theorem State.putBoot_kept (w v : Nat) (s : State) :
    (State.putBoot w v s).dome.power = s.dome.power ∧ (State.putBoot w v s).pending = s.pending := by
  simp [State.putBoot]

@[simp] theorem State.tellUpdate_kept (w code : Nat) (s : State) :
    (State.tellUpdate w code s).dome.power = s.dome.power ∧ (State.tellUpdate w code s).pending = s.pending := by
  unfold State.tellUpdate; (repeat' split) <;> simp

@[simp] theorem State.bootUpdate_kept (w : Nat) (s : State) :
    (State.bootUpdate w s).dome.power = s.dome.power ∧ (State.bootUpdate w s).pending = s.pending := by
  simp only [State.bootUpdate]; (repeat' split) <;> simp

@[simp] theorem State.bootRollback_kept (w : Nat) (s : State) :
    (State.bootRollback w s).dome.power = s.dome.power ∧ (State.bootRollback w s).pending = s.pending := by
  simp only [State.bootRollback]; (repeat' split) <;> simp

@[simp] theorem State.bootSlot_kept (w : Nat) (s : State) : (State.bootSlot w s).dome.power = s.dome.power ∧ (State.bootSlot w s).pending = s.pending := by
  simp only [State.bootSlot]; (repeat' split) <;> simp

@[simp] theorem State.putPosition_kept (w gen leaf : Nat) (s : State) :
    (State.putPosition w gen leaf s).dome.power = s.dome.power ∧ (State.putPosition w gen leaf s).pending = s.pending := by
  simp [State.putPosition]

@[simp] theorem State.newKey_kept (s : State) : (State.newKey s).2.dome.power = s.dome.power ∧ (State.newKey s).2.pending = s.pending := by
  simp [State.newKey]

@[simp] theorem State.provision_kept (w gen : Nat) (s : State) :
    (State.provision w gen s).dome.power = s.dome.power ∧ (State.provision w gen s).pending = s.pending := by
  simp only [State.provision]; (repeat' split) <;> simp

@[simp] theorem State.certify_kept (w : Nat) (s : State) : (State.certify w s).dome.power = s.dome.power ∧ (State.certify w s).pending = s.pending := by
  simp only [State.certify]; (repeat' split) <;> simp

@[simp] theorem State.bootAttest_kept (w : Nat) (s : State) :
    (State.bootAttest w s).dome.power = s.dome.power ∧ (State.bootAttest w s).pending = s.pending := by
  simp only [State.bootAttest]; (repeat' split) <;> simp

@[simp] theorem State.provenance_kept (w : Nat) (challenge : Octets) (s : State) :
    (State.provenance w challenge s).2.dome.power = s.dome.power ∧ (State.provenance w challenge s).2.pending = s.pending := by
  simp only [State.provenance]; (repeat' split) <;> simp

@[simp] theorem State.rerootSteps_kept (w : Nat) (s : State) :
    (State.rerootSteps w s).dome.power = s.dome.power ∧ (State.rerootSteps w s).pending = s.pending := by
  simp [State.rerootSteps]

@[simp] theorem State.rootWrite_kept (w : Nat) (value : Octets) (s : State) :
    (State.rootWrite w value s).2.dome.power = s.dome.power ∧ (State.rootWrite w value s).2.pending = s.pending := by
  simp only [State.rootWrite]; (repeat' split) <;> simp

@[simp] theorem State.closeSession_kept (n : Nat) (s : State) :
    (State.closeSession n s).dome.power = s.dome.power ∧ (State.closeSession n s).pending = s.pending := by
  unfold State.closeSession
  exact kept_foldl_from _ (fun t a => by (try dsimp only); (repeat' split) <;> simp) _ _ _ (by (repeat' split) <;> simp)

@[simp] theorem State.mbAck_kept (w m : Nat) (code : Octet) (s : State) :
    (State.mbAck w m code s).dome.power = s.dome.power ∧ (State.mbAck w m code s).pending = s.pending := by
  simp only [State.mbAck]; (repeat' split) <;> simp

@[simp] theorem State.mbxWrite_kept (w a : Nat) (v : Word) (s : State) :
    (State.mbxWrite w a v s).dome.power = s.dome.power ∧ (State.mbxWrite w a v s).pending = s.pending := by
  simp only [State.mbxWrite]; (repeat' split) <;> simp

@[simp] theorem State.cpuRead_kept (applet : Bool) (w a : Nat) (s : State) :
    (State.cpuRead applet w a s).2.dome.power = s.dome.power ∧ (State.cpuRead applet w a s).2.pending = s.pending := by
  simp only [State.cpuRead]; (repeat' split) <;> simp

@[simp] theorem State.wdtExpire_kept (w : Nat) (s : State) :
    (State.wdtExpire w s).dome.power = s.dome.power ∧ (State.wdtExpire w s).pending = s.pending := by
  simp [State.wdtExpire]

@[simp] theorem State.wdtKick_kept (w : Nat) (v : Word) (s : State) :
    (State.wdtKick w v s).dome.power = s.dome.power ∧ (State.wdtKick w v s).pending = s.pending := by
  unfold State.wdtKick; (repeat' split) <;> simp

@[simp] theorem State.cpuWrite_kept (applet : Bool) (w a : Nat) (v : Word) (s : State) :
    (State.cpuWrite applet w a v s).dome.power = s.dome.power ∧ (State.cpuWrite applet w a v s).pending = s.pending := by
  unfold State.cpuWrite; (repeat' split) <;> simp

@[simp] theorem State.regRead_kept (applet : Bool) (w a : Nat) (s : State) :
    (State.regRead applet w a s).2.dome.power = s.dome.power ∧ (State.regRead applet w a s).2.pending = s.pending := by
  simp only [State.regRead]; (repeat' split) <;> simp

@[simp] theorem State.bridgeOut_kept (w : Nat) (s : State) :
    (State.bridgeOut w s).dome.power = s.dome.power ∧ (State.bridgeOut w s).pending = s.pending := by
  unfold State.bridgeOut; dsimp only; (repeat' split) <;> first | simp | exact kept_foldl_from _ (fun t a => by (try dsimp only); (repeat' split) <;> simp) _ _ _ (by (repeat' split) <;> simp) | grind [State.modWing_kept, State.event_kept]

@[simp] theorem State.ringRegWrite_kept (w off : Nat) (v : Word) (s : State) :
    (State.ringRegWrite w off v s).dome.power = s.dome.power ∧ (State.ringRegWrite w off v s).pending = s.pending := by
  unfold State.ringRegWrite; (repeat' split) <;> simp

@[simp] theorem State.regWrite_kept (applet : Bool) (w a : Nat) (v : Word) (s : State) :
    (State.regWrite applet w a v s).dome.power = s.dome.power ∧ (State.regWrite applet w a v s).pending = s.pending := by
  unfold State.regWrite; (repeat' split) <;> simp

@[simp] theorem State.busRead_kept (applet : Bool) (w a : Nat) (s : State) :
    (State.busRead applet w a s).2.dome.power = s.dome.power ∧ (State.busRead applet w a s).2.pending = s.pending := by
  unfold State.busRead; (repeat' split) <;> simp

@[simp] theorem State.busWrite_kept (applet : Bool) (w a : Nat) (v : Word) (s : State) :
    (State.busWrite applet w a v s).dome.power = s.dome.power ∧ (State.busWrite applet w a v s).pending = s.pending := by
  unfold State.busWrite; (repeat' split) <;> simp

@[simp] theorem State.regLook_kept (applet : Bool) (w a : Nat) (s : State) :
    (State.regLook applet w a s).dome.power = s.dome.power ∧ (State.regLook applet w a s).pending = s.pending := by
  simp only [State.regLook]; (repeat' split) <;> simp

end Sys2Proof.Machine
end

