-- ==== Sys2Proof/Laws/KeptC.lean ====
section
/-! SUPPORT. What every operation keeps: the Dome outside what other units write, and the queue (Operands.lean to FeranOps.lean). -/
namespace Sys2Proof.Machine
open Sys2Proof

@[simp] theorem State.eaRead_kept (w : Nat) (ea : Word) (s : State) :
    (State.eaRead w ea s).2.dome.power = s.dome.power ∧ (State.eaRead w ea s).2.pending = s.pending := by
  simp [State.eaRead]

@[simp] theorem State.eaWrite_kept (w : Nat) (ea v : Word) (s : State) :
    (State.eaWrite w ea v s).dome.power = s.dome.power ∧ (State.eaWrite w ea v s).pending = s.pending := by
  simp [State.eaWrite]

@[simp] theorem State.modCore_kept (w : Nat) (f : Core → Core) (s : State) :
    (State.modCore w f s).dome.power = s.dome.power ∧ (State.modCore w f s).pending = s.pending := by
  simp [State.modCore]

@[simp] theorem State.lastFault_kept (w vec pc : Nat) (op : Word) (applet : Bool) (s : State) :
    (State.lastFault w vec pc op applet s).dome.power = s.dome.power ∧ (State.lastFault w vec pc op applet s).pending = s.pending := by
  simp [State.lastFault]

@[simp] theorem State.lockUp_kept (w vec : Nat) (at_ : BitVec 24) (op : Word) (s : State) :
    (State.lockUp w vec at_ op s).dome.power = s.dome.power ∧ (State.lockUp w vec at_ op s).pending = s.pending := by
  simp [State.lockUp]

@[simp] theorem State.trapEnter_kept (w vec : Nat) (saved at_ : BitVec 24) (op : Word) (s : State) :
    (State.trapEnter w vec saved at_ op s).dome.power = s.dome.power ∧ (State.trapEnter w vec saved at_ op s).pending = s.pending := by
  simp only [State.trapEnter]; (repeat' split) <;> simp

@[simp] theorem State.interrupt_kept (w : Nat) (s : State) :
    (State.interrupt w s).dome.power = s.dome.power ∧ (State.interrupt w s).pending = s.pending := by
  simp [State.interrupt]

@[simp] theorem State.dropFrame_kept (w : Nat) (s : State) :
    (State.dropFrame w s).dome.power = s.dome.power ∧ (State.dropFrame w s).pending = s.pending := by
  simp [State.dropFrame]

@[simp] theorem State.appletTell_kept (w : Nat) (s : State) :
    (State.appletTell w s).dome.power = s.dome.power ∧ (State.appletTell w s).pending = s.pending := by
  simp [State.appletTell]

@[simp] theorem State.appletEnd_kept (w : Nat) (st : AppletState) (cause : Nat) (exit : Word) (s : State) :
    (State.appletEnd w st cause exit s).dome.power = s.dome.power ∧ (State.appletEnd w st cause exit s).pending = s.pending := by
  simp only [State.appletEnd]; (repeat' split) <;> simp

@[simp] theorem State.raiseTrap_kept (w : Nat) (op : Word) (t : Trap) (s : State) :
    (State.raiseTrap w op t s).dome.power = s.dome.power ∧ (State.raiseTrap w op t s).pending = s.pending := by
  simp only [State.raiseTrap]; (repeat' split) <;> simp

theorem State.fetchFault_kept (w len : Nat) (s : State) :
    ∀ r, (State.fetchFault w len s) = some r → r.2.dome.power = s.dome.power ∧ r.2.pending = s.pending := by
  simp only [State.fetchFault]; (repeat' split) <;> simp

@[simp] theorem State.halt_kept (w : Nat) (s : State) : (State.halt w s).dome.power = s.dome.power ∧ (State.halt w s).pending = s.pending := by
  simp [State.halt]

@[simp] theorem State.svc_kept (w : Nat) (n : Nat) (op : Word) (s : State) :
    (State.svc w n op s).dome.power = s.dome.power ∧ (State.svc w n op s).pending = s.pending := by
  simp only [State.svc]; (repeat' split) <;> simp

@[simp] theorem State.brk_kept (w : Nat) (op : Word) (s : State) :
    (State.brk w op s).dome.power = s.dome.power ∧ (State.brk w op s).pending = s.pending := by
  simp only [State.brk]; (repeat' split) <;> simp

theorem State.reti_kept (w : Nat) (s : State) : ∀ t, (State.reti w s) = .ok t → t.dome.power = s.dome.power ∧ t.pending = s.pending := by
  simp only [State.reti]; (repeat' split) <;> simp

@[simp] theorem State.svcReturn_kept (w : Nat) (z : Option Bool) (s : State) :
    (State.svcReturn w z s).dome.power = s.dome.power ∧ (State.svcReturn w z s).pending = s.pending := by
  grind [State.svcReturn, State.setWing, State.modWing, State.modCore_kept, State.reti_kept]

@[simp] theorem State.appletStart_kept (w : Nat) (s : State) :
    (State.appletStart w s).dome.power = s.dome.power ∧ (State.appletStart w s).pending = s.pending := by
  simp only [State.appletStart]; (repeat' split) <;> simp

@[simp] theorem State.appletResume_kept (w : Nat) (s : State) :
    (State.appletResume w s).dome.power = s.dome.power ∧ (State.appletResume w s).pending = s.pending := by
  simp [State.appletResume]

@[simp] theorem State.ring14In_kept (w : Nat) (s : State) : (State.ring14In w s).dome.power = s.dome.power ∧ (State.ring14In w s).pending = s.pending := by
  unfold State.ring14In; (repeat' split) <;> simp

@[simp] theorem State.portReset_kept (s : State) : (State.portReset s).dome.power = s.dome.power ∧ (State.portReset s).pending = s.pending := by
  simp [State.portReset]

@[simp] theorem State.portStart_kept (s : State) : (State.portStart s).dome.power = s.dome.power ∧ (State.portStart s).pending = s.pending := by
  simp [State.portStart]

@[simp] theorem State.resetWings_kept (keep : Option Nat) (src : ResetSource) (s : State) :
    (State.resetWings keep src s).dome.power = s.dome.power ∧ (State.resetWings keep src s).pending = s.pending := by
  unfold State.resetWings
  exact kept_foldl_from _ (fun t a => by (try dsimp only); (repeat' split) <;> simp) _ _ _ (by (repeat' split) <;> simp)

@[simp] theorem State.pllLost_kept (w : Nat) (why : Nat) (s : State) :
    (State.pllLost w why s).dome.power = s.dome.power ∧ (State.pllLost w why s).pending = s.pending := by
  simp [State.pllLost]

@[simp] theorem State.replayItems_kept (w : Nat) (s : State) :
    (State.replayItems w s).dome.power = s.dome.power ∧ (State.replayItems w s).pending = s.pending := by
  simp [State.replayItems]

@[simp] theorem State.holdItems_kept (w : Nat) (s : State) :
    (State.holdItems w s).dome.power = s.dome.power ∧ (State.holdItems w s).pending = s.pending := by
  simp [State.holdItems]

@[simp] theorem State.putPairState_kept (p : Nat) (st : PairState) (s : State) :
    (State.putPairState p st s).dome.power = s.dome.power ∧ (State.putPairState p st s).pending = s.pending := by
  simp only [State.putPairState]; (repeat' split) <;> simp

@[simp] theorem State.sealResolve_kept (w typ acc : Nat) (single : Bool) (s : State) :
    (State.sealResolve w typ acc single s).dome.power = s.dome.power ∧ (State.sealResolve w typ acc single s).pending = s.pending := by
  unfold State.sealResolve; (repeat' split) <;> simp

@[simp] theorem State.sealDrop_kept (w : Nat) (s : State) : (State.sealDrop w s).dome.power = s.dome.power ∧ (State.sealDrop w s).pending = s.pending := by
  simp [State.sealDrop]

@[simp] theorem State.hostReset_kept (w : Nat) (s : State) :
    (State.hostReset w s).dome.power = s.dome.power ∧ (State.hostReset w s).pending = s.pending := by
  unfold State.hostReset; (repeat' split) <;> simp

@[simp] theorem State.degrade_kept (p : Nat) (s : State) : (State.degrade p s).dome.power = s.dome.power ∧ (State.degrade p s).pending = s.pending := by
  simp only [State.degrade]; (repeat' split) <;> simp

@[simp] theorem State.giveToken_kept (p w cause : Nat) (s : State) :
    (State.giveToken p w cause s).dome.power = s.dome.power ∧ (State.giveToken p w cause s).pending = s.pending := by
  simp [State.giveToken]

@[simp] theorem State.takeWork_kept (w : Nat) (s : State) : (State.takeWork w s).dome.power = s.dome.power ∧ (State.takeWork w s).pending = s.pending := by
  simp [State.takeWork]

@[simp] theorem State.failPair_kept (p cause : Nat) (s : State) :
    (State.failPair p cause s).dome.power = s.dome.power ∧ (State.failPair p cause s).pending = s.pending := by
  simp only [State.failPair]; (repeat' split) <;> simp

@[simp] theorem State.countTakeover_kept (p : Nat) (s : State) :
    (State.countTakeover p s).dome.power = s.dome.power ∧ (State.countTakeover p s).pending = s.pending := by
  exact ⟨rfl, rfl⟩

@[simp] theorem State.takeover_kept (p cause : Nat) (s : State) :
    (State.takeover p cause s).dome.power = s.dome.power ∧ (State.takeover p cause s).pending = s.pending := by
  simp only [State.takeover]; (repeat' split) <;> simp

@[simp] theorem State.pairReleased_kept (w : Nat) (s : State) :
    (State.pairReleased w s).dome.power = s.dome.power ∧ (State.pairReleased w s).pending = s.pending := by
  simp only [State.pairReleased]; (repeat' split) <;> simp

@[simp] theorem State.pairWrite_kept (p a b : Nat) (s : State) :
    (State.pairWrite p a b s).2.dome.power = s.dome.power ∧ (State.pairWrite p a b s).2.pending = s.pending := by
  simp only [State.pairWrite]; (repeat' split) <;> simp

@[simp] theorem State.switchAsk_kept (p value : Nat) (s : State) :
    (State.switchAsk p value s).2.dome.power = s.dome.power ∧ (State.switchAsk p value s).2.pending = s.pending := by
  simp only [State.switchAsk]; (repeat' split) <;> simp

@[simp] theorem State.relayOk_kept (w m : Nat) (s : State) :
    (State.relayOk w m s).dome.power = s.dome.power ∧ (State.relayOk w m s).pending = s.pending := by
  simp [State.relayOk]

@[simp] theorem State.seedOn_kept (w since : Nat) (s : State) :
    (State.seedOn w since s).dome.power = s.dome.power ∧ (State.seedOn w since s).pending = s.pending := by
  simp only [State.seedOn]; (repeat' split) <;> simp

@[simp] theorem State.memWrite_kept (w : Nat) (os : Octets) (s : State) :
    (State.memWrite w os s).dome.power = s.dome.power ∧ (State.memWrite w os s).pending = s.pending := by
  simp [State.memWrite]

@[simp] theorem State.memRead_kept (w n : Nat) (s : State) :
    (State.memRead w n s).2.dome.power = s.dome.power ∧ (State.memRead w n s).2.pending = s.pending := by
  simp [State.memRead]

@[simp] theorem State.unhalt_kept (w : Nat) (s : State) : (State.unhalt w s).dome.power = s.dome.power ∧ (State.unhalt w s).pending = s.pending := by
  simp [State.unhalt]

@[simp] theorem State.runWrite_kept (w : Nat) (on : Bool) (s : State) :
    (State.runWrite w on s).dome.power = s.dome.power ∧ (State.runWrite w on s).pending = s.pending := by
  simp only [State.runWrite]; (repeat' split) <;> simp

@[simp] theorem State.appletIn_kept (w : Nat) (os : Octets) (s : State) :
    (State.appletIn w os s).dome.power = s.dome.power ∧ (State.appletIn w os s).pending = s.pending := by
  simp [State.appletIn]

@[simp] theorem State.restoreWing_kept (w : Nat) (tables : Bool) (s : State) :
    (State.restoreWing w tables s).dome.power = s.dome.power ∧ (State.restoreWing w tables s).pending = s.pending := by
  unfold State.restoreWing; (repeat' split) <;> simp

@[simp] theorem State.nbPut_kept (w i : Nat) (ps : List Put) (s : State) :
    (State.nbPut w i ps s).dome.power = s.dome.power ∧ (State.nbPut w i ps s).pending = s.pending := by
  simp only [State.nbPut]; (repeat' split) <;> simp

@[simp] theorem State.watchMark_kept (w : Nat) (s : State) :
    (State.watchMark w s).dome.power = s.dome.power ∧ (State.watchMark w s).pending = s.pending := by
  unfold State.watchMark
  split
  · exact ⟨rfl, rfl⟩
  · exact ⟨(State.jWrite_kept ..).1, (State.jWrite_kept ..).2⟩

@[simp] theorem State.gridNow_kept (w : Nat) (s : State) :
    (State.gridNow w s).dome.power = s.dome.power ∧ (State.gridNow w s).pending = s.pending := by
  simp only [State.gridNow]; split <;> simp

@[simp] theorem State.freshGrid_kept (w : Nat) (s : State) :
    (State.freshGrid w s).dome.power = s.dome.power ∧ (State.freshGrid w s).pending = s.pending := by
  simp only [State.freshGrid]; (repeat' split) <;> simp

@[simp] theorem State.keepGrid_kept (w : Nat) (s : State) : (State.keepGrid w s).dome.power = s.dome.power ∧ (State.keepGrid w s).pending = s.pending := by
  unfold State.keepGrid; (repeat' split) <;> simp

@[simp] theorem State.enterRunning_kept (w : Nat) (s : State) :
    (State.enterRunning w s).dome.power = s.dome.power ∧ (State.enterRunning w s).pending = s.pending := by
  simp only [State.enterRunning]; (repeat' split) <;> simp

@[simp] theorem State.enterStopped_kept (w : Nat) (s : State) :
    (State.enterStopped w s).dome.power = s.dome.power ∧ (State.enterStopped w s).pending = s.pending := by
  simp only [State.enterStopped]; (repeat' split) <;> simp

@[simp] theorem State.stopWrite_kept (w : Nat) (v : Bool) (s : State) :
    (State.stopWrite w v s).dome.power = s.dome.power ∧ (State.stopWrite w v s).pending = s.pending := by
  simp only [State.stopWrite]; (repeat' split) <;> simp

@[simp] theorem State.putWing_kept (w idx : Nat) (p : Put) (s : State) :
    (State.putWing w idx p s).dome.power = s.dome.power ∧ (State.putWing w idx p s).pending = s.pending := by
  simp only [State.putWing]; (repeat' split) <;> simp

@[simp] theorem State.wingStore_kept (w : Nat) (who : Option Nat) (codes : List Nat) (s : State) :
    (State.wingStore w who codes s).dome.power = s.dome.power ∧ (State.wingStore w who codes s).pending = s.pending := by
  simp [State.wingStore]

@[simp] theorem State.wingControl_kept (w : Nat) (ps : List Put) (who : Option Nat) (s : State) :
    (State.wingControl w ps who s).2.dome.power = s.dome.power ∧ (State.wingControl w ps who s).2.pending = s.pending := by
  unfold State.wingControl; (repeat' split) <;> simp

@[simp] theorem State.commitWing_kept (w idx : Nat) (ps : List Put) (who : Option Nat) (s : State) :
    (State.commitWing w idx ps who s).2.dome.power = s.dome.power ∧ (State.commitWing w idx ps who s).2.pending = s.pending := by
  simp only [State.commitWing]; (repeat' split) <;> simp

@[simp] theorem State.wingWrite_kept (w idx : Nat) (a : Actor) (own : Option Nat) (ps : List Put) (lenOk : Bool) (s : State) :
    (State.wingWrite w idx a own ps lenOk s).2.dome.power = s.dome.power ∧ (State.wingWrite w idx a own ps lenOk s).2.pending = s.pending := by
  simp only [State.wingWrite]; (repeat' split) <;> simp

@[simp] theorem State.pairedWrite_kept (p idx : Nat) (a : Actor) (own : Option Nat) (ps : List Put) (lenOk : Bool) (s : State) :
    (State.pairedWrite p idx a own ps lenOk s).2.dome.power = s.dome.power ∧ (State.pairedWrite p idx a own ps lenOk s).2.pending = s.pending := by
  simp only [State.pairedWrite]; (repeat' split) <;> simp

@[simp] theorem State.trimPush_kept (s : State) : (State.trimPush s).dome.power = s.dome.power ∧ (State.trimPush s).pending = s.pending := by
  simp [State.trimPush]

@[simp] theorem State.watchWrite_kept (v : Nat) (s : State) :
    (State.watchWrite v s).dome.power = s.dome.power ∧ (State.watchWrite v s).pending = s.pending := by
  unfold State.watchWrite State.modDome
  dsimp only
  split <;> exact ⟨rfl, rfl⟩

@[simp] theorem State.cellClear_kept (s : State) : (State.cellClear s).dome.power = s.dome.power ∧ (State.cellClear s).pending = s.pending := by
  unfold State.cellClear
  split
  · exact ⟨rfl, rfl⟩
  · exact ⟨(State.event_kept ..).1, (State.event_kept ..).2⟩

@[simp] theorem State.commitDome_kept (idx : Nat) (ps : List Put) (who : Option Nat) (s : State) :
    (State.commitDome idx ps who s).2.dome.power = s.dome.power ∧ (State.commitDome idx ps who s).2.pending = s.pending := by
  simp only [State.commitDome]; (repeat' split) <;> simp

@[simp] theorem State.closeCredential_kept (c : Nat) (s : State) :
    (State.closeCredential c s).dome.power = s.dome.power ∧ (State.closeCredential c s).pending = s.pending := by
  unfold State.closeCredential
  exact kept_foldl_from _ (fun t a => by (try dsimp only); (repeat' split) <;> simp) _ _ _ (by (repeat' split) <;> simp)

@[simp] theorem State.commitPort_kept (idx : Nat) (ps : List Put) (who : Option Nat) (s : State) :
    (State.commitPort idx ps who s).2.dome.power = s.dome.power ∧ (State.commitPort idx ps who s).2.pending = s.pending := by
  simp only [State.commitPort]; (repeat' split) <;> simp

@[simp] theorem State.catWrite_kept (r : Realm) (idx : Nat) (a : Actor) (own : Option Nat) (ps : List Put) (lenOk : Bool) (s : State) :
    (State.catWrite r idx a own ps lenOk s).2.dome.power = s.dome.power ∧ (State.catWrite r idx a own ps lenOk s).2.pending = s.pending := by
  unfold State.catWrite; (repeat' split) <;> simp

@[simp] theorem State.readValue_kept (r : Realm) (idx sub : Nat) (e : Ent) (s : State) :
    (State.readValue r idx sub e s).2.dome.power = s.dome.power ∧ (State.readValue r idx sub e s).2.pending = s.pending := by
  simp only [State.readValue]; (repeat' split) <;> simp

@[simp] theorem State.catRequest_kept (op : Nat) (r : Realm) (idx sub : Nat) (value : Octets) (room : Nat) (a : Actor) (s : State) :
    (State.catRequest op r idx sub value room a s).2.dome.power = s.dome.power ∧ (State.catRequest op r idx sub value room a s).2.pending = s.pending := by
  unfold State.catRequest
  dsimp only
  split
  · simp
  · split
    · split
      · simp
      · rename_i e _
        split
        · simp
        · have h := State.readValue_kept r idx sub e s
          split <;> rename_i heq <;> rw [heq] at h
          · simp
          · split
            · exact h
            · exact ⟨rfl, rfl⟩
    · (repeat' split) <;> simp
    · (repeat' split) <;> simp
    · (repeat' split) <;> simp

@[simp] theorem State.postNotice_kept (w n : Nat) (s : State) :
    (State.postNotice w n s).dome.power = s.dome.power ∧ (State.postNotice w n s).pending = s.pending := by
  simp only [State.postNotice]; (repeat' split) <;> simp

@[simp] theorem State.wingRespond_kept (w n : Nat) (st : Status) (more : Bool) (body : Octets) (s : State) :
    (State.wingRespond w n st more body s).dome.power = s.dome.power ∧ (State.wingRespond w n st more body s).pending = s.pending := by
  unfold State.wingRespond; (repeat' split) <;> simp

@[simp] theorem State.opRetire_kept (w first last : Nat) (s : State) :
    (State.opRetire w first last s).2.dome.power = s.dome.power ∧ (State.opRetire w first last s).2.pending = s.pending := by
  simp only [State.opRetire]; (repeat' split) <;> simp

@[simp] theorem State.intakeAll_kept (w : Nat) (s : State) :
    (State.intakeAll w s).dome.power = s.dome.power ∧ (State.intakeAll w s).pending = s.pending := by
  unfold State.intakeAll
  split
  · exact kept_iter _ (fun u => State.intake_kept w u) _ _
  · exact ⟨rfl, rfl⟩

@[simp] theorem State.opQuery_kept (w n mode key cred : Nat) (s : State) :
    (State.opQuery w n mode key cred s).2.dome.power = s.dome.power ∧ (State.opQuery w n mode key cred s).2.pending = s.pending := by
  simp only [State.opQuery]; split <;> simp

@[simp] theorem State.queryPump_kept (w : Nat) (s : State) :
    (State.queryPump w s).dome.power = s.dome.power ∧ (State.queryPump w s).pending = s.pending := by
  simp only [State.queryPump]
  exact kept_foldl_from _ (fun t q => State.wingRespond_kept ..) _ _ _ (State.modWing_kept ..)

@[simp] theorem State.disarm_kept (w : Nat) (s : State) : (State.disarm w s).dome.power = s.dome.power ∧ (State.disarm w s).pending = s.pending := by
  simp only [State.disarm]; (repeat' split) <;> simp

@[simp] theorem State.opStageErase_kept (w n : Nat) (s : State) :
    (State.opStageErase w n s).2.dome.power = s.dome.power ∧ (State.opStageErase w n s).2.pending = s.pending := by
  unfold State.opStageErase; split <;> simp

@[simp] theorem State.opStageWrite_kept (w n off len : Nat) (s : State) :
    (State.opStageWrite w n off len s).2.dome.power = s.dome.power ∧ (State.opStageWrite w n off len s).2.pending = s.pending := by
  simp only [State.opStageWrite]; (repeat' split) <;> simp

@[simp] theorem State.opOrder_kept (w : Nat) (body : Octets) (s : State) :
    (State.opOrder w body s).2.dome.power = s.dome.power ∧ (State.opOrder w body s).2.pending = s.pending := by
  simp only [State.opOrder]; (repeat' split) <;> simp

@[simp] theorem State.opForward_kept (w : Nat) (q : WaitReq) (body : Octets) (s : State) :
    (State.opForward w q body s).2.dome.power = s.dome.power ∧ (State.opForward w q body s).2.pending = s.pending := by
  grind [State.opForward, State.setWing, State.modWing, State.meshSend_kept]

@[simp] theorem State.forwardEnd_kept (f : Fwd) (st : Status) (body : Octets) (s : State) :
    (State.forwardEnd f st body s).dome.power = s.dome.power ∧ (State.forwardEnd f st body s).pending = s.pending := by
  simp [State.forwardEnd]

@[simp] theorem State.meshReply_kept (w nb trans : Nat) (st : Status) (value : Octets) (s : State) :
    (State.meshReply w nb trans st value s).dome.power = s.dome.power ∧ (State.meshReply w nb trans st value s).pending = s.pending := by
  simp [State.meshReply]

@[simp] theorem State.meshRequest_kept (w nb trans : Nat) (b : Octets) (s : State) :
    (State.meshRequest w nb trans b s).dome.power = s.dome.power ∧ (State.meshRequest w nb trans b s).pending = s.pending := by
  grind [State.meshRequest, State.setWing, State.modWing, State.catRequest_kept, State.meshReply_kept]

@[simp] theorem State.meshFeran_kept (w : Nat) (i : Item) (p : Octets) (s : State) :
    (State.meshFeran w i p s).dome.power = s.dome.power ∧ (State.meshFeran w i p s).pending = s.pending := by
  simp only [State.meshFeran]; (repeat' split) <;> simp

end Sys2Proof.Machine
end

