-- ==== Sys2Proof/Laws/KeptD.lean ====
section
/-! SUPPORT. What every operation keeps: the Dome outside what other units write, and the queue (Domain.lean to CoreMem.lean). -/
namespace Sys2Proof.Machine
open Sys2Proof

@[simp] theorem State.modTransfers_kept (n : Nat) (f : List Transfer → List Transfer) (s : State) :
    (State.modTransfers n f s).dome.power = s.dome.power ∧ (State.modTransfers n f s).pending = s.pending := by
  simp [State.modTransfers]

@[simp] theorem State.beginTransfer_kept (n : Nat) (r : Realm) (t : Transfer) (s : State) :
    (State.beginTransfer n r t s).dome.power = s.dome.power ∧ (State.beginTransfer n r t s).pending = s.pending := by
  simp [State.beginTransfer]

@[simp] theorem State.domainBegin_kept (n : Nat) (r : Realm) (idx sub : Nat) (e : Ent) (wr : Bool) (len : Nat) (s : State) :
    (State.domainBegin n r idx sub e wr len s).2.dome.power = s.dome.power ∧ (State.domainBegin n r idx sub e wr len s).2.pending = s.pending := by
  simp only [State.domainBegin]; (repeat' split) <;> simp

@[simp] theorem State.putTransfer_kept (n : Nat) (r : Realm) (t : Transfer) (s : State) :
    (State.putTransfer n r t s).dome.power = s.dome.power ∧ (State.putTransfer n r t s).pending = s.pending := by
  simp [State.putTransfer]

@[simp] theorem State.endTransfer_kept (n : Nat) (r : Realm) (idx sub : Nat) (s : State) :
    (State.endTransfer n r idx sub s).dome.power = s.dome.power ∧ (State.endTransfer n r idx sub s).pending = s.pending := by
  simp [State.endTransfer]

@[simp] theorem State.blockWrite_kept (n : Nat) (r : Realm) (t : Transfer) (off : Nat) (data : Octets) (s : State) :
    (State.blockWrite n r t off data s).2.dome.power = s.dome.power ∧ (State.blockWrite n r t off data s).2.pending = s.pending := by
  unfold State.blockWrite; (repeat' split) <;> simp

@[simp] theorem State.blockRead_kept (n : Nat) (r : Realm) (e : Ent) (t : Transfer) (off count : Nat) (s : State) :
    (State.blockRead n r e t off count s).2.dome.power = s.dome.power ∧ (State.blockRead n r e t off count s).2.pending = s.pending := by
  grind [State.blockRead, State.setWing, State.modWing, State.readValue_kept, State.putTransfer_kept, State.endTransfer_kept]

@[simp] theorem State.domainBlock_kept (n : Nat) (r : Realm) (idx sub : Nat) (e : Ent) (off : Nat) (rest : Octets) (s : State) :
    (State.domainBlock n r idx sub e off rest s).2.dome.power = s.dome.power ∧ (State.domainBlock n r idx sub e off rest s).2.pending = s.pending := by
  unfold State.domainBlock; (repeat' split) <;> simp

@[simp] theorem State.domainEnd_kept (n : Nat) (r : Realm) (idx sub : Nat) (e : Ent) (s : State) :
    (State.domainEnd n r idx sub e s).2.dome.power = s.dome.power ∧ (State.domainEnd n r idx sub e s).2.pending = s.pending := by
  grind [State.domainEnd, State.setWing, State.modWing, State.catWrite_kept, State.endTransfer_kept]

@[simp] theorem State.opDomain_kept (op n : Nat) (r : Realm) (body : Octets) (s : State) :
    (State.opDomain op n r body s).2.dome.power = s.dome.power ∧ (State.opDomain op n r body s).2.pending = s.pending := by
  simp only [State.opDomain]; (repeat' split) <;> simp

@[simp] theorem State.feranDrop_kept (s : State) : (State.feranDrop s).dome.power = s.dome.power ∧ (State.feranDrop s).pending = s.pending := by
  simp [State.feranDrop]

@[simp] theorem State.finish_kept (q : WaitReq) (st : Status) (more : Bool) (body : Octets) (s : State) :
    (State.finish q st more body s).dome.power = s.dome.power ∧ (State.finish q st more body s).pending = s.pending := by
  simp [State.finish]

@[simp] theorem State.opCatalogue_kept (q : WaitReq) (r : Realm) (body : Octets) (s : State) :
    (State.opCatalogue q r body s).2.dome.power = s.dome.power ∧ (State.opCatalogue q r body s).2.pending = s.pending := by
  simp [State.opCatalogue]

@[simp] theorem State.wingRun_kept (q : WaitReq) (w : Nat) (body : Octets) (s : State) :
    (State.wingRun q w body s).2.dome.power = s.dome.power ∧ (State.wingRun q w body s).2.pending = s.pending := by
  unfold State.wingRun; (repeat' split) <;> simp

@[simp] theorem State.censusWing_kept (mask w : Nat) (s : State) :
    (State.censusWing mask w s).2.dome.power = s.dome.power ∧ (State.censusWing mask w s).2.pending = s.pending := by
  simp only [State.censusWing]; (repeat' split) <;> simp

@[simp] theorem State.refEdge_kept (s : State) :
    (State.refEdge s).dome.power = s.dome.power ∧ (State.refEdge s).pending = s.pending := by
  exact ⟨rfl, rfl⟩

@[simp] theorem State.opCensus_kept (mask : Nat) (s : State) :
    (State.opCensus mask s).2.dome.power = s.dome.power ∧ (State.opCensus mask s).2.pending = s.pending := by
  simp only [State.opCensus]; (repeat' split) <;> simp

@[simp] theorem State.opAlign_kept (mask value : Nat) (s : State) :
    (State.opAlign mask value s).2.dome.power = s.dome.power ∧ (State.opAlign mask value s).2.pending = s.pending := by
  simp only [State.opAlign]; (repeat' split) <;> simp

@[simp] theorem State.opSubscribe_kept (n classes wings : Nat) (s : State) :
    (State.opSubscribe n classes wings s).2.dome.power = s.dome.power ∧ (State.opSubscribe n classes wings s).2.pending = s.pending := by
  simp only [State.opSubscribe]; (repeat' split) <;> simp

@[simp] theorem State.portRun_kept (q : WaitReq) (body : Octets) (s : State) :
    (State.portRun q body s).2.dome.power = s.dome.power ∧ (State.portRun q body s).2.pending = s.pending := by
  unfold State.portRun; (repeat' split) <;> simp

@[simp] theorem State.submit_kept (q : WaitReq) (b : Octets) (s : State) :
    (State.submit q b s).dome.power = s.dome.power ∧ (State.submit q b s).pending = s.pending := by
  unfold State.submit
  dsimp only
  generalize (if s.pairState q.wing = .dual then s.twin q.wing else none) = tw
  split
  · simp
  · split
    · simp
    · split
      · simp
      · split
        · simp
        · exact kept_foldl _ (fun t a => by simp) _ _

@[simp] theorem State.deliver_kept (q : WaitReq) (body : Octets) (s : State) :
    (State.deliver q body s).dome.power = s.dome.power ∧ (State.deliver q body s).pending = s.pending := by
  grind [State.deliver, State.setWing, State.modWing, State.setWing_kept, State.enterReset_kept, State.wingRespond_kept, State.finish_kept, State.wingRun_kept, State.portRun_kept, State.submit_kept]

@[simp] theorem State.pumpOne_kept (s : State) : (State.pumpOne s).dome.power = s.dome.power ∧ (State.pumpOne s).pending = s.pending := by
  simp only [State.pumpOne]; (repeat' split) <;> simp

@[simp] theorem State.pump_kept (s : State) : (State.pump s).dome.power = s.dome.power ∧ (State.pump s).pending = s.pending := by
  exact kept_iter _ (fun u => State.pumpOne_kept u) _ _

@[simp] theorem State.carryOut_kept (q : WaitReq) (body : Octets) (s : State) :
    (State.carryOut q body s).dome.power = s.dome.power ∧ (State.carryOut q body s).pending = s.pending := by
  simp only [State.carryOut]; (repeat' split) <;> simp

@[simp] theorem State.request_kept (n seq op realm : Nat) (auth : Bool) (peer body : Octets) (s : State) :
    (State.request n seq op realm auth peer body s).dome.power = s.dome.power ∧ (State.request n seq op realm auth peer body s).pending = s.pending := by
  simp only [State.request]; (repeat' split) <;> simp

@[simp] theorem State.meshRow_kept (w : Nat) (p : Item → Octets → Bool) (s : State) :
    (State.meshRow w p s).dome.power = s.dome.power ∧ (State.meshRow w p s).pending = s.pending := by
  simp only [State.meshRow]; (repeat' split) <;> simp

@[simp] theorem State.hello_kept (seq realm cred : Nat) (nonce peer : Octets) (s : State) :
    (State.hello seq realm cred nonce peer s).dome.power = s.dome.power ∧ (State.hello seq realm cred nonce peer s).pending = s.pending := by
  simp only [State.hello]; (repeat' split) <;> simp

@[simp] theorem State.openFail_kept (n seq realm : Nat) (peer : Octets) (s : State) :
    (State.openFail n seq realm peer s).dome.power = s.dome.power ∧ (State.openFail n seq realm peer s).pending = s.pending := by
  simp [State.openFail]

@[simp] theorem State.openAgain_kept (n seq realm : Nat) (auth : Bool) (peer : Octets) (s : State) :
    (State.openAgain n seq realm auth peer s).dome.power = s.dome.power ∧ (State.openAgain n seq realm auth peer s).pending = s.pending := by
  simp only [State.openAgain]; (repeat' split) <;> simp

@[simp] theorem State.openSession_kept (n seq realm : Nat) (auth : Bool) (proof peer : Octets) (s : State) :
    (State.openSession n seq realm auth proof peer s).dome.power = s.dome.power ∧ (State.openSession n seq realm auth proof peer s).pending = s.pending := by
  simp only [State.openSession]; (repeat' split) <;> simp

@[simp] theorem State.feranIn_kept (peer msg : Octets) (s : State) :
    (State.feranIn peer msg s).dome.power = s.dome.power ∧ (State.feranIn peer msg s).pending = s.pending := by
  simp only [State.feranIn]; (repeat' split) <;> simp

@[simp] theorem State.udpIn_kept (p : Ip6) (s : State) : (State.udpIn p s).dome.power = s.dome.power ∧ (State.udpIn p s).pending = s.pending := by
  simp only [State.udpIn]; (repeat' split) <;> simp

@[simp] theorem State.echoIn_kept (p : Ip6) (s : State) : (State.echoIn p s).dome.power = s.dome.power ∧ (State.echoIn p s).pending = s.pending := by
  unfold State.echoIn; (repeat' split) <;> simp

@[simp] theorem State.solicitIn_kept (p : Ip6) (s : State) :
    (State.solicitIn p s).dome.power = s.dome.power ∧ (State.solicitIn p s).pending = s.pending := by
  simp only [State.solicitIn]; (repeat' split) <;> simp

@[simp] theorem State.icmpIn_kept (p : Ip6) (s : State) : (State.icmpIn p s).dome.power = s.dome.power ∧ (State.icmpIn p s).pending = s.pending := by
  unfold State.icmpIn; (repeat' split) <;> simp

@[simp] theorem State.ipIn_kept (p : Ip6) (s : State) : (State.ipIn p s).dome.power = s.dome.power ∧ (State.ipIn p s).pending = s.pending := by
  unfold State.ipIn; (repeat' split) <;> simp

theorem State.waitingMsg_kept (s : State) : ∀ r, (State.waitingMsg s) = some r → r.2.dome.power = s.dome.power ∧ r.2.pending = s.pending := by
  intro r h
  unfold State.waitingMsg at h
  split at h
  · cases h
  · split at h
    · cases h; dsimp only; split <;> simp
    · obtain ⟨n, -, hn⟩ := List.exists_of_findSome?_eq_some h
      rw [Option.map_eq_some_iff] at hn
      obtain ⟨e, -, rfl⟩ := hn
      simp

@[simp] theorem State.spiOut_kept (data : Octets) (s : State) :
    (State.spiOut data s).dome.power = s.dome.power ∧ (State.spiOut data s).pending = s.pending := by
  simp [State.spiOut]

@[simp] theorem State.spiHeld_kept (held : Nat) (s : State) :
    (State.spiHeld held s).dome.power = s.dome.power ∧ (State.spiHeld held s).pending = s.pending := by
  exact ⟨rfl, rfl⟩

@[simp] theorem State.spiWrite_kept (len : Nat) (data : Octets) (s : State) :
    (State.spiWrite len data s).dome.power = s.dome.power ∧ (State.spiWrite len data s).pending = s.pending := by
  simp only [State.spiWrite]; (repeat' split) <;> simp

@[simp] theorem State.spiRead_kept (len clocked : Nat) (s : State) :
    (State.spiRead len clocked s).dome.power = s.dome.power ∧ (State.spiRead len clocked s).pending = s.pending := by
  simp only [State.spiRead]; split
  · simp
  · rename_i m t h
    have := State.waitingMsg_kept s _ h
    (repeat' split) <;> simp_all

@[simp] theorem State.spiTransfer_kept (cmd : Octet) (held len clocked : Nat) (data : Octets) (s : State) :
    (State.spiTransfer cmd held len clocked data s).dome.power = s.dome.power ∧ (State.spiTransfer cmd held len clocked data s).pending = s.pending := by
  simp only [State.spiTransfer]; (repeat' split) <;> simp

@[simp] theorem State.undeliver_kept (s : State) : (State.undeliver s).dome.power = s.dome.power ∧ (State.undeliver s).pending = s.pending := by
  simp [State.undeliver]

@[simp] theorem State.reportEvent_kept (w c : Nat) (d : List Word) (s : State) :
    (State.reportEvent w c d s).dome.power = s.dome.power ∧ (State.reportEvent w c d s).pending = s.pending := by
  simp only [State.reportEvent]; (repeat' split) <;> simp

@[simp] theorem State.submitAnswer_kept (w : Nat) (d : List Word) (s : State) :
    (State.submitAnswer w d s).dome.power = s.dome.power ∧ (State.submitAnswer w d s).pending = s.pending := by
  simp only [State.submitAnswer]; (repeat' split) <;> simp

@[simp] theorem State.itemEvent_kept (w : Nat) (d : List Word) (s : State) :
    (State.itemEvent w d s).dome.power = s.dome.power ∧ (State.itemEvent w d s).pending = s.pending := by
  simp only [State.itemEvent]; (repeat' split) <;> simp

@[simp] theorem State.partnerEvent_kept (w : Nat) (d : List Word) (s : State) :
    (State.partnerEvent w d s).dome.power = s.dome.power ∧ (State.partnerEvent w d s).pending = s.pending := by
  simp only [State.partnerEvent]; (repeat' split) <;> simp

@[simp] theorem State.taken_kept (w r : Nat) (d : List Word) (s : State) :
    (State.taken w r d s).dome.power = s.dome.power ∧ (State.taken w r d s).pending = s.pending := by
  simp only [State.taken]; (repeat' split) <;> simp

@[simp] theorem State.storeTell_kept (realm wing : Nat) (good : Bool) (gen ms : Nat) (codes : List Nat) (s : State) :
    (State.storeTell realm wing good gen ms codes s).dome.power = s.dome.power ∧ (State.storeTell realm wing good gen ms codes s).pending = s.pending := by
  simp [State.storeTell]

theorem State.storeAnswer_kept (who : List Nat) (st : Status) (f : Nat → State → State) (s : State) (h_f : ∀ i t, (f i t).dome.power = t.dome.power ∧ (f i t).pending = t.pending) :
    (State.storeAnswer who st f s).dome.power = s.dome.power ∧ (State.storeAnswer who st f s).pending = s.pending := by
  exact kept_foldl _ (fun t n => by split; exact h_f _ _; simp) _ _

@[simp] theorem State.storeAnswer_wing_kept (who : List Nat) (st : Status) (w : Nat) (s : State) :
    (State.storeAnswer who st (fun n t => t.wingRespond w n st false []) s).dome.power = s.dome.power ∧
      (State.storeAnswer who st (fun n t => t.wingRespond w n st false []) s).pending = s.pending :=
  State.storeAnswer_kept _ _ _ _ (fun i u => by simp)

@[simp] theorem State.jobPump_kept (w : Nat) (s : State) :
    (State.jobPump w s).dome.power = s.dome.power ∧ (State.jobPump w s).pending = s.pending := by
  simp only [State.jobPump]
  exact kept_foldl_from _ (fun t e => State.storeAnswer_kept _ _ _ _ (fun i u => by simp)) _ _ _ (by simp)

@[simp] theorem State.nbTellAll_kept (w : Nat) (s : State) :
    (State.nbTellAll w s).dome.power = s.dome.power ∧ (State.nbTellAll w s).pending = s.pending := by
  exact kept_foldl _ (fun t i => by simp) _ _

@[simp] theorem State.pairStore_kept (p t code : Nat) (s : State) :
    (State.pairStore p t code s).dome.power = s.dome.power ∧ (State.pairStore p t code s).pending = s.pending := by
  simp only [State.pairStore]; (repeat' split) <;> simp

@[simp] theorem State.pairStored_kept (w : Nat) (good share : Bool) (ask : List Nat) (s : State) :
    (State.pairStored w good share ask s).dome.power = s.dome.power ∧ (State.pairStored w good share ask s).pending = s.pending := by
  simp only [State.pairStored]
  split
  · split
    · split
      · exact kept_foldl _ (fun t c => by simp) _ _
      · exact ⟨rfl, rfl⟩
    · split <;> simp
  · exact ⟨rfl, rfl⟩

@[simp] theorem State.storeEndWing_kept (w : Nat) (good : Bool) (ms : Nat) (s : State) :
    (State.storeEndWing w good ms s).dome.power = s.dome.power ∧ (State.storeEndWing w good ms s).pending = s.pending := by
  unfold State.storeEndWing; dsimp only; (repeat' split) <;> first | simp | exact kept_foldl_from _ (fun t a => by (try dsimp only); (repeat' split) <;> simp) _ _ _ (by (repeat' split) <;> simp) | grind [State.modWing_kept, State.wingRespond_kept, State.storeTell_kept, State.storeAnswer_kept]

@[simp] theorem State.closeProvisioning_kept (s : State) :
    (State.closeProvisioning s).dome.power = s.dome.power ∧ (State.closeProvisioning s).pending = s.pending := by
  unfold State.closeProvisioning
  exact kept_foldl_from _ (fun t a => by (try dsimp only); (repeat' split) <;> simp) _ _ _ (by (repeat' split) <;> simp)

@[simp] theorem State.storeEndPort_kept (p good : Bool) (ms : Nat) (s : State) :
    (State.storeEndPort p good ms s).dome.power = s.dome.power ∧ (State.storeEndPort p good ms s).pending = s.pending := by
  have h3 : ∀ (g : Bool) (f : Nat → State → State) (u : State),
      (∀ i t, (f i t).dome.power = t.dome.power ∧ (f i t).pending = t.pending) →
      (if g then u.forWings f else u).dome.power = u.dome.power ∧ (if g then u.forWings f else u).pending = u.pending := by
    intro g f u h
    split
    · exact State.forWings_kept f u h
    · exact ⟨rfl, rfl⟩
  unfold State.storeEndPort
  dsimp only
  split
  · simp
  · generalize ha : State.storeAnswer _ _ _ _ = t
    have ht : t.dome.power = s.dome.power ∧ t.pending = s.pending := by
      subst ha
      refine ⟨(State.storeAnswer_kept _ _ _ _ (fun i t => by simp)).1.trans ?_, (State.storeAnswer_kept _ _ _ _ (fun i t => by simp)).2.trans ?_⟩
      · exact ((State.storeTell_kept ..).1).trans ((h3 _ _ _ (fun i t => by split <;> simp)).1)
      · exact ((State.storeTell_kept ..).2).trans ((h3 _ _ _ (fun i t => by split <;> simp)).2)
    split
    · simp [ht.1, ht.2]
    · exact ht

@[simp] theorem State.portLoad_kept (s : State) : (State.portLoad s).dome.power = s.dome.power ∧ (State.portLoad s).pending = s.pending := by
  unfold State.portLoad; (repeat' split) <;> simp

@[simp] theorem State.limRestore_kept (w : Nat) (s : State) :
    (State.limRestore w s).dome.power = s.dome.power ∧ (State.limRestore w s).pending = s.pending := by
  simp [State.limRestore]

@[simp] theorem State.bootMark_kept (w : Nat) (s : State) : (State.bootMark w s).dome.power = s.dome.power ∧ (State.bootMark w s).pending = s.pending := by
  simp only [State.bootMark]; (repeat' split) <;> simp

@[simp] theorem State.bootCounts_kept (w : Nat) (s : State) :
    (State.bootCounts w s).dome.power = s.dome.power ∧ (State.bootCounts w s).pending = s.pending := by
  simp only [State.bootCounts]; (repeat' split) <;> simp

@[simp] theorem State.bootApply_kept (w : Nat) (s : State) :
    (State.bootApply w s).dome.power = s.dome.power ∧ (State.bootApply w s).pending = s.pending := by
  simp only [State.bootApply]; (repeat' split) <;> simp

@[simp] theorem State.bootImage_kept (w : Nat) (s : State) :
    (State.bootImage w s).dome.power = s.dome.power ∧ (State.bootImage w s).pending = s.pending := by
  simp only [State.bootImage]; (repeat' split) <;> simp

@[simp] theorem State.bootItems_kept (w : Nat) (s : State) :
    (State.bootItems w s).dome.power = s.dome.power ∧ (State.bootItems w s).pending = s.pending := by
  simp only [State.bootItems]; (repeat' split) <;> simp

@[simp] theorem State.bootCopy_kept (w : Nat) (s : State) : (State.bootCopy w s).dome.power = s.dome.power ∧ (State.bootCopy w s).pending = s.pending := by
  unfold State.bootCopy; dsimp only; (repeat' split) <;> simp

@[simp] theorem State.bootAnnex_kept (w : Nat) (s : State) :
    (State.bootAnnex w s).dome.power = s.dome.power ∧ (State.bootAnnex w s).pending = s.pending := by
  simp [State.bootAnnex]

@[simp] theorem State.bootEnd_kept (w us : Nat) (s : State) :
    (State.bootEnd w us s).dome.power = s.dome.power ∧ (State.bootEnd w us s).pending = s.pending := by
  simp only [State.bootEnd]; (repeat' split) <;> simp

theorem State.rptElem_kept (w : Nat) (applet : Bool) (o : RptOp) (s : State) :
    ∀ r, (State.rptElem w applet o s) = .ok r → r.2.dome.power = s.dome.power ∧ r.2.pending = s.pending := by
  simp only [State.rptElem]; (repeat' split) <;> simp

@[simp] theorem State.rptLoop_kept (w : Nat) (applet : Bool) (o : RptOp) (n k : Nat) (s : State) :
    (State.rptLoop w applet o n k s).2.2.2.dome.power = s.dome.power ∧ (State.rptLoop w applet o n k s).2.2.2.pending = s.pending := by
  induction n generalizing k s with
  | zero => exact ⟨rfl, rfl⟩
  | succ n ih =>
    unfold State.rptLoop
    split
    · exact ⟨rfl, rfl⟩
    · split
      · exact ⟨rfl, rfl⟩
      · rename_i heq
        have h := State.rptElem_kept w applet o s _ heq
        split
        · exact h
        · split
          · exact h
          · exact ⟨(ih ..).1.trans h.1, (ih ..).2.trans h.2⟩

@[simp] theorem State.rptEmulate_kept (w : Nat) (o : RptOp) (op : Word) (s : State) :
    (State.rptEmulate w o op s).dome.power = s.dome.power ∧ (State.rptEmulate w o op s).pending = s.pending := by
  have h := fun t => State.rptLoop_kept w true o 0x10000 0 t
  unfold State.rptEmulate
  dsimp only
  split
  · simp
  · split
    · exact ⟨by simp [(h _).1], by simp⟩
    · split
      · exact ⟨by simp [(h _).1], by simp⟩
      · exact ⟨by simp [(h _).1], by simp⟩

end Sys2Proof.Machine
end

