-- ==== Sys2Proof/Laws/KeptE.lean ====
section
/-! SUPPORT. Each command outside the Dome keeps the Dome but for what other units write, and the queue (first half). -/
namespace Sys2Proof.Machine
open Sys2Proof

/-- The outcome is a next state that keeps the Dome outside what other units write, and the queue. -/
def KeptOut (s : State) (o : Out) : Prop := ∃ t, o = .next t ∧ t.dome.power = s.dome.power ∧ t.pending = s.pending

theorem KeptOut.next {s t : State} (h : t.dome.power = s.dome.power ∧ t.pending = s.pending) : KeptOut s (.next t) := ⟨t, rfl, h⟩

theorem KeptOut.byCore {w : Nat} {s t : State} (h : t.dome.power = s.dome.power ∧ t.pending = s.pending) : KeptOut s (byCore w s t) := by
  refine .next ?_
  split
  · exact h
  · exact ⟨rfl, rfl⟩

theorem KeptOut.coreRun {w : Nat} {op : Word} {len : Nat} {f : State → Except Trap State} {s : State}
    (hf : ∀ t u, f t = .ok u → u.dome.power = t.dome.power ∧ u.pending = t.pending) : KeptOut s (coreRun w op len f s) := by
  refine .next ?_
  split
  · exact ⟨rfl, rfl⟩
  · split
    · rename_i t u h
      have := State.fetchFault_kept _ _ _ _ h
      simpa using this
    · split
      · rename_i u h
        simpa using hf _ _ h
      · simp

theorem KeptOut.coreStep {w : Nat} {op : Word} {len : Nat} {f : Core → Core} {s : State} : KeptOut s (coreStep w op len f s) :=
  .coreRun (fun t u h => by cases h; exact ⟨rfl, rfl⟩)

theorem KeptOut.nearRun {w : Nat} {op : Word} {u : Core → Core} {g : Core → Bool} {t : Core → Word} {s : State} :
    KeptOut s (nearRun w op u g t s) := .coreStep

theorem KeptOut.keeperRun {w : Nat} {op : Word} {f : State → Except Trap State} {s : State}
    (hf : ∀ t u, f t = .ok u → u.dome.power = t.dome.power ∧ u.pending = t.pending) : KeptOut s (keeperRun w op f s) :=
  .coreRun (fun t u h => by
    split at h
    · cases h
    · exact hf t u h)
theorem KeptOut.loadRun {w : Nat} {op : Word} {len : Nat} {ea : Core → Word} {upd : Word → Core → Core} {s : State} :
    KeptOut s (loadRun w op len ea upd s) := by
  refine .coreRun (fun t u h => ?_)
  grind [State.eaRead_kept, State.modCore_dome, State.modCore_pending]

theorem KeptOut.storeRun {w : Nat} {op : Word} {len : Nat} {ea v : Core → Word} {upd : Core → Core} {s : State} :
    KeptOut s (storeRun w op len ea v upd s) := by
  refine .coreRun (fun t u h => ?_)
  grind [State.eaWrite_kept, State.modCore_dome, State.modCore_pending]

theorem KeptOut.oneRun {w : Nat} {op : Word} {d : Reg} {f : Word → Word → Word × Word} {s : State} : KeptOut s (oneRun w op d f s) := .coreStep
theorem KeptOut.twoRun {w : Nat} {op : Word} {len : Nat} {d : Reg} {b : Core → Word} {f : Word → Word → Word → Word × Word} {s : State} :
    KeptOut s (twoRun w op len d b f s) := .coreStep

theorem KeptOut.rptRun {w : Nat} {op : RptOp} {n : Nat} {s : State} : KeptOut s (rptRun w op n s) := by
  refine .next ?_
  dsimp only
  split
  · simp
  · split
    · rename_i h
      have := State.fetchFault_kept _ _ _ _ h
      simpa using this
    · (repeat' split) <;> simp

theorem KeptOut.byPort {p : Nat} {s t : State} (h : t.dome.power = s.dome.power ∧ t.pending = s.pending) : KeptOut s (byPort p s t) := by
  unfold Machine.byPort
  split
  · exact .byCore h
  · exact .next h

theorem execResetRequest_kept (a0 a1 a2 s) : KeptOut s (execResetRequest a0 a1 a2 s) := by
  unfold execResetRequest
  (try dsimp only)
  refine .next ?_
  simp

theorem execCpuSelfReset_kept (a0 a1 s) : KeptOut s (execCpuSelfReset a0 a1 s) := by
  unfold execCpuSelfReset
  refine .byCore ?_
  (repeat' split) <;> simp

theorem execWingResetRelease_kept (a0 s) : KeptOut s (execWingResetRelease a0 s) := by
  unfold execWingResetRelease
  (try dsimp only)
  refine .next ?_
  (repeat' split) <;> simp

theorem execBootComplete_kept (a0 a1 s) : KeptOut s (execBootComplete a0 a1 s) := by
  unfold execBootComplete
  (try dsimp only)
  refine .next ?_
  (repeat' split) <;> simp

theorem execThermalTrip_kept (a0 a1 s) : KeptOut s (execThermalTrip a0 a1 s) := by
  unfold execThermalTrip
  (try dsimp only)
  refine .next ?_
  (repeat' split) <;> simp

theorem execThermalRecovery_kept (a0 a1 s) : KeptOut s (execThermalRecovery a0 a1 s) := by
  unfold execThermalRecovery
  (try dsimp only)
  refine .next ?_
  (repeat' split) <;> simp

theorem execPllLock_kept (a0 s) : KeptOut s (execPllLock a0 s) := by
  unfold execPllLock
  (try dsimp only)
  refine .next ?_
  (repeat' split) <;> simp

theorem execPllUnlock_kept (a0 s) : KeptOut s (execPllUnlock a0 s) := by
  unfold execPllUnlock
  (try dsimp only)
  refine .next ?_
  (repeat' split) <;> simp

theorem execStopRequest_kept (a0 a1 a2 s) : KeptOut s (execStopRequest a0 a1 a2 s) := by
  unfold execStopRequest
  (try dsimp only)
  refine .next ?_
  simp

theorem execWingEnterStopped_kept (a0 s) : KeptOut s (execWingEnterStopped a0 s) := by
  unfold execWingEnterStopped
  (try dsimp only)
  refine .next ?_
  (repeat' split) <;> simp

theorem execPreambleDetection_kept (a0 a1 a2 s) : KeptOut s (execPreambleDetection a0 a1 a2 s) := by
  unfold execPreambleDetection
  (try dsimp only)
  refine .next ?_
  (repeat' split) <;> simp

theorem execSfdDetected_kept (a0 a1 a2 a3 s) : KeptOut s (execSfdDetected a0 a1 a2 a3 s) := by
  unfold execSfdDetected
  (try dsimp only)
  refine .next ?_
  (repeat' split) <;> simp

theorem execSfdTimeout_kept (a0 a1 s) : KeptOut s (execSfdTimeout a0 a1 s) := by
  unfold execSfdTimeout
  (try dsimp only)
  refine .next ?_
  (repeat' split) <;> simp

theorem execPhrEnd_kept (a0 a1 a2 a3 a4 s) : KeptOut s (execPhrEnd a0 a1 a2 a3 a4 s) := by
  unfold execPhrEnd
  (try dsimp only)
  refine .next ?_
  (repeat' split) <;> simp

theorem execFrameEnd_kept (a0 a1 a2 a3 a4 a5 a6 a7 a8 s) : KeptOut s (execFrameEnd a0 a1 a2 a3 a4 a5 a6 a7 a8 s) := by
  unfold execFrameEnd
  (try dsimp only)
  refine .next ?_
  (repeat' split) <;> simp

theorem execOverloadStart_kept (a0 a1 s) : KeptOut s (execOverloadStart a0 a1 s) := by
  unfold execOverloadStart
  (try dsimp only)
  refine .next ?_
  (repeat' split) <;> simp

theorem execOverloadEnd_kept (a0 s) : KeptOut s (execOverloadEnd a0 s) := by
  unfold execOverloadEnd
  (try dsimp only)
  refine .next ?_
  simp

theorem execRxBufFree_kept (a0 a1 s) : KeptOut s (execRxBufFree a0 a1 s) := by
  unfold execRxBufFree
  refine .byCore ?_
  simp

theorem execRxCalReq_kept (a0 a1 s) : KeptOut s (execRxCalReq a0 a1 s) := by
  unfold execRxCalReq
  refine .byCore ?_
  simp

theorem execCalTempTrigger_kept (a0 a1 s) : KeptOut s (execCalTempTrigger a0 a1 s) := by
  unfold execCalTempTrigger
  (try dsimp only)
  refine .next ?_
  (repeat' split) <;> simp

theorem execCalibrationStart_kept (a0 a1 s) : KeptOut s (execCalibrationStart a0 a1 s) := by
  unfold execCalibrationStart
  (try dsimp only)
  refine .next ?_
  (repeat' split) <;> simp

theorem execCalibrationComplete_kept (a0 a1 a2 a3 s) : KeptOut s (execCalibrationComplete a0 a1 a2 a3 s) := by
  unfold execCalibrationComplete
  (try dsimp only)
  refine .next ?_
  (repeat' split) <;> simp

theorem execCalDeferTimeout_kept (a0 s) : KeptOut s (execCalDeferTimeout a0 s) := by
  unfold execCalDeferTimeout
  (try dsimp only)
  refine .next ?_
  (repeat' split) <;> simp

theorem execCalBackgroundUpdate_kept (a0 a1 a2 s) : KeptOut s (execCalBackgroundUpdate a0 a1 a2 s) := by
  unfold execCalBackgroundUpdate
  (try dsimp only)
  refine .next ?_
  (repeat' split) <;> simp

theorem execLfCalMeasurement_kept (a0 a1 s) : KeptOut s (execLfCalMeasurement a0 a1 s) := by
  unfold execLfCalMeasurement
  (try dsimp only)
  refine .next ?_
  (repeat' split) <;> simp

theorem execRcCounterRead_kept (a0 a1 s) : KeptOut s (execRcCounterRead a0 a1 s) := by
  unfold execRcCounterRead
  refine .byCore ?_
  simp

theorem execLowWordLatchRead_kept (a0 a1 a2 s) : KeptOut s (execLowWordLatchRead a0 a1 a2 s) := by
  unfold execLowWordLatchRead
  refine .byCore ?_
  simp

theorem execRegisterWrite_kept (a0 a1 a2 a3 s) : KeptOut s (execRegisterWrite a0 a1 a2 a3 s) := by
  unfold execRegisterWrite
  (try dsimp only)
  refine .next ?_
  (repeat' split) <;> simp

theorem execRadioTransitionDone_kept (a0 s) : KeptOut s (execRadioTransitionDone a0 s) := by
  unfold execRadioTransitionDone
  (try dsimp only)
  refine .next ?_
  (repeat' split) <;> simp

theorem execTxDecisionPoint_kept (a0 s) : KeptOut s (execTxDecisionPoint a0 s) := by
  unfold execTxDecisionPoint
  (try dsimp only)
  refine .next ?_
  simp

theorem execTxDeparture_kept (a0 s) : KeptOut s (execTxDeparture a0 s) := by
  unfold execTxDeparture
  split
  · exact .next ⟨rfl, rfl⟩
  · split
    · exact .next ⟨rfl, rfl⟩
    · exact .next (by simp)

theorem execSynthCalDone_kept (a0 a1 s) : KeptOut s (execSynthCalDone a0 a1 s) := by
  unfold execSynthCalDone
  (try dsimp only)
  refine .next ?_
  simp

theorem execTxRampUp_kept (a0 s) : KeptOut s (execTxRampUp a0 s) := by
  unfold execTxRampUp
  (try dsimp only)
  refine .next ?_
  (repeat' split) <;> simp

theorem execTxLastSymbol_kept (a0 s) : KeptOut s (execTxLastSymbol a0 s) := by
  unfold execTxLastSymbol
  (try dsimp only)
  refine .next ?_
  (repeat' split) <;> simp

theorem execTxRampDownEnd_kept (a0 s) : KeptOut s (execTxRampDownEnd a0 s) := by
  unfold execTxRampDownEnd
  (try dsimp only)
  refine .next ?_
  simp

theorem execTxAbort_kept (a0 a1 a2 s) : KeptOut s (execTxAbort a0 a1 a2 s) := by
  unfold execTxAbort
  refine .byCore ?_
  (repeat' split) <;> simp

theorem execTxTest_kept (a0 a1 s) : KeptOut s (execTxTest a0 a1 s) := by
  unfold execTxTest
  refine .byCore ?_
  simp

theorem execTestBlock_kept (a0 s) : KeptOut s (execTestBlock a0 s) := by
  refine .next ?_
  split
  · exact ⟨rfl, rfl⟩
  · split
    · exact ⟨rfl, rfl⟩
    · dsimp only
      split
      · rename_i h
        have := State.testBlock_kept _ _ _ _ _ h
        simp_all
      · simp

theorem execBucketClose_kept (a0 s) : KeptOut s (execBucketClose a0 s) := by
  unfold execBucketClose
  (try dsimp only)
  refine .next ?_
  (repeat' split) <;> simp

theorem execBucketJournal_kept (a0 a1 s) : KeptOut s (execBucketJournal a0 a1 s) := by
  unfold execBucketJournal
  (try dsimp only)
  refine .next ?_
  (repeat' split) <;> simp

theorem execTxLimAck_kept (a0 a1 s) : KeptOut s (execTxLimAck a0 a1 s) := by
  unfold execTxLimAck
  refine .byCore ?_
  simp

theorem execDwellSubwindowClose_kept (a0 a1 a2 s) : KeptOut s (execDwellSubwindowClose a0 a1 a2 s) := by
  unfold execDwellSubwindowClose
  (try dsimp only)
  refine .next ?_
  simp

theorem execBootHoldEnd_kept (a0 a1 s) : KeptOut s (execBootHoldEnd a0 a1 s) := by
  unfold execBootHoldEnd
  (try dsimp only)
  refine .next ?_
  simp

theorem execWatchWingWrite_kept (a0 s) : KeptOut s (execWatchWingWrite a0 s) := by
  unfold execWatchWingWrite
  (try dsimp only)
  refine .next ?_
  (repeat' split) <;> simp

theorem execSlotResolve_kept (a0 s) : KeptOut s (execSlotResolve a0 s) := by
  unfold execSlotResolve
  (try dsimp only)
  refine .next ?_
  (repeat' split) <;> simp

theorem execSlotBoundary_kept (a0 s) : KeptOut s (execSlotBoundary a0 s) := by
  unfold execSlotBoundary
  (try dsimp only)
  refine .next ?_
  (repeat' split) <;> simp

theorem execRadioWakeLead_kept (a0 s) : KeptOut s (execRadioWakeLead a0 s) := by
  unfold execRadioWakeLead
  (try dsimp only)
  refine .next ?_
  (repeat' split) <;> simp

theorem execListenWindowStart_kept (a0 a1 s) : KeptOut s (execListenWindowStart a0 a1 s) := by
  unfold execListenWindowStart
  (try dsimp only)
  refine .next ?_
  (repeat' split) <;> simp

theorem execListenWindowEnd_kept (a0 a1 s) : KeptOut s (execListenWindowEnd a0 a1 s) := by
  unfold execListenWindowEnd
  (try dsimp only)
  refine .next ?_
  (repeat' split) <;> simp

theorem execTxDescriptorTake_kept (a0 a1 s) : KeptOut s (execTxDescriptorTake a0 a1 s) := by
  unfold execTxDescriptorTake
  (try dsimp only)
  refine .next ?_
  (repeat' split) <;> simp

theorem execAckEvaluation_kept (a0 a1 s) : KeptOut s (execAckEvaluation a0 a1 s) := by
  unfold execAckEvaluation
  (try dsimp only)
  refine .next ?_
  (repeat' split) <;> simp

theorem execMicCheckDone_kept (a0 a1 s) : KeptOut s (execMicCheckDone a0 a1 s) := by
  unfold execMicCheckDone
  (try dsimp only)
  refine .next ?_
  (repeat' split) <;> simp

theorem execJournalCheckDone_kept (a0 a1 s) : KeptOut s (execJournalCheckDone a0 a1 s) := by
  unfold execJournalCheckDone
  (try dsimp only)
  refine .next ?_
  (repeat' split) <;> simp

theorem execAckCheckDeadline_kept (a0 a1 s) : KeptOut s (execAckCheckDeadline a0 a1 s) := by
  unfold execAckCheckDeadline
  (try dsimp only)
  refine .next ?_
  (repeat' split) <;> simp

theorem execAckReceived_kept (a0 s) : KeptOut s (execAckReceived a0 s) := by
  unfold execAckReceived
  (try dsimp only)
  refine .next ?_
  (repeat' split) <;> simp

theorem execAckWindowExpiry_kept (a0 s) : KeptOut s (execAckWindowExpiry a0 s) := by
  unfold execAckWindowExpiry
  (try dsimp only)
  refine .next ?_
  (repeat' split) <;> simp

theorem execWindowMiss_kept (a0 a1 s) : KeptOut s (execWindowMiss a0 a1 s) := by
  unfold execWindowMiss
  (try dsimp only)
  refine .next ?_
  (repeat' split) <;> simp

theorem execRecover_kept (a0 a1 s) : KeptOut s (execRecover a0 a1 s) := by
  unfold execRecover
  refine .byCore ?_
  simp

theorem execHopSeed_kept (a0 a1 a2 s) : KeptOut s (execHopSeed a0 a1 a2 s) := by
  unfold execHopSeed
  (try dsimp only)
  refine .next ?_
  simp

theorem execAdmission_kept (a0 s) : KeptOut s (execAdmission a0 s) := by
  unfold execAdmission
  (try dsimp only)
  refine .next ?_
  (repeat' split) <;> simp

theorem execFloodLimitRaise_kept (a0 s) : KeptOut s (execFloodLimitRaise a0 s) := by
  unfold execFloodLimitRaise
  (try dsimp only)
  refine .next ?_
  (repeat' split) <;> simp

theorem execSearchTimeout_kept (a0 s) : KeptOut s (execSearchTimeout a0 s) := by
  unfold execSearchTimeout
  (try dsimp only)
  refine .next ?_
  (repeat' split) <;> simp

theorem execOrderExecute_kept (a0 s) : KeptOut s (execOrderExecute a0 s) := by
  unfold execOrderExecute
  (try dsimp only)
  refine .next ?_
  (repeat' split) <;> simp

theorem execBarrierConfirm_kept (a0 s) : KeptOut s (execBarrierConfirm a0 s) := by
  unfold execBarrierConfirm
  (try dsimp only)
  refine .next ?_
  (repeat' split) <;> simp

theorem execAutoStore_kept (a0 s) : KeptOut s (execAutoStore a0 s) := by
  unfold execAutoStore
  (try dsimp only)
  refine .next ?_
  (repeat' split) <;> simp

theorem execIntakeDescriptor_kept (a0 s) : KeptOut s (execIntakeDescriptor a0 s) := by
  unfold execIntakeDescriptor
  (try dsimp only)
  refine .next ?_
  (repeat' split) <;> simp

theorem execItemCompletion_kept (a0 s) : KeptOut s (execItemCompletion a0 s) := by
  unfold execItemCompletion
  (try dsimp only)
  refine .next ?_
  (repeat' split) <;> simp

theorem execJournalCarry_kept (a0 s) : KeptOut s (execJournalCarry a0 s) := by
  unfold execJournalCarry
  (try dsimp only)
  refine .next ?_
  simp

@[simp] theorem State.twinBind_kept (w : Nat) (s : State) :
    (State.twinBind w s).dome.power = s.dome.power ∧ (State.twinBind w s).pending = s.pending := by
  simp only [State.twinBind]; (repeat' split) <;> simp

theorem execTwinBind_kept (a0 s) : KeptOut s (execTwinBind a0 s) := by
  unfold execTwinBind
  (try dsimp only)
  refine .next ?_
  (repeat' split) <;> simp

theorem execTwinRecord_kept (a0 s) : KeptOut s (execTwinRecord a0 s) := by
  unfold execTwinRecord
  (try dsimp only)
  refine .next ?_
  (repeat' split) <;> simp

theorem execTwinSealed_kept (a0 s) : KeptOut s (execTwinSealed a0 s) := by
  unfold execTwinSealed
  (try dsimp only)
  refine .next ?_
  (repeat' split) <;> simp

theorem execTwinState_kept (a0 s) : KeptOut s (execTwinState a0 s) := by
  unfold execTwinState
  (try dsimp only)
  refine .next ?_
  (repeat' split) <;> simp

theorem execSeedBegin_kept (a0 s) : KeptOut s (execSeedBegin a0 s) := by
  unfold execSeedBegin
  (try dsimp only)
  refine .next ?_
  (repeat' split) <;> simp

theorem execSeedEnd_kept (a0 s) : KeptOut s (execSeedEnd a0 s) := by
  unfold execSeedEnd
  (try dsimp only)
  refine .next ?_
  (repeat' split) <;> simp

theorem execSealedTimeout_kept (a0 s) : KeptOut s (execSealedTimeout a0 s) := by
  unfold execSealedTimeout
  (try dsimp only)
  refine .next ?_
  (repeat' split) <;> simp

theorem execPairForm_kept (a0 a1 a2 a3 s) : KeptOut s (execPairForm a0 a1 a2 a3 s) := by
  unfold execPairForm
  (try dsimp only)
  refine .next ?_
  simp

theorem execPairDissolve_kept (a0 a1 s) : KeptOut s (execPairDissolve a0 a1 s) := by
  unfold execPairDissolve
  (try dsimp only)
  refine .next ?_
  simp

theorem execTwinBeat_kept (a0 s) : KeptOut s (execTwinBeat a0 s) := by
  unfold execTwinBeat
  refine .byCore ?_
  simp

theorem execBeatTimeout_kept (a0 a1 s) : KeptOut s (execBeatTimeout a0 a1 s) := by
  unfold execBeatTimeout
  (try dsimp only)
  refine .next ?_
  (repeat' split) <;> simp

theorem execTakeover_kept (a0 s) : KeptOut s (execTakeover a0 s) := by
  unfold execTakeover
  (try dsimp only)
  refine .next ?_
  (repeat' split) <;> simp

theorem execTokenPowerOnChoice_kept (a0 s) : KeptOut s (execTokenPowerOnChoice a0 s) := by
  unfold execTokenPowerOnChoice
  (try dsimp only)
  refine .next ?_
  (repeat' split) <;> simp

theorem execSwitch_kept (a0 a1 a2 s) : KeptOut s (execSwitch a0 a1 a2 s) := by
  unfold execSwitch
  (try dsimp only)
  refine .next ?_
  simp

theorem execReleaseToken_kept (a0 s) : KeptOut s (execReleaseToken a0 s) := by
  unfold execReleaseToken
  (try dsimp only)
  refine .next ?_
  (repeat' split) <;> simp

theorem execSwitchTimeout_kept (a0 s) : KeptOut s (execSwitchTimeout a0 s) := by
  unfold execSwitchTimeout
  (try dsimp only)
  refine .next ?_
  (repeat' split) <;> simp

theorem execHello_kept (a0 a1 a2 a3 s) : KeptOut s (execHello a0 a1 a2 a3 s) := by
  unfold execHello
  (try dsimp only)
  refine .next ?_
  simp

theorem execOpen_kept (a0 a1 s) : KeptOut s (execOpen a0 a1 s) := by
  unfold execOpen
  (try dsimp only)
  refine .next ?_
  simp

theorem execClose_kept (a0 s) : KeptOut s (execClose a0 s) := by
  unfold execClose
  (try dsimp only)
  refine .next ?_
  simp

theorem execPing_kept (a0 s) : KeptOut s (execPing a0 s) := by
  unfold execPing
  (try dsimp only)
  refine .next ?_
  simp

theorem execRead_kept (a0 a1 a2 a3 s) : KeptOut s (execRead a0 a1 a2 a3 s) := by
  unfold execRead
  (try dsimp only)
  refine .next ?_
  simp

theorem execWrite_kept (a0 a1 a2 a3 a4 s) : KeptOut s (execWrite a0 a1 a2 a3 a4 s) := by
  unfold execWrite
  (try dsimp only)
  refine .next ?_
  simp

theorem execReadRecord_kept (a0 a1 a2 s) : KeptOut s (execReadRecord a0 a1 a2 s) := by
  unfold execReadRecord
  (try dsimp only)
  refine .next ?_
  simp

theorem execWriteRecord_kept (a0 a1 a2 a3 s) : KeptOut s (execWriteRecord a0 a1 a2 a3 s) := by
  unfold execWriteRecord
  (try dsimp only)
  refine .next ?_
  simp

theorem execDomainBegin_kept (a0 a1 a2 a3 a4 a5 s) : KeptOut s (execDomainBegin a0 a1 a2 a3 a4 a5 s) := by
  unfold execDomainBegin
  (try dsimp only)
  refine .next ?_
  simp

theorem execDomainBlock_kept (a0 a1 a2 a3 a4 a5 a6 s) : KeptOut s (execDomainBlock a0 a1 a2 a3 a4 a5 a6 s) := by
  unfold execDomainBlock
  (try dsimp only)
  refine .next ?_
  simp

theorem execDomainEnd_kept (a0 a1 a2 a3 s) : KeptOut s (execDomainEnd a0 a1 a2 a3 s) := by
  unfold execDomainEnd
  (try dsimp only)
  refine .next ?_
  simp

theorem execDomainTransferTimeout_kept (a0 a1 a2 a3 s) : KeptOut s (execDomainTransferTimeout a0 a1 a2 a3 s) := by
  unfold execDomainTransferTimeout
  (try dsimp only)
  refine .next ?_
  simp

theorem execSubmit_kept (a0 a1 a2 s) : KeptOut s (execSubmit a0 a1 a2 s) := by
  unfold execSubmit
  (try dsimp only)
  refine .next ?_
  simp

theorem execRetire_kept (a0 a1 a2 a3 s) : KeptOut s (execRetire a0 a1 a2 a3 s) := by
  unfold execRetire
  (try dsimp only)
  refine .next ?_
  simp

theorem execItemQuery_kept (a0 a1 a2 a3 s) : KeptOut s (execItemQuery a0 a1 a2 a3 s) := by
  unfold execItemQuery
  (try dsimp only)
  refine .next ?_
  simp

theorem execPartnerFetch_kept (a0 a1 a2 a3 a4 s) : KeptOut s (execPartnerFetch a0 a1 a2 a3 a4 s) := by
  unfold execPartnerFetch
  (try dsimp only)
  refine .next ?_
  simp

theorem execWingReset_kept (a0 a1 s) : KeptOut s (execWingReset a0 a1 s) := by
  unfold execWingReset
  (try dsimp only)
  refine .next ?_
  simp

theorem execCensus_kept (a0 a1 s) : KeptOut s (execCensus a0 a1 s) := by
  unfold execCensus
  (try dsimp only)
  refine .next ?_
  simp

theorem execAlign_kept (a0 a1 a2 s) : KeptOut s (execAlign a0 a1 a2 s) := by
  unfold execAlign
  (try dsimp only)
  refine .next ?_
  simp

theorem execOrder_kept (a0 a1 a2 a3 a4 a5 a6 a7 s) : KeptOut s (execOrder a0 a1 a2 a3 a4 a5 a6 a7 s) := by
  unfold execOrder
  (try dsimp only)
  refine .next ?_
  simp

theorem execForward_kept (a0 a1 a2 a3 a4 a5 a6 a7 s) : KeptOut s (execForward a0 a1 a2 a3 a4 a5 a6 a7 s) := by
  unfold execForward
  (try dsimp only)
  refine .next ?_
  simp

theorem execForwardResponse_kept (a0 a1 s) : KeptOut s (execForwardResponse a0 a1 s) := by
  unfold execForwardResponse
  (try dsimp only)
  refine .next ?_
  simp

theorem execForwardTimeout_kept (a0 a1 s) : KeptOut s (execForwardTimeout a0 a1 s) := by
  unfold execForwardTimeout
  (try dsimp only)
  refine .next ?_
  (repeat' split) <;> simp

theorem execStageErase_kept (a0 a1 s) : KeptOut s (execStageErase a0 a1 s) := by
  unfold execStageErase
  (try dsimp only)
  refine .next ?_
  simp

theorem execStageWrite_kept (a0 a1 a2 a3 s) : KeptOut s (execStageWrite a0 a1 a2 a3 s) := by
  unfold execStageWrite
  (try dsimp only)
  refine .next ?_
  simp

theorem execStageRead_kept (a0 a1 a2 a3 s) : KeptOut s (execStageRead a0 a1 a2 a3 s) := by
  unfold execStageRead
  (try dsimp only)
  refine .next ?_
  simp

theorem execSubscribe_kept (a0 a1 a2 s) : KeptOut s (execSubscribe a0 a1 a2 s) := by
  unfold execSubscribe
  (try dsimp only)
  refine .next ?_
  simp

theorem execStore_kept (a0 a1 a2 s) : KeptOut s (execStore a0 a1 a2 s) := by
  unfold execStore
  (try dsimp only)
  refine .next ?_
  simp

theorem execStoreComplete_kept (a0 a1 a2 s) : KeptOut s (execStoreComplete a0 a1 a2 s) := by
  unfold execStoreComplete
  (try dsimp only)
  refine .next ?_
  (repeat' split) <;> simp

theorem execRestore_kept (a0 a1 a2 s) : KeptOut s (execRestore a0 a1 a2 s) := by
  unfold execRestore
  (try dsimp only)
  refine .next ?_
  simp

theorem execPortImageFinal_kept (s) : KeptOut s (execPortImageFinal s) := by
  unfold execPortImageFinal
  (try dsimp only)
  refine .next ?_
  grind [State.setWing, State.modWing, State.forWings_kept, State.portLoad_kept, State.replayItems_kept, State.solicit_kept, State.trimPush_kept, State.watchWrite_kept]

theorem execHelloReservationExpiry_kept (a0 s) : KeptOut s (execHelloReservationExpiry a0 s) := by
  unfold execHelloReservationExpiry
  (try dsimp only)
  refine .next ?_
  (repeat' split) <;> simp

theorem execLockoutExpiry_kept (a0 s) : KeptOut s (execLockoutExpiry a0 s) := by
  unfold execLockoutExpiry
  (try dsimp only)
  refine .next ?_
  simp

theorem execSessionIdleTimeout_kept (a0 s) : KeptOut s (execSessionIdleTimeout a0 s) := by
  unfold execSessionIdleTimeout
  (try dsimp only)
  refine .next ?_
  (repeat' split) <;> simp

theorem execLinkUp_kept (s) : KeptOut s (execLinkUp s) := by
  unfold execLinkUp
  (try dsimp only)
  refine .next ?_
  (repeat' split) <;> simp

theorem execLinkDown_kept (s) : KeptOut s (execLinkDown s) := by
  unfold execLinkDown
  (try dsimp only)
  refine .next ?_
  (repeat' split) <;> simp

theorem execDadComplete_kept (a0 s) : KeptOut s (execDadComplete a0 s) := by
  unfold execDadComplete
  (try dsimp only)
  refine .next ?_
  (repeat' split) <;> simp

theorem execDadContradicted_kept (a0 s) : KeptOut s (execDadContradicted a0 s) := by
  unfold execDadContradicted
  (try dsimp only)
  refine .next ?_
  (repeat' split) <;> simp

theorem execEthFrameReceived_kept (a0 s) : KeptOut s (execEthFrameReceived a0 s) := by
  unfold execEthFrameReceived
  (try dsimp only)
  refine .next ?_
  (repeat' split) <;> simp

theorem execIcmpEcho_kept (a0 s) : KeptOut s (execIcmpEcho a0 s) := by
  unfold execIcmpEcho
  (try dsimp only)
  refine .next ?_
  (repeat' split) <;> simp

theorem execNeighbourSolicitation_kept (a0 s) : KeptOut s (execNeighbourSolicitation a0 s) := by
  unfold execNeighbourSolicitation
  (try dsimp only)
  refine .next ?_
  (repeat' split) <;> simp

theorem execSpiStatus_kept (a0 s) : KeptOut s (execSpiStatus a0 s) := by
  unfold execSpiStatus
  (try dsimp only)
  refine .next ?_
  (repeat' split) <;> simp

theorem execSpiWrite_kept (a0 a1 a2 s) : KeptOut s (execSpiWrite a0 a1 a2 s) := by
  unfold execSpiWrite
  (try dsimp only)
  refine .next ?_
  (repeat' split) <;> simp

theorem execSpiRead_kept (a0 a1 a2 s) : KeptOut s (execSpiRead a0 a1 a2 s) := by
  exact .next (by simp)

theorem execItemReportDelivery_kept (a0 a1 s) : KeptOut s (execItemReportDelivery a0 a1 s) := by
  unfold execItemReportDelivery
  (try dsimp only)
  refine .next ?_
  (repeat' split) <;> simp

theorem execDocentHostPoll_kept (a0 s) : KeptOut s (execDocentHostPoll a0 s) := by
  unfold execDocentHostPoll
  (try dsimp only)
  refine .next ?_
  (repeat' split) <;> simp

theorem execWingResponse_kept (a0 a1 s) : KeptOut s (execWingResponse a0 a1 s) := by
  unfold execWingResponse
  (try dsimp only)
  refine .next ?_
  (repeat' split) <;> simp

theorem execMeshFeranExecute_kept (a0 a1 s) : KeptOut s (execMeshFeranExecute a0 a1 s) := by
  unfold execMeshFeranExecute
  (try dsimp only)
  refine .next ?_
  simp

theorem execRelayForward_kept (a0 a1 s) : KeptOut s (execRelayForward a0 a1 s) := by
  unfold execRelayForward
  (try dsimp only)
  refine .next ?_
  simp

theorem execRelayHoldTimeout_kept (a0 s) : KeptOut s (execRelayHoldTimeout a0 s) := by
  unfold execRelayHoldTimeout
  (try dsimp only)
  refine .next ?_
  (repeat' split) <;> simp

theorem execPortReset_kept (s) : KeptOut s (execPortReset s) := by
  unfold execPortReset
  (try dsimp only)
  refine .next ?_
  simp

theorem execTimebaseWrap_kept (a0 s) : KeptOut s (execTimebaseWrap a0 s) := by
  unfold execTimebaseWrap
  (try dsimp only)
  refine .next ?_
  (repeat' split) <;> simp

theorem execCarTbLapRead_kept (a0 a1 a2 s) : KeptOut s (execCarTbLapRead a0 a1 a2 s) := by
  unfold execCarTbLapRead
  (try dsimp only)
  refine .next ?_
  (repeat' split) <;> simp

theorem execBellCfgWrite_kept (a0 a1 a2 s) : KeptOut s (execBellCfgWrite a0 a1 a2 s) := by
  unfold execBellCfgWrite
  refine .byCore ?_
  simp

theorem execBellCompareCommit_kept (a0 a1 a2 a3 s) : KeptOut s (execBellCompareCommit a0 a1 a2 a3 s) := by
  unfold execBellCompareCommit
  refine .byCore ?_
  simp

theorem execBellMatch_kept (a0 a1 s) : KeptOut s (execBellMatch a0 a1 s) := by
  unfold execBellMatch
  (try dsimp only)
  refine .next ?_
  (repeat' split) <;> simp

theorem execBellCapture_kept (a0 a1 a2 s) : KeptOut s (execBellCapture a0 a1 a2 s) := by
  unfold execBellCapture
  (try dsimp only)
  refine .next ?_
  (repeat' split) <;> simp

theorem execBellCaptureRead_kept (a0 a1 s) : KeptOut s (execBellCaptureRead a0 a1 s) := by
  unfold execBellCaptureRead
  (try dsimp only)
  refine .next ?_
  (repeat' split) <;> simp

theorem execBellTallyEvent_kept (a0 a1 s) : KeptOut s (execBellTallyEvent a0 a1 s) := by
  unfold execBellTallyEvent
  (try dsimp only)
  refine .next ?_
  (repeat' split) <;> simp

theorem execLfRunningEntry_kept (a0 a1 s) : KeptOut s (execLfRunningEntry a0 a1 s) := by
  unfold execLfRunningEntry
  (try dsimp only)
  refine .next ?_
  (repeat' split) <;> simp

theorem execLfEdge_kept (s) : KeptOut s (execLfEdge s) := by
  unfold execLfEdge
  (try dsimp only)
  refine .next ?_
  (repeat' split) <;> simp

theorem execRephase_kept (a0 s) : KeptOut s (execRephase a0 s) := by
  unfold execRephase
  (try dsimp only)
  refine .next ?_
  (repeat' split) <;> simp

theorem execSecondsCarry_kept (s) : KeptOut s (execSecondsCarry s) := by
  unfold execSecondsCarry
  (try dsimp only)
  refine .next ?_
  (repeat' split) <;> simp

theorem execPwronWindowEnd_kept (s) : KeptOut s (execPwronWindowEnd s) := by
  unfold execPwronWindowEnd
  (try dsimp only)
  refine .next ?_
  simp

theorem execLfStopDetected_kept (s) : KeptOut s (execLfStopDetected s) := by
  unfold execLfStopDetected
  (try dsimp only)
  refine .next ?_
  (repeat' split) <;> simp

theorem execLfRestart_kept (s) : KeptOut s (execLfRestart s) := by
  unfold execLfRestart
  (try dsimp only)
  refine .next ?_
  (repeat' split) <;> simp

theorem execCalShadowFreeze_kept (a0 a1 s) : KeptOut s (execCalShadowFreeze a0 a1 s) := by
  refine .byPort ?_
  split <;> simp

theorem execCalYearRead_kept (a0 s) : KeptOut s (execCalYearRead a0 s) := by
  refine .byPort ?_
  split <;> simp

theorem execCalRelease_kept (a0 s) : KeptOut s (execCalRelease a0 s) := .byPort (by simp)

theorem execShadowTimeout_kept (a0 s) : KeptOut s (execShadowTimeout a0 s) := by
  unfold execShadowTimeout
  (try dsimp only)
  refine .next ?_
  (repeat' split) <;> simp

theorem execCalHalt_kept (a0 s) : KeptOut s (execCalHalt a0 s) := .byPort (by simp)

theorem execHaltEdge_kept (s) : KeptOut s (execHaltEdge s) := by
  unfold execHaltEdge
  (try dsimp only)
  refine .next ?_
  (repeat' split) <;> simp

theorem execHaltRelease_kept (a0 a1 s) : KeptOut s (execHaltRelease a0 a1 s) := .byPort (by simp)

theorem execReleaseEdge_kept (s) : KeptOut s (execReleaseEdge s) := by
  unfold execReleaseEdge
  (try dsimp only)
  refine .next ?_
  (repeat' split) <;> simp

theorem execCalFieldWrite_kept (a0 a1 a2 s) : KeptOut s (execCalFieldWrite a0 a1 a2 s) := .byPort (by simp)

theorem execHaltLost_kept (s) : KeptOut s (execHaltLost s) := by
  unfold execHaltLost
  (try dsimp only)
  refine .next ?_
  (repeat' split) <;> simp

theorem execTimeWrite_kept (a0 a1 s) : KeptOut s (execTimeWrite a0 a1 s) := by
  unfold execTimeWrite
  (try dsimp only)
  refine .next ?_
  simp

theorem execFlashSubmit_kept (a0 a1 s) : KeptOut s (execFlashSubmit a0 a1 s) := by
  unfold execFlashSubmit
  refine .byCore ?_
  simp

theorem execFlashProgram_kept (a0 s) : KeptOut s (execFlashProgram a0 s) := by
  unfold execFlashProgram
  (try dsimp only)
  refine .next ?_
  simp

theorem execFlashErase_kept (a0 s) : KeptOut s (execFlashErase a0 s) := by
  unfold execFlashErase
  (try dsimp only)
  refine .next ?_
  simp

theorem execFlashTally_kept (a0 s) : KeptOut s (execFlashTally a0 s) := by
  unfold execFlashTally
  (try dsimp only)
  refine .next ?_
  simp

theorem execFlashRead_kept (a0 s) : KeptOut s (execFlashRead a0 s) := by
  unfold execFlashRead
  (try dsimp only)
  refine .next ?_
  simp

end Sys2Proof.Machine
end

