-- ==== Sys2Proof/Laws/KeptF.lean ====
section
/-! SUPPORT. Each command outside the Dome keeps the Dome but for what other units write, and the queue (second half). -/
namespace Sys2Proof.Machine
open Sys2Proof

theorem execOptProgram_kept (a0 s) : KeptOut s (execOptProgram a0 s) := by
  unfold execOptProgram
  (try dsimp only)
  refine .next ?_
  simp

theorem execOptErase_kept (a0 s) : KeptOut s (execOptErase a0 s) := by
  unfold execOptErase
  (try dsimp only)
  refine .next ?_
  simp

theorem execOptLock_kept (a0 s) : KeptOut s (execOptLock a0 s) := by
  unfold execOptLock
  (try dsimp only)
  refine .next ?_
  simp

theorem execProgramPulseDone_kept (a0 a1 s) : KeptOut s (execProgramPulseDone a0 a1 s) := by
  unfold execProgramPulseDone
  (try dsimp only)
  refine .next ?_
  simp

theorem execEraseSubpulseDone_kept (a0 a1 s) : KeptOut s (execEraseSubpulseDone a0 a1 s) := by
  unfold execEraseSubpulseDone
  (try dsimp only)
  refine .next ?_
  simp

theorem execFlashDirectRead_kept (a0 a1 s) : KeptOut s (execFlashDirectRead a0 a1 s) := by
  unfold execFlashDirectRead
  refine .byCore ?_
  (repeat' split) <;> simp

theorem execGapMovePiece_kept (a0 a1 s) : KeptOut s (execGapMovePiece a0 a1 s) := by
  unfold execGapMovePiece
  (try dsimp only)
  refine .next ?_
  simp

theorem execWlEntryWrite_kept (a0 a1 a2 a3 a4 s) : KeptOut s (execWlEntryWrite a0 a1 a2 a3 a4 s) := by
  unfold execWlEntryWrite
  (try dsimp only)
  refine .next ?_
  simp

theorem execOptionLockWrite_kept (a0 a1 a2 s) : KeptOut s (execOptionLockWrite a0 a1 a2 s) := by
  unfold execOptionLockWrite
  (try dsimp only)
  refine .next ?_
  simp

theorem execNop_kept (a0 s) : KeptOut s (execNop a0 s) := .coreStep

theorem execRet_kept (a0 s) : KeptOut s (execRet a0 s) := .nearRun

theorem execRetf_kept (a0 s) : KeptOut s (execRetf a0 s) := by
  refine .coreRun (fun t u h => ?_)
  grind [State.draw, State.modCore, State.setWing, State.modWing, State.eaRead_kept, State.modCore_kept]

theorem execReti_kept (a0 s) : KeptOut s (execReti a0 s) := by
  refine .keeperRun (fun t u h => ?_)
  grind [State.draw, State.modCore, State.setWing, State.modWing, State.reti_kept]

theorem execSleep_kept (a0 s) : KeptOut s (execSleep a0 s) := by
  refine .keeperRun (fun t u h => ?_)
  grind [State.draw, State.modCore, State.setWing, State.modWing, State.modCore_kept, State.request_kept]

theorem execBrk_kept (a0 s) : KeptOut s (execBrk a0 s) := by
  refine .coreRun (fun t u h => ?_)
  grind [State.draw, State.modCore, State.setWing, State.modWing, State.brk_kept, State.halt_kept, State.modCore_kept]

theorem execEi_kept (a0 s) : KeptOut s (execEi a0 s) := by
  refine .keeperRun (fun t u h => ?_)
  grind [State.draw, State.modCore, State.setWing, State.modWing, State.modCore_kept]

theorem execDi_kept (a0 s) : KeptOut s (execDi a0 s) := by
  refine .keeperRun (fun t u h => ?_)
  grind [State.draw, State.modCore, State.setWing, State.modWing, State.modCore_kept]

theorem execFence_kept (a0 s) : KeptOut s (execFence a0 s) := .coreStep

theorem execClc_kept (a0 s) : KeptOut s (execClc a0 s) := .coreStep

theorem execSec_kept (a0 s) : KeptOut s (execSec a0 s) := .coreStep

theorem execSvc_kept (a0 a1 s) : KeptOut s (execSvc a0 a1 s) := by
  refine .coreRun (fun t u h => ?_)
  grind [State.draw, State.modCore, State.setWing, State.modWing, State.svc_kept]

theorem execNeg_kept (a0 a1 s) : KeptOut s (execNeg a0 a1 s) := .oneRun

theorem execNot_kept (a0 a1 s) : KeptOut s (execNot a0 a1 s) := .oneRun

theorem execInc_kept (a0 a1 s) : KeptOut s (execInc a0 a1 s) := .oneRun

theorem execDec_kept (a0 a1 s) : KeptOut s (execDec a0 a1 s) := .oneRun

theorem execSwab_kept (a0 a1 s) : KeptOut s (execSwab a0 a1 s) := .oneRun

theorem execSxt_kept (a0 a1 s) : KeptOut s (execSxt a0 a1 s) := .oneRun

theorem execZxt_kept (a0 a1 s) : KeptOut s (execZxt a0 a1 s) := .oneRun

theorem execClr_kept (a0 a1 s) : KeptOut s (execClr a0 a1 s) := .oneRun

theorem execAdd_kept (a0 a1 a2 s) : KeptOut s (execAdd a0 a1 a2 s) := .twoRun

theorem execAddc_kept (a0 a1 a2 s) : KeptOut s (execAddc a0 a1 a2 s) := .twoRun

theorem execSub_kept (a0 a1 a2 s) : KeptOut s (execSub a0 a1 a2 s) := .twoRun

theorem execSubb_kept (a0 a1 a2 s) : KeptOut s (execSubb a0 a1 a2 s) := .twoRun

theorem execAnd_kept (a0 a1 a2 s) : KeptOut s (execAnd a0 a1 a2 s) := .twoRun

theorem execOr_kept (a0 a1 a2 s) : KeptOut s (execOr a0 a1 a2 s) := .twoRun

theorem execXor_kept (a0 a1 a2 s) : KeptOut s (execXor a0 a1 a2 s) := .twoRun

theorem execMov_kept (a0 a1 a2 s) : KeptOut s (execMov a0 a1 a2 s) := .coreStep

theorem execCmp_kept (a0 a1 a2 s) : KeptOut s (execCmp a0 a1 a2 s) := .coreStep

theorem execTst_kept (a0 a1 a2 s) : KeptOut s (execTst a0 a1 a2 s) := .coreStep

theorem execMovi_kept (a0 a1 a2 s) : KeptOut s (execMovi a0 a1 a2 s) := .coreStep

theorem execAddi_kept (a0 a1 a2 s) : KeptOut s (execAddi a0 a1 a2 s) := .twoRun

theorem execCmpi_kept (a0 a1 a2 s) : KeptOut s (execCmpi a0 a1 a2 s) := .coreStep

theorem execLdwDisp_kept (a0 a1 a2 a3 s) : KeptOut s (execLdwDisp a0 a1 a2 a3 s) := .loadRun

theorem execStwDisp_kept (a0 a1 a2 a3 s) : KeptOut s (execStwDisp a0 a1 a2 a3 s) := .storeRun

theorem execLdwPostinc_kept (a0 a1 a2 s) : KeptOut s (execLdwPostinc a0 a1 a2 s) := .loadRun

theorem execLdwPredec_kept (a0 a1 a2 s) : KeptOut s (execLdwPredec a0 a1 a2 s) := .loadRun

theorem execStwPostinc_kept (a0 a1 a2 s) : KeptOut s (execStwPostinc a0 a1 a2 s) := .storeRun

theorem execStwPredec_kept (a0 a1 a2 s) : KeptOut s (execStwPredec a0 a1 a2 s) := .storeRun

theorem execXch_kept (a0 a1 a2 s) : KeptOut s (execXch a0 a1 a2 s) := by
  refine .coreRun (fun t u h => ?_)
  grind [State.draw, State.modCore, State.setWing, State.modWing, State.busWrite_kept, State.eaRead_kept, State.modCore_kept]

theorem execBcc_kept (a0 a1 a2 s) : KeptOut s (execBcc a0 a1 a2 s) := .nearRun

theorem execBra_kept (a0 a1 s) : KeptOut s (execBra a0 a1 s) := .nearRun

theorem execCall_kept (a0 a1 s) : KeptOut s (execCall a0 a1 s) := .nearRun

theorem execDbnz_kept (a0 a1 a2 s) : KeptOut s (execDbnz a0 a1 a2 s) := .nearRun

theorem execCallf_kept (a0 a1 s) : KeptOut s (execCallf a0 a1 s) := by
  refine .coreRun (fun t u h => ?_)
  grind [State.draw, State.modCore, State.setWing, State.modWing, State.eaWrite_kept, State.modCore_kept]

theorem execJmpf_kept (a0 a1 s) : KeptOut s (execJmpf a0 a1 s) := .coreStep

theorem execJmpReg_kept (a0 a1 s) : KeptOut s (execJmpReg a0 a1 s) := .nearRun

theorem execCallReg_kept (a0 a1 s) : KeptOut s (execCallReg a0 a1 s) := .nearRun

theorem execShzL_kept (a0 a1 a2 a3 s) : KeptOut s (execShzL a0 a1 a2 a3 s) := .coreStep

theorem execShzR_kept (a0 a1 a2 a3 s) : KeptOut s (execShzR a0 a1 a2 a3 s) := .coreStep

theorem execShsR_kept (a0 a1 a2 a3 s) : KeptOut s (execShsR a0 a1 a2 a3 s) := .coreStep

theorem execRotL_kept (a0 a1 a2 a3 s) : KeptOut s (execRotL a0 a1 a2 a3 s) := .coreStep

theorem execRotR_kept (a0 a1 a2 a3 s) : KeptOut s (execRotR a0 a1 a2 a3 s) := .coreStep

theorem execRtcL_kept (a0 a1 a2 a3 s) : KeptOut s (execRtcL a0 a1 a2 a3 s) := .coreStep

theorem execRtcR_kept (a0 a1 a2 a3 s) : KeptOut s (execRtcR a0 a1 a2 a3 s) := .coreStep

theorem execBitS_kept (a0 a1 a2 a3 s) : KeptOut s (execBitS a0 a1 a2 a3 s) := .coreStep

theorem execBitC_kept (a0 a1 a2 a3 s) : KeptOut s (execBitC a0 a1 a2 a3 s) := .coreStep

theorem execBitI_kept (a0 a1 a2 a3 s) : KeptOut s (execBitI a0 a1 a2 a3 s) := .coreStep

theorem execBitT_kept (a0 a1 a2 a3 s) : KeptOut s (execBitT a0 a1 a2 a3 s) := .coreStep

theorem execMulu_kept (a0 a1 a2 s) : KeptOut s (execMulu a0 a1 a2 s) := by
  unfold execMulu mulRun
  refine .coreRun (fun t u h => ?_)
  split at h <;> cases h
  exact ⟨rfl, rfl⟩

theorem execMuls_kept (a0 a1 a2 s) : KeptOut s (execMuls a0 a1 a2 s) := by
  unfold execMuls mulRun
  refine .coreRun (fun t u h => ?_)
  split at h <;> cases h
  exact ⟨rfl, rfl⟩

theorem execDivu_kept (a0 a1 a2 s) : KeptOut s (execDivu a0 a1 a2 s) := by
  refine .coreRun (fun t u h => ?_)
  grind [State.draw, State.modCore, State.setWing, State.modWing, State.draw_kept, State.modCore_kept]

theorem execAddd_kept (a0 a1 a2 s) : KeptOut s (execAddd a0 a1 a2 s) := .twoRun

theorem execSubd_kept (a0 a1 a2 s) : KeptOut s (execSubd a0 a1 a2 s) := .twoRun

theorem execDshl_kept (a0 a1 a2 s) : KeptOut s (execDshl a0 a1 a2 s) := .twoRun

theorem execDshr_kept (a0 a1 a2 s) : KeptOut s (execDshr a0 a1 a2 s) := .twoRun

theorem execDaa_kept (a0 a1 s) : KeptOut s (execDaa a0 a1 s) := .oneRun

theorem execDas_kept (a0 a1 s) : KeptOut s (execDas a0 a1 s) := .oneRun

theorem execMfs_kept (a0 a1 a2 s) : KeptOut s (execMfs a0 a1 a2 s) := by
  refine .coreRun (fun t u h => ?_)
  grind [State.draw, State.modCore, State.setWing, State.modWing, State.modCore_kept]

theorem execMts_kept (a0 a1 a2 s) : KeptOut s (execMts a0 a1 a2 s) := by
  refine .coreRun (fun t u h => ?_)
  grind [State.draw, State.modCore, State.setWing, State.modWing, State.modCore_kept]

theorem execRptMovs_kept (a0 a1 s) : KeptOut s (execRptMovs a0 a1 s) := .rptRun

theorem execRptFills_kept (a0 a1 s) : KeptOut s (execRptFills a0 a1 s) := .rptRun

theorem execRptCmps_kept (a0 a1 s) : KeptOut s (execRptCmps a0 a1 s) := .rptRun

theorem execRptScans_kept (a0 a1 s) : KeptOut s (execRptScans a0 a1 s) := .rptRun

theorem execMovl_kept (a0 a1 a2 s) : KeptOut s (execMovl a0 a1 a2 s) := .coreStep

theorem execAddl_kept (a0 a1 a2 s) : KeptOut s (execAddl a0 a1 a2 s) := .twoRun

theorem execSubl_kept (a0 a1 a2 s) : KeptOut s (execSubl a0 a1 a2 s) := .twoRun

theorem execAndl_kept (a0 a1 a2 s) : KeptOut s (execAndl a0 a1 a2 s) := .twoRun

theorem execOrl_kept (a0 a1 a2 s) : KeptOut s (execOrl a0 a1 a2 s) := .twoRun

theorem execXorl_kept (a0 a1 a2 s) : KeptOut s (execXorl a0 a1 a2 s) := .twoRun

theorem execCmpl_kept (a0 a1 a2 s) : KeptOut s (execCmpl a0 a1 a2 s) := .coreStep

theorem execLda_kept (a0 a1 a2 s) : KeptOut s (execLda a0 a1 a2 s) := .loadRun

theorem execSta_kept (a0 a1 a2 s) : KeptOut s (execSta a0 a1 a2 s) := .storeRun

theorem execInterruptEntry_kept (a0 s) : KeptOut s (execInterruptEntry a0 s) := by
  unfold execInterruptEntry
  (try dsimp only)
  refine .next ?_
  (repeat' split) <;> simp

theorem execCoreWake_kept (a0 s) : KeptOut s (execCoreWake a0 s) := by
  unfold execCoreWake
  (try dsimp only)
  refine .next ?_
  (repeat' split) <;> simp

theorem execWatchdogEnable_kept (a0 a1 s) : KeptOut s (execWatchdogEnable a0 a1 s) := by
  unfold execWatchdogEnable
  refine .byCore ?_
  simp

theorem execWatchdogKick_kept (a0 a1 s) : KeptOut s (execWatchdogKick a0 a1 s) := by
  unfold execWatchdogKick
  refine .byCore ?_
  simp

theorem execWatchdogWarn_kept (a0 s) : KeptOut s (execWatchdogWarn a0 s) := by
  unfold execWatchdogWarn
  (try dsimp only)
  refine .next ?_
  simp

theorem execWatchdogExpiry_kept (a0 s) : KeptOut s (execWatchdogExpiry a0 s) := by
  unfold execWatchdogExpiry
  (try dsimp only)
  refine .next ?_
  (repeat' split) <;> simp

theorem execDebugHalt_kept (a0 a1 s) : KeptOut s (execDebugHalt a0 a1 s) := by
  unfold execDebugHalt
  (try dsimp only)
  refine .next ?_
  simp

theorem execDebugResume_kept (a0 a1 s) : KeptOut s (execDebugResume a0 a1 s) := by
  unfold execDebugResume
  (try dsimp only)
  refine .next ?_
  simp

theorem execAppletInstall_kept (a0 a1 s) : KeptOut s (execAppletInstall a0 a1 s) := by
  unfold execAppletInstall
  (try dsimp only)
  refine .next ?_
  simp

theorem execAppletRemove_kept (a0 a1 s) : KeptOut s (execAppletRemove a0 a1 s) := by
  unfold execAppletRemove
  (try dsimp only)
  refine .next ?_
  simp

theorem execAppletStart_kept (a0 s) : KeptOut s (execAppletStart a0 s) := by
  unfold execAppletStart
  (try dsimp only)
  refine .next ?_
  (repeat' split) <;> simp

theorem execAppletYield_kept (a0 s) : KeptOut s (execAppletYield a0 s) := by
  unfold execAppletYield
  (try dsimp only)
  refine .next ?_
  (repeat' split) <;> simp

theorem execAppletExit_kept (a0 s) : KeptOut s (execAppletExit a0 s) := by
  unfold execAppletExit
  (try dsimp only)
  refine .next ?_
  (repeat' split) <;> simp

theorem execAppletPut_kept (a0 s) : KeptOut s (execAppletPut a0 s) := by
  unfold execAppletPut
  (try dsimp only)
  refine .next ?_
  (repeat' split) <;> simp

theorem execAppletGet_kept (a0 s) : KeptOut s (execAppletGet a0 s) := by
  unfold execAppletGet
  (try dsimp only)
  refine .next ?_
  (repeat' split) <;> simp

theorem execAppletWait_kept (a0 s) : KeptOut s (execAppletWait a0 s) := by
  unfold execAppletWait
  (try dsimp only)
  refine .next ?_
  (repeat' split) <;> simp

theorem execAppletWaitExpiry_kept (a0 s) : KeptOut s (execAppletWaitExpiry a0 s) := by
  unfold execAppletWaitExpiry
  (try dsimp only)
  refine .next ?_
  (repeat' split) <;> simp

theorem execAppletRestart_kept (a0 s) : KeptOut s (execAppletRestart a0 s) := by
  unfold execAppletRestart
  (try dsimp only)
  refine .next ?_
  (repeat' split) <;> simp

theorem execDoorbell_kept (a0 a1 a2 s) : KeptOut s (execDoorbell a0 a1 a2 s) := by
  unfold execDoorbell
  refine .byCore ?_
  simp

theorem execDocentClaim_kept (a0 s) : KeptOut s (execDocentClaim a0 s) := by
  unfold execDocentClaim
  (try dsimp only)
  refine .next ?_
  (repeat' split) <;> simp

theorem execDocentComplete_kept (a0 a1 s) : KeptOut s (execDocentComplete a0 a1 s) := by
  unfold execDocentComplete
  refine .byCore ?_
  simp

theorem execPendSet_kept (a0 a1 a2 s) : KeptOut s (execPendSet a0 a1 a2 s) := by
  unfold execPendSet
  refine .byCore ?_
  simp

theorem execPendClr_kept (a0 a1 a2 s) : KeptOut s (execPendClr a0 a1 a2 s) := by
  unfold execPendClr
  refine .byCore ?_
  simp

theorem execMaskSet_kept (a0 a1 a2 s) : KeptOut s (execMaskSet a0 a1 a2 s) := by
  unfold execMaskSet
  refine .byCore ?_
  simp

theorem execMaskClr_kept (a0 a1 a2 s) : KeptOut s (execMaskClr a0 a1 a2 s) := by
  unfold execMaskClr
  refine .byCore ?_
  simp

theorem execRingPublish_kept (a0 a1 a2 s) : KeptOut s (execRingPublish a0 a1 a2 s) := by
  unfold execRingPublish
  refine .byCore ?_
  simp

theorem execRingTake_kept (a0 a1 s) : KeptOut s (execRingTake a0 a1 s) := by
  unfold execRingTake
  refine .byCore ?_
  simp

theorem execRingPass_kept (a0 a1 s) : KeptOut s (execRingPass a0 a1 s) := by
  unfold execRingPass
  refine .byCore ?_
  simp

theorem execMbxLock_kept (a0 a1 s) : KeptOut s (execMbxLock a0 a1 s) := by
  unfold execMbxLock
  (try dsimp only)
  refine .next ?_
  (repeat' split) <;> simp

theorem execMbxPost_kept (a0 a1 s) : KeptOut s (execMbxPost a0 a1 s) := by
  unfold execMbxPost
  refine .byCore ?_
  simp

theorem execMbxAck_kept (a0 a1 a2 s) : KeptOut s (execMbxAck a0 a1 a2 s) := by
  unfold execMbxAck
  refine .byCore ?_
  simp

theorem execMbxRelease_kept (a0 a1 s) : KeptOut s (execMbxRelease a0 a1 s) := by
  unfold execMbxRelease
  refine .byCore ?_
  simp

theorem execAppletIn_kept (a0 a1 a2 s) : KeptOut s (execAppletIn a0 a1 a2 s) := by
  unfold execAppletIn
  (try dsimp only)
  refine .next ?_
  simp

theorem execEcbEnc_kept (a0 a1 s) : KeptOut s (execEcbEnc a0 a1 s) := by
  unfold execEcbEnc
  (try dsimp only)
  refine .next ?_
  (repeat' split) <;> simp

theorem execEcbDec_kept (a0 a1 s) : KeptOut s (execEcbDec a0 a1 s) := by
  unfold execEcbDec
  (try dsimp only)
  refine .next ?_
  (repeat' split) <;> simp

theorem execCtr_kept (a0 a1 s) : KeptOut s (execCtr a0 a1 s) := by
  unfold execCtr
  (try dsimp only)
  refine .next ?_
  (repeat' split) <;> simp

theorem execCcmEnc_kept (a0 a1 s) : KeptOut s (execCcmEnc a0 a1 s) := by
  unfold execCcmEnc
  (try dsimp only)
  refine .next ?_
  (repeat' split) <;> simp

theorem execCcmDec_kept (a0 a1 s) : KeptOut s (execCcmDec a0 a1 s) := by
  unfold execCcmDec
  (try dsimp only)
  refine .next ?_
  (repeat' split) <;> simp

theorem execGcmEnc_kept (a0 a1 s) : KeptOut s (execGcmEnc a0 a1 s) := by
  unfold execGcmEnc
  (try dsimp only)
  refine .next ?_
  (repeat' split) <;> simp

theorem execGcmDec_kept (a0 a1 s) : KeptOut s (execGcmDec a0 a1 s) := by
  unfold execGcmDec
  (try dsimp only)
  refine .next ?_
  (repeat' split) <;> simp

theorem execCmacGen_kept (a0 a1 s) : KeptOut s (execCmacGen a0 a1 s) := by
  unfold execCmacGen
  (try dsimp only)
  refine .next ?_
  (repeat' split) <;> simp

theorem execCmacVerify_kept (a0 a1 s) : KeptOut s (execCmacVerify a0 a1 s) := by
  unfold execCmacVerify
  (try dsimp only)
  refine .next ?_
  (repeat' split) <;> simp

theorem execShake256_kept (a0 a1 s) : KeptOut s (execShake256 a0 a1 s) := by
  unfold execShake256
  (try dsimp only)
  refine .next ?_
  (repeat' split) <;> simp

theorem execKmacGen_kept (a0 a1 s) : KeptOut s (execKmacGen a0 a1 s) := by
  unfold execKmacGen
  (try dsimp only)
  refine .next ?_
  (repeat' split) <;> simp

theorem execKmacVerify_kept (a0 a1 s) : KeptOut s (execKmacVerify a0 a1 s) := by
  unfold execKmacVerify
  (try dsimp only)
  refine .next ?_
  (repeat' split) <;> simp

theorem execDerive_kept (a0 a1 s) : KeptOut s (execDerive a0 a1 s) := by
  unfold execDerive
  (try dsimp only)
  refine .next ?_
  (repeat' split) <;> simp

theorem execWrap_kept (a0 a1 s) : KeptOut s (execWrap a0 a1 s) := by
  unfold execWrap
  (try dsimp only)
  refine .next ?_
  (repeat' split) <;> simp

theorem execUnwrap_kept (a0 a1 s) : KeptOut s (execUnwrap a0 a1 s) := by
  unfold execUnwrap
  (try dsimp only)
  refine .next ?_
  (repeat' split) <;> simp

theorem execXmssF_kept (a0 a1 s) : KeptOut s (execXmssF a0 a1 s) := by
  unfold execXmssF
  (try dsimp only)
  refine .next ?_
  (repeat' split) <;> simp

theorem execXmssH_kept (a0 a1 s) : KeptOut s (execXmssH a0 a1 s) := by
  unfold execXmssH
  (try dsimp only)
  refine .next ?_
  (repeat' split) <;> simp

theorem execXmssPrf_kept (a0 a1 s) : KeptOut s (execXmssPrf a0 a1 s) := by
  unfold execXmssPrf
  (try dsimp only)
  refine .next ?_
  (repeat' split) <;> simp

theorem execXmssChain_kept (a0 a1 s) : KeptOut s (execXmssChain a0 a1 s) := by
  unfold execXmssChain
  (try dsimp only)
  refine .next ?_
  (repeat' split) <;> simp

theorem execXmssHmsg_kept (a0 a1 s) : KeptOut s (execXmssHmsg a0 a1 s) := by
  unfold execXmssHmsg
  (try dsimp only)
  refine .next ?_
  (repeat' split) <;> simp

theorem execCipherJobComplete_kept (a0 a1 s) : KeptOut s (execCipherJobComplete a0 a1 s) := by
  unfold execCipherJobComplete
  (try dsimp only)
  refine .next ?_
  (repeat' split) <;> simp

theorem execCipherAbort_kept (a0 a1 s) : KeptOut s (execCipherAbort a0 a1 s) := by
  unfold execCipherAbort
  refine .byCore ?_
  simp

theorem execKeyCommitPage_kept (a0 s) : KeptOut s (execKeyCommitPage a0 s) := by
  unfold execKeyCommitPage
  refine .byCore ?_
  simp

theorem execKeyCommitRoot_kept (a0 s) : KeptOut s (execKeyCommitRoot a0 s) := by
  unfold execKeyCommitRoot
  refine .byCore ?_
  simp

theorem execPageClear_kept (a0 a1 s) : KeptOut s (execPageClear a0 a1 s) := by
  unfold execPageClear
  refine .byCore ?_
  simp

theorem execPageCfgWrite_kept (a0 a1 s) : KeptOut s (execPageCfgWrite a0 a1 s) := by
  unfold execPageCfgWrite
  refine .byCore ?_
  simp

theorem execRandomRead_kept (a0 s) : KeptOut s (execRandomRead a0 s) := by
  unfold execRandomRead
  (try dsimp only)
  refine .next ?_
  (repeat' split) <;> simp

theorem execRandomReady_kept (a0 s) : KeptOut s (execRandomReady a0 s) := by
  unfold execRandomReady
  refine .byCore ?_
  simp

theorem execRandomHealthFail_kept (a0 s) : KeptOut s (execRandomHealthFail a0 s) := by
  unfold execRandomHealthFail
  refine .byCore ?_
  simp

theorem execNetworkRootWrite_kept (a0 a1 a2 s) : KeptOut s (execNetworkRootWrite a0 a1 a2 s) := by
  unfold execNetworkRootWrite
  (try dsimp only)
  refine .next ?_
  simp

theorem execSessionKey_kept (a0 a1 a2 s) : KeptOut s (execSessionKey a0 a1 a2 s) := by
  unfold execSessionKey
  (try dsimp only)
  refine .next ?_
  simp

theorem execTrialEnd_kept (a0 s) : KeptOut s (execTrialEnd a0 s) := by
  unfold execTrialEnd
  (try dsimp only)
  refine .next ?_
  (repeat' split) <;> simp

theorem execUpdatePending_kept (a0 a1 a2 s) : KeptOut s (execUpdatePending a0 a1 a2 s) := by
  unfold execUpdatePending
  (try dsimp only)
  refine .next ?_
  simp

theorem execOwnerRootWrite_kept (a0 a1 a2 a3 s) : KeptOut s (execOwnerRootWrite a0 a1 a2 a3 s) := by
  unfold execOwnerRootWrite
  (try dsimp only)
  refine .next ?_
  simp

theorem execRegenerate_kept (a0 a1 a2 s) : KeptOut s (execRegenerate a0 a1 a2 s) := by
  unfold execRegenerate
  (try dsimp only)
  refine .next ?_
  simp

theorem execSuccessorGenerate_kept (a0 s) : KeptOut s (execSuccessorGenerate a0 s) := by
  unfold execSuccessorGenerate
  (try dsimp only)
  refine .next ?_
  (repeat' split) <;> simp

theorem execSuccessorReady_kept (a0 s) : KeptOut s (execSuccessorReady a0 s) := by
  unfold execSuccessorReady
  (try dsimp only)
  refine .next ?_
  (repeat' split) <;> simp

theorem execChallenge_kept (a0 a1 a2 s) : KeptOut s (execChallenge a0 a1 a2 s) := by
  unfold execChallenge
  (try dsimp only)
  refine .next ?_
  simp

theorem execPortRandomHealthFail_kept (s) : KeptOut s (execPortRandomHealthFail s) := by
  unfold execPortRandomHealthFail
  (try dsimp only)
  refine .next ?_
  simp

theorem execReservedEncoding_kept (a0 a1 s) : KeptOut s (execReservedEncoding a0 a1 s) := by
  unfold execReservedEncoding
  split
  · exact .coreRun (fun t u h => by cases h)
  · exact .next ⟨rfl, rfl⟩

theorem execFetchAccessFault_kept (a0 s) : KeptOut s (execFetchAccessFault a0 s) := by
  refine .next ?_
  split
  · exact ⟨rfl, rfl⟩
  · split
    · exact ⟨rfl, rfl⟩
    · rename_i h
      simpa using State.fetchFault_kept _ _ _ _ h

end Sys2Proof.Machine
end

