-- ==== Sys2Proof/Laws/Tab.lean ====
section
/-! SUPPORT. The laws of the two containers: reading after writing, and that every write keeps the canonical form. -/
namespace Sys2Proof.Machine

variable {α : Type}

/-- The keys of a table rise strictly from above `k`. -/
def tabove (k : Nat) : Tab α → Prop
  | [] => True
  | (n, _) :: t => k < n ∧ tabove n t

@[simp] theorem tget_nil (d : α) (n : Nat) : tget d [] n = d := rfl

theorem trising_cons (a : Nat × α) (t : Tab α) : trising (a :: t) = true ↔ tabove a.1 t := by
  induction t generalizing a with
  | nil => simp [trising, tabove]
  | cons b t ih => simp only [trising, Bool.and_eq_true, decide_eq_true_eq, ih, tabove]

theorem tabove_mono {j k : Nat} (h : j ≤ k) : ∀ {t : Tab α}, tabove k t → tabove j t
  | [], _ => trivial
  | (_, _) :: _, ⟨h1, h2⟩ => ⟨Nat.lt_of_le_of_lt h h1, h2⟩

theorem tget_above (d : α) {k n : Nat} : ∀ {t : Tab α}, tabove k t → n ≤ k → tget d t n = d
  | [], _, _ => rfl
  | (m, _) :: _, ⟨h1, h2⟩, h => by
    have : m ≠ n := by omega
    simp only [tget, this, if_false]
    exact tget_above d h2 (by omega)

theorem trising_iff : ∀ {t : Tab α}, trising t = true ↔ (match t with | [] => True | a :: l => tabove a.1 l)
  | [] => by simp [trising]
  | a :: l => trising_cons a l

theorem trising_tail {a : Nat × α} {t : Tab α} (h : trising (a :: t) = true) : trising t = true := by
  rw [trising_cons] at h
  match t, h with
  | [], _ => rfl
  | _ :: _, ⟨_, h2⟩ => rw [trising_cons]; exact h2

theorem tabove_tdrop (p : Nat → Bool) {k : Nat} : ∀ {t : Tab α}, tabove k t → tabove k (tdrop p t)
  | [], _ => trivial
  | (n, x) :: t, ⟨h1, h2⟩ => by
    have ih := tabove_tdrop p h2
    simp only [tdrop, List.filter]
    split
    · exact ⟨h1, ih⟩
    · exact tabove_mono (Nat.le_of_lt h1) ih

theorem trising_tdrop (p : Nat → Bool) : ∀ {t : Tab α}, trising t = true → trising (tdrop p t) = true
  | [], _ => rfl
  | (n, x) :: t, h => by
    have ha := tabove_tdrop p ((trising_cons _ _).1 h)
    have ht := trising_tdrop p (trising_tail h)
    simp only [tdrop, List.filter]
    split
    · exact (trising_cons _ _).2 ha
    · exact ht

variable [DecidableEq α]

theorem tset_above (d : α) {j n : Nat} (v : α) (hj : j < n) : ∀ {t : Tab α}, tabove j t → tabove j (tset d n v t)
  | [], _ => by simp only [tset]; split <;> simp [tabove, hj]
  | (k, x) :: t, ⟨h1, h2⟩ => by
    simp only [tset]
    split
    · split
      · exact ⟨h1, h2⟩
      · exact ⟨hj, by assumption, h2⟩
    · split
      · split
        · exact tabove_mono (Nat.le_of_lt h1) h2
        · exact ⟨hj, by subst n; exact h2⟩
      · exact ⟨h1, tset_above d v (by omega) h2⟩

/-- A read after a write to the same key gives the value written. -/
theorem tget_tset_same (d : α) (n : Nat) (v : α) : ∀ {t : Tab α}, trising t = true → tget d (tset d n v t) n = v
  | [], _ => by simp only [tset]; split <;> simp_all [tget]
  | (k, x) :: t, h => by
    have ha := (trising_cons _ _).1 h
    simp only [tset]
    split
    · rename_i hk
      split
      · rename_i hv
        have : k ≠ n := by omega
        simp only [tget, this, if_false, hv]
        exact tget_above d ha (by simp only; omega)
      · simp [tget]
    · split
      · rename_i hk
        split
        · rename_i hv
          rw [hv]
          exact tget_above d ha (by simp only; omega)
        · simp [tget]
      · have : k ≠ n := by omega
        simp only [tget, this, if_false]
        exact tget_tset_same d n v (trising_tail h)

/-- A write leaves every other key alone. -/
theorem tget_tset_other (d : α) {m n : Nat} (v : α) (hm : m ≠ n) : ∀ {t : Tab α}, trising t = true →
    tget d (tset d n v t) m = tget d t m
  | [], _ => by
    simp only [tset]
    split
    · rfl
    · simp [tget, Ne.symm hm]
  | (k, x) :: t, h => by
    have ha := (trising_cons _ _).1 h
    simp only [tset]
    split
    · split
      · rfl
      · simp [tget, Ne.symm hm]
    · split
      · rename_i hk
        subst hk
        split
        · simp only [tget, Ne.symm hm, if_false]
        · simp [tget, Ne.symm hm]
      · simp only [tget]
        split
        · rfl
        · exact tget_tset_other d v hm (trising_tail h)

theorem tset_mem (d : α) (n : Nat) (v : α) : ∀ {t : Tab α} {e : Nat × α}, e ∈ tset d n v t → e ∈ t ∨ (e = (n, v) ∧ v ≠ d)
  | [], e => by
    simp only [tset]
    split
    · simp
    · intro h; exact .inr ⟨by simpa using h, by assumption⟩
  | (k, x) :: t, e => by
    simp only [tset]
    intro h
    split at h
    · split at h
      · exact .inl h
      · rcases List.mem_cons.1 h with h | h
        · exact .inr ⟨h, by assumption⟩
        · exact .inl h
    · split at h
      · split at h
        · exact .inl (List.mem_cons_of_mem _ h)
        · rcases List.mem_cons.1 h with h | h
          · exact .inr ⟨h, by assumption⟩
          · exact .inl (List.mem_cons_of_mem _ h)
      · rcases List.mem_cons.1 h with h | h
        · exact .inl (by rw [h]; exact List.mem_cons_self)
        · rcases tset_mem d n v h with h | h
          · exact .inl (List.mem_cons_of_mem _ h)
          · exact .inr h

theorem trising_tset (d : α) (n : Nat) (v : α) {t : Tab α} (h : trising t = true) : trising (tset d n v t) = true := by
  match t with
  | [] => simp only [tset]; split <;> rfl
  | (k, x) :: t =>
    have ha := (trising_cons _ _).1 h
    simp only [tset]
    split
    · split
      · exact h
      · rw [trising_cons]; exact ⟨by assumption, ha⟩
    · split
      · rename_i hk
        split
        · exact trising_tail h
        · rw [trising_cons]; simp only at ha ⊢; rw [hk]; exact ha
      · rw [trising_cons]; exact tset_above d v (by simp only; omega) ha

/-- A write keeps the canonical form. -/
theorem twf_tset (f : Nat → α) (n : Nat) (v : α) {t : Tab α} (h : twf f t = true) : twf f (tset (f n) n v t) = true := by
  simp only [twf, Bool.and_eq_true, List.all_eq_true, decide_eq_true_eq] at h ⊢
  refine ⟨trising_tset _ n v h.1, fun e he => ?_⟩
  rcases tset_mem _ n v he with h' | ⟨rfl, h'⟩
  · exact h.2 e h'
  · exact h'

theorem twf_tmod (f : Nat → α) (n : Nat) (g : α → α) {t : Tab α} (h : twf f t = true) : twf f (tmod (f n) n g t) = true :=
  twf_tset f n _ h

/-- Writes at consecutive keys keep the canonical form. -/
theorem twf_tputs (d : α) : ∀ (vs : List α) (n : Nat) {t : Tab α}, twf (fun _ => d) t = true → twf (fun _ => d) (tputs d n vs t) = true
  | [], _, _, h => h
  | v :: vs, n, _, h => twf_tputs d vs (n + 1) (twf_tset (fun _ => d) n v h)

/-- Removing keys keeps the canonical form. -/
theorem twf_tdrop (f : Nat → α) (p : Nat → Bool) {t : Tab α} (h : twf f t = true) : twf f (tdrop p t) = true := by
  simp only [twf, Bool.and_eq_true, List.all_eq_true, decide_eq_true_eq] at h ⊢
  exact ⟨trising_tdrop p h.1, fun e he => h.2 e (List.mem_filter.1 he).1⟩

@[simp] theorem twf_nil (f : Nat → α) : twf f [] = true := rfl

end Sys2Proof.Machine
end

