-- ==== Sys2Proof/Laws/Memory.lean ====
section
/-! SUPPORT. The laws of the memories: SRAM, backup RAM and the lines of flash read back what is written, every other word stays, and every
write keeps the canonical form, which holds at reset. -/
namespace Sys2Proof.Machine
open Sys2Proof

@[simp] theorem Wing.st_cph (a : Nat) (v : Word) (x : Wing) : (x.st a v).cph = x.cph := by
  unfold Wing.st; split <;> rfl

@[simp] theorem Wing.fenced_st (a b : Nat) (v : Word) (x : Wing) : (x.st a v).fenced b = x.fenced b := by
  simp only [Wing.fenced, Wing.st_cph]

/-- A store changes SRAM only. -/
theorem Wing.st_frame (a : Nat) (v : Word) (x : Wing) : x.st a v = { x with sram := (x.st a v).sram } := by
  unfold Wing.st; split <;> rfl

theorem Wing.st_wf (a : Nat) (v : Word) (x : Wing) (h : Memory.wf x.sram = true) : Memory.wf (x.st a v).sram = true := by
  unfold Wing.st
  split
  · exact twf_tset (fun _ => 0) a v h
  · exact h

theorem Wing.sts_wf : ∀ (vs : List Word) (a : Nat) (x : Wing), Memory.wf x.sram = true → Memory.wf (x.sts a vs).sram = true
  | [], _, _, h => h
  | v :: vs, a, x, h => Wing.sts_wf vs (a + 1) (x.st a v) (Wing.st_wf a v x h)

theorem Memory.wf_rising {m : Tab Word} (h : Memory.wf m = true) : trising m = true := by
  simp only [Memory.wf, twf, Bool.and_eq_true] at h
  exact h.1

/-- A word of SRAM outside the fence reads back as written. -/
theorem Wing.ld_st_same (a : Nat) (v : Word) (x : Wing) (h : Memory.wf x.sram = true) (hi : inSram a) (hf : x.fenced a = false) :
    (x.st a v).ld a = v := by
  have hs : x.st a v = { x with sram := tset 0 a v x.sram } := by
    unfold Wing.st inSram at *
    simp [hi.1, hi.2, hf]
  unfold Wing.ld
  rw [Wing.fenced_st, hf, hs]
  exact tget_tset_same 0 a v (Memory.wf_rising h)

/-- Every other word of SRAM reads as before. -/
theorem Wing.ld_st_other (a b : Nat) (v : Word) (x : Wing) (h : Memory.wf x.sram = true) (hb : b ≠ a) : (x.st a v).ld b = x.ld b := by
  unfold Wing.ld
  rw [Wing.fenced_st]
  split
  · rfl
  · unfold Wing.st
    split
    · exact tget_tset_other 0 v hb (Memory.wf_rising h)
    · rfl

/-- A write of backup RAM keeps its form. -/
theorem State.bramPut_wf (w off : Nat) (os : Octets) (s : State) (h : twf (fun _ => 0) s.cal.bram = true) :
    twf (fun _ => 0) (s.bramPut w off os).2.cal.bram = true := by
  unfold State.bramPut
  split
  · unfold State.frozenWrite; (repeat' split) <;> exact h
  · exact twf_tputs 0 _ _ h

/-- A write of a line of flash, and an erase, keep the form. -/
theorem Flash.setLine_wf (li : Nat) (l : Line) (f : Flash) (h : twf (fun _ => {}) f.lines = true) :
    twf (fun _ => {}) (f.setLine li l).lines = true := twf_tset (fun _ => {}) li l h

theorem Flash.blank_wf (n : Nat) (f : Flash) (h : twf (fun _ => {}) f.lines = true) : twf (fun _ => {}) (f.blank n).lines = true := by
  unfold Flash.blank
  exact twf_tdrop (fun _ => ({} : Line)) (fun k => k / 256 == n) h

theorem State.reset_sram_wf (w : Fin 8) : Memory.wf (State.reset.wing w).sram = true := by
  match w with
  | 0 => rfl | 1 => rfl | 2 => rfl | 3 => rfl | 4 => rfl | 5 => rfl | 6 => rfl | 7 => rfl

theorem State.reset_flash_wf (w : Fin 8) : twf (fun _ => {}) (State.reset.wing w).fls.lines = true := by
  match w with
  | 0 => rfl | 1 => rfl | 2 => rfl | 3 => rfl | 4 => rfl | 5 => rfl | 6 => rfl | 7 => rfl

theorem State.reset_bram_wf : twf (fun _ => 0) State.reset.cal.bram = true := rfl

end Sys2Proof.Machine
end

