-- ==== Sys2Proof/Laws/Sending.lean ====
section
/-! SUPPORT. What the link engine's own frames need: the length of their headers, and where they find room. -/
namespace Sys2Proof.Machine
open Sys2Proof

@[simp] theorem natLe_length (k n : Nat) : (natLe k n).length = k := by
  induction k generalizing n with
  | zero => rfl
  | succ k ih => simp only [natLe, List.length_cons, ih]

@[simp] theorem Wing.st_rings (a : Nat) (v : Word) (x : Wing) : (x.st a v).rings = x.rings := by
  unfold Wing.st; split <;> rfl

@[simp] theorem Wing.putOctets_rings (a : Nat) : ∀ (os : Octets) (off : Nat) (x : Wing), (x.putOctets a off os).rings = x.rings
  | [], _, _ => rfl
  | _ :: os, off, x => (Wing.putOctets_rings a os (off + 1) _).trans (Wing.st_rings _ _ x)

/-- A ring that is not full takes a descriptor (R452). -/
theorem Wing.publish_room {r : Nat} {src : Bool} {d : List Word} {x : Wing} (h : (x.ring r).full = false) : (x.publish r src d).1 = true := by
  unfold Wing.publish
  simp only [h, Bool.false_eq_true, if_false]

/-- A frame of the Curator goes out where a buffer is free and ring 11 has room. -/
theorem Wing.ownSend_room {word0 : Nat} {p : Octets} {x : Wing} (hb : (x.ownBuf p.length).isSome = true) (hr : (x.ring 11).full = false) :
    (x.ownSend word0 p).1 = true := by
  unfold Wing.ownSend
  cases hb' : x.ownBuf p.length with
  | none => rw [hb'] at hb; exact absurd hb (by decide)
  | some a =>
    have hp : ((x.putOctets a 0 p).publish 11 false
        [w16 word0, w16 a, w16 (a / 65536 + 256 * x.reg 0xFF801E), w16 (p.length % 2048), 0, 0, 0, 0]).1 = true := by
      apply Wing.publish_room
      simpa only [Wing.ring, Wing.putOctets_rings] using hr
    simp only [hp, if_true]

/-- The header of a frame to one neighbour has 14 octets with the short address of this wing, and 18 without (R141). -/
theorem macHeader_one (short eui : Nat) (ar : Bool) (q : Nb) :
    (macHeader short eui ar (some q)).length = 14 ∨ (macHeader short eui ar (some q)).length = 18 := by
  unfold macHeader
  by_cases h : short < 0xFFFE <;> simp [h]

/-- The header of a broadcast has 8 octets with the short address of this wing, and 14 without (R141). -/
theorem macHeader_all (short eui : Nat) (ar : Bool) :
    (macHeader short eui ar none).length = 8 ∨ (macHeader short eui ar none).length = 14 := by
  unfold macHeader
  by_cases h : short < 0xFFFE <;> simp [h]

end Sys2Proof.Machine
end

