-- ==== Sys2Proof/Tests/Slice0.lean ====
section
/-! SUPPORT. Tests. The `wit_` theorems show, for each statement with hypotheses, states and operands that meet them, at the ends of their ranges. The `test_` theorems
have their expected values from the spec's text, worked examples or tables. -/
namespace Sys2Proof.Tests
set_option Elab.async false
open Sys2Proof Sys2Proof.Machine

/-- Reset, with wing 0 as given. -/
def one (x : Wing) : State := State.reset.setWing 0 x

/-- Reset, with the Dome as given. -/
def dm (d : Dome) : State := { State.reset with dome := d }

/-- A RUNNING wing. -/
def wr : Wing := { sys := { state := .running } }

/-- A wing in STOPPED. -/
def ws : Wing := { sys := { state := .stopped } }

theorem wit_StepRunsFront : State.reset.pending = [] := by decide

theorem wit_InvStep : State.reset.dome.Inv ∧ 
    (dm { mainGood := true, mode := .line, domePor := false, brownouts := 0xFFFFFFFF, railFaults := 0xFFFF }).dome.Inv ∧ (dm { mode := .dark, bpor := true, writeFrozen := true }).dome.Inv := by
  unfold Dome.Inv; decide

theorem wit_LineSwitch : (dm {}).dome.line = .off ∧ (10 : Octet).toNat = 10 ∧ (9 : Octet).toNat < 10 ∧ (dm {}).dome.bootselPins.getLsbD 1 = false ∧
    18000 ≤ 18000 ∧ 17999 < 18000 ∧ (dm { bootselPins := 2 }).dome.bootselPins.getLsbD 1 = true ∧
    10800 ≤ 10800 ∧ (dm { line := .on }).dome.line = .on ∧ 16999 < 17000 ∧ 17000 ≤ 17000 ∧ (dm { line := .overV }).dome.line = .overV ∧
    61999 < 62000 ∧ (dm { line := .debounce, lineMv := 18000 }).dome.line = .debounce ∧ 18000 ≤ (dm { line := .debounce, lineMv := 18000 }).dome.lineMv ∧
    (dm { line := .debounce, lineMv := 17999 }).dome.lineMv < 18000 ∧ 64000 < 64001 ∧ (dm { line := .ramp, lineMv := 10199 }).dome.lineMv < 10200 := by decide

theorem wit_MainSupply : (dm { line := .ramp, mainGood := true }).dome.line = .ramp ∧ (dm { line := .ramp }).dome.mode = .keep ∧
    (dm { buck := true }).dome.buck = true ∧ (dm { buck := true }).dome.mainGood = false ∧ (dm { vintQual := true }).dome.vintQual = true ∧
    (dm { vintQual := true }).dome.brownout = false ∧ (dm { brownout := true, holdupShorts := 0xFFFF }).dome.brownout = true ∧
    (dm { mode := .watch }).dome.mode = .watch ∧ (dm { mainGood := true, buck := true }).dome.mainGood = true ∧
    ({ dm { mode := .watch } with wings := ⟨wr, wr, wr, wr, wr, wr, wr, { wr with car := { fine := true } }⟩ } : State).dome.mode = .watch := by decide

theorem wit_BackupDomain : (dm {}).dome.bpor = false ∧ (dm { bpor := true }).dome.bpor = true ∧ (dm {}).dome.writeFrozen = false ∧
    (dm { writeFrozen := true }).dome.writeFrozen = true ∧ (dm { writeFrozen := true }).dome.bpor = false ∧ (dm {}).dome.mainGood = false ∧
    (dm { mainGood := true }).dome.mainGood = true ∧ (dm { mode := .watch }).dome.mode = .watch := by decide

theorem wit_WingResets : (dm {}).dome.resetLow = false ∧ (State.reset.wing 0).sys.state = .reset ∧ (dm { mainGood := true }).levels = 0 ∧
    (dm {}).levels ≠ 0 ∧ ((one wr).wing 0).awake = true ∧ (1160 : Int) ≤ (1160#16).toInt ∧
    ((one { sys := { state := .faulted } }).wing 0).sys.state = .faulted ∧ (1039#16).toInt < 1040 := by decide

theorem wit_WingAfterReset : wr.sys.state ≠ .reset ∧ ResetSource.pin ≠ .domePor ∧ ({} : Wing).sys.state = .reset := by decide

theorem wit_Reference : ((one wr).wing 0).car.pllLocked = false ∧ (dm { mainGood := true }).dome.refLost = false ∧
    (dm { mainGood := true }).dome.mainGood = true ∧ (one { car := { pllLocked := true } } |>.wing 0).car.pllLocked = true ∧
    (dm { refLost := true }).dome.refLost = true ∧ (let x : Wing := { wr with car := { started := true, lostTold := true } }
     x.car.started = true ∧ x.car.fine = false ∧ x.core.run = .running ∧ x.car.lostTold = true) := by decide

/-- Reset, with the port as given. -/
def pt (p : Port) : State := { State.reset with port := p }

theorem wit_PortLink : (pt {}).port.linkUp = false ∧ (pt {}).spi = false ∧ (pt { powerFail := false }).port.powerFail = false ∧ (pt { linkUp := true }).port.linkUp = true ∧
    (pt { tentative := 4 }).port.tentative.getLsbD 2 = true := by decide

/-- A wing that listens in LISTEN with a plan of one watched channel. -/
def wl : Wing := { sys := { state := .running }
                   rx := { radio := .listen, plan := { n := 1, chans := [(0, 1)] }, live := { n := 1, chans := [(0, 1)] } } }

theorem wit_Lanes : let y := wl.advance 7
    y.listening = true ∧ y.rx.lanes = [] ∧ y.rx.recent = [] ∧ y.rx.live.watched 0 = true ∧ y.rx.live.watched 511 = false ∧
    y.rx.live.rssiFloor (y.rx.live.profOf 0) ≤ 0 ∧ (-1000 : Int) < y.rx.live.rssiFloor (y.rx.live.profOf 0) ∧ y.chClass y.now 0 ≠ .closed ∧ ws.listening = false ∧
    (let z : Wing := { wl with lnk := { sync := .synced }, regs := [(0xFF8000, 1)] }
     z.listening = true ∧ z.rx.live.watched 0 = true ∧ z.rx.live.rssiFloor (z.rx.live.profOf 0) ≤ 0 ∧ z.chClass 0 0 = .closed) ∧
    (({ wl with rx := { wl.rx with lanes := [(15, { state := .seeking })] } } : Wing).rlane 15).state = .seeking ∧
    (wl.rx.live.phy 0 < 2 → bits (wl.rx.live.profWord 0 0) 8 7 = 2) ∧ (2 ≤ wl.rx.live.phy 2 → false = false) ∧
    (let x : Wing := { wl with rx := { wl.rx with lanes := [(0, { state := .receiving })] } }
     (x.rlane 0).state = .receiving ∧ (x.rlane 0).buf = none ∧ 2 * ({ x with regs := [(0xFF6023, 16)] } : Wing).bufWords < 33 ∧ 2047 ≤ 2 * x.bufWords ∧
     (List.range (x.reg 0xFF6022)).any (fun b => !x.rx.held.contains b) = true ∧
     (List.range (({ x with regs := [(0xFF6022, 0)] } : Wing).reg 0xFF6022)).any (fun b => !x.rx.held.contains b) = false) := by decide
theorem wit_FrameEnd : let x : Wing := { wl with rx := { wl.rx with lanes := [(3, { state := .receiving, buf := some 5, len := 4 })], held := [5] } }
    ((x.advance 9).rlane 3).state = .receiving ∧ ([1, 2, 3, 4] : Octets).length = ((x.advance 9).rlane 3).len ∧ (x.advance 9).listening = true ∧
    ((x.advance 9).rlane 3).buf = some 5 ∧ bit ((x.advance 9).reg 0xFF6000) 6 = false ∧ (wl.advance 0).rx.radio = .listen ∧ (wl.advance 0).rx.ovl = false ∧
    wl.rx.ovlSeen = false ∧ ({ wl.rx with ovlSeen := true } : Receiver).ovlSeen = true ∧ x.awake = true ∧ 5 ∈ x.rx.held ∧ ¬ 6 ∈ x.rx.held := by decide

/-- The acknowledgement that a wing awaits, in its window. -/
theorem wit_FrameEnd_ack : let p := ackBody 0
    let x : Wing := { wl with lnk := { own := some { id := 2, ch := 0, nominal := 0 } }
                              rx := { wl.rx with lanes := [(3, { state := .receiving, buf := some 5, len := p.length + 2, ackWin := true })], held := [5] } }
    let y := x.advance 9
    (y.rlane 3).state = .receiving ∧ (p ++ [0, 0]).length = (y.rlane 3).len ∧ y.listening = true ∧ (y.rlane 3).buf = some 5 ∧ (y.rlane 3).ackWin = true ∧
    formatOk ((p ++ [0, 0]).take ((y.rlane 3).len - 2)) = true ∧ (parseMac ((p ++ [0, 0]).take ((y.rlane 3).len - 2))).typ = 2 ∧ y.lnk.own.isSome = true ∧
    y.lnk.ackIn = none := by decide

theorem wit_Calibrations : wr.awake = true ∧ ({} : Wing).awake = false ∧ ws.sys.state = .stopped ∧ tget 0 ({ calTemp := [(1, 1)] } : Receiver).calTemp 1 ≠ 0 ∧ tget 0 ws.rx.calTemp 0 = 0 ∧
    (({ calDue := 8 } : Receiver).calDue ||| 0) &&& 0b1011 ≠ 0 ∧ wr.rx.calRun = none ∧
    (∀ k ∈ [(0 : Fin 4), 1, 3], let x : Wing := { wr with rx := { radio := .standby, calDue := 0b1011 } }
     k ≠ 2 ∧ (x.rx.calDue ||| x.rx.calReq).getLsbD k = true ∧ x.rx.calRun = none ∧ x.rx.going = none ∧ x.tx.run = none ∧ x.tx.testRun = none ∧ x.isRunning = true ∧
     x.gapFor (us ((if k = 0 then 1600 else if k = 1 then 300 else 50) + 20)) = true ∧
     (let y : Wing := { x with rx := { x.rx with radio := .listen, calDeferred := true } }
      y.rx.radio = .listen ∧ y.rx.calDeferred = true ∧ y.lnk.txSlot = false ∧ y.lnk.wins = [])) ∧
    ws.isRunning = false ∧
    ({ calRun := some 3 } : Receiver).calRun = some 3 ∧ ({ wr with car := { pllLocked := true } } : Wing).awake = true ∧ ({ car := { pllLocked := true } } : Wing).car.pllLocked = true ∧
    wl.rx.radio = .listen ∧ wl.rx.going = none ∧ wr.rx.lfDone = false ∧ (dm { mode := .line }).dome.mode = .line ∧
    ({ State.reset with cal := { trimMode := 1 } } : State).cal.trimMode < 2 ∧ 2 ≤ ({ State.reset with cal := { trimMode := 2, trimWing := 7 } } : State).cal.trimMode := by decide

theorem wit_RegisterAccess : ((one wr).wing 0).awake = true ∧ wr.deny false .store 0xFF0000 = none ∧ wr.deny false .store 0xFFCFFF = none ∧
    wr.deny true .store 0xFF5000 = wr.deny true .store 0xFF5000 ∧ 0xFEFFFF < 0xFF0000 ∧ 0xFFD000 ≤ 0xFFD000 := by decide

theorem wit_RadioStates : ({ going := some .off } : Receiver).going = some .off ∧
    (let x : Wing := { wr with car := { pllLocked := true } }
     x.isRunning = true ∧ x.rx.radio = .off ∧ x.rx.going = none ∧ x.car.pllLocked = true ∧ (one x).dome.refLost = false ∧ ¬(x.wantListen = true ∧ x.holdListen = true) ∧
     x.lnk.wins = [] ∧ x.lnk.next.isNone = true ∧ x.tx.reqs = [] ∧ x.lnk.own = none) ∧
    (let x : Wing := { wl with car := { pllLocked := true }, rx := { wl.rx with radio := .off, calFirst := false }, regs := [(0xFF6000, 0x24)] }
     x.wantListen = true ∧ x.holdListen = true ∧ x.rx.radio = .off) ∧
    (let x : Wing := { wr with car := { pllLocked := true }, lnk := { own := some { id := 0, ch := 0, nominal := us 100000 } } }
     x.rx.radio = .off ∧ ¬(x.wantListen = true ∧ x.holdListen = true) ∧ x.lnk.own = some { id := 0, ch := 0, nominal := us 100000 }) ∧
    (let y : Wing := { wl with rx := { wl.rx with radio := .standby, calFirst := false }, regs := [(0xFF6000, 0x24)] }.advance 1
     y.canListen = true ∧ y.tx.testRun = none ∧ y.rx.calFirst = false ∧ y.rx.radio = .standby ∧ y.rx.going = none ∧ y.tx.run = none ∧ y.holdListen = true) ∧
    (let y : Wing := { wl with lnk := { sync := .synced }, regs := [(0xFF8000, 0)] }.advance 1
     y.listening = true ∧ y.lnk.wins = [] ∧ y.lnk.own = none ∧ y.holdListen = false ∧ y.rx.lanes = []) := by decide

/-- A transmission in a phase. -/
def txr (p : TxPhase) : TxRun := { req := { what := .beacon, start := 0, ch := 0, prof := 0 }, phase := p }

/-- An acknowledgement of frame 7, committed for tick 100,000. -/
def txa : TxReq := { what := .ack 7, start := 100000, ch := 0, prof := 0 }

theorem wit_TxPhases : (∀ p ∈ ([.decided, .synthCal, .locked, .ramping, .rampDown] : List TxPhase),
    (one { wr with tx := { run := some (txr p) } } |>.wing 0).tx.run = some (txr p) ∧ (txr p).phase = p) ∧ wr.tx.testRun = none ∧ wr.tx.run = none ∧ wr.txFirst = none ∧
    wr.awake = true ∧ (0x5A5B : Word) ≠ 0x5A5A ∧ ({} : Wing).awake = false ∧ (txr .decided).aborted = false ∧
    (wr.advance 0).now ≤ (txr .locked).req.start + (txr .locked).req.abortTo.getD (txr .locked).dur ∧
    (txr .ramping).req.start + (txr .ramping).req.abortTo.getD (txr .ramping).dur < (({ wr with car := { tb := 1 } } : Wing).advance 0).now ∧
    (let q : TestRun := { blk := txr .synthCal, first := 0 }
     ({ wr with tx := { testRun := some q } } : Wing).tx.testRun = some q ∧ q.blk.phase = .synthCal) := by decide

/-- A wing whose limiter record permits one sub-band from 863 to 870 MHz with a duty of 1 %. -/
def wlim : Wing := { wr with fls := { window := tputs 0xFFFF 0x100 [2, 0, 1] (tputs 0xFFFF 0x110 [0x2B18, 0xD, 0x4670, 0xD, 28, 100, 0, 1] []) }
                             rx := { radio := .standby, live := { f0 := 865000, n := 1, chans := [(0, 1)] }, plan := { f0 := 865000, n := 1, chans := [(0, 1)] } }
                             regs := [(0xFF6000, 0)] }

/-- The backup domain takes writes. -/
def free (x : Wing) : State := { one x with dome := { bpor := false, writeFrozen := false } }

/-- A test transmission on air. -/
def wtest : Wing := { wlim with tx := { testRun := some { blk := txr .ramping, first := 0 } } }

theorem wit_TxPhases_decided : let x : Wing := { wlim with tx := { reqs := [txa] } }
    let y := (x.reach (txa.start - (x.tLead + us 2))).txWithdraw (fun p => p == txa)
    let u := (free x).setWing 0 y
    let air := airUs (y.rx.live.frameTicks 0 false 0 txa.len + 2 * y.tRamp)
    x.txFirst = some txa ∧ ¬(txa.start < y.now + y.tLead + us 2 ∨ y.rx.radio = .off) ∧ y.txOverlaps txa = false ∧
    (match u.txLimits 0 txa air with | .ok 0 => true | _ => false) = true ∧ u.txDuty 0 0 air = true ∧ (u.charge 0 0 0 air).1 = true ∧ y.tx.run = none := by decide +kernel

theorem wit_TxPhases_refused :
    (let x : Wing := { wlim with tx := { reqs := [{ txa with start := 0 }] } }
     x.txFirst = some { txa with start := 0 } ∧ (0 : Nat) < (x.reach 0).now + x.tLead + us 2) ∧
    (let x : Wing := { wlim with tx := { reqs := [txa], run := some (txr .ramping) }, rx := { wlim.rx with radio := .cal } }
     let y := (x.reach (txa.start - (x.tLead + us 2))).txWithdraw (fun p => p == txa)
     x.txFirst = some txa ∧ ¬(txa.start < y.now + y.tLead + us 2 ∨ y.rx.radio = .off)) ∧
    (let x : Wing := { wlim with tx := { reqs := [txa], run := some { txr .ramping with dur := 100000 } } }
     let y := (x.reach (txa.start - (x.tLead + us 2))).txWithdraw (fun p => p == txa)
     x.txFirst = some txa ∧ ¬(txa.start < y.now + y.tLead + us 2 ∨ y.rx.radio = .off) ∧ y.txOverlaps txa = true) := by decide

theorem wit_LimiterAccounts : wr.awake = true ∧ ws.isRunning = false ∧ (one wlim).tokenOk 0 = true ∧ wlim.isRunning = true ∧ wlim.tx.testRun = none ∧ wlim.tx.run = none ∧
    wlim.rx.calRun = none ∧ wlim.rx.radio ≠ .off ∧ (1 : BitVec 2) ≠ 3 ∧
    (match ((free wlim).modWing 0 (Wing.setReg 0xFF7010 1)).txLimits 0 wlim.testReq 1000 with | .ok 0 => true | _ => false) = true ∧
    (((free wlim).modWing 0 (Wing.setReg 0xFF7010 1)).testBlock 0 0 0).isSome = true ∧
    wtest.tx.testRun = some { blk := txr .ramping, first := 0 } ∧ ((free wtest).testBlock 0 0 0).isSome = true ∧
    ({ free wtest with dome := { bpor := false, writeFrozen := true } } : State).testBlock 0 0 0 = none ∧
    (free wr).dome.writeFrozen = false ∧ (free wr).dome.bpor = false ∧ tget 0 wr.tx.heldOpen 7 = 0 ∧ trising wr.tx.closed = true ∧ trising (free wr).cal.bram = true ∧
    (free wr).limPending 0 7 + (free wr).limOpen 0 7 < 2 ^ 32 ∧ wr.fls.blocked = false ∧ ({ blocked := true } : Flash).blocked = true ∧
    ({ State.reset with cal := { bram := [(0x3C, 1)] } } : State).limPending 0 7 ≠ 0 ∧ (one wr).limPending 0 7 = 0 ∧ ws.live = true ∧ ({} : Wing).live = false ∧
    0 ∈ (dm { watchWait := [0] }).dome.watchWait ∧ ¬ 7 ∈ (dm { watchWait := [0] }).dome.watchWait := by decide +kernel

/-- A RUNNING wing on its grid, outside SEARCHING. -/
def wg : Wing := { wr with lnk := { sync := .synced }, regs := [(0xFF8000, 1)] }

theorem wit_SlotSteps : wg.isRunning = true ∧ bit (wg.reg 0xFF8000) 0 = true ∧ wg.lnk.next = none ∧ wg.lnk.sync ≠ .searching ∧ wg.lnk.move = none ∧
    wg.lnk.asn + 1 < 2 ^ 40 ∧ ({ wg with lnk := { wg.lnk with asn := 4094 } } : Wing).lnk.asn + 1 < wg.msh.hwm + 4096 ∧ (wg.lnk.asn + 1) % wg.sfSlots ≠ 0 ∧
    (let x : Wing := { wg with rings := [(12, { ringReset 12 with put := 1 })] }
     (x.ringHead (10 + 2)).isSome = true ∧ x.lnk.table.length < 64 ∧ x.lnk.heldCompl = [] ∧ x.lnk.relays = [] ∧ x.wrk.items = []) ∧
    (let x : Wing := { wg with lnk := { move := some { asnRef := 0, tickRef := 0, first := 0 } } }
     x.isRunning = true ∧ bit (x.reg 0xFF8000) 0 = true ∧ x.lnk.sync = .searching ∧ x.lnk.move.isSome = true ∧ x.lnk.next = none) := by decide

/-- A received frame that the link engine holds. -/
def rxf : RxFrame := { id := 7, desc := [], psdu := [], kind := 0, nb := 1, cls := .new, epoch := 0, fc := 0, ar := true, endT := 0, dur := 0, ch := 0, prof := 0,
                       coded := false }

/-- A frame sent to neighbour 1 under frame counter 3. -/
def ptx : PendTx := { id := 2, ring := 10, nb := 1, bcast := false, ar := true, maxTries := 1, power := 0, buf := 0, len := 0, given := false, yield := false,
                      at_ := none, tag := 0, fc := some (0, 3) }

/-- A wing that awaits the acknowledgement of `ptx` and has received `p` for it, with the link key of neighbour 1 in its cache. -/
def wack (p : Octets) : Wing :=
  { wg with lnk := { wg.lnk with ackIn := some { rxf with psdu := p }, own := some { id := 2, ch := 0, nominal := 0 }, table := [ptx] }
            msh := { nbs := [(1, { eui := 1, valid := true })] }
            cph := { root := some [], pages := [(0, { owner := 4, state := 2, key := zeros 16,
                                                       label := pairLabel 0 (Config.wingEui 0).toNat 1 })] } }

theorem wit_AckSteps : (({ wg with lnk := { wg.lnk with rx := [rxf] } } : Wing).rxOf 7) = some rxf ∧ rxf.mic = none ∧ rxf.ar = true ∧ rxf.ack = none ∧
    rxf.noAck = false ∧ rxf.passed = false ∧ ({ rxf with mic := some true } : RxFrame).jrn = none ∧ (wg.wrk.sealWait.contains (2, 0)) = false ∧
    (let f : RxFrame := { rxf with ack := some false }
     let x : Wing := { wg with lnk := { wg.lnk with rx := [f] }, tx := { reqs := [{ what := .ack 7, start := 0, ch := 0, prof := 0 }] } }
     x.rxOf 7 = some f ∧ (x.reach (f.endT + x.ackGap + (x.rx.live.preTicks f.prof - us 1))).ackOut 7 = true) ∧
    (wack []).lnk.ackIn.isSome = true ∧ (wack []).lnk.own.isSome = true ∧ (wack []).pendOf 2 = some ptx ∧ wg.pendOf 2 = none ∧
    ({ wg with lnk := { wg.lnk with own := some { id := 2, ch := 0, nominal := 0 } } } : Wing).lnk.ackIn = none ∧ wg.rx.lanes = [] := by decide

theorem wit_AckSteps_key (p : Octets) : ((wack p).keyOf (pairLabel (ptx.fc.getD (0, 0)).1 ((one (wack p)).identity 0).toNat
    ((wack p).nb ptx.nb).eui.toNat)).1 = some (zeros 16) := by
  have h : (one (wack p)).identity 0 = Config.wingEui 0 := rfl
  rw [h]
  simp [Wing.keyOf, Wing.linkKey, wack, Wing.page, tget, List.range, List.range.loop, ptx, Wing.nb, pageReset]

theorem wit_AckSteps_secure : openData (zeros 16) 1 (secureData (zeros 16) 1 0 3 (natLe 2 0xA909 ++ zeros 14 ++ [1, 2])) = some [1, 2] ∧
    openData (zeros 16) 1 (natLe 2 0xA909 ++ zeros 22) = none := by decide +kernel

/-- A wing that holds the key under which neighbour 1 sends to it. -/
def wkey : Wing := { wg with msh := { nbs := [(1, { eui := 1, valid := true })] }
                             cph := { root := some [], pages := [(0, { owner := 4, state := 2, key := zeros 16,
                                                                        label := pairLabel 0 1 (Config.wingEui 0).toNat })] } }

theorem wit_AckSteps_rxKey : ((one wkey).rxKey 0 rxf).1 = some (zeros 16) ∧ rxf.kind = 0 ∧ rxf.cls = .new ∧ ((one wg).rxKey 0 rxf).1 = none := by
  have h : (one wkey).identity 0 = Config.wingEui 0 := rfl
  refine ⟨?_, rfl, rfl, rfl⟩
  have hw : (one wkey).wing 0 = wkey := rfl
  simp only [State.rxKey, h, hw]
  simp [Wing.keyOf, Wing.linkKey, wkey, Wing.page, tget, List.range, List.range.loop, rxf, Wing.nb, pageReset]

theorem wit_AckSteps_ack : (State.reset.role 0 ≠ .standby ∧ wg.sys.watch = false ∧ wg.evalQueue rxf = [] ∧ ({} : Wing).lnk.sync = .searching) ∧
    (let f : RxFrame := { rxf with endT := us 100000 }
     let y := wg.reach (f.endT + wg.ackGap - wg.tLead - us 3)
     y.rx.lanes = [] ∧ ∀ p ∈ [[], zeros 13], y.ackConflict (y.ackReq f p) = false) ∧
    (let y := wg.reach (rxf.endT + wg.ackGap - wg.tLead - us 3)
     ∀ p ∈ [[], zeros 13], ({ y with rx := { y.rx with calRun := some 3 } } : Wing).ackConflict (y.ackReq rxf p) = true) := by decide

theorem wit_AckSteps_good : (signFrame (zeros 16) 1 3 (ackBody 0)).length = 11 ∧ checkFrame (zeros 16) 1 3 (signFrame (zeros 16) 1 3 (ackBody 0)) = true ∧
    checkFrame (zeros 16) 1 3 (zeros 11) = false := by decide +kernel

theorem wit_WindowsRecover : let v : Win := { ch := 0, lo := 0, hi := 0, ext := 0, search := false, nb := some 1, cell := 4096, owed := true }
    let x : Wing := { wg with lnk := { wg.lnk with wins := [v] }, msh := { nbs := [(1, { valid := true, misses := 15 })] } }
    x.isRunning = true ∧ x.lnk.wins.find? (fun v => v.owed && v.cell == 4096) = some v ∧ v.nb = some 1 ∧ trising x.msh.nbs = true ∧
    x.awake = true ∧ (x.nb 1).valid = true ∧ (x.nb 1023).valid = false := by decide

/-- A wing in STOPPED with a KIND 3 descriptor at the head of ring 8 and this ADMIT_MODE. -/
def w8 (mode : Word) : Wing :=
  { ws with rings := [(8, { ringReset 8 with put := 1 })], sram := [(0x109C07, 0x3000)], regs := [(0xFF9000, mode)], lnk := { sync := .synced } }

theorem wit_LineageSteps_admission : [(0 : Word), 1, 2].all (fun mode => let x := w8 mode
     let c := x.candidate ((x.ringHead 8).getD [])
     (x.ringHead 8).isSome && x.awake && !x.fls.blocked && bits (((x.ringHead 8).getD []).getD 7 0).toNat 13 12 == 3 && x.admitMode == mode.toNat &&
     (x.msh.find c.mac.sam c.mac.src).isNone && decide (x.lnk.sync ≠ .searching) && c.mac.sam != 3) = true := by decide +kernel

theorem wit_LineageSteps_role : ((one (w8 1)).setWing 0 (((w8 1).ringTook 8).bufReturn (descBuf (((w8 1).ringHead 8).getD [])))).role 0 ≠ .standby := by decide

theorem wit_LineageSteps_record : (let x : Wing := { w8 1 with msh := { nbs := [(1023, { valid := true, short := 0 })] } }
     let c := x.candidate ((x.ringHead 8).getD [])
     x.admitMode = 1 ∧ c.mac.sam ≠ 3 ∧ x.msh.find c.mac.sam c.mac.src = some 1023) ∧
    (let x : Wing := { ws with rings := [(8, { ringReset 8 with put := 1 })], sram := [(0x100000, 0xC001), (0x109C01, 2), (0x109C07, 0x3000)], regs := [(0xFF9000, 1), (0xFF6020, 0), (0xFF6021, 0x10)] }
     (x.candidate ((x.ringHead 8).getD [])).mac.sam = 3) := by decide

theorem wit_LineageSteps :
    ws.awake = true ∧ ws.wrk.sealWait.contains (8, 0) = false ∧ (64 + 2 ^ 32 - 0) % 2 ^ 32 ≤ 64 ∧ 64 < (65 + 2 ^ 32 - 0) % 2 ^ 32 ∧
    wr.isRunning = true ∧ wr.lnk.sync = .searching ∧ wr.lnk.move = none ∧ ({ wr with regs := [(0xFF9047, 2)] } : Wing).rootMode = 2 ∧
    ({ wr with regs := [(0xFF9047, 1)] } : Wing).rootMode = 1 ∧ ({ wr with regs := [(0xFF9047, 0)] } : Wing).rootMode = 0 := by decide +kernel

/-- An order that is due. -/
def od : Order := { orig := 0, seq := 0, cls := 1, asn := 0, oid := 1, action := 0, param := 0 }

theorem wit_OrderSteps : let b : Barrier := { oid := 1, asn := 0, param := 0, puts := (0, 0) }
    (∀ o ∈ [od, { od with cls := 2, action := 1 }, { od with cls := 2, action := 2 }, { od with cls := 2, action := 255 }],
      let x : Wing := { wg with msh := { orders := [o], barriers := [b] } }
      x.isRunning = true ∧ x.lnk.sync ≠ .searching ∧ x.fls.blocked = false ∧ x.dueOrder = some o ∧ x.lnk.parent = none) ∧ wg.dueOrder = none ∧
    ({ wg with msh := { barriers := [b] } } : Wing).msh.barriers.find? (fun b => ({ wg with msh := { barriers := [b] } } : Wing).barrierReady b) = some b ∧
    wg.msh.barriers.find? (fun b => wg.barrierReady b) = none ∧ wr.lnk.sync = .searching := by decide

theorem wit_WorkSteps : (one ws).mayIntake 0 = true ∧ ws.awake = true ∧ (one ws).tokenOk 0 = true ∧ ws.intakeRing = none ∧ ws.wrk.queries = [] ∧ ws.fls.blocked = false ∧
    ({ ws with fls := { blocked := true } } : Wing).fls.blocked = true ∧
    (let x : Wing := ws.setRing 3 { ws.ring 3 with put := 1 }
     (one x).mayIntake 0 = true ∧ x.intakeRing = some 3 ∧ (x.ringHead 3).isSome = true ∧ x.wrk.queries = [] ∧
     ((one x).intakeCheck 0 ((x.ringHead 3).getD []) (x.intakeFrame ((x.ringHead 3).getD []))).isSome = true) ∧
    (let x : Wing := { ws with lnk := { ws.lnk with complAt := [(9, 63)] } }
     x.lnk.complAt = [(9, 63)] ∧ ((x.lds ((x.ring 9).slot 63) 8).getD 6 0).getLsbD 15 = false) ∧
    ({ ws with wrk := { ws.wrk with jrn := [{ seq := 0, typ := 0, at_ := 0, body := [] }], head := 7168 } } : Wing).wrk.free ≤ 1024 ∧ 1024 < ws.wrk.free ∧ wr.isRunning = true ∧ wr.wrk.storing = none ∧
    (let k : Work := { wr.wrk with storing := some {} }
     k.storing = some {} ∧ k.waiting = []) ∧ (one ws).pairOf 0 = none ∧ (pt {}).port.queue = [] ∧ takeStore 0xD (pt {}).port.storing = none ∧ takeStore 0xE (pt {}).port.storing = none ∧
    (pt { imageFinal := true }).port.imageFinal = true ∧ (pt { imageFinal := false }).port.imageFinal = false ∧ newestCopy (pt {}).port.copies = none ∧
    trising (pt {}).port.cat = true ∧ newestCopy (pt { copies := [(7, 3), (0, 2)] }).port.copies = some (7, 3) ∧
    ({ portCopy := some (3, []) } : Work).portCopy = some (3, []) := by decide +kernel

/-- A descriptor of one line at `a`. -/
def fd (op a : Nat) : FlsDesc := { op := op, tag := 0, addr := a, buf := 0x100000, lines := 1 }

/-- A wing in STOPPED with these fields of its flash. -/
def wf (f : Flash) : Wing := { ws with fls := f }

theorem wit_FlashOperations_submit : ws.awake = true ∧ 32 ≤ (wf { queue := List.replicate 32 (fd 1 0x508000) }).fls.load ∧
    (wf { queue := List.replicate 31 (fd 1 0x508000) }).fls.load < 32 ∧ (ws.ld 0x100000).toNat % 16 = 0 ∧
    (1 ≤ (({ ws with sram := [(0x100000, 7)] } : Wing).ld 0x100000).toNat % 16) ∧ (ws.fls.readLine 0x400000).isSome = true ∧ (ws.fls.readLine 0x5FD7FF).isSome = true := by decide

theorem wit_FlashOperations_front : ws.fls.run = none ∧ ws.fls.held = [] ∧ ws.fls.mine = [] ∧ ws.fls.jobs = [] ∧ (wf { queue := [fd 1 0x508000] }).fls.queue = fd 1 0x508000 :: [] ∧
    (fd 1 0x508000).own = none ∧ ({ fd 5 0x200 with own := some 0 } : FlsDesc).own ≠ none ∧ ws.fls.check { fd 5 0x200 with own := some 0 } = some 5 ∧
    (∀ d ∈ [fd 1 0x508000, fd 2 0x508000, fd 3 0x4E0000, fd 4 0x508000, fd 5 0x100, fd 6 0x800, fd 7 0], ws.fls.check d = none ∧ 1 ≤ d.op ∧ d.op ≤ 7 ∧ (0 < d.lines ∨ d.op = 7)) ∧
    ws.fls.check (fd 5 0x200) = some 5 ∧ ((ws.ring 13).put - (ws.ring 13).take).toNat < (ws.ring 13).depth ∧
    (ws.fls.at_ (({ desc := fd 1 0x508000 } : FlsRun).place ws.fls)).intent = false ∧
    (let f := ws.fls.putAt { status := .sealed } (({ desc := fd 1 0x508000 } : FlsRun).place ws.fls)
     (f.at_ (({ desc := fd 1 0x508000 } : FlsRun).place f)).intent = true ∧ f.check (fd 1 0x508000) = none ∧
     (f.readLine 0x508000).map (fun e => e.1.status) = some .sealed) ∧
    (ws.fls.readLine 0x508000).map (fun e => e.1.status) = some .erased ∧
    (ws.fls.lineOf 0x4E0000).isSome = true ∧ (tget ({} : Line) [(5, { tally := 8 })] 5).tally = 8 ∧ (({} : Line)).tally < 8 := by decide

theorem wit_FlashOperations_pulse : (∀ p ∈ [Pulse.intent, .data 15, .data 16, .seal, .erase 23, .erase 24],
      (wf { run := some { desc := fd 2 0x400000, pulse := p } }).fls.run = some { desc := fd 2 0x400000, pulse := p }) ∧ (fd 2 0x400000).op = 2 ∧ (fd 2 0x400000).own = none ∧ ws.fls.mine = [] ∧ ws.fls.jobs = [] ∧ (fd 6 0x800).op = 6 ∧ flsPart 0x508000 = some 6 ∧
    flsPart 0x400000 ≠ some 6 ∧ (fd 1 0x508000).lines ≤ 0 + 1 ∧ 0 + 1 < ({ fd 1 0x508000 with lines := 2 } : FlsDesc).lines ∧
    (let r : FlsRun := { desc := { fd 1 0x508000 with lines := 2 }, pulse := .seal }
     let f := ws.fls
     let p := r.place f
     ((f.putAt { data := (f.at_ p).data &&& ws.flsSource r, status := .sealed } p).at_ (({ r with done := 1 } : FlsRun).place f)).intent = false) := by decide

theorem wit_FlashOperations_gap : ws.fls.queue = [] ∧ ws.fls.run = none ∧ ws.fls.blocked = false ∧ ({ blocked := true } : Flash).blocked = true ∧
    (∀ m ∈ [Move.idle, .due, .copying 240, .copying 248, .clearing 23, .erasing 23], ({ move := m } : Flash).move = m) ∧ 240 + 8 < 256 ∧ 256 ≤ 248 + 8 ∧
    ({ gap := 0 } : Flash).gap = 0 ∧ 0 < ({ gap := 491 } : Flash).gap := by decide

/-- A request of session 0. -/
def rq0 : Req := { session := 0, seq := 1, auth := true, peer := [] }

/-- Wing 0 as given, and session 0 open in clear with the role `r`. -/
def fp (r : SRole) (x : Wing) : State :=
  { one x with port := { imageFinal := true, powerFail := false, sessions := ⟨{ isOpen := true, prov := true, role := r }, {}, {}, {}, {}, {}, {}, {}⟩ } }

/-- What `rq0` asks of wing 0, in its exchange buffer. -/
def hand (op : Nat) (b : Octets) (r : SRole) (x : Wing) : State := ((fp r x).heard rq0).handed (rq0.ask op 0 0) b

theorem wit_PortRequests : (fp .observer ws).fresh rq0 .observer = true ∧ (fp .operator ws).fresh rq0 .operator = true ∧ (fp .keeper ws).fresh rq0 .keeper = true ∧
    (fp .keeper ws).port.afterBrownout = false ∧ (fp .keeper ws).dome.refLost = false ∧ ((fp .keeper ws).wing 0).sys.state = .stopped ∧
    (let s := fp .observer ws
     let t : State := { s with port := { s.port with afterBrownout := true } }
     t.fresh rq0 .observer = true ∧ t.port.afterBrownout = true ∧ (0x8 : Word).getLsbD 3 = true ∧ (t.port.sessions.get rq0.session).brownoutTold = false) ∧
    ({ fp .keeper ws with dome := { refLost := true } } : State).fresh rq0 .keeper = true ∧ ({ fp .keeper ws with dome := { refLost := true } } : State).dome.refLost = true ∧
    ((fp .keeper ws).wing 7).sys.state = .reset ∧ (1 : BitVec 8).getLsbD 0 = true ∧ (1 : BitVec 8).getLsbD 7 = false := by decide

theorem wit_WorkRequests : (fp .operator ws).fresh rq0 .operator = true ∧ (fp .operator ws).pairOf 0 = none ∧ (3 : Octet).toNat < 4 ∧ ws.live = true ∧
    (ws.ring 3).full = false ∧ ({ ws with wrk := { open_ := true } } : Wing).wrk.open_ = true ∧ (fp .operator ws).canHand 0 0 = true ∧
    (hand 0x21 (natLe 6 1 ++ natLe 6 1) .operator ws).role 0 ≠ .standby ∧ (1 : Octet).toNat ≤ 1 ∧ 12 ≤ (zeros 12).length ∧ (zeros 256).length ≤ 256 ∧ ¬ 12 ≤ (zeros 11).length ∧ ({} : Wing).live = false ∧
    (ws.setRing 3 { ws.ring 3 with put := 64 } |>.ring 3).full = true ∧ ws.wrk.open_ = false ∧
    (let u := hand 0x22 (0 :: natLe 6 0) .operator ws
     let q : Query := { session := 0, mode := 0, key := 0, cred := 0, puts := (List.range 4).map (fun r => ((u.wing 0).ring r).put) }
     ((u.intakeAll 0).wing 0).queryReady q = true) ∧
    (let u := hand 0x22 (0 :: natLe 6 0) .operator { ws.setRing 3 { ws.ring 3 with put := 1 } with fls := { blocked := true } }
     let q : Query := { session := 0, mode := 0, key := 0, cred := 0, puts := (List.range 4).map (fun r => ((u.wing 0).ring r).put) }
     ((u.intakeAll 0).wing 0).queryReady q = false) ∧
    ((fp .keeper { sys := { state := .faulted } }).wing 0).sys.state = .faulted ∧ (fp .keeper { sys := { state := .faulted } }).fresh rq0 .keeper = true ∧ (1424 : Word).toNat ≤ 1424 ∧
    (fp .keeper ws).fresh rq0 .keeper = true := by decide +kernel

theorem wit_WorkRequests_partner :
    let x : Wing := { ws with wrk := { items := [{ acc := 5, partner := true, nb := 0, tag := 0 }], jrn := [{ typ := 2, seq := 0, at_ := 0, body := natLe 6 5 ++ zeros 40 }] } }
    let u := hand 0x23 (natLe 6 5 ++ natLe 2 0 ++ natLe 2 1424) .observer x
    (fp .observer x).fresh rq0 .observer = true ∧ (fp .observer x).canHand 0 0 = true ∧
    (u.wing 0).wrk.items.any (fun i => i.partner && i.acc == 5) = true ∧ ((u.wing 0).wrk.partnerRec 5).isSome = true := by decide +kernel

theorem wit_OrderStaging : (fp .keeper wr).fresh rq0 .keeper = true ∧ (fp .keeper wr).canHand 0 0 = true ∧ (1 : Octet).toNat ≤ 3 ∧ (3 : Octet).toNat ≤ 3 := by
  decide +kernel

theorem wit_OrderStaging_order : let u := hand 0x38 ([3] ++ zeros 10) .keeper wr
    ∀ msg : Octets, msg.length = 46 → ((u.wing 0).ownSend 0x400 (u.dataFrame 0 false none msg)).1 = true := by
  intro u msg hm
  have hr : ((u.wing 0).ring 11).full = false := by decide +kernel
  have hb : ∀ n ∈ [60, 66], ((u.wing 0).ownBuf n).isSome = true := by decide +kernel
  refine Wing.ownSend_room (hb _ ?_) hr
  simp only [State.dataFrame, List.length_append, zeros, List.length_replicate, hm]
  rcases macHeader_all (Config.wingShort 0).toNat (u.identity 0).toNat false with h | h <;> rw [h] <;> decide

theorem wit_OrderStaging_stage : ((hand 0x3A [] .keeper ws).wing 0).stageShut = false ∧
    ((hand 0x3A [] .keeper { ws with fls := { protect := 8 } }).wing 0).stageShut = true ∧
    ((hand 0x3B (natLe 4 262128 ++ zeros 16) .keeper ws).wing 0).stageShut = false ∧ 262128 % 16 = 0 ∧ 262128 + (zeros 16).length ≤ 262144 ∧
    16 ≤ (zeros 16).length ∧ (zeros 1024).length ≤ 1024 ∧ (zeros 1024).length % 16 = 0 ∧ ¬ 8 % 16 = 0 ∧ 262144 < 262144 + 1 ∧ 262143 + 1 ≤ 262144 := by decide +kernel

/-- A RUNNING wing with one valid neighbour, the last of the table. -/
def wn : Wing := { wr with msh := { nbs := [(1023, { valid := true, eui := 9 })] } }

theorem wit_OrderStaging_forward : let b : Octets := natLe 2 1023 ++ [0x10, 0xE] ++ natLe 2 0x2000 ++ [1] ++ natLe 2 0
    let u := hand 0x39 b .operator wn
    (fp .operator wn).fresh rq0 .operator = true ∧ (fp .operator wn).canHand 0 0 = true ∧ ((u.wing 0).nb 1023).valid = true ∧
    ([{ session := 7, seq := 1, wing := 0, nb := 0, trans := 0 }] : List Fwd).find? (fun f => f.session == 7 && f.seq == 1) =
      some { session := 7, seq := 1, wing := 0, nb := 0, trans := 0 } := by decide +kernel

theorem wit_OrderStaging_sent : let b : Octets := natLe 2 1023 ++ [0x10, 0xE] ++ natLe 2 0x2000 ++ [1] ++ natLe 2 0
    let u := hand 0x39 b .operator wn
    ∀ msg : Octets, msg.length = 11 → (u.meshSend 0 1023 msg).1 = true ∧
      (u.wing 0).meshLong 1023 (u.dataFrame 0 true (some ((u.wing 0).nb 1023)) msg).length = false := by
  intro b u msg hm
  have hr : ((u.wing 0).ring 11).full = false := by decide +kernel
  have hb : ∀ n ∈ [31, 35], ((u.wing 0).ownBuf n).isSome = true ∧ (u.wing 0).meshLong 1023 n = false := by decide +kernel
  have hl : (u.dataFrame 0 true (some ((u.wing 0).nb 1023)) msg).length ∈ [31, 35] := by
    simp only [State.dataFrame, List.length_append, zeros, List.length_replicate, hm]
    rcases macHeader_one (Config.wingShort 0).toNat (u.identity 0).toNat true ((u.wing 0).nb 1023) with h | h <;> rw [h] <;> decide
  exact ⟨Wing.ownSend_room (hb _ hl).1 hr, (hb _ hl).2⟩

theorem wit_CatalogueReads : (fp .observer ws).fresh rq0 .observer = true ∧ (fp .observer ws).canHand 0 0 = true ∧
    (((Realm.wing 0).entry 0x2000 1).map (fun e => decide (e.rd.rank ≤ SRole.observer.rank)) = some true) ∧
    (((Realm.wing 0).entry 0x2000 1).map (fun e => ((hand 0x10 (natLe 2 0x2000 ++ [1]) .observer ws).readValue (.wing 0) 0x2000 1 e).1.isSome) = some true) ∧
    ((Realm.wing 0).subs 0x2000).filterMap (fun k => (Realm.wing 0).entry 0x2000 k) ≠ [] ∧
    (((Realm.wing 0).subs 0x2000).filterMap (fun k => (Realm.wing 0).entry 0x2000 k)).all (fun e => decide (e.rd.rank ≤ SRole.observer.rank)) = true ∧
    ((hand 0x12 (natLe 2 0x2000) .observer ws).catRecord (.wing 0) 0x2000).1.length ≤ 1424 ∧
    (((Realm.wing 0).entry 0x2310 0).map (fun e => match e.ty with | .domain _ _ => true | _ => false)) = some true := by decide +kernel

theorem wit_CatalogueReads_ports : (Realm.dome.entry 0x1210 1).isSome = true ∧ (Realm.port.entry 0x1180 1).isSome = true ∧
    ((Realm.dome.entry 0x1210 1).map (fun e => ((((fp .observer ws).heard rq0).waitFor (rq0.ask 0x10 0xD 0xD)).readValue .dome 0x1210 1 e).1.isSome)) = some true := by decide +kernel

/-- The Owner's session 0 with this transfer, and wing 0 in STOPPED. -/
def tr (t : Transfer) : State :=
  let s := fp .owner ws
  { s with port := { s.port with sessions := s.port.sessions.set 0 { s.port.sessions.get 0 with transfers := [t] } } }

/-- A transfer that writes the hopping sequence. -/
def t0 : Transfer := { realm := 0, index := 0x2310, sub := 0, write := true, length := 1024 }

/-- What transfer `t` of the hopping sequence stands as once the request `op` is with the Curator, tested by `f`. -/
def meets (op : Nat) (b : Octets) (t : Transfer) (f : State → Except Status Transfer → Bool) : Bool :=
  let v := ((tr t).heard rq0).handed (rq0.ask op 0 0) (natLe 2 0x2310 ++ [0] ++ b)
  (tr t).fresh rq0 .observer && (tr t).canHand 0 0 && f v (v.transferOf 0 (.wing 0) 0x2310 0)

theorem wit_CatalogueReads_domain :
    meets 0x15 (natLe 4 0 ++ [1, 0]) t0 (fun _ r => match r with | .ok x => x.write && decide (0 + 2 ≤ x.length) | _ => false) = true ∧
    meets 0x15 (natLe 4 1023 ++ [1, 0]) t0 (fun _ r => match r with | .ok x => x.write && decide (x.length < 1023 + 2) | _ => false) = true ∧
    meets 0x15 (natLe 4 0 ++ [1, 0]) { t0 with timedOut := true } (fun _ r => match r with | .error st => st = .timeout | _ => false) = true ∧
    meets 0x15 (natLe 4 1024 ++ natLe 2 1024) { t0 with write := false, taken := true } (fun _ r => match r with
      | .ok x => !x.write && x.taken && decide (1024 ≤ x.length) | _ => false) = true ∧
    meets 0x15 (natLe 4 0 ++ [1, 0]) { t0 with write := false } (fun _ r => match r with | .ok x => !x.write && !x.taken | _ => false) = true ∧
    meets 0x16 [] t0 (fun _ r => match r with | .ok x => x.write && x.data.length != x.length | _ => false) = true ∧
    meets 0x16 [] { t0 with data := (List.range 1024).map (fun i => (i, 0)) } (fun v r => match r, (Realm.wing 0).entry 0x2310 0 with
      | .ok x, some e => x.write && x.data.length == x.length &&
          (v.catWrite (.wing 0) 0x2310 { role := .owner, who := some 0 } (some 0) [{ sub := 0, ent := e, val := e.ty.wire (x.octets 0 x.length) }] true).1 == some .ok
      | _, _ => false) = true ∧
    meets 0x14 (0 :: natLe 4 1024) { t0 with index := 0x2311 } (fun v _ => match (Realm.wing 0).entry 0x2310 0 with
      | some e => (v.beginCheck (.wing 0) 0x2310 0 e 0 1024).isNone && v.beginCheck (.wing 0) 0x2310 0 e 0 (2 ^ 32 - 1) == some .badLength | none => false) = true := by decide +kernel

theorem wit_CatalogueReads_refused : (fp .owner {}).fresh rq0 .observer = true ∧ ((fp .owner {}).wing 0).live = false ∧
    (let x : Wing := ws.setMb 0 { ws.mb 0 with state := .full }
     (fp .owner x).fresh rq0 .observer = true ∧ x.live = true ∧ (x.mb (0 % 4)).state ≠ .free) ∧
    (Realm.wing 0).entry 0x2001 0xFF = none ∧ ((Realm.wing 0).subs 0x1FFF).filterMap (fun k => (Realm.wing 0).entry 0x1FFF k) = [] ∧
    ((Realm.wing 0).entry 0x2821 0).any (fun e => decide (SRole.observer.rank < e.rd.rank)) = true := by decide +kernel

theorem wit_CatalogueWrites : (fp .owner ws).fresh rq0 .observer = true ∧ (fp .owner ws).canHand 0 0 = true ∧ (fp .owner ws).pairOf 0 = none ∧
    (onePut (.wing 0) 0x2100 1 [0]).isSome = true ∧ (onePut .dome 0x1212 1 [0]).isSome = true ∧ (onePut .port 0x1180 6 [0]).isSome = true ∧
    (Realm.wing 0).writables 0x2320 ≠ [] ∧ onePut (.wing 0) 0x2000 0xFF [0] = none ∧ (Realm.wing 0).subs 0x1FFF = [] ∧
    (Realm.wing 0).subs 0x2000 ≠ [] ∧ (Realm.wing 0).subs 0x2130 ≠ [] ∧ (Realm.wing 0).writables 0x2130 = [] ∧ Realm.port.writables 0x1180 ≠ [] := by decide +kernel

theorem wit_CatalogueWrites_pair : let s : State := (fp .owner ws).setWing 7 ws
    let t : State := { s with port := { s.port with pairs := [(3, { a := 0, b := 7, token := some 0 })] } }
    t.fresh rq0 .observer = true ∧ t.pairOf 7 = some 3 ∧ dualIndex 0x2320 = true ∧ (t.port.pair 3).head = 0 ∧ t.canHand 0 0 = true ∧ (t.wing 7).live = true ∧
    (onePut (.wing 7) 0x2320 1 [1, 0]).isSome = true ∧
    ((((t.heard rq0).handed (rq0.ask 0x11 7 0) (natLe 2 0x2320 ++ [1, 1, 0])).wing 7).live) = true := by decide +kernel

theorem wit_CatalogueWrites_store : let f := fun (b : Octets) => hand 0x11 (natLe 2 0x2004 ++ b) .owner ws
    (f [1, 1]).accepts (.wing 0) 0x2004 1 .owner [1] = true ∧ (f [4, 1, 0]).accepts (.wing 0) 0x2004 4 .owner (natLe 2 1) = true ∧
    ((f [4, 1, 0]).wing 0).restoreMay 1 = none ∧ wr.restoreMay 1 = some .notStopped ∧
    (∀ e ∈ [(Realm.dome, 0x12F0), (Realm.port, 0x11F0)], let u := ((fp .owner ws).heard rq0).waitFor (rq0.ask 0x11 e.1.code e.1.code)
      u.accepts e.1 e.2 1 .owner [1] = true ∧ u.accepts e.1 e.2 4 .owner (natLe 2 1) = true) := by decide +kernel

/-- The value `v` for entry `idx`.`sub` of wing 0 passes the checks of R267. -/
def takes (x : Wing) (idx sub : Nat) (v : Octets) : Bool :=
  (fp .owner x).fresh rq0 .observer && (fp .owner x).canHand 0 0 && decide ((fp .owner x).pairOf 0 = none) &&
  (hand 0x11 (natLe 2 idx ++ [o8 sub] ++ v) .owner x).accepts (.wing 0) idx sub .owner v

/-- A wing whose debug setting is in force. -/
def wd : Wing := { ws with cat := [(0x282001, [1])] }

theorem wit_SettingRows : takes ws 0x2001 3 (natLe 2 0xA5C3) = true ∧ takes ws 0x2000 2 [1] = true ∧ takes ws 0x2000 2 [0] = true ∧
    (0 : Word) ≠ 0xFFFF ∧ takes ws 0x2311 2 (natLe 2 0) = true ∧ takes ws 0x2200 1 [5] = true ∧ optField 0x2200 1 = some (0x100, 1) ∧
    takes ws 0x2702 0 (natLe 2 0x4C4B) = true := by decide +kernel

theorem wit_SettingRows_debug : takes wd 0x2820 2 [1] = true ∧ takes wd 0x2820 2 [0] = true := by decide +kernel

theorem wit_SettingRows2 : takes ws 0x2810 2 [1] = true ∧ takes ws 0x2810 2 [2] = true ∧ takes ws 0x2A03 0 (zeros 16) = true ∧
    takes ws 0x2B10 1 (zeros 32) = true ∧ ((hand 0x11 (natLe 2 0x2B10 ++ [1] ++ zeros 32) .owner ws).rootWrite 0 (zeros 32)).1 = true ∧
    takes ws 0x2B20 0 (zeros 32) = true ∧ takes ws 0x2C01 0 [0] = true ∧ takes ws 0x2C02 2 (zeros 32) = true ∧ takes ws 0x2C02 3 [0xFC, 0xFF] = true ∧
    takes ws 0x2C10 4 (natLe 2 0x4745) = true ∧ takes ws 0x2C20 0 (zeros 32) = true := by decide +kernel

theorem wit_SettingRows2_challenge : ((hand 0x11 (natLe 2 0x2C20 ++ [0] ++ zeros 32) .owner { ws with tru := { file := some (0, [], []), attest := 1 } }).provenance 0 (zeros 32)).1 = true := by
  decide +kernel

theorem wit_PairTimeRows : (fp .owner ws).fresh rq0 .observer = true ∧
    (let s := (fp .owner { ws with regs := [(0xFF6000, 0x24)] }).setWing 1 { ws with regs := [(0xFF6000, 0x24)] }
     let u := (s.heard rq0).waitFor (rq0.ask 0x13 0xE 0xE)
     s.fresh rq0 .observer = true ∧ u.writeCheck .port 0x1183 .owner none (recordPuts (Realm.port.writables 0x1183) [0, 1]).1 true = none ∧
     (u.pairWrite 3 0 1).1 = .ok) ∧
    (let s : State := { fp .owner ws with port := { (fp .owner ws).port with pairs := [(3, { a := 0, b := 1 })] } } |>.setWing 1 ws
     let u := (s.heard rq0).waitFor (rq0.ask 0x13 0xE 0xE)
     s.fresh rq0 .observer = true ∧ u.writeCheck .port 0x1183 .owner none (recordPuts (Realm.port.writables 0x1183) [0xFF, 0xFF]).1 true = none ∧
     (u.pairWrite 3 0xFF 0xFF).1 = .ok) ∧
    (let s : State := ({ fp .owner wr with port := { (fp .owner wr).port with pairs := [(3, { a := 0, b := 1, token := some 0, state := .dual })] } }).setWing 1 wr
     let u := (s.heard rq0).waitFor (rq0.ask 0x11 0xE 0xE)
     s.fresh rq0 .observer = true ∧ u.accepts .port 0x1183 6 .owner [1] = true ∧ (u.switchAsk 3 1).1 = .ok) ∧
    (let u := ((fp .owner ws).heard rq0).waitFor (rq0.ask 0x11 0xD 0xD)
     u.accepts .dome 0x1210 1 .owner [0, 0, 0, 1, 1, 0, 0x20, 6] = true ∧ (fp .owner ws).dome.writeFrozen = false ∧ (fp .owner ws).cal.owner = none) := by decide +kernel

/-- Every session but 7 is open, opening or reserved. -/
def pb : Oct Session := ⟨{ isOpen := true }, { reserved := true }, { opening := true }, { isOpen := true }, { isOpen := true }, { isOpen := true }, { isOpen := true }, {}⟩

theorem wit_Sessions_hello : (fp .owner ws).port.powerFail = false ∧ (fp .owner ws).port.imageFinal = true ∧ (fp .owner ws).port.randFail = false ∧ (0 : Octet) ≠ 0xFF ∧
    ((fp .owner ws).port.sessions.get 0).isOpen = true ∧ ((fp .owner ws).port.sessions.get 1).isOpen = false ∧ ((fp .owner ws).port.sessions.get 1).reserved = false ∧
    ((fp .owner ws).port.sessions.get 1).opening = false ∧ (fp .owner ws).dome.bootsel.getLsbD 0 = false ∧
    (let s : State := { pt { powerFail := false, imageFinal := true } with dome := { bootsel := 1 } }
     s.dome.bootsel.getLsbD 0 = true ∧ s.port.owned = false ∧ (∀ k : Fin 8, (s.port.sessions.get k).prov = false) ∧ (s.port.sessions.get 0).isOpen = false) ∧
    (∀ k : Fin 8, k < 7 → (pb.get k).isOpen = true ∨ (pb.get k).opening = true ∨ (pb.get k).reserved = true) ∧ (pb.get 2).opening = true ∧
    (pt { powerFail := true }).port.powerFail = true := by decide

/-- Session 7 reserved for credential 31, which has the secret of 32 zeros. -/
def po (out : List Nat) : Port := { imageFinal := true, powerFail := false, lockout := out, cat := [(dpKey true 0x113F 1, [1])],
                                    sessions := ⟨{}, {}, {}, {}, {}, {}, {}, { reserved := true, cred := 31 }⟩ }

theorem wit_Sessions_open : ({ rq0 with session := 7 } : Req).session = (7 : Fin 8).val ∧ (po [31]).powerFail = false ∧ (po [31]).imageFinal = true ∧
    ((po []).sessions.get 7).reserved = true ∧ samePeer ({ rq0 with session := 7 } : Req).peer ((po []).sessions.get 7).peer = true ∧
    31 ∈ (po [31]).lockout ∧ ¬ 31 ∈ (po [30]).lockout ∧ (po []).secret 31 = some (zeros 32) ∧ 31 < 32 := by decide

/-- A proof of the wrong length is a wrong proof. -/
theorem wit_Sessions_proof : let k := kmac256 (zeros 32) (((po []).sessions.get 7).openInput 7) 32 (ascii "FERAN-OPEN")
    k.length = 32 ∧ (zeros 32).length = 32 ∧ zeros 32 ≠ k ∧ (zeros 31).length ≠ 32 := by decide +kernel

theorem wit_Sessions_spi : let s : State := { pt (po []) with dome := { bootsel := 2 } }
    s.spi = true ∧ (pt (po [])).spi = false ∧ (s.port.sessions.get 7).isOpen = false ∧ (s.port.sessions.get 7).opening = false ∧
    ({ po [] with cat := [] } : Port).secret 31 = none ∧ samePeer (zeros 42) [] = false ∧ (pb.get 0).isOpen = true ∧ (pb.get 7).isOpen = false := by decide

/-- A frame to the multicast address of all nodes, with this ICMPv6 message. -/
def icmp (d : Octets) : Octets :=
  [0x33, 0x33, 0, 0, 0, 1] ++ zeros 6 ++ [0x86, 0xDD, 0x60, 0, 0, 0, 0, 4, 58, 255] ++ zeros 32 ++ d

/-- The link is up. -/
def pu : State := pt { linkUp := true, powerFail := false }

theorem icmp_mac : pu.port.macTakes [0x33, 0x33, 0, 0, 0, 1] = true := by simp [Port.macTakes]

theorem wit_PortFrames_echo : ∃ q, pu.frameIn (icmp [128, 0, 0x7F, 0xC1]) = some q ∧ q.next = 58 ∧ q.data.getD 0 0 = 128 ∧ ipSum q.src q.dst 58 q.data = 0 := by
  refine ⟨{ mac := zeros 6, src := zeros 16, dst := zeros 16, next := 58, hop := 255, data := [128, 0, 0x7F, 0xC1] }, ?_, by decide +kernel⟩
  unfold State.frameIn
  rw [show (icmp [128, 0, 0x7F, 0xC1]).take 6 = [0x33, 0x33, 0, 0, 0, 1] by decide +kernel, icmp_mac]
  decide +kernel

theorem wit_PortFrames_solicit : ∃ q, pu.frameIn (icmp [135, 0, 0x78, 0xC1]) = some q ∧ q.next = 58 ∧ q.data.getD 0 0 = 135 ∧ ipSum q.src q.dst 58 q.data = 0 := by
  refine ⟨{ mac := zeros 6, src := zeros 16, dst := zeros 16, next := 58, hop := 255, data := [135, 0, 0x78, 0xC1] }, ?_, by decide +kernel⟩
  unfold State.frameIn
  rw [show (icmp [135, 0, 0x78, 0xC1]).take 6 = [0x33, 0x33, 0, 0, 0, 1] by decide +kernel, icmp_mac]
  decide +kernel

/-- An echo request of 8 octets to an address of the port's own. -/
theorem wit_PortFrames_own : let s : State := { pu with port := { pu.port with own := 2 } }
    ∃ q, s.frameIn ([0x33, 0x33, 0, 0, 0, 1] ++ zeros 6 ++ [0x86, 0xDD, 0x60, 0, 0, 0, 0, 8, 58, 255] ++ zeros 32 ++ [128, 0, 0x7F, 0xBD, 0, 0, 0, 0]) = some q ∧
      q.next = 58 ∧ q.data.getD 0 0 = 128 ∧ ipSum q.src q.dst 58 q.data = 0 ∧ s.port.isOwn q.dst = true ∧ 8 ≤ q.data.length ∧ q.data.length ≤ 1460 := by
  intro s
  refine ⟨{ mac := zeros 6, src := zeros 16, dst := zeros 16, next := 58, hop := 255, data := [128, 0, 0x7F, 0xBD, 0, 0, 0, 0] }, ?_, by decide, by decide, by decide +kernel, ?_, by decide, by decide⟩
  · unfold State.frameIn
    have h : s.port.macTakes [0x33, 0x33, 0, 0, 0, 1] = true := by simp [Port.macTakes]
    rw [show (([0x33, 0x33, 0, 0, 0, 1] ++ zeros 6 ++ [0x86, 0xDD, 0x60, 0, 0, 0, 0, 8, 58, 255] ++ zeros 32 ++ [128, 0, 0x7F, 0xBD, 0, 0, 0, 0] : Octets)).take 6 = [0x33, 0x33, 0, 0, 0, 1] by decide +kernel, h]
    decide +kernel
  · simp only [Port.isOwn, List.any_eq_true]
    exact ⟨1, by decide, by decide⟩

theorem wit_PortFrames_none : State.reset.frameIn [] = none := by
  unfold State.frameIn; simp [State.reset, slice]

theorem wit_PortFrames_spi : let s : State := { pt { powerFail := false, out := [{ session := 0, data := [1, 2] }] } with dome := { bootsel := 2 } }
    s.spi = true ∧ s.port.powerFail = false ∧ (2 : Fin 3) = 2 ∧ (1 : Fin 3) ≠ 2 ∧ (11 < 12 ∧ 1452 < 1453 ∧ (zeros 11).length < 12 ∧ 12 ≤ (zeros 12).length ∧ 1452 ≤ (zeros 1452).length) ∧
    ({ s with port := { s.port with powerFail := true } } : State).port.powerFail = true ∧ (pt {}).spi = false ∧
    (let m : OutMsg := { session := 7, data := [0, 2] }
     let p : Port := { s.port with out := [m], sessions := s.port.sessions.set 7 { opening := true } }
     p.out = [m] ∧ m.session = (7 : Fin 8).val ∧ (p.sessions.get 7).opening = true ∧ (m.data.getD 1 0).toNat = 2) ∧
    ({ s with port := {} } : State).waitingMsg.isNone = true ∧ (s.waitingMsg.map (fun m => m.1)) = some [1, 2] ∧ 1 < 2 ∧ 2 ≤ 2 := by decide +kernel

/-- A wing with a mesh message of the port waiting as a released partner item. -/
def wm : Wing := { ws with wrk := { items := [{ acc := 5, partner := true, released := true, nb := 0, tag := 0 }],
                                    jrn := [{ typ := 2, seq := 0, at_ := 0, body := natLe 6 5 ++ zeros 24 ++ natLe 2 4 ++ [0xF5, 2, 9, 0] }] } }

theorem wit_PortFetch : ws.doc.hostPend = 0 ∧ ({ ws with doc := { hostPend := 1 <<< 127 } } : Wing).doc.hostPend ≠ 0 ∧ (fp .owner ws).port.powerFail = false ∧ ws.live = true ∧
    (let x : Wing := ws.setRing 5 { ws.ring 5 with pass := 1 }
     (x.ring 5).take ≠ (x.ring 5).pass) ∧
    (pt { powerFail := true }).port.powerFail = true ∧ (List.replicate 8 (0xFFFF : Word)).all (· == 0xFFFF) = true ∧
    (let x : Wing := { ws.setRing 5 { ws.ring 5 with put := 1, pass := 1 } with wrk := { events := [(1, [])] }, sram := [((ws.ring 5).base, 0x8000)] }
     let d := x.lds ((x.ring 5).slot (x.ring 5).take) 8
     (x.ring 5).take ≠ (x.ring 5).pass ∧ d.all (· == 0xFFFF) = false ∧ (d.getD 0 0).getLsbD 15 = true ∧
     (((one x).setWing 0 ((x.ringTook 5).complRelease).reportPump).wing 0).wrk.events = (1, []) :: []) ∧
    (let x : Wing := ws.setMb 5 { ws.mb 5 with state := .full, party := some .core }
     (x.mb 5).state = .full ∧ (x.mb 5).party = some .core ∧ x.wrk.replies = [] ∧ (one x).port.waits = []) ∧
    ((wm.wrk.items.find? (fun i => match wm.meshItem i with | some _ => i.acc == (5#48).toNat | none => false)).isSome = true) ∧
    ((wm.wrk.items.find? (fun i => match wm.meshItem i with | some o => o.getD 1 0 = 2 && leNat (slice o 2 2) == (9#16).toNat | none => false)).isSome = true) ∧
    ((wm.wrk.items.map wm.meshItem) = [some [0xF5, 2, 9, 0]]) ∧ ({} : Wing).live = false := by decide +kernel

/-- Wings 0 and 7 as pair 3. -/
def pr (q : Pair) (x y : Wing) : State :=
  ((pt { imageFinal := true, powerFail := false, pairs := [(3, { q with a := 0, b := 7 })] }).setWing 0 x).setWing 7 y

/-- The pair is DUAL and wing 0 has the token. -/
def qd : Pair := { token := some 0, state := .dual, chosen := true }

theorem wit_PairEvents : ((pr qd wr wr).wing 7).awake = true ∧ (pr qd wr wr).pairOf 7 = some (3 : Fin 4).val ∧ (pr qd wr wr).role 0 = .active ∧ (pr qd wr wr).role 7 = .standby ∧
    (0 < 8 ∧ 7 < 8) ∧ (pr qd wr wr).pairStopped { qd with a := 0, b := 7 } = false ∧ (pr qd { sys := { stopReq := true } } { sys := { stopReq := true } }).pairStopped { qd with a := 0, b := 7 } = true ∧
    (wr.sys.state ≠ .reset ∧ wr.sys.state ≠ .faulted ∧ 1 ≠ 0) ∧
    ((pr qd { wr with wrk := { sealWait := [(1, 1)] } } wr).wing 0).wrk.sealWait ≠ [] ∧ ({ qd with holdB := [(6, [])] } : Pair).holdB ≠ [] ∧ qd.holdA = [] ∧ qd.holdB = [] ∧
    qd.chosen = true ∧ ((pr qd ({} : Wing) wr).wing 0).live = false ∧ ((pr { qd with token := none, failed := some 1 } {} wr).wing 7).live = true ∧
    ((pr qd wr wr).wing (({ qd with a := 0, b := 7 } : Pair).other 0)).live = true ∧
    (pr {} wr wr).newestActive ([0, 7].filter (fun w => ((pr {} wr wr).wing w).isRunning)) = some 0 ∧ (pr {} wr wr).port.imageFinal = true ∧ ({} : Pair).chosen = false ∧
    (pr { qd with switching := true } wr wr).pairOf 0 = some (3 : Fin 4).val ∧ (pr { qd with switching := true } wr wr).role 0 = .active ∧
    (pr { qd with switching := true } wr wr).pairStopped { qd with a := 0, b := 7 } = false ∧ wr.live = true ∧ wr.quiet = true ∧ ({} : Wing).sys.state = .reset ∧
    (one wr).pairOf 0 = none := by decide

/-- A wing with this message of the port in mailbox `m`. -/
def md (m : Nat) (ws : List Word) (x : Wing) : Wing := x.mbDeliver m (.relay 0) 0x20 ws

theorem wit_PairMessages_standby : (pr qd wr wr).role 7 = .standby ∧
    (∀ k ∈ [1, 2, 4, 5, 6], ((md 6 [w16 k, 0, 0, 0] wr).relayIn 6 k).isSome = true) ∧
    ((md 6 [1, 0, 0, 0, 0, 0, 0, 0, 0] wr).takeTo 0 0).isNone = true ∧
    (let x := wr.setRing 3 { wr.ring 3 with put := 1 }
     (x.takeTo 3 0).isSome = true) ∧ wr.fls.blocked = false ∧ ({ wr with fls := { blocked := true } } : Wing).fls.blocked = true ∧ (one wr).role 0 = .single ∧ wr.relayIn 6 1 = none ∧
    (([2, 1, 0] : List Word).getD 1 0).toNat ≤ 0 + 1 ∧ 0 + 1 < (([2, 2, 0] : List Word).getD 1 0).toNat := by decide +kernel

theorem wit_PairMessages_active : (pr qd wr wr).role 0 = .active ∧ ((md 7 [0x0503, 0, 0, 0, 1] wr).relayIn 7 3).isSome = true ∧
    (wordsNat [0x0503, 0, 0, 0, 1] 4 1, wordsNat [0x0503, 0, 0, 0, 1] 1 3) ∈ ({ sealWait := [(1, 0)] } : Work).sealWait ∧
    wordsNat [0x0503, 0, 0, 0, 1] 4 1 ≠ 0 ∧ wordsNat [3, 0, 0, 0, 0] 4 1 = 0 ∧ ((md 7 [3, 0, 0, 0, 0] wr).relayIn 7 3).isSome = true ∧ (0, 0) ∈ ({ sealWait := [(0, 0)] } : Work).sealWait ∧
    ({ wr with wrk := { seeding := some 0 } } : Wing).seedRecords 0 = [] ∧ ({ wr with wrk := { jrn := [{ seq := 5, typ := 3, at_ := 0, body := [] }] } } : Wing).seedRecords 4 ≠ [] ∧
    ¬ (1, 0) ∈ ({} : Work).sealWait ∧ (pr { qd with state := .seeding } wr wr).twin 0 = some 7 ∧ wr.isRunning = true ∧ (pr { qd with state := .seeding } wr wr).pairState 0 ≠ .dual ∧
    ({ seeding := some 4 } : Work).seeding = some 4 ∧ ({} : Work).outbox = [] := by decide

theorem wit_PairMessages_forward : (∀ m : Fin 2, let x := wr.setMb (6 + m.val) { state := .full, party := some .core }
      (x.mb (6 + m.val)).state = .full ∧ (x.mb (6 + m.val)).party = some .core ∧ ((pr qd x wr).wing 7 |>.mb (6 + m.val)).state = .free) ∧
    (pr qd wr wr).pairOf 0 = some 3 ∧ (pr qd wr wr).twin 0 = some 7 ∧ ((pr qd wr wr).port.pair 3).heldTo 7 = [] ∧ ((pr qd wr wr).wing 7).isRunning = true ∧ ((pr qd wr ws).wing 7).isRunning = false ∧
    4 ≤ (({ qd with a := 0, b := 7, holdB := List.replicate 4 (6, []) } : Pair).heldTo 7).length ∧
    ((pr { qd with holdB := [(6, [])] } wr wr).port.pair 3).heldTo 7 ≠ [] ∧ (({ qd with a := 0, b := 7, holdB := [(6, []), (6, []), (7, [])] } : Pair).heldTo 7).length < 4 := by decide

/-- A running wing whose Carillon is on fine time, with these bells. -/
def wc (bells : Tab Bell) : Wing := { sys := { state := .running }, car := { started := true, fine := true, pllLocked := true, bells := bells } }

/-- The backup domain with its clock running. -/
def cl (c : Calendar) : State := { State.reset with cal := { c with lfRunning := true, lfStopped := false }, dome := { bpor := false } }

theorem wit_Timebase : (wc []).car.started = true ∧ (wc []).car.fine = true ∧ (wc []).awake = true ∧ (wc []).core.run ≠ .asleep ∧
    (dm { refLost := true }).dome.refLost = true ∧ ({ wc [] with core := { run := .halted } } : Wing).core.run = .halted ∧
    (let x : Wing := { wc [] with core := { run := .asleep }, rx := { radio := .standby } }
     x.core.run = .asleep ∧ x.rx.radio = .standby ∧ (x.advance 0).bellNear = false) ∧
    (let x : Wing := { wc [] with car := { started := true, fine := false, pllLocked := true } }
     x.car.started = true ∧ x.car.fine = false ∧ x.car.pllLocked = true ∧ x.core.run = .running) ∧ 750 ≤ (dm { vcore := 750 }).dome.vcore ∧
    (cl { divider := 32766 }).lfRuns = true ∧ (cl {}).cal.corrections = 0 ∧ (cl { divider := 32766 }).cal.divider + 1 < 32768 := by decide

theorem wit_Bells : trising (wc [(31, { cfg := 1 })]).car.bells = true ∧ (wc []).awake = true ∧
    bits (0xFFFF &&& 0x7FFF : Word).toNat 5 0 ≠ bits (0 : Word).toNat 5 0 ∧ bits (0x7FC0 &&& 0x7FFF : Word).toNat 5 0 = bits (0 : Word).toNat 5 0 ∧
    ((wc [(31, { cfg := 1 })]).bell (31 : Fin 32)).mode = .compare ∧ bit ((wc [(31, { cfg := 1 })]).bell 31).cfg.toNat 9 = false ∧
    ((wc [(31, { cfg := 1, armed := true })]).bell 31).waits = true ∧ ((wc [(31, { cfg := 1, armed := true })]).bell 31).interval = 0 ∧
    ((wc [(0, { cfg := 2 })]).bell (0 : Fin 32)).mode = .capture ∧ ((wc [(0, { cfg := 0x26 })]).bell 0).source = 9 ∧
    ((wc [(0, { cfg := 0x2A })]).bell (0 : Fin 32)).mode = .capture ∧ ((wc [(0, { cfg := 0x2A })]).bell 0).source = 10 ∧ ((wc [(0, { cfg := 0x2B })]).bell 0).source = 10 ∧
    (let x : Wing := wc [(7, { cfg := 1, armed := true, c := 0, d := 5, interval := 3, v := 5 })]
     let y : Wing := { x with car := { x.car with tb := 5 } }
     y.car.started = true ∧ y.car.fine = true ∧ (y.bell (7 : Fin 32)).mode = .compare ∧ (y.bell 7).waits = true ∧ ((y.bell 7).c + (y.bell 7).d) % 2 ^ 48 = (y.advance 0).car.tb ∧
     (y.bell 7).c ≠ (y.advance 0).car.tb ∧ (y.bell 7).interval ≠ 0 ∧ (y.bell 7).v = ((y.bell 7).c + (y.bell 7).d) % 2 ^ 48) ∧
    ((wc [(0, { cfg := 3 })]).bell 0).mode = .tally ∧ ((wc [(0, { cfg := 3 })]).bell 0).source < 10 ∧
    ((wc [(0, { cfg := 3, tally := 2 ^ 32 - 1 })]).bell 0).tally = 2 ^ 32 - 1 ∧ ((wc [(0, { cfg := 3, tally := 2 ^ 32 - 2 })]).bell 0).tally ≠ 2 ^ 32 - 1 := by decide

theorem wit_CalendarCarry : (cl {}).lfRuns = true ∧ (cl {}).cal.halted = false ∧ (∀ t, (cl {}).cal.alarm.hits t = false) ∧ (cl { halted := true }).cal.halted = true ∧
    (cl {}).dome.bpor = false ∧ (cl {}).cal.lfRunning = true ∧ (cl {}).cal.lfStopped = false ∧ (0x58 : Nat) < 0x80 ∧ bcdOk 0x58 = true ∧ bcdVal 0x58 < 59 ∧ bcdOk 0 = true ∧
    (∃ t : CalTime, t.sec = 0x59 ∧ t.min = 0x59 ∧ t.hour = 0x23 ∧ t.day = 0x31 ∧ t.month = 0x12 ∧ t.year = 0x2099) := by
  refine ⟨by decide, by decide, fun t => rfl, by decide, by decide, by decide, by decide, by decide, by decide, by decide, by decide,
    ⟨{ sec := 0x59, min := 0x59, hour := 0x23, day := 0x31, month := 0x12, year := 0x2099 }, by decide⟩⟩

theorem wit_CalendarCarry_alarm : (let s := cl { alarm := { sec := 0x81 } }
     s.lfRuns = true ∧ s.cal.halted = false ∧ s.cal.alarm.hits s.cal.time.tick.1 = true ∧ s.cal.alarmFlag = false) ∧ (cl { halted := true, carryPending := true }).cal.carryPending = true ∧
    (dm { bpor := true }).dome.bpor = true ∧ ws.live = true ∧ ws.sys.state ≠ .reset := by decide

theorem wit_CalendarHalt : ((8 : Fin 9) = 8) ∧ (∃ w : WingId, w.val = (7 : Fin 9).val ∧ ((State.reset.setWing 7 ws).wing w).awake = true) ∧
    (0 : Fin 8) ≠ 7 ∧ (({ hostPort := { shadow := some (0, {}) } } : Calendar).port 8).shadow ≠ none ∧ (cl {}).dome.writeFrozen = false ∧
    (cl {}).cal.owner = none ∧ (cl { owner := some 8 }).cal.owner = some (8 : Fin 9).val ∧ (cl { owner := some 7 }).cal.owner ≠ some (8 : Fin 9).val ∧
    (dm { writeFrozen := true }).dome.writeFrozen = true ∧ (cl { releasing := some true }).cal.releasing = some true ∧ (cl {}).cal.releasing = none ∧
    (cl { halted := true }).cal.halted = true := by decide

/-- A wing that executes at `0x100000` in its SRAM, with these fields of its core, and a stack there. -/
def we (f : Core → Core) : Wing := { sys := { state := .running }, core := f { pc := 0x100000, kSp := 0x4010 } }

/-- Wing 7 in this state. -/
def s7 (x : Wing) : State := State.reset.setWing 7 x

theorem wit_core_runs : CoreRuns 7 1 (s7 (we id)) ∧ CoreRuns 7 2 (s7 (we id)) ∧
    CoreRuns 7 2 (s7 { we (fun c => { c with st := 0x40, pc := 0x440010 }) with apl := { codeLo := 0x440010, codeHi := 0x440011 } }) := by
  refine ⟨⟨?_, ?_⟩, ⟨?_, ?_⟩, ⟨?_, ?_⟩⟩ <;> decide

/-- The premises of AddResults, SubResults, LogicResults and ShiftAndBitResults. -/
theorem wit_AddResults : CoreRuns 7 1 (s7 (we id)) ∧ CoreRuns 7 2 (s7 (we id)) := ⟨wit_core_runs.1, wit_core_runs.2.1⟩

theorem wit_ShiftAndBitResults : CoreRuns 7 1 (s7 (we id)) ∧ shiftCount false 0 {} = 16 ∧ shiftCount true 0 {} = 0 ∧ shiftCount true 0 { w := [(0, 15)] } = 15 :=
  ⟨wit_core_runs.1, by decide⟩

theorem wit_MulDivResults : CoreRuns 7 1 (s7 (we id)) ∧ (15 : Reg).val % 2 = 1 ∧ (0 : Reg).val % 2 = 0 ∧ ({} : Core).get 1 = 0 ∧
    (1 : Word).toNat ≤ (({ w := [(1, 1)] } : Core).get 1).toNat ∧ ¬ (2 : Word).toNat ≤ (({ w := [(1, 1)] } : Core).get 1).toNat := ⟨wit_core_runs.1, by decide⟩

theorem wit_DecimalResults : CoreRuns 7 1 (s7 (we id)) ∧ decOk 0x9999 = true ∧ decOk 0 = true ∧ decOk 0xA = false := ⟨wit_core_runs.1, by decide⟩

theorem wit_LoadsAndStores : CoreRuns 7 1 (s7 (we id)) ∧ CoreRuns 7 2 (s7 (we id)) ∧ (we id).eaFault false 0x4000 = none ∧ (we id).eaFault true 0xBFFF = none ∧
    (we id).eaFault true 0 ≠ none ∧ (we id).eaFault false 0xFFFF = none ∧ inSram ((we id).core.phys 0x4000) ∧ (we id).fenced ((we id).core.phys 0x4000) = false ∧
    inSram ((we id).core.phys 0xBFFF) ∧ trising (we id).sram = true := ⟨wit_core_runs.1, wit_core_runs.2.1, by unfold inSram; decide⟩

/-- A load or store of a word that applet mode may not reach is denied. -/
theorem wit_LoadsAndStores_deny : let x : Wing := { we (fun c => { c with st := 0x40, pc := 0x440010 }) with apl := { codeLo := 0x440010, codeHi := 0x440010 } }
    CoreRuns 7 1 (s7 x) ∧ x.eaFault false 0x4000 ≠ none ∧ x.eaFault true 0x4000 ≠ none := ⟨⟨by decide, by decide⟩, by decide⟩

theorem wit_ControlTransfers : CoreRuns 7 1 (s7 (we id)) ∧ CoreRuns 7 2 (s7 (we id)) ∧ (we id).stackFault false ((we id).core.get 15) = none ∧
    inSram ((we id).core.phys 0x4010) ∧ (we id).fenced ((we id).core.phys 0x400F) = false ∧ (we id).stackFault true ((we id).core.get 15 - 1) = none ∧
    (let x := we (fun c => { c with kSp := 0 })
     x.stackFault true 0 ≠ none ∧ x.stackFault true (x.core.get 15 - 1) = none) := ⟨wit_core_runs.1, wit_core_runs.2.1, by unfold inSram; decide⟩

theorem wit_DbnzRule : CoreRuns 7 1 (s7 (we id)) ∧ 0 < 1 ∧ 65536 ≤ 65536 := ⟨wit_core_runs.1, by decide⟩

theorem wit_RetiRule : CoreRuns 7 1 (s7 (we id)) ∧ (we id).core.applet = false ∧ (we id).stackFault false 0x4010 = none ∧ (we id).stackFault false 0x4011 = none ∧
    (we id).stackFault false 0x4012 = none ∧ inSram ((we id).core.phys 0x4012) ∧ (we id).fenced ((we id).core.phys 0x4012) = false := ⟨wit_core_runs.1, by unfold inSram; decide⟩

theorem wit_SystemInstructions : CoreRuns 7 1 (s7 (we id)) ∧ (we id).core.applet = false ∧
    ({ we id with cat := [(0x282001, [1])] } : Wing).flag 0x282001 false = true ∧
    (let x : Wing := { we (fun c => { c with st := 0x40, pc := 0x440010 }) with apl := { codeLo := 0x440010, codeHi := 0x440010 } }
     x.core.applet = true) ∧ 6 ≤ (6 : Fin 16).val ∧ (5 : Fin 16).val < 6 := ⟨wit_core_runs.1, by decide⟩

theorem wit_StringInstructions : CoreRuns 7 1 (s7 (we id)) ∧ (we id).core.applet = false ∧ tget 0 (we id).core.w 11 = 0 ∧
    tget 0 (we (fun c => { c with w := [(11, 2), (12, 0x4000), (13, 0x4800)] })).core.w 11 ≠ 0 ∧ (65534 : Word).toNat < 65535 := ⟨wit_core_runs.1, by decide⟩

/-- The second element of a move is the instruction again. -/
theorem wit_StringInstructions_more : ∃ t, exec (.rptMovs 7 1) (s7 (we (fun c => { c with w := [(11, 2), (12, 0x4000), (13, 0x4800)] }))) = .next t ∧
    (t.wing 7).core.pc = 0x100000 ∧ (t.wing 7).ready = true ∧ t.fetchFault 7 1 = none ∧ (t.wing 7).core.applet = false ∧ tget 0 (t.wing 7).core.w 11 ≠ 0 :=
  ⟨_, rfl, by decide +kernel⟩

theorem wit_TrapEntries : CoreRuns 7 1 (s7 (we id)) ∧ (we id).core.applet = false ∧ (∀ v ∈ [1, 2, 4, 5, 6], CanTrap 7 v (s7 (we id))) ∧
    (we id).flag 0x282001 false = false ∧ coreReserved 0xD100 = true ∧ (we (fun c => { c with st := 0x80 })).core.st.getLsbD 7 = true ∧
    (we (fun c => { c with st := 0x80 })).ready = true := by
  refine ⟨wit_core_runs.1, by decide, ?_, by decide, by decide, by decide, by decide⟩
  unfold CanTrap inSram; decide

theorem wit_TrapEntries_fetch : let x := we (fun c => { c with pc := 0x600000 })
    x.ready = true ∧ x.core.applet = false ∧ ((s7 x).fetchFault 7 1).isSome = true := by decide

/-- A wing with an unmasked source pending. -/
def wi (r : CoreRun) : Wing := { we (fun c => { c with st := 0x20, run := r }) with doc := { pend := 1 <<< 127, mask := 0, prio := [(127, 1)] } }

theorem wit_TrapEntries_interrupt : (wi .running).awake = true ∧ (wi .running).intDue = true ∧ (wi .asleep).doc.request = true ∧ (wi .asleep).intDue = true ∧
    CanTrap 7 6 (s7 (wi .asleep)) ∧ ({ wi .asleep with core := { run := .asleep } } : Wing).intDue = false := by
  unfold CanTrap inSram; decide +kernel

/-- An installed applet that is due to start. -/
def wap (a : Applet) : Wing := { we id with apl := a, cat := [(0x281003, [1])] }

/-- An applet in the SVC handler, with its frame on the stack. -/
def wsv (r14 r15 : Ring) (a : Applet) : Wing :=
  { (we (fun c => { c with w := [(1, 0x4000)], st := 0x80, trapnum := 4 })) with
    apl := { a with state := .running, dataLo := 0x100000, dataHi := 0x100FFF }, sram := [(0x100010, 0x40)], rings := [(14, r14), (15, r15)] }

theorem wit_AppletsAndWatchdog_start : (wap { due := true, state := .installed }).sys.state = .running ∧ (wap { due := true }).flag 0x281003 false = true ∧
    (wap { due := true, state := .installed, dataWords := 16 }).appletFits = true ∧ ¬ (wap { due := true, state := .installed, dataWords := 0x10000 }).appletFits = true ∧
    (wap {}).apl.startAt + us 1000000 ≤ ({ wap {} with car := { tb := us 1000000 } } : Wing).now := by decide +kernel

theorem wit_AppletsAndWatchdog_services : let r : Ring := { base := 0x200, depth := 2 }
    (s7 (wsv r r {})).inSvc 7 = true ∧ (wsv r r {}).apl.waitUntil = none ∧ ((wsv r r {}).ringHead 14).isNone = true ∧
    ((wsv { r with put := 1 } r {}).ringHead 14).isSome = true ∧ ((wsv r { r with put := 2 } {}).ring 15).full = true ∧
    ((wsv r r {}).ring 15).full = false ∧ (wsv r r {}).svcFault false = false ∧ (wsv r r {}).svcFault true = false ∧
    (∀ i < 8, inSram ((wsv r r {}).core.phys (0x4000 + BitVec.ofNat 16 i)) ∧ (wsv r r {}).fenced ((wsv r r {}).core.phys (0x4000 + BitVec.ofNat 16 i)) = false) := by
  unfold inSram; decide +kernel

theorem wit_AppletsAndWatchdog_reti : (match (s7 (wsv {} {} {})).reti 7 with | .ok _ => true | .error _ => false) = true := by decide +kernel

theorem wit_AppletsAndWatchdog_rest : (wap { waitUntil := some 5, saved := some {} }).awake = true ∧ 5 ≤ ({ wap {} with car := { tb := 5 } } : Wing).now ∧
    (wap {}).core.run ≠ .halted ∧ (let x := we (fun c => { c with st := 0x40, pc := 0x440010 })
     let y : Wing := { x with apl := { codeLo := 0x440010, codeHi := 0x440010, state := .running } }
     y.core.applet = true ∧ y.ready = true ∧ (s7 y).fetchFault 7 1 = none ∧ tget 0 y.core.w 11 = 0) ∧
    (5 ≤ bits (0x000A : Word).toNat 5 1 ∧ bits (0x002A : Word).toNat 5 1 ≤ 21) ∧ (0xC35B : Word) ≠ 0xC35A ∧
    (let x : Wing := { ws with wdt := { en := true, period := 5, count := 16 } }
     x.wdt.en = true ∧ x.wdt.warned = false ∧ 2 ^ (x.wdt.period - 1) ≤ x.wdt.count) ∧
    (let x : Wing := { ws with wdt := { en := true, period := 21, count := 2 ^ 21 } }
     2 ^ x.wdt.period ≤ x.wdt.count) := by decide +kernel

/-- A wing with these of its Docent. -/
def wdc (d : Docent) : Wing := { wr with doc := d }

theorem wit_CompletionRule : wr.awake = true ∧ (127 : Word).toNat < 128 ∧ (wdc { service := 1 <<< 127 }).doc.service.getLsbD 127 = true ∧ 128 ≤ (128 : Word).toNat ∧
    (wdc {}).doc.service.getLsbD 127 = false ∧ trising wr.cnt16 = true := by decide

theorem wit_DocentRingsMailboxes : wr.awake = true ∧ wr.doc.winner = none ∧ (wdc { pend := 1 <<< 61, mask := 0, prio := [(61, 1)] }).doc.winner = some 61 ∧
    (wdc { pend := 1 <<< 127, mask := 0, prio := [(127, 15)] }).doc.winner = some 127 ∧ 120 ≤ (120 : Word).toNat ∧ (119 : Word).toNat < 120 ∧ 64 ≤ (127 : Word).toNat ∧ (63 : Word).toNat < 64 ∧
    ((wr.ring 4).put - (wr.ring 4).take).toNat < (wr.ring 4).depth ∧ ({ depth := 64, put := 64 } : Ring).depth ≤ ((64 : Word) - 0).toNat ∧
    wr.flag 0x2A0200 true = true ∧ ({ wr with cat := [(0x2A0200, [0])] } : Wing).flag 0x2A0200 true = false ∧ wr.fls.held = [] ∧ (wr.ring 0).put = (wr.ring 0).take ∧
    ({ put := 1 } : Ring).put ≠ ({ put := 1 } : Ring).take ∧ ({ put := 1 } : Ring).pass ≠ ({ put := 1 } : Ring).put := by decide +kernel

theorem wit_DocentRingsMailboxes_mailbox : (∃ m : Fin 8, coreMaySend (State.reset.role 0) m = true) ∧ (∃ m : Fin 8, ¬ coreMaySend (State.reset.role 0) m = true) ∧
    (wr.mb 4).state = .free ∧ ({ state := .locked, party := some .core } : Mbx).heldByCore = true ∧ (wr.mb 4).heldByCore = false ∧
    ({ state := .locked, party := some (.session 0) } : Mbx).party ≠ some .core ∧ (∃ m : Fin 8, coreReceives (State.reset.role 0) m = true) ∧
    ({ state := .full, party := some (.relay 7) } : Mbx).party = some (Party.relay 7) ∧ ({ state := .full, party := some (.session 7) } : Mbx).party = some (Party.session 7) := by
  decide

/-- A wing with its cipher engine so. -/
def wh (c : Cipher) : Wing := { ws with cph := c }

theorem wit_CipherAndKeys : ws.awake = true ∧ (wh { run := some { job := {}, key := [] } }).cph.run.isSome = true ∧ ws.cph.run = none ∧
    (∃ r, ws.cphCheck { ({} : CphJob) with op := 0 } = .error r) ∧ (∃ k, ws.cphCheck { ({} : CphJob) with op := 0x10, tagLen := 1, outA := 0x100000 } = .ok k) ∧
    (∀ o ∈ [0x01, 0x14, 0x1C], (wh { run := some { job := { op := o, w12 := 0x10 }, key := [] } }).cph.run = some { job := { op := o, w12 := 0x10 }, key := [] }) ∧
    (∃ p : Nat, (ws.page p).owner = 0 ∨ (ws.page p).owner = 4) ∧ ws.sys.state = .stopped ∧ wr.sys.state ≠ .stopped ∧ (15 : Word).toNat % 64 < 16 ∧ 16 ≤ (16 : Word).toNat % 64 ∧
    (wh { sel := 63 }).cph.sel = 63 ∧ (wh { sel := 15 }).cph.sel < 16 ∧ (wh { randFail := true }).cph.randFail = true ∧ (wh { randReady := true }).cph.randReady = true := by
  refine ⟨by decide, by decide, by decide, ⟨_, rfl⟩, ⟨_, rfl⟩, by decide, ⟨16, by decide⟩, by decide, by decide, by decide, by decide, by decide, by decide, by decide, by decide⟩

theorem wit_BootAndTrust : ({ sys := { state := .boot } } : Wing).sys.state = .boot ∧ wr.sys.state ≠ .boot ∧ ({ sys := { state := .running, stopReq := true } } : Wing).sys.stopReq = true ∧
    wr.quiet = true ∧ wr.apl.state ≠ .running ∧ bit ({ boot := 4 } : Trust).boot 2 = true ∧ bit ({ boot := 0xFB } : Trust).boot 2 = false ∧ 61440 ≤ ({ position := 61440 * 2 ^ 32 } : Trust).leaf ∧
    ({ position := 61440 * 2 ^ 32 - 1 } : Trust).leaf < 61440 ∧ ({ attest := 1 } : Trust).attest = 1 ∧ wr.cph.randFail = false ∧ ws.live = true ∧ ({ attest := 2, file := some (0, [], []) } : Trust).file.isSome = true := by
  decide

/-! Terms that are not well-formed: one for each check. -/

/-- A request whose SEQ has 33 bits, and one whose peer is neither empty nor 42 octets. -/
def badSeq : Req := { rq0 with seq := 2 ^ 32 }
def badPeer : Req := { rq0 with peer := [0] }

/-- A SUBMIT of a frame of `n` octets. -/
def sb (n : Nat) : SubmitBody :=
  { ring := 0, neighbour := 0, maxTries := 0, attempts := 0, power := 0, lanePolicy := 0, deadline := 0, tag := 0, frame := zeros n }

theorem test_wf_dome : [.lineRise 655351, .lineFall 655351, .lineOvervoltage 655351, .overvoltageReleaseExpiry 655351, .mainGoodReported 65536, .brownoutBegin 65536 false,
    .railFault 65536 false, .vcoreAdapt 65536, .vbakSample 65536, .cellLowCrossing 65536].all (fun (i : Instr) => !i.wf) = true := by decide

theorem test_wf_request : [badSeq, badPeer].all (fun q => [.resetRequest q 0 0, .stopRequest q 0 false, .hopSeed q 0 0, .pairForm q 0 0 0, .pairDissolve q 0, .switch q 0 0, .open_ q [], .close q,
    .ping q, .read q .port 0 0, .write q .port 0 0 [], .readRecord q .port 0, .writeRecord q .port 0 [], .domainBegin q .port 0 0 false 0,
    .domainBlock q .port 0 0 0 0 [], .domainEnd q .port 0 0, .submit q 0 (sb 0), .retire q 0 0 0, .itemQuery q 0 0 0,
    .partnerFetch q 0 0 0 0, .wingReset q 0, .census q 0, .align q 0 0, .order q 0 0 0 0 0 0 0, .forward q 0 0 0 0 0 0 [], .stageErase q 0,
    .stageWrite q 0 0 [], .stageRead q 0 0 0, .subscribe q 0 0, .store q .port 0, .restore q .port 0, .timeWrite q [], .wlEntryWrite q 0 0 0 [],
    .optionLockWrite q 0 0, .debugHalt q 0, .debugResume q 0, .appletInstall q 0, .appletRemove q 0, .appletIn q 0 [], .networkRootWrite q 0 [],
    .sessionKey q 0 [], .updatePending q 0 0, .ownerRootWrite q 0 0 [], .regenerate q 0 0, .challenge q 0 []].all (fun (i : Instr) => !i.wf)) = true := by decide +kernel

theorem test_wf_values : [.write rq0 .port 0 0 (zeros 1425), .writeRecord rq0 .port 0 (zeros 1425), .domainBegin rq0 .port 0 0 false (2 ^ 32),
    .domainBlock rq0 .port 0 0 (2 ^ 32) 0 [], .domainBlock rq0 .port 0 0 0 65536 [], .domainBlock rq0 .port 0 0 0 0 (zeros 1425), .appletIn rq0 0 (zeros 1425),
    .sessionKey rq0 0 (zeros 1425), .ownerRootWrite rq0 0 0 (zeros 1425),
    .forward rq0 0 0 0 0 0 0 (zeros 1425), .submit rq0 0 (sb 1425), .frameEnd 0 0 (zeros 2048) true true 0 0 0 0, .icmpEcho (zeros 1515), .neighbourSolicitation (zeros 1515), .wlEntryWrite rq0 0 0 0 (zeros 1425)].all (fun (i : Instr) => !i.wf) = true := by decide +kernel

theorem test_wf_lengths : [.hello 0 0 (zeros 15) [], .hello 0 0 (zeros 16) (zeros 41), .open_ rq0 (zeros 31), .timeWrite rq0 (zeros 7), .networkRootWrite rq0 0 (zeros 31),
    .challenge rq0 0 (zeros 33), .stageWrite rq0 0 0 (zeros 1425), .ethFrameReceived (zeros 1515), .spiWrite 0 65536 [], .spiWrite 0 12 (zeros 1453), .spiRead 0 65536 0,
    .spiRead 0 0 65536].all (fun (i : Instr) => !i.wf) = true := by decide +kernel

theorem test_wf_radio : [.preambleDetection 0 (2 ^ 64) [], .preambleDetection 0 0 [{ ch := 512, rssi := -90 }], .sfdDetected 0 0 false (2 ^ 64), .phrEnd 0 0 true false 2048, .frameEnd 0 0 [] true true 0 0 0 (2 ^ 64), .txAbort 0 0 (2 ^ 64), .carTbLapRead 0 false (2 ^ 64), .overloadStart 0 (2 ^ 64), .listenWindowStart 0 (2 ^ 64), .listenWindowEnd 0 (2 ^ 64), .bellCompareCommit 0 0 0 (2 ^ 64), .bellCapture 0 0 (2 ^ 64),
    .lfRunningEntry 0 (2 ^ 64)].all (fun (i : Instr) => !i.wf) = true := by decide

theorem test_wf_job : [{ op := 64 }, { behalf := 4 }, { page := 256 }, { tagLen := 256 }, { nonceLen := 256 }, { inA := 2 ^ 24 }, { outA := 2 ^ 24 }, { length := 65536 },
    { aadLen := 65536 }, { nonceA := 2 ^ 24 }, { auxA := 2 ^ 24 }, { w12 := 65536 }, { session := 8 }].all (fun (j : CphJob) => !(Instr.ecbEnc 0 j).wf) = true := by decide

theorem test_wf_good : [.lineRise 655350, .hello 0 0 (zeros 16) (zeros 42), .open_ rq0 (zeros 32), .ecbEnc 0 {}, .spiRead 0 1452 1452, .nop 7].all (fun (i : Instr) => i.wf) = true := by
  decide

/-! Values from the spec's worked examples. -/

/-- What the commands give, one after another. -/
def does (i : Instr) (s : State) : State := match exec i s with | .next t => t | _ => s

/-- R327: the table of distances of the worked example; C = 0x0002_4000_0000, bell 5 in COMPARE. -/
theorem test_bell_distance : let c := 0x000240000000
    [(c + 1, 1, false), (c, 2 ^ 48, true), (c - 1, 2 ^ 48 - 1, true), (c - 1000000, 2 ^ 48 - 1000000, true), (c - 1100000, 2 ^ 48 - 1100000, false)].all
      (fun (e : Nat × Nat × Bool) => let b := ((does (.bellCompareCommit 0 5 (w16 (e.1 / 2 ^ 32)) 0) (one { wc [(5, { cfg := 1, st0 := w16 e.1, st1 := w16 (e.1 / 65536) })] with
        car := { (wc [(5, { cfg := 1, st0 := w16 e.1, st1 := w16 (e.1 / 65536) })]).car with tb := c } })).wing 0).bell 5
        b.d == e.2.1 && b.late == e.2.2) = true := by decide +kernel

/-- R415: the worked example's decimal sum, low word and high word. -/
theorem test_addd : let s := s7 (we (fun c => { c with w := [(2, 0x9875), (3, 0x0099), (4, 0x0250)] }))
    let t := does (.addd 7 3 5) (does (.addd 7 2 4) (does (.clc 7) s))
    ((t.wing 7).core.get 2, (t.wing 7).core.get 3, (t.wing 7).core.st.getLsbD 0) = (0x0125, 0x0100, false) := by decide +kernel

/-- R33: the worked example's load from 0xC010. -/
theorem test_ea : (State.reset.wing 0).core.phys 0xC010 = 0xFF0010 := by decide

/-- R447: the worked example's claims. -/
theorem test_claims : let s := s7 (wdc { pend := 1 <<< 70, arrivals := [(70, 255)], mask := 0, prio := [(3, 5), (35, 4), (70, 2)] })
    let t := does (.docentClaim 7) s
    let u := does (.docentClaim 7) (t.modWing 7 (Wing.raise 3))
    let v := does (.docentClaim 7) (does (.docentComplete 7 3) (u.modWing 7 (Wing.raise 35)))
    (t.wing 7).rdata = 0xFFC6 ∧ (t.wing 7).doc.level = 2 ∧ (u.wing 7).rdata = 0x8083 ∧ (u.wing 7).doc.level = 5 ∧
      ((does (.docentClaim 7) (u.modWing 7 (Wing.raise 35))).wing 7).rdata = 0 ∧ (v.wing 7).rdata = 0x80A3 := by decide +kernel

/-- R347, R352: the worked example's carry and shadow. -/
theorem test_calendar : let s : State := { State.reset with cal := { lfRunning := true, divider := 32760, time := { sec := 0x59, min := 0x59, hour := 0x23, day := 0x31, month := 0x12, year := 0x2027, wday := 5 } }
                                                            dome := { bpor := false } }
    let t := does .secondsCarry (does (.calShadowFreeze 8 0) s)
    t.cal.time = { sec := 0, min := 0, hour := 0, day := 1, month := 1, year := 0x2028, wday := 6 } ∧
      (t.cal.port 8).shadow = some (32760, { sec := 0x59, min := 0x59, hour := 0x23, day := 0x31, month := 0x12, year := 0x2027, wday := 5 }) := by decide +kernel

/-- R363: TRIM = −1,850 adds 60,620,800 at each carry, and the second one schedules a correction. -/
theorem test_trim : (({ trim := -1850 } : Calendar).trimCarry.acc, ({ trim := -1850 } : Calendar).trimCarry.corrections) = (60620800, 0) ∧
    (({ trim := -1850 } : Calendar).trimCarry.trimCarry.acc, ({ trim := -1850 } : Calendar).trimCarry.trimCarry.corrections) = (21241600, 1) := by decide

/-- R468: AES-128 and AES-256 as FIPS 197 shows them in its appendix C. -/
theorem test_aes : let p : Octets := (List.range 16).map (fun i => o8 (17 * i))
    aesEcb false ((List.range 16).map o8) p = [0x69, 0xC4, 0xE0, 0xD8, 0x6A, 0x7B, 0x04, 0x30, 0xD8, 0xCD, 0xB7, 0x80, 0x70, 0xB4, 0xC5, 0x5A] ∧
    aesEcb false ((List.range 32).map o8) p = [0x8E, 0xA2, 0xB7, 0xCA, 0x51, 0x67, 0x45, 0xBF, 0xEA, 0xFC, 0x49, 0x90, 0x4B, 0x49, 0x60, 0x89] := by decide +kernel

/-- R468: SHAKE256 of nothing, as FIPS 202's examples give it. -/
theorem test_shake : (shake256 [] 16) = [0x46, 0xB9, 0xDD, 0x2B, 0x0B, 0xA8, 0x8D, 0x13, 0x23, 0x3B, 0x3F, 0xEB, 0x74, 0x3E, 0xEB, 0x24] := by decide +kernel

end Sys2Proof.Tests
end

namespace Sys2Proof.Machine
open Sys2Proof

/-! SUPPORT. What DBNZ and RETI do where the core executes: the near transfers of one word, the words that a load in SRAM gives, and the core
after a trap frame is popped. -/

/-- Two changes of the core that agree on the core there is. -/
theorem State.modCore_congr {w : Nat} {f g : Core → Core} {s : State} (h : f (s.wing w).core = g (s.wing w).core) :
    s.modCore w f = s.modCore w g := by
  simp only [State.modCore, State.modWing, h]

/-- A near transfer by an instruction of one word, where the core executes: PC stays in the segment of the instruction (R403), or goes to the
next word. -/
theorem nearRun_runs {w : WingId} {op : Word} {upd : Core → Core} {taken : Core → Bool} {t : Core → Word} {s : State} (h : CoreRuns w 1 s)
    (hu : ∀ (c : Core) (p : BitVec 24), upd { c with pc := p } = { upd c with pc := p }) :
    nearRun w op upd taken t s = .next (s.modCore w (fun c =>
      let c' := { c with pc := c.pc + 1 }
      { upd c with pc := if taken c' then BitVec.ofNat 24 (c.pc.toNat / 65536 * 65536 + (t c').toNat) else c.pc + 1 })) := by
  have hpc : ∀ c : Core, c.pc + BitVec.ofNat 24 1 - 1 = c.pc := fun c => BitVec.add_sub_cancel c.pc 1
  rw [nearRun, coreStep_runs h]
  refine congrArg _ (State.modCore_congr ?_)
  rw [hpc, hu _ (_ + _)]
  simp only [Core.near, BitVec.ofNat_eq_ofNat]
  split <;> rfl

/-- Writing a register leaves ST as it is. -/
@[simp] theorem Core.put_st (c : Core) (r : Reg) (v : Word) : (c.put r v).st = c.st := by
  unfold Core.put
  (repeat' split) <;> rfl

/-- One less, modulo 2^16. -/
theorem word_pred_eq (v : Word) : BitVec.ofNat 16 (v.toNat + 65535) = v - 1 := by bv_omega

/-- A count taken down from 0 is 0 again first after 2^16 steps (R411). -/
theorem word_zero_sub_eq_zero_iff {n : Nat} (h0 : 0 < n) (h1 : n ≤ 65536) : (0 : Word) - BitVec.ofNat 16 n = 0 ↔ n = 65536 := by
  rw [← BitVec.toNat_inj]
  simp only [BitVec.toNat_sub, BitVec.toNat_ofNat]
  omega

/-- Settles O51: the count is one less, and PC follows whether it is 0. -/
theorem dbnzRule : Obligations.DbnzRule := by
  unfold Obligations.DbnzRule
  intro w d k s h c v
  have hv : v = c.get d - 1 := word_pred_eq _
  refine ⟨?_, Core.put_st c d v, fun n => word_zero_sub_eq_zero_iff⟩
  change execDbnz w d k s = _
  rw [execDbnz, nearRun_runs (upd := fun c => c.put d (c.get d - 1)) h (fun _ _ => Core.put_pc ..)]
  refine congrArg _ (State.modCore_congr ?_)
  simp only [Core.get_pc, bne_iff_ne, ne_eq, ite_not, hv]
  rfl

/-- An instruction whose effect does not trap. -/
theorem coreRun_ok {w : WingId} {op : Word} {len : Nat} {f : State → Except Trap State} {s t : State} (h : CoreRuns w len s)
    (hf : f (s.modCore w (fun c => { c with pc := c.pc + BitVec.ofNat 24 len })) = .ok t) : coreRun w op len f s = .next t := by
  rw [coreRun_runs h, hf]

/-- A Keeper-only instruction of Keeper mode, where the core executes. -/
theorem keeperRun_runs {w : WingId} {op : Word} {f : State → Except Trap State} {s t : State} (h : CoreRuns w 1 s)
    (ha : (s.wing w).core.applet = false) (hf : f (s.modCore w (fun c => { c with pc := c.pc + 1 })) = .ok t) :
    keeperRun w op f s = .next t := by
  refine coreRun_ok h ?_
  rw [State.wing_modCore, if_neg (by simpa [Core.applet] using ha)]
  exact hf

/-- A word of SRAM outside the fence is read as it stands, and the read changes nothing (R29, R486). -/
theorem State.eaRead_sram {w : Nat} {ea : Word} {s : State} (hi : inSram ((s.wing w).core.phys ea))
    (hf : (s.wing w).fenced ((s.wing w).core.phys ea) = false) :
    s.eaRead w ea = (s.sramWord w ((s.wing w).core.phys ea), s) := by
  obtain ⟨hlo, hhi⟩ := hi
  have hrom : ¬ (s.wing w).core.phys ea < 0x40000 := by omega
  simp [State.eaRead, State.busRead, hrom, hlo, hhi, Wing.ld, hf, State.sramWord]

/-- The core after a trap frame of the words `st`, `lo` and `seg` at `sp` is popped (R422). -/
def Core.popFrame (sp st lo seg : Word) (c : Core) : Core :=
  { c with kSp := sp + 3, st := st &&& 0xFF, pc := BitVec.ofNat 24 (seg.toNat % 256 * 65536 + lo.toNat) }

/-- The low octet of a word has the word's bits. -/
theorem getLsbD_and_low (v : Word) {i : Nat} (h : i < 8) : (v &&& 0xFF).getLsbD i = v.getLsbD i := by
  have hm : ∀ j < 8, (0xFF : Word).getLsbD j = true := by decide
  rw [BitVec.getLsbD_and, hm i h, Bool.and_true]

/-- AM is the frame's. -/
@[simp] theorem Core.popFrame_applet (sp st lo seg : Word) (c : Core) : (c.popFrame sp st lo seg).applet = st.getLsbD 6 :=
  getLsbD_and_low st (by decide)

/-- W15 is the copy that the restored AM selects. -/
theorem Core.popFrame_get_sp (sp st lo seg : Word) (c : Core) :
    (c.popFrame sp st lo seg).get 15 = if st.getLsbD 6 then c.aSp else sp + 3 := by
  rw [Core.get, if_pos rfl, Core.popFrame_applet]
  rfl

/-- RETI with a frame that may be read pops its three words in order. -/
theorem State.reti_ok {w : Nat} {s : State} {sp : Word} (hsp : (s.wing w).core.kSp = sp) (h0 : (s.wing w).stackFault false sp = none)
    (h1 : (s.wing w).stackFault false (sp + 1) = none) (h2 : (s.wing w).stackFault false (sp + 2) = none) :
    s.reti w = .ok (let r0 := s.eaRead w sp
      let r1 := r0.2.eaRead w (sp + 1)
      let r2 := r1.2.eaRead w (sp + 2)
      r2.2.modCore w (Core.popFrame sp r0.1 r1.1 r2.1)) := by
  have hpc : ∀ lo seg : Word, lo.toNat + 0x10000 * (seg.toNat % 256) = seg.toNat % 256 * 65536 + lo.toNat := fun _ _ => by omega
  subst hsp
  simp only [State.reti, h0, h1, h2, hpc]
  rfl

/-- RETI, where the core executes in Keeper mode with a frame that it may read. -/
theorem exec_reti {w : WingId} {s : State} (h : CoreRuns w 1 s) (ha : (s.wing w).core.applet = false) {sp : Word}
    (hsp : (s.wing w).core.kSp = sp) (h0 : (s.wing w).stackFault false sp = none)
    (h1 : (s.wing w).stackFault false (sp + 1) = none) (h2 : (s.wing w).stackFault false (sp + 2) = none) :
    exec (.reti w) s = .next (let r0 := (s.modCore w (fun c => { c with pc := c.pc + 1 })).eaRead w sp
      let r1 := r0.2.eaRead w (sp + 1)
      let r2 := r1.2.eaRead w (sp + 2)
      r2.2.modCore w (Core.popFrame sp r0.1 r1.1 r2.1)) := by
  refine keeperRun_runs h ha (State.reti_ok ?_ ?_ ?_ ?_) <;> rw [State.wing_modCore]
  · exact hsp
  · exact h0
  · exact h1
  · exact h2

/-- Settles O52: the frame's words are popped into ST and PC, and a read in SRAM leaves the state as it is. -/
theorem retiRule : Obligations.RetiRule := by
  unfold Obligations.RetiRule
  intro w s h x c ha h0 h1 h2 r0 r1 r2 back
  have hexec : exec (.reti w) s = .next (r2.2.modCore w (back r0.1 r1.1 r2.1)) := exec_reti h ha rfl h0 h1 h2
  refine ⟨hexec, fun i hi => getLsbD_and_low _ hi, fun c' => ⟨Core.popFrame_applet _ _ _ _ c', Core.popFrame_get_sp _ _ _ _ c'⟩, ?_⟩
  intro ram v m0 m1 m2
  let t := s.modCore w (fun c => { c with pc := c.pc + 1 })
  have hread : ∀ a, ram a → t.eaRead w a = (v a, t) := by
    intro a ⟨hi, hf⟩
    have ht : t.wing w = { x with core := { c with pc := c.pc + 1 } } := State.wing_modCore s w _
    rw [State.eaRead_sram (by rw [ht]; exact hi) (by rw [ht]; exact hf), State.sramWord, ht]
    rfl
  have e0 : r0 = (v c.kSp, t) := hread _ m0
  have e1 : r1 = (v (c.kSp + 1), t) := by simp only [r1, e0]; exact hread _ m1
  have e2 : r2 = (v (c.kSp + 2), t) := by simp only [r2, e1]; exact hread _ m2
  rw [hexec, e0, e1, e2, State.modCore_modCore]

end Sys2Proof.Machine

namespace Sys2Proof.Machine
open Sys2Proof

/-! SUPPORT. What the Docent's completion does (R448) and what its level and winner are (R446): the counter registers after one event is counted,
a completion in service and a stray one, the bounds of the level, and what a winner is. -/

/-- An event counted in a register is one more there, up to 65,535. -/
theorem Wing.cnt_bump_same {x : Wing} {reg : Nat} (idx : Nat) (hr : reg ≠ 0) (hx : trising x.cnt16 = true) :
    (x.bump reg idx).cnt reg = min (x.cnt reg + 1) 65535 := by
  simp only [Wing.cnt, Wing.bump, if_neg hr]
  exact tget_tset_same 0 reg _ hx

/-- An event counted in a register leaves every other register as it is. -/
theorem Wing.cnt_bump_other {x : Wing} {reg r : Nat} (idx : Nat) (hr : reg ≠ 0) (hx : trising x.cnt16 = true) (h : r ≠ reg) :
    (x.bump reg idx).cnt r = x.cnt r := by
  simp only [Wing.cnt, Wing.bump, if_neg hr]
  exact tget_tset_other 0 _ h hx

/-- A completion in Keeper mode of a source in service clears its bit. -/
theorem Wing.docComplete_service {x : Wing} {v : Word} (hn : v.toNat < 128) (hs : x.doc.service.getLsbD v.toNat = true) :
    x.docComplete false v = { x with doc := { x.doc with service := x.doc.service &&& ~~~ BitVec.twoPow 128 v.toNat } } := by
  simp [Wing.docComplete, hn, hs]

/-- Any other completion is stray, and only counted. -/
theorem Wing.docComplete_stray {x : Wing} {applet : Bool} {v : Word}
    (h : 128 ≤ v.toNat ∨ applet = true ∨ x.doc.service.getLsbD v.toNat = false) :
    x.docComplete applet v = x.bump 0xFF0005 0x290001 := by
  refine if_neg ?_
  simp only [Bool.and_eq_true, decide_eq_true_eq, Bool.not_eq_true']
  rintro ⟨⟨hn, ha⟩, hs⟩
  rcases h with h | h | h
  · omega
  · simp [ha] at h
  · simp [hs] at h

/-- A write of DOC_COMPLETE is the completion. -/
theorem State.docWrite_complete (applet : Bool) (w : Nat) (v : Word) (s : State) :
    s.docWrite applet w 2 v = s.modWing w (Wing.docComplete applet v) := rfl

/-- DOCENT_COMPLETE by the core of an awake wing. -/
theorem exec_docentComplete {w : WingId} {v : Word} {s : State} (h : (s.wing w).awake = true) :
    exec (.docentComplete w v) s = .next (s.setWing w ((s.wing w).docComplete false v)) := by
  change byCore w s (s.docWrite false w 2 v) = _
  rw [byCore, if_pos h, State.docWrite_complete, State.modWing]

/-- A maximum over those members of a list that satisfy `p` is a bound of where it starts and of each of them. -/
theorem foldl_max_bounds (p : Nat → Bool) (f : Nat → Nat) (l : List Nat) (a : Nat) :
    let b := l.foldl (fun m n => if p n then max m (f n) else m) a
    a ≤ b ∧ ∀ i ∈ l, p i = true → f i ≤ b := by
  induction l generalizing a with
  | nil => simp
  | cons n l ih =>
    obtain ⟨hstart, hrest⟩ := ih (if p n then max a (f n) else a)
    have hkeep : a ≤ if p n then max a (f n) else a := by
      split
      · exact Nat.le_max_left a (f n)
      · exact Nat.le_refl a
    refine ⟨Nat.le_trans hkeep hstart, fun i hi hp => ?_⟩
    rcases List.mem_cons.1 hi with rfl | hi
    · have hreach : f i ≤ if p i then max a (f i) else a := by
        rw [if_pos hp]
        exact Nat.le_max_right a (f i)
      exact Nat.le_trans hreach hstart
    · exact hrest i hi hp

/-- No source in service has a priority above the level. -/
theorem Docent.priority_le_level (d : Docent) {i : Nat} (hi : i < 128) (hs : d.service.getLsbD i = true) : d.priority i ≤ d.level :=
  (foldl_max_bounds d.service.getLsbD d.priority (List.range 128) 0).2 i (List.mem_range.2 hi) hs

/-- The level is 0, or the priority of a source in service. -/
theorem Docent.level_attained (d : Docent) : d.level = 0 ∨ ∃ i < 128, d.service.getLsbD i = true ∧ d.priority i = d.level := by
  rw [Docent.level]
  refine List.foldlRecOn (motive := fun m => m = 0 ∨ ∃ i < 128, d.service.getLsbD i = true ∧ d.priority i = m) _ _ (.inl rfl) ?_
  intro m hm n hn
  split
  case isTrue hs =>
    rcases Nat.le_total (d.priority n) m with h | h
    · rw [Nat.max_eq_left h]
      exact hm
    · rw [Nat.max_eq_right h]
      exact .inr ⟨n, List.mem_range.1 hn, hs, rfl⟩
  case isFalse => exact hm

/-- A winner is an eligible source. -/
theorem Docent.winner_eligible (d : Docent) {i : Nat} (h : d.winner = some i) : d.eligible d.level i = true := by
  revert i
  rw [Docent.winner]
  refine List.foldlRecOn (motive := fun best => ∀ {i}, best = some i → d.eligible d.level i = true) _ _ (by simp) ?_
  intro best hbest n _ i
  split
  case isFalse => exact hbest
  case isTrue he =>
    split
    · rintro ⟨⟩; exact he
    · split
      · rintro ⟨⟩; exact he
      · exact hbest

/-- A winner's priority is above the level. -/
theorem Docent.level_lt_winner (d : Docent) {i : Nat} (h : d.winner = some i) : d.level < d.priority i := by
  have he := d.winner_eligible h
  simp only [Docent.eligible, Bool.and_eq_true, decide_eq_true_eq] at he
  exact he.2

/-- Settles O57: a completion in service clears the one bit, every other completion is counted as stray, and the level bounds the services. -/
theorem completionRule : Obligations.CompletionRule := by
  unfold Obligations.CompletionRule
  intro w v applet s x d n strays
  have hstray : strays (s.setWing w (x.bump 0xFF0005 0x290001)) := by
    simp only [strays, State.wing_setWing]
    exact ⟨rfl, fun hx => ⟨Wing.cnt_bump_same _ (by decide) hx, fun _ => Wing.cnt_bump_other _ (by decide) hx⟩⟩
  refine ⟨fun hawake => ⟨fun hn hs => ?inService, fun h => ?stray⟩, fun ha => ?applet, fun e =>
    ⟨fun _ => e.priority_le_level, e.level_attained, fun _ => e.level_lt_winner⟩⟩
  case inService =>
    refine ⟨d.service &&& ~~~ BitVec.twoPow 128 n, ?_, fun i hi => ?_, ?_⟩
    · simp
    · simp [hi]
    · rw [exec_docentComplete hawake, Wing.docComplete_service hn hs]
  case stray =>
    exact ⟨_, (exec_docentComplete hawake).trans (by rw [Wing.docComplete_stray (h.imp_right .inr)]), hstray⟩
  case applet =>
    rw [State.docWrite_complete, State.modWing, Wing.docComplete_stray (.inr (.inl ha))]
    exact hstray

end Sys2Proof.Machine

namespace Sys2Proof.Machine
open Sys2Proof

/-! SUPPORT. The invariant of the Dome: each of the Dome's own commands keeps it, and any other command keeps all of the Dome that it speaks of. -/

/-- The invariant speaks only of what other units do not write. -/
theorem Dome.Inv.of_power {d e : Dome} (h : e.power = d.power) (hd : d.Inv) : e.Inv := by
  have hp : d.power.Inv := hd
  rw [← h] at hp
  exact hp

/-- What a step owes: the invariant, and the queue as it was taken. -/
def KeepsInv (s : State) (o : Out) : Prop := ∀ t, o = .next t → t.dome.Inv ∧ t.pending = s.pending

/-- A command whose next state has the Dome `d` but for what other units write. -/
theorem KeepsInv.next {s t : State} {d : Dome} (ht : t.dome.power = d.power ∧ t.pending = s.pending) (hd : d.Inv) : KeepsInv s (.next t) := by
  rintro _ ⟨⟩
  exact ⟨hd.of_power ht.1, ht.2⟩

theorem KeptOut.keepsInv {s : State} {o : Out} (h : KeptOut s o) (hs : s.dome.Inv) : KeepsInv s o := by
  obtain ⟨t, rfl, ht⟩ := h
  exact .next ht hs

/-- Wings' own changes leave the Dome's part. -/
theorem State.kept_trans {s t u : State} {d : Dome} (h : u.dome.power = t.dome.power ∧ u.pending = t.pending)
    (ht : t.dome.power = d.power ∧ t.pending = s.pending) : u.dome.power = d.power ∧ u.pending = s.pending :=
  ⟨h.1.trans ht.1, h.2.trans ht.2⟩

theorem State.brownoutBegin_kept (up wild : Bool) (vbak : Nat) (s : State) (h : s.dome.mainGood = true) :
    (s.brownoutBegin up vbak wild).dome.power =
      ({ s.dome with mainGood := false, vintQual := up && s.dome.buck, brownout := true, watchArmed := s.watchMay vbak, brownouts := wrap32 s.dome.brownouts } : Dome).power ∧
    (s.brownoutBegin up vbak wild).pending = s.pending := by
  unfold State.brownoutBegin
  simp only [h, Bool.not_true, Bool.false_eq_true, if_false]
  refine State.kept_trans (State.forWings_kept _ _ fun w t => ?_) ⟨rfl, rfl⟩
  split <;> simp

/-- T_B keeps the invariant (R45, R46). -/
theorem State.brownoutBegin_inv {up wild : Bool} {vbak : Nat} {s : State} (hs : s.dome.Inv) : KeepsInv s (.next (s.brownoutBegin up vbak wild)) := by
  by_cases h : s.dome.mainGood = true
  · refine .next (State.brownoutBegin_kept up wild vbak s h) ?_
    obtain ⟨-, hfrozen, hbuck, -, -, hdark, -, -, hshort, hrail⟩ := hs
    have hwrap : wrap32 s.dome.brownouts < 2 ^ 32 := Nat.mod_lt _ (by decide)
    simp_all [Dome.Inv]
  · rw [State.brownoutBegin, if_pos (by simp [h])]
    exact .next ⟨rfl, rfl⟩ hs

/-- GATE low (R40, R45). -/
theorem Dome.Inv.gateLow {d : Dome} {p : LinePhase} (hd : d.Inv) : (d.gateLow p).Inv := by
  simp_all [Dome.Inv, Dome.gateLow]

/-- A look at the line starts a debounce while the buck is off, pulls GATE low, or changes nothing (R40). -/
theorem Dome.Inv.lineLook {d : Dome} (hd : d.Inv) : d.lineLook.Inv := by
  unfold Dome.lineLook
  split
  case isTrue hoff =>
    split
    · grind [Dome.Inv]
    · exact hd
  case isFalse =>
    (repeat' split) <;> first | exact hd | exact hd.gateLow

theorem State.cellLook_kept (mv : Nat) (s : State) :
    (s.cellLook mv).dome.power = (if s.dome.bpor then s.dome else
      { s.dome with vbak := mv, cellLow := decide (mv < 2100) || (s.dome.cellLow && decide (mv < 2200)) } : Dome).power ∧
    (s.cellLook mv).pending = s.pending := by
  unfold State.cellLook
  split
  · exact ⟨rfl, rfl⟩
  · dsimp only
    split <;> exact ⟨rfl, rfl⟩

/-- The comparators of VBAK write nothing that the invariant speaks of (R50). -/
theorem State.cellLook_inv {mv : Nat} {s t : State} (ht : t.dome.Inv) (hp : t.pending = s.pending) : KeepsInv s (.next (t.cellLook mv)) := by
  obtain ⟨hd, hq⟩ := State.cellLook_kept mv t
  refine .next ⟨hd, hq.trans hp⟩ ?_
  split
  · exact ht
  · exact ht

theorem execGateRampComplete_inv {s : State} (hs : s.dome.Inv) : KeepsInv s (execGateRampComplete s) := by
  unfold execGateRampComplete
  split
  case isTrue => exact .next ⟨rfl, rfl⟩ hs
  case isFalse hramp =>
    have hon : ({ s.dome with line := .on, buck := true } : Dome).Inv := by grind [Dome.Inv]
    dsimp only
    split
    case isTrue => exact .next (d := { s.dome with line := .on, buck := true }) ⟨rfl, rfl⟩ hon
    case isFalse hno =>
      have hgood : s.dome.mainGood = false := by
        cases h : s.dome.mainGood
        · rfl
        · exact absurd (by simp [State.modDome, h]) hno
      refine .next (d := { s.dome with line := .on, buck := true, domePor := true, bootselTaken := false, refLost := false }) ?_ (by grind [Dome.Inv])
      dsimp only
      exact State.kept_trans (State.portStart_kept _) (State.kept_trans (State.resetWings_kept none .domePor _) ⟨rfl, rfl⟩)

theorem execMainGoodReported_inv {vbak : Nat} {s : State} (hs : s.dome.Inv) : KeepsInv s (execMainGoodReported vbak s) := by
  unfold execMainGoodReported
  split
  case isTrue => exact .next ⟨rfl, rfl⟩ hs
  case isFalse hgo =>
    simp only [Bool.not_eq_true', Bool.and_eq_false_iff, Bool.not_eq_false', not_or, Bool.not_eq_true, Bool.not_eq_false] at hgo
    let d : Dome := { s.dome with mainGood := true, vintQual := false, domePor := false, mode := .line, vcore := 900, vcoreRead := false, watchArmed := false,
                                  bootsel := if s.dome.bootselTaken then s.dome.bootsel else s.dome.bootselPins, bootselTaken := true }
    have hd : d.Inv := by grind [Dome.Inv]
    refine State.cellLook_inv (Dome.Inv.of_power (d := d) (State.forWings_kept _ _ fun w t => ?_).1 hd)
      (State.forWings_kept _ _ fun w t => ?_).2 <;>
    · split <;> simp

theorem execBrownoutReset_inv {b : Bool} {s : State} (hs : s.dome.Inv) : KeepsInv s (execBrownoutReset b s) := by
  unfold execBrownoutReset
  split
  case isTrue => exact .next ⟨rfl, rfl⟩ hs
  case isFalse hb =>
    have hoff : s.dome.mainGood = false := hs.1 (by simpa using hb)
    dsimp only
    refine .next (d := { s.dome with
      brownout := false, watchArmed := false, holdupShort := b, holdupShorts := if b then sat16 s.dome.holdupShorts else s.dome.holdupShorts
      mode := if s.watchKept.isSome then .watch else if s.dome.bpor then .dark else .keep }) ?_ ?_
    · refine State.kept_trans (State.portStart_kept _) ?_
      split
      · exact State.resetWings_kept _ _ _
      · exact State.kept_trans (State.modWing_kept _ _ _) (State.resetWings_kept _ _ _)
    · have hsat : sat16 s.dome.holdupShorts ≤ 0xFFFF := Nat.min_le_right _ _
      grind [Dome.Inv]

theorem execBackupPor_inv {s : State} (hs : s.dome.Inv) : KeepsInv s (execBackupPor s) := by
  unfold execBackupPor
  split
  case isTrue => exact .next ⟨rfl, rfl⟩ hs
  case isFalse =>
    refine .next (State.setOsf_kept _ _) ?_
    grind [Dome.Inv]

theorem execWriteFreeze_inv {s : State} (hs : s.dome.Inv) : KeepsInv s (execWriteFreeze s) := by
  unfold execWriteFreeze
  split
  case isTrue => exact .next ⟨rfl, rfl⟩ hs
  case isFalse =>
    refine .next (d := { s.dome with writeFrozen := true }) ?_ (by grind [Dome.Inv])
    have hcell : ∀ t : State, t.cellEmptied.dome.power = t.dome.power ∧ t.cellEmptied.pending = t.pending := by
      intro t
      unfold State.cellEmptied
      split <;> exact ⟨rfl, rfl⟩
    have hset : ∀ u : State, u.dome.power = ({ s.dome with writeFrozen := true } : Dome).power ∧ u.pending = s.pending →
        (if u.cal.owner.isSome then u.calRelease false else u).dome.power = ({ s.dome with writeFrozen := true } : Dome).power ∧
        (if u.cal.owner.isSome then u.calRelease false else u).pending = s.pending := by
      intro u hu
      split
      · exact State.kept_trans (State.calRelease_kept _ _) hu
      · exact hu
    refine hset _ ?_
    split
    · exact ⟨rfl, rfl⟩
    · exact hcell _

theorem execWriteFreezeRelease_inv {s : State} (hs : s.dome.Inv) : KeepsInv s (execWriteFreezeRelease s) := by
  unfold execWriteFreezeRelease
  split
  case isTrue => exact .next ⟨rfl, rfl⟩ hs
  case isFalse hgo =>
    refine .next (d := { s.dome with writeFrozen := false }) (State.forWings_kept _ _ fun w t => ?_) (by grind [Dome.Inv])
    split <;> simp

theorem execWatchEnd_inv {s : State} (hs : s.dome.Inv) : KeepsInv s (execWatchEnd s) := by
  unfold execWatchEnd
  split
  case isTrue => exact .next ⟨rfl, rfl⟩ hs
  case isFalse hgo =>
    refine .next (d := { s.dome with mode := .keep }) (State.forWings_kept _ _ fun w t => ?_) (by grind [Dome.Inv])
    split <;> simp

theorem execResetNAssert_inv {s : State} (hs : s.dome.Inv) : KeepsInv s (execResetNAssert s) := by
  unfold execResetNAssert
  split
  case isTrue => exact .next ⟨rfl, rfl⟩ hs
  case isFalse =>
    refine .next (d := { s.dome with resetLow := true, mode := if s.dome.mode = .watch then .keep else s.dome.mode }) ?_ (by grind [Dome.Inv])
    exact State.kept_trans (State.portStart_kept _) (State.forWings_kept _ _ fun w t => by simp)

theorem execRefLost_inv {s : State} (hs : s.dome.Inv) : KeepsInv s (execRefLost s) := by
  unfold execRefLost
  split
  case isTrue => exact .next ⟨rfl, rfl⟩ hs
  case isFalse => exact .next (d := { s.dome with refLost := true }) (State.forWings_kept _ _ fun w t => by simp) hs

theorem execPodlClassification_inv {g : Octet} {s : State} (hs : s.dome.Inv) : KeepsInv s (execPodlClassification g s) := by
  unfold execPodlClassification
  split
  · exact .next ⟨rfl, rfl⟩ hs
  · exact .next (d := { s.dome with podlAsked := some podlRequest, podlClass := if g.toNat < 10 then s.dome.podlClass else g }) ⟨rfl, rfl⟩ hs

theorem execLineDebounceExpiry_inv {s : State} (hs : s.dome.Inv) : KeepsInv s (execLineDebounceExpiry s) := by
  unfold execLineDebounceExpiry
  split
  · exact .next (d := { s.dome with line := .ramp }) ⟨rfl, rfl⟩ (by grind [Dome.Inv])
  · exact .next ⟨rfl, rfl⟩ hs

theorem execLineOvervoltage_inv {mv : Nat} {s : State} (hs : s.dome.Inv) : KeepsInv s (execLineOvervoltage mv s) := by
  unfold execLineOvervoltage
  split
  · exact .next ⟨rfl, rfl⟩ (Dome.Inv.gateLow (d := { s.dome with lineMv := mv }) hs)
  · exact .next ⟨rfl, rfl⟩ hs

theorem execOvervoltageReleaseExpiry_inv {mv : Nat} {s : State} (hs : s.dome.Inv) : KeepsInv s (execOvervoltageReleaseExpiry mv s) := by
  unfold execOvervoltageReleaseExpiry
  split
  · exact .next ⟨rfl, rfl⟩ (Dome.Inv.lineLook (d := { s.dome with lineMv := mv, line := .ramp }) (by grind [Dome.Inv]))
  · exact .next ⟨rfl, rfl⟩ hs

theorem execVintRise_inv {s : State} (hs : s.dome.Inv) : KeepsInv s (execVintRise s) := by
  unfold execVintRise
  split
  · exact .next (d := { s.dome with vintQual := true }) ⟨rfl, rfl⟩ (by grind [Dome.Inv])
  · exact .next ⟨rfl, rfl⟩ hs

/-- A rail fault is counted, and is a brown-out (R43). -/
theorem execRailFault_inv {vbak : Nat} {b : Bool} {s : State} (hs : s.dome.Inv) : KeepsInv s (execRailFault vbak b s) := by
  have hsat : sat16 s.dome.railFaults ≤ 0xFFFF := Nat.min_le_right _ _
  refine State.brownoutBegin_inv (s := s.modDome (fun d => { d with railFaults := sat16 d.railFaults })) ?_
  change Dome.Inv { s.dome with railFaults := sat16 s.dome.railFaults }
  grind [Dome.Inv]

theorem execVcoreAdapt_inv {step : Nat} {s : State} (hs : s.dome.Inv) : KeepsInv s (execVcoreAdapt step s) := by
  unfold execVcoreAdapt
  split
  · exact .next (d := { s.dome with vcore := s.vcoreAim step, vcoreRead := true }) ⟨rfl, rfl⟩ hs
  · exact .next ⟨rfl, rfl⟩ hs

theorem execBackupPorRelease_inv {s : State} (hs : s.dome.Inv) : KeepsInv s (execBackupPorRelease s) := by
  unfold execBackupPorRelease
  split
  · exact .next ⟨rfl, rfl⟩ hs
  · exact .next (d := { s.dome with bpor := false, mode := if s.dome.mode = .dark then .keep else s.dome.mode }) ⟨rfl, rfl⟩
      (by grind [Dome.Inv])

theorem execVbakSample_inv {mv : Nat} {s : State} (hs : s.dome.Inv) : KeepsInv s (execVbakSample mv s) := by
  unfold execVbakSample
  split
  · exact .next ⟨rfl, rfl⟩ hs
  · exact State.cellLook_inv hs rfl

theorem execCellLowCrossing_inv {mv : Nat} {s : State} (hs : s.dome.Inv) : KeepsInv s (execCellLowCrossing mv s) := by
  unfold execCellLowCrossing
  split
  · exact State.cellLook_inv hs rfl
  · exact .next ⟨rfl, rfl⟩ hs

/-- Every command keeps the invariant: the Dome's own each for a reason of its own, any other because it leaves what the invariant speaks of. -/
theorem exec_keepsInv (i : Instr) {s : State} (hs : s.dome.Inv) : KeepsInv s (exec i s) := by
  cases i with
  | podlClassification _ => exact execPodlClassification_inv hs
  | lineRise _ => exact .next ⟨rfl, rfl⟩ (Dome.Inv.lineLook (d := { s.dome with lineMv := _ }) hs)
  | lineDebounceExpiry => exact execLineDebounceExpiry_inv hs
  | gateRampComplete => exact execGateRampComplete_inv hs
  | lineFall _ => exact .next ⟨rfl, rfl⟩ (Dome.Inv.lineLook (d := { s.dome with lineMv := _ }) hs)
  | lineOvervoltage _ => exact execLineOvervoltage_inv hs
  | overvoltageReleaseExpiry _ => exact execOvervoltageReleaseExpiry_inv hs
  | bootselChange _ => exact .next ⟨rfl, rfl⟩ (Dome.Inv.lineLook (d := { s.dome with bootselPins := _ }) hs)
  | mainGoodReported _ => exact execMainGoodReported_inv hs
  | brownoutBegin _ _ => exact State.brownoutBegin_inv hs
  | brownoutReset _ => exact execBrownoutReset_inv hs
  | railFault _ _ => exact execRailFault_inv hs
  | vcoreAdapt _ => exact execVcoreAdapt_inv hs
  | backupPor => exact execBackupPor_inv hs
  | backupPorRelease => exact execBackupPorRelease_inv hs
  | writeFreeze => exact execWriteFreeze_inv hs
  | writeFreezeRelease => exact execWriteFreezeRelease_inv hs
  | vbakSample _ => exact execVbakSample_inv hs
  | cellLowCrossing _ => exact execCellLowCrossing_inv hs
  | watchEnd => exact execWatchEnd_inv hs
  | resetNAssert => exact execResetNAssert_inv hs
  | resetNRelease => exact .next (d := { s.dome with resetLow := false }) ⟨rfl, rfl⟩ hs
  | resetRequest _ _ _ => exact (execResetRequest_kept ..).keepsInv hs
  | cpuSelfReset _ _ => exact (execCpuSelfReset_kept ..).keepsInv hs
  | wingResetRelease _ => exact (execWingResetRelease_kept ..).keepsInv hs
  | bootComplete _ _ => exact (execBootComplete_kept ..).keepsInv hs
  | thermalTrip _ _ => exact (execThermalTrip_kept ..).keepsInv hs
  | thermalRecovery _ _ => exact (execThermalRecovery_kept ..).keepsInv hs
  | pllLock _ => exact (execPllLock_kept ..).keepsInv hs
  | pllUnlock _ => exact (execPllUnlock_kept ..).keepsInv hs
  | refLost => exact execRefLost_inv hs
  | stopRequest _ _ _ => exact (execStopRequest_kept ..).keepsInv hs
  | wingEnterStopped _ => exact (execWingEnterStopped_kept ..).keepsInv hs
  | preambleDetection _ _ _ => exact (execPreambleDetection_kept ..).keepsInv hs
  | sfdDetected _ _ _ _ => exact (execSfdDetected_kept ..).keepsInv hs
  | sfdTimeout _ _ => exact (execSfdTimeout_kept ..).keepsInv hs
  | phrEnd _ _ _ _ _ => exact (execPhrEnd_kept ..).keepsInv hs
  | frameEnd _ _ _ _ _ _ _ _ _ => exact (execFrameEnd_kept ..).keepsInv hs
  | overloadStart _ _ => exact (execOverloadStart_kept ..).keepsInv hs
  | overloadEnd _ => exact (execOverloadEnd_kept ..).keepsInv hs
  | rxBufFree _ _ => exact (execRxBufFree_kept ..).keepsInv hs
  | rxCalReq _ _ => exact (execRxCalReq_kept ..).keepsInv hs
  | calTempTrigger _ _ => exact (execCalTempTrigger_kept ..).keepsInv hs
  | calibrationStart _ _ => exact (execCalibrationStart_kept ..).keepsInv hs
  | calibrationComplete _ _ _ _ => exact (execCalibrationComplete_kept ..).keepsInv hs
  | calDeferTimeout _ => exact (execCalDeferTimeout_kept ..).keepsInv hs
  | calBackgroundUpdate _ _ _ => exact (execCalBackgroundUpdate_kept ..).keepsInv hs
  | lfCalMeasurement _ _ => exact (execLfCalMeasurement_kept ..).keepsInv hs
  | rcCounterRead _ _ => exact (execRcCounterRead_kept ..).keepsInv hs
  | lowWordLatchRead _ _ _ => exact (execLowWordLatchRead_kept ..).keepsInv hs
  | registerWrite _ _ _ _ => exact (execRegisterWrite_kept ..).keepsInv hs
  | radioTransitionDone _ => exact (execRadioTransitionDone_kept ..).keepsInv hs
  | txDecisionPoint _ => exact (execTxDecisionPoint_kept ..).keepsInv hs
  | txDeparture _ => exact (execTxDeparture_kept ..).keepsInv hs
  | synthCalDone _ _ => exact (execSynthCalDone_kept ..).keepsInv hs
  | txRampUp _ => exact (execTxRampUp_kept ..).keepsInv hs
  | txLastSymbol _ => exact (execTxLastSymbol_kept ..).keepsInv hs
  | txRampDownEnd _ => exact (execTxRampDownEnd_kept ..).keepsInv hs
  | txAbort _ _ _ => exact (execTxAbort_kept ..).keepsInv hs
  | txTest _ _ => exact (execTxTest_kept ..).keepsInv hs
  | testBlock _ => exact (execTestBlock_kept ..).keepsInv hs
  | bucketClose _ => exact (execBucketClose_kept ..).keepsInv hs
  | bucketJournal _ _ => exact (execBucketJournal_kept ..).keepsInv hs
  | txLimAck _ _ => exact (execTxLimAck_kept ..).keepsInv hs
  | dwellSubwindowClose _ _ _ => exact (execDwellSubwindowClose_kept ..).keepsInv hs
  | bootHoldEnd _ _ => exact (execBootHoldEnd_kept ..).keepsInv hs
  | watchWingWrite _ => exact (execWatchWingWrite_kept ..).keepsInv hs
  | slotResolve _ => exact (execSlotResolve_kept ..).keepsInv hs
  | slotBoundary _ => exact (execSlotBoundary_kept ..).keepsInv hs
  | radioWakeLead _ => exact (execRadioWakeLead_kept ..).keepsInv hs
  | listenWindowStart _ _ => exact (execListenWindowStart_kept ..).keepsInv hs
  | listenWindowEnd _ _ => exact (execListenWindowEnd_kept ..).keepsInv hs
  | txDescriptorTake _ _ => exact (execTxDescriptorTake_kept ..).keepsInv hs
  | ackEvaluation _ _ => exact (execAckEvaluation_kept ..).keepsInv hs
  | micCheckDone _ _ => exact (execMicCheckDone_kept ..).keepsInv hs
  | journalCheckDone _ _ => exact (execJournalCheckDone_kept ..).keepsInv hs
  | ackCheckDeadline _ _ => exact (execAckCheckDeadline_kept ..).keepsInv hs
  | ackReceived _ => exact (execAckReceived_kept ..).keepsInv hs
  | ackWindowExpiry _ => exact (execAckWindowExpiry_kept ..).keepsInv hs
  | windowMiss _ _ => exact (execWindowMiss_kept ..).keepsInv hs
  | recover _ _ => exact (execRecover_kept ..).keepsInv hs
  | hopSeed _ _ _ => exact (execHopSeed_kept ..).keepsInv hs
  | admission _ => exact (execAdmission_kept ..).keepsInv hs
  | floodLimitRaise _ => exact (execFloodLimitRaise_kept ..).keepsInv hs
  | searchTimeout _ => exact (execSearchTimeout_kept ..).keepsInv hs
  | orderExecute _ => exact (execOrderExecute_kept ..).keepsInv hs
  | barrierConfirm _ => exact (execBarrierConfirm_kept ..).keepsInv hs
  | autoStore _ => exact (execAutoStore_kept ..).keepsInv hs
  | intakeDescriptor _ => exact (execIntakeDescriptor_kept ..).keepsInv hs
  | itemCompletion _ => exact (execItemCompletion_kept ..).keepsInv hs
  | journalCarry _ => exact (execJournalCarry_kept ..).keepsInv hs
  | twinBind _ => exact (execTwinBind_kept ..).keepsInv hs
  | twinRecord _ => exact (execTwinRecord_kept ..).keepsInv hs
  | twinSealed _ => exact (execTwinSealed_kept ..).keepsInv hs
  | twinState _ => exact (execTwinState_kept ..).keepsInv hs
  | seedBegin _ => exact (execSeedBegin_kept ..).keepsInv hs
  | seedEnd _ => exact (execSeedEnd_kept ..).keepsInv hs
  | sealedTimeout _ => exact (execSealedTimeout_kept ..).keepsInv hs
  | pairForm _ _ _ _ => exact (execPairForm_kept ..).keepsInv hs
  | pairDissolve _ _ => exact (execPairDissolve_kept ..).keepsInv hs
  | twinBeat _ => exact (execTwinBeat_kept ..).keepsInv hs
  | beatTimeout _ _ => exact (execBeatTimeout_kept ..).keepsInv hs
  | takeover _ => exact (execTakeover_kept ..).keepsInv hs
  | tokenPowerOnChoice _ => exact (execTokenPowerOnChoice_kept ..).keepsInv hs
  | switch _ _ _ => exact (execSwitch_kept ..).keepsInv hs
  | releaseToken _ => exact (execReleaseToken_kept ..).keepsInv hs
  | switchTimeout _ => exact (execSwitchTimeout_kept ..).keepsInv hs
  | hello _ _ _ _ => exact (execHello_kept ..).keepsInv hs
  | open_ _ _ => exact (execOpen_kept ..).keepsInv hs
  | close _ => exact (execClose_kept ..).keepsInv hs
  | ping _ => exact (execPing_kept ..).keepsInv hs
  | read _ _ _ _ => exact (execRead_kept ..).keepsInv hs
  | write _ _ _ _ _ => exact (execWrite_kept ..).keepsInv hs
  | readRecord _ _ _ => exact (execReadRecord_kept ..).keepsInv hs
  | writeRecord _ _ _ _ => exact (execWriteRecord_kept ..).keepsInv hs
  | domainBegin _ _ _ _ _ _ => exact (execDomainBegin_kept ..).keepsInv hs
  | domainBlock _ _ _ _ _ _ _ => exact (execDomainBlock_kept ..).keepsInv hs
  | domainEnd _ _ _ _ => exact (execDomainEnd_kept ..).keepsInv hs
  | domainTransferTimeout _ _ _ _ => exact (execDomainTransferTimeout_kept ..).keepsInv hs
  | submit _ _ _ => exact (execSubmit_kept ..).keepsInv hs
  | retire _ _ _ _ => exact (execRetire_kept ..).keepsInv hs
  | itemQuery _ _ _ _ => exact (execItemQuery_kept ..).keepsInv hs
  | partnerFetch _ _ _ _ _ => exact (execPartnerFetch_kept ..).keepsInv hs
  | wingReset _ _ => exact (execWingReset_kept ..).keepsInv hs
  | census _ _ => exact (execCensus_kept ..).keepsInv hs
  | align _ _ _ => exact (execAlign_kept ..).keepsInv hs
  | order _ _ _ _ _ _ _ _ => exact (execOrder_kept ..).keepsInv hs
  | forward _ _ _ _ _ _ _ _ => exact (execForward_kept ..).keepsInv hs
  | forwardResponse _ _ => exact (execForwardResponse_kept ..).keepsInv hs
  | forwardTimeout _ _ => exact (execForwardTimeout_kept ..).keepsInv hs
  | stageErase _ _ => exact (execStageErase_kept ..).keepsInv hs
  | stageWrite _ _ _ _ => exact (execStageWrite_kept ..).keepsInv hs
  | stageRead _ _ _ _ => exact (execStageRead_kept ..).keepsInv hs
  | subscribe _ _ _ => exact (execSubscribe_kept ..).keepsInv hs
  | store _ _ _ => exact (execStore_kept ..).keepsInv hs
  | storeComplete _ _ _ => exact (execStoreComplete_kept ..).keepsInv hs
  | restore _ _ _ => exact (execRestore_kept ..).keepsInv hs
  | portImageFinal => exact (execPortImageFinal_kept ..).keepsInv hs
  | helloReservationExpiry _ => exact (execHelloReservationExpiry_kept ..).keepsInv hs
  | lockoutExpiry _ => exact (execLockoutExpiry_kept ..).keepsInv hs
  | sessionIdleTimeout _ => exact (execSessionIdleTimeout_kept ..).keepsInv hs
  | linkUp => exact (execLinkUp_kept ..).keepsInv hs
  | linkDown => exact (execLinkDown_kept ..).keepsInv hs
  | dadComplete _ => exact (execDadComplete_kept ..).keepsInv hs
  | dadContradicted _ => exact (execDadContradicted_kept ..).keepsInv hs
  | ethFrameReceived _ => exact (execEthFrameReceived_kept ..).keepsInv hs
  | icmpEcho _ => exact (execIcmpEcho_kept ..).keepsInv hs
  | neighbourSolicitation _ => exact (execNeighbourSolicitation_kept ..).keepsInv hs
  | spiStatus _ => exact (execSpiStatus_kept ..).keepsInv hs
  | spiWrite _ _ _ => exact (execSpiWrite_kept ..).keepsInv hs
  | spiRead _ _ _ => exact (execSpiRead_kept ..).keepsInv hs
  | itemReportDelivery _ _ => exact (execItemReportDelivery_kept ..).keepsInv hs
  | docentHostPoll _ => exact (execDocentHostPoll_kept ..).keepsInv hs
  | wingResponse _ _ => exact (execWingResponse_kept ..).keepsInv hs
  | meshFeranExecute _ _ => exact (execMeshFeranExecute_kept ..).keepsInv hs
  | relayForward _ _ => exact (execRelayForward_kept ..).keepsInv hs
  | relayHoldTimeout _ => exact (execRelayHoldTimeout_kept ..).keepsInv hs
  | portReset => exact (execPortReset_kept ..).keepsInv hs
  | timebaseWrap _ => exact (execTimebaseWrap_kept ..).keepsInv hs
  | carTbLapRead _ _ _ => exact (execCarTbLapRead_kept ..).keepsInv hs
  | bellCfgWrite _ _ _ => exact (execBellCfgWrite_kept ..).keepsInv hs
  | bellCompareCommit _ _ _ _ => exact (execBellCompareCommit_kept ..).keepsInv hs
  | bellMatch _ _ => exact (execBellMatch_kept ..).keepsInv hs
  | bellCapture _ _ _ => exact (execBellCapture_kept ..).keepsInv hs
  | bellCaptureRead _ _ => exact (execBellCaptureRead_kept ..).keepsInv hs
  | bellTallyEvent _ _ => exact (execBellTallyEvent_kept ..).keepsInv hs
  | lfRunningEntry _ _ => exact (execLfRunningEntry_kept ..).keepsInv hs
  | lfEdge => exact (execLfEdge_kept ..).keepsInv hs
  | rephase _ => exact (execRephase_kept ..).keepsInv hs
  | secondsCarry => exact (execSecondsCarry_kept ..).keepsInv hs
  | pwronWindowEnd => exact (execPwronWindowEnd_kept ..).keepsInv hs
  | lfStopDetected => exact (execLfStopDetected_kept ..).keepsInv hs
  | lfRestart => exact (execLfRestart_kept ..).keepsInv hs
  | calShadowFreeze _ _ => exact (execCalShadowFreeze_kept ..).keepsInv hs
  | calYearRead _ => exact (execCalYearRead_kept ..).keepsInv hs
  | calRelease _ => exact (execCalRelease_kept ..).keepsInv hs
  | shadowTimeout _ => exact (execShadowTimeout_kept ..).keepsInv hs
  | calHalt _ => exact (execCalHalt_kept ..).keepsInv hs
  | haltEdge => exact (execHaltEdge_kept ..).keepsInv hs
  | haltRelease _ _ => exact (execHaltRelease_kept ..).keepsInv hs
  | releaseEdge => exact (execReleaseEdge_kept ..).keepsInv hs
  | calFieldWrite _ _ _ => exact (execCalFieldWrite_kept ..).keepsInv hs
  | haltLost => exact (execHaltLost_kept ..).keepsInv hs
  | timeWrite _ _ => exact (execTimeWrite_kept ..).keepsInv hs
  | flashSubmit _ _ => exact (execFlashSubmit_kept ..).keepsInv hs
  | flashProgram _ => exact (execFlashProgram_kept ..).keepsInv hs
  | flashErase _ => exact (execFlashErase_kept ..).keepsInv hs
  | flashTally _ => exact (execFlashTally_kept ..).keepsInv hs
  | flashRead _ => exact (execFlashRead_kept ..).keepsInv hs
  | optProgram _ => exact (execOptProgram_kept ..).keepsInv hs
  | optErase _ => exact (execOptErase_kept ..).keepsInv hs
  | optLock _ => exact (execOptLock_kept ..).keepsInv hs
  | programPulseDone _ _ => exact (execProgramPulseDone_kept ..).keepsInv hs
  | eraseSubpulseDone _ _ => exact (execEraseSubpulseDone_kept ..).keepsInv hs
  | flashDirectRead _ _ => exact (execFlashDirectRead_kept ..).keepsInv hs
  | gapMovePiece _ _ => exact (execGapMovePiece_kept ..).keepsInv hs
  | wlEntryWrite _ _ _ _ _ => exact (execWlEntryWrite_kept ..).keepsInv hs
  | optionLockWrite _ _ _ => exact (execOptionLockWrite_kept ..).keepsInv hs
  | nop _ => exact (execNop_kept ..).keepsInv hs
  | ret _ => exact (execRet_kept ..).keepsInv hs
  | retf _ => exact (execRetf_kept ..).keepsInv hs
  | reti _ => exact (execReti_kept ..).keepsInv hs
  | sleep _ => exact (execSleep_kept ..).keepsInv hs
  | brk _ => exact (execBrk_kept ..).keepsInv hs
  | ei _ => exact (execEi_kept ..).keepsInv hs
  | di _ => exact (execDi_kept ..).keepsInv hs
  | fence _ => exact (execFence_kept ..).keepsInv hs
  | clc _ => exact (execClc_kept ..).keepsInv hs
  | sec _ => exact (execSec_kept ..).keepsInv hs
  | svc _ _ => exact (execSvc_kept ..).keepsInv hs
  | neg _ _ => exact (execNeg_kept ..).keepsInv hs
  | not _ _ => exact (execNot_kept ..).keepsInv hs
  | inc _ _ => exact (execInc_kept ..).keepsInv hs
  | dec _ _ => exact (execDec_kept ..).keepsInv hs
  | swab _ _ => exact (execSwab_kept ..).keepsInv hs
  | sxt _ _ => exact (execSxt_kept ..).keepsInv hs
  | zxt _ _ => exact (execZxt_kept ..).keepsInv hs
  | clr _ _ => exact (execClr_kept ..).keepsInv hs
  | add _ _ _ => exact (execAdd_kept ..).keepsInv hs
  | addc _ _ _ => exact (execAddc_kept ..).keepsInv hs
  | sub _ _ _ => exact (execSub_kept ..).keepsInv hs
  | subb _ _ _ => exact (execSubb_kept ..).keepsInv hs
  | and _ _ _ => exact (execAnd_kept ..).keepsInv hs
  | or _ _ _ => exact (execOr_kept ..).keepsInv hs
  | xor _ _ _ => exact (execXor_kept ..).keepsInv hs
  | mov _ _ _ => exact (execMov_kept ..).keepsInv hs
  | cmp _ _ _ => exact (execCmp_kept ..).keepsInv hs
  | tst _ _ _ => exact (execTst_kept ..).keepsInv hs
  | movi _ _ _ => exact (execMovi_kept ..).keepsInv hs
  | addi _ _ _ => exact (execAddi_kept ..).keepsInv hs
  | cmpi _ _ _ => exact (execCmpi_kept ..).keepsInv hs
  | ldwDisp _ _ _ _ => exact (execLdwDisp_kept ..).keepsInv hs
  | stwDisp _ _ _ _ => exact (execStwDisp_kept ..).keepsInv hs
  | ldwPostinc _ _ _ => exact (execLdwPostinc_kept ..).keepsInv hs
  | ldwPredec _ _ _ => exact (execLdwPredec_kept ..).keepsInv hs
  | stwPostinc _ _ _ => exact (execStwPostinc_kept ..).keepsInv hs
  | stwPredec _ _ _ => exact (execStwPredec_kept ..).keepsInv hs
  | xch _ _ _ => exact (execXch_kept ..).keepsInv hs
  | bcc _ _ _ => exact (execBcc_kept ..).keepsInv hs
  | bra _ _ => exact (execBra_kept ..).keepsInv hs
  | call _ _ => exact (execCall_kept ..).keepsInv hs
  | dbnz _ _ _ => exact (execDbnz_kept ..).keepsInv hs
  | callf _ _ => exact (execCallf_kept ..).keepsInv hs
  | jmpf _ _ => exact (execJmpf_kept ..).keepsInv hs
  | jmpReg _ _ => exact (execJmpReg_kept ..).keepsInv hs
  | callReg _ _ => exact (execCallReg_kept ..).keepsInv hs
  | shzL _ _ _ _ => exact (execShzL_kept ..).keepsInv hs
  | shzR _ _ _ _ => exact (execShzR_kept ..).keepsInv hs
  | shsR _ _ _ _ => exact (execShsR_kept ..).keepsInv hs
  | rotL _ _ _ _ => exact (execRotL_kept ..).keepsInv hs
  | rotR _ _ _ _ => exact (execRotR_kept ..).keepsInv hs
  | rtcL _ _ _ _ => exact (execRtcL_kept ..).keepsInv hs
  | rtcR _ _ _ _ => exact (execRtcR_kept ..).keepsInv hs
  | bitS _ _ _ _ => exact (execBitS_kept ..).keepsInv hs
  | bitC _ _ _ _ => exact (execBitC_kept ..).keepsInv hs
  | bitI _ _ _ _ => exact (execBitI_kept ..).keepsInv hs
  | bitT _ _ _ _ => exact (execBitT_kept ..).keepsInv hs
  | mulu _ _ _ => exact (execMulu_kept ..).keepsInv hs
  | muls _ _ _ => exact (execMuls_kept ..).keepsInv hs
  | divu _ _ _ => exact (execDivu_kept ..).keepsInv hs
  | addd _ _ _ => exact (execAddd_kept ..).keepsInv hs
  | subd _ _ _ => exact (execSubd_kept ..).keepsInv hs
  | dshl _ _ _ => exact (execDshl_kept ..).keepsInv hs
  | dshr _ _ _ => exact (execDshr_kept ..).keepsInv hs
  | daa _ _ => exact (execDaa_kept ..).keepsInv hs
  | das _ _ => exact (execDas_kept ..).keepsInv hs
  | mfs _ _ _ => exact (execMfs_kept ..).keepsInv hs
  | mts _ _ _ => exact (execMts_kept ..).keepsInv hs
  | rptMovs _ _ => exact (execRptMovs_kept ..).keepsInv hs
  | rptFills _ _ => exact (execRptFills_kept ..).keepsInv hs
  | rptCmps _ _ => exact (execRptCmps_kept ..).keepsInv hs
  | rptScans _ _ => exact (execRptScans_kept ..).keepsInv hs
  | movl _ _ _ => exact (execMovl_kept ..).keepsInv hs
  | addl _ _ _ => exact (execAddl_kept ..).keepsInv hs
  | subl _ _ _ => exact (execSubl_kept ..).keepsInv hs
  | andl _ _ _ => exact (execAndl_kept ..).keepsInv hs
  | orl _ _ _ => exact (execOrl_kept ..).keepsInv hs
  | xorl _ _ _ => exact (execXorl_kept ..).keepsInv hs
  | cmpl _ _ _ => exact (execCmpl_kept ..).keepsInv hs
  | lda _ _ _ => exact (execLda_kept ..).keepsInv hs
  | sta _ _ _ => exact (execSta_kept ..).keepsInv hs
  | interruptEntry _ => exact (execInterruptEntry_kept ..).keepsInv hs
  | coreWake _ => exact (execCoreWake_kept ..).keepsInv hs
  | watchdogEnable _ _ => exact (execWatchdogEnable_kept ..).keepsInv hs
  | watchdogKick _ _ => exact (execWatchdogKick_kept ..).keepsInv hs
  | watchdogWarn _ => exact (execWatchdogWarn_kept ..).keepsInv hs
  | watchdogExpiry _ => exact (execWatchdogExpiry_kept ..).keepsInv hs
  | debugHalt _ _ => exact (execDebugHalt_kept ..).keepsInv hs
  | debugResume _ _ => exact (execDebugResume_kept ..).keepsInv hs
  | appletInstall _ _ => exact (execAppletInstall_kept ..).keepsInv hs
  | appletRemove _ _ => exact (execAppletRemove_kept ..).keepsInv hs
  | appletStart _ => exact (execAppletStart_kept ..).keepsInv hs
  | appletYield _ => exact (execAppletYield_kept ..).keepsInv hs
  | appletExit _ => exact (execAppletExit_kept ..).keepsInv hs
  | appletPut _ => exact (execAppletPut_kept ..).keepsInv hs
  | appletGet _ => exact (execAppletGet_kept ..).keepsInv hs
  | appletWait _ => exact (execAppletWait_kept ..).keepsInv hs
  | appletWaitExpiry _ => exact (execAppletWaitExpiry_kept ..).keepsInv hs
  | appletRestart _ => exact (execAppletRestart_kept ..).keepsInv hs
  | doorbell _ _ _ => exact (execDoorbell_kept ..).keepsInv hs
  | docentClaim _ => exact (execDocentClaim_kept ..).keepsInv hs
  | docentComplete _ _ => exact (execDocentComplete_kept ..).keepsInv hs
  | pendSet _ _ _ => exact (execPendSet_kept ..).keepsInv hs
  | pendClr _ _ _ => exact (execPendClr_kept ..).keepsInv hs
  | maskSet _ _ _ => exact (execMaskSet_kept ..).keepsInv hs
  | maskClr _ _ _ => exact (execMaskClr_kept ..).keepsInv hs
  | ringPublish _ _ _ => exact (execRingPublish_kept ..).keepsInv hs
  | ringTake _ _ => exact (execRingTake_kept ..).keepsInv hs
  | ringPass _ _ => exact (execRingPass_kept ..).keepsInv hs
  | mbxLock _ _ => exact (execMbxLock_kept ..).keepsInv hs
  | mbxPost _ _ => exact (execMbxPost_kept ..).keepsInv hs
  | mbxAck _ _ _ => exact (execMbxAck_kept ..).keepsInv hs
  | mbxRelease _ _ => exact (execMbxRelease_kept ..).keepsInv hs
  | appletIn _ _ _ => exact (execAppletIn_kept ..).keepsInv hs
  | ecbEnc _ _ => exact (execEcbEnc_kept ..).keepsInv hs
  | ecbDec _ _ => exact (execEcbDec_kept ..).keepsInv hs
  | ctr _ _ => exact (execCtr_kept ..).keepsInv hs
  | ccmEnc _ _ => exact (execCcmEnc_kept ..).keepsInv hs
  | ccmDec _ _ => exact (execCcmDec_kept ..).keepsInv hs
  | gcmEnc _ _ => exact (execGcmEnc_kept ..).keepsInv hs
  | gcmDec _ _ => exact (execGcmDec_kept ..).keepsInv hs
  | cmacGen _ _ => exact (execCmacGen_kept ..).keepsInv hs
  | cmacVerify _ _ => exact (execCmacVerify_kept ..).keepsInv hs
  | shake256 _ _ => exact (execShake256_kept ..).keepsInv hs
  | kmacGen _ _ => exact (execKmacGen_kept ..).keepsInv hs
  | kmacVerify _ _ => exact (execKmacVerify_kept ..).keepsInv hs
  | derive _ _ => exact (execDerive_kept ..).keepsInv hs
  | wrap _ _ => exact (execWrap_kept ..).keepsInv hs
  | unwrap _ _ => exact (execUnwrap_kept ..).keepsInv hs
  | xmssF _ _ => exact (execXmssF_kept ..).keepsInv hs
  | xmssH _ _ => exact (execXmssH_kept ..).keepsInv hs
  | xmssPrf _ _ => exact (execXmssPrf_kept ..).keepsInv hs
  | xmssChain _ _ => exact (execXmssChain_kept ..).keepsInv hs
  | xmssHmsg _ _ => exact (execXmssHmsg_kept ..).keepsInv hs
  | cipherJobComplete _ _ => exact (execCipherJobComplete_kept ..).keepsInv hs
  | cipherAbort _ _ => exact (execCipherAbort_kept ..).keepsInv hs
  | keyCommitPage _ => exact (execKeyCommitPage_kept ..).keepsInv hs
  | keyCommitRoot _ => exact (execKeyCommitRoot_kept ..).keepsInv hs
  | pageClear _ _ => exact (execPageClear_kept ..).keepsInv hs
  | pageCfgWrite _ _ => exact (execPageCfgWrite_kept ..).keepsInv hs
  | randomRead _ => exact (execRandomRead_kept ..).keepsInv hs
  | randomReady _ => exact (execRandomReady_kept ..).keepsInv hs
  | randomHealthFail _ => exact (execRandomHealthFail_kept ..).keepsInv hs
  | networkRootWrite _ _ _ => exact (execNetworkRootWrite_kept ..).keepsInv hs
  | sessionKey _ _ _ => exact (execSessionKey_kept ..).keepsInv hs
  | trialEnd _ => exact (execTrialEnd_kept ..).keepsInv hs
  | updatePending _ _ _ => exact (execUpdatePending_kept ..).keepsInv hs
  | ownerRootWrite _ _ _ _ => exact (execOwnerRootWrite_kept ..).keepsInv hs
  | regenerate _ _ _ => exact (execRegenerate_kept ..).keepsInv hs
  | successorGenerate _ => exact (execSuccessorGenerate_kept ..).keepsInv hs
  | successorReady _ => exact (execSuccessorReady_kept ..).keepsInv hs
  | challenge _ _ _ => exact (execChallenge_kept ..).keepsInv hs
  | vintRise => exact execVintRise_inv hs
  | refInReturn => exact .next (d := { s.dome with refLost := false }) ⟨rfl, rfl⟩ hs
  | portRandomHealthFail => exact (execPortRandomHealthFail_kept ..).keepsInv hs
  | reservedEncoding _ _ => exact (execReservedEncoding_kept ..).keepsInv hs
  | fetchAccessFault _ => exact (execFetchAccessFault_kept ..).keepsInv hs

/-- Settles O4: the command at the front runs on the state with the rest of the queue, and every command keeps the invariant. -/
theorem invStep : Obligations.InvStep := by
  unfold Obligations.InvStep
  intro s t hs ht
  unfold step at ht
  split at ht
  case h_1 hq =>
    cases ht
    obtain ⟨hd, hp⟩ := State.sendEvents_kept s
    exact ⟨hs.of_power hd, hp.trans (by rw [hq]; rfl)⟩
  case h_2 c rest hq =>
    obtain ⟨hd, hp⟩ := exec_keepsInv c (s := { s with pending := rest }) hs t ht
    exact ⟨hd, hp.trans (by rw [hq]; rfl)⟩

end Sys2Proof.Machine

namespace Sys2Proof.Machine
open Sys2Proof

/-! SUPPORT. The core's arithmetic and logic instructions (R401, R407, R408, R413): what a flag computation does to each bit of ST, and what an instruction
that writes a register and flags does to the state. -/

/-- ST keeps every bit. -/
theorem OnlyFlags.refl (m st : Word) : OnlyFlags m st st := fun _ _ => rfl

/-- Setting a bit of the mask keeps the bits outside it. -/
theorem OnlyFlags.putBit {m st st' : Word} {j : Nat} {b : Bool} (h : OnlyFlags m st st') (hj : j < 16) (hm : m.getLsbD j = true) :
    OnlyFlags m st (putBit j b st') := by
  intro i hi
  have hne : j ≠ i.val := by rintro rfl; rw [hm] at hi; cases hi
  rw [getLsbD_putBit j i b st' hj i.isLt, if_neg hne]
  exact h i hi

theorem word_beq (a b : Word) : (a == b) = decide (a = b) := rfl

/-- Z and N of a result are set, and no other flag. -/
theorem flagsZN_flags (r st : Word) : FlagsZN r st (flagsZN r st) := by
  refine ⟨?_, ?_, ((OnlyFlags.refl _ _).putBit (by decide) (by decide)).putBit (by decide) (by decide)⟩
  · simp [flagsZN, getLsbD_putBit, fZ, fN, word_beq, -BitVec.getLsbD_eq_getElem]
  · simp [flagsZN, getLsbD_putBit, fZ, fN, -BitVec.getLsbD_eq_getElem]

theorem word_msb_eq (a : Word) : a.msb = decide (32768 ≤ a.toNat) := BitVec.msb_eq_decide a

/-- The signed value of a word by its sign bit. -/
theorem word_toInt_eq (a : Word) : a.toInt = (a.toNat : Int) - (if 32768 ≤ a.toNat then 65536 else 0) := by
  rw [BitVec.toInt_eq_toNat_cond]
  split <;> split <;> omega

/-- The sum of two words and a carry as a word. -/
theorem w16_add (a b : Word) (k : Nat) : w16 (a.toNat + b.toNat + k) = a + b + BitVec.ofNat 16 k := by
  simp [w16, BitVec.ofNat_add]

/-- V of a sum is signed overflow (R401). -/
theorem addOverflow (a b : Word) (cin : Bool) :
    (a.msb == b.msb && (a + b + BitVec.ofNat 16 (b2n cin)).msb != a.msb) =
      decide (a.toInt + b.toInt + b2n cin < -32768 ∨ 32767 < a.toInt + b.toInt + b2n cin) := by
  have ha := a.isLt
  have hb := b.isLt
  have hk : b2n cin ≤ 1 := by cases cin <;> decide
  rw [Bool.eq_iff_iff]
  simp only [word_msb_eq, word_toInt_eq, BitVec.toNat_add, BitVec.toNat_ofNat, Bool.and_eq_true, beq_iff_eq, bne_iff_ne, ne_eq, decide_eq_decide,
    decide_eq_true_eq]
  split <;> split <;> omega

/-- V of a difference is signed overflow (R401). -/
theorem subOverflow (a b : Word) (bin : Bool) :
    (a.msb != b.msb && (a - b - BitVec.ofNat 16 (b2n bin)).msb != a.msb) =
      decide (a.toInt - b.toInt - b2n bin < -32768 ∨ 32767 < a.toInt - b.toInt - b2n bin) := by
  have ha := a.isLt
  have hb := b.isLt
  have hk : b2n bin ≤ 1 := by cases bin <;> decide
  rw [Bool.eq_iff_iff]
  simp only [word_msb_eq, word_toInt_eq, BitVec.toNat_sub, BitVec.toNat_ofNat, Bool.and_eq_true, bne_iff_ne, ne_eq, decide_eq_decide,
    decide_eq_true_eq]
  split <;> split <;> omega

@[simp] theorem addF_fst (a b : Word) (cin chain : Bool) (st : Word) : (addF a b cin chain st).1 = a + b + BitVec.ofNat 16 (b2n cin) := w16_add _ _ _

@[simp] theorem subF_fst (a b : Word) (bin chain : Bool) (st : Word) : (subF a b bin chain st).1 = a - b - BitVec.ofNat 16 (b2n bin) := rfl

/-- The flags of a sum, Z chained as ADDC does where asked (R407). -/
theorem addF_flags (a b : Word) (cin chain : Bool) (st : Word) :
    FlagsAdd a b cin (let r := a + b + BitVec.ofNat 16 (b2n cin); if chain then r == 0 && st.getLsbD 1 else r == 0) st (addF a b cin chain st).2 := by
  refine ⟨?_, ?_, ?_, ?_, ?_, ?_⟩
  case refine_6 => repeat' first | exact OnlyFlags.refl _ _ | refine OnlyFlags.putBit ?_ (by decide) (by decide)
  all_goals simp [addF, getLsbD_putBit, fC, fZ, fN, fV, fH, w16_add, addOverflow, -BitVec.getLsbD_eq_getElem]

/-- The flags of a difference, Z chained as SUBB does where asked (R407). -/
theorem subF_flags (a b : Word) (bin chain : Bool) (st : Word) :
    FlagsSub a b bin (let r := a - b - BitVec.ofNat 16 (b2n bin); if chain then r == 0 && st.getLsbD 1 else r == 0) st (subF a b bin chain st).2 := by
  refine ⟨?_, ?_, ?_, ?_, ?_, ?_⟩
  case refine_6 => repeat' first | exact OnlyFlags.refl _ _ | refine OnlyFlags.putBit ?_ (by decide) (by decide)
  all_goals simp [subF, getLsbD_putBit, fC, fZ, fN, fV, fH, w16, subOverflow, -BitVec.getLsbD_eq_getElem]


/-- An instruction of the frame of the core's steps writes a register, if `d` names one, and flags. -/
theorem CoreResult.of_step {w : WingId} {len : Nat} {i : Instr} {op : Word} {f : Core → Core} {s : State} {d : Option Reg} {v st : Word} {F : Word → Word → Prop}
    (h : CoreRuns w len s) (hi : exec i s = coreStep w op len f s) (hF : F (s.wing w).core.st st)
    (hf : ∀ p, f { (s.wing w).core with pc := p } =
      { (match d with | some r => (s.wing w).core.put r v | none => (s.wing w).core) with st := st, pc := p }) : CoreResult w len i s d v F := by
  refine ⟨st, hF, ?_⟩
  rw [CoreTo, hi, coreStep_runs h]
  exact congrArg _ (State.modCore_congr (hf _))

/-- An instruction of the frame of the core's steps changes the core as `g` says. -/
theorem CoreTo.of_step {w : WingId} {len : Nat} {i : Instr} {op : Word} {f g : Core → Core} {s : State} (h : CoreRuns w len s)
    (hi : exec i s = coreStep w op len f s) (hf : ∀ p, f { (s.wing w).core with pc := p } = { g (s.wing w).core with pc := p }) : CoreTo w len i s g := by
  rw [CoreTo, hi, coreStep_runs h]
  exact congrArg _ (State.modCore_congr (hf _))

/-- An instruction that writes Wd and flags from Wd, another operand and ST. -/
theorem CoreResult.of_two {w : WingId} {len : Nat} {i : Instr} {op : Word} {d : Reg} {b : Core → Word} {f : Word → Word → Word → Word × Word} {s : State}
    {v : Word} {F : Word → Word → Prop} (h : CoreRuns w len s) (hi : exec i s = twoRun w op len d b f s)
    (hb : ∀ (c : Core) p, b { c with pc := p } = b c)
    (hv : (f ((s.wing w).core.get d) (b (s.wing w).core) (s.wing w).core.st).1 = v)
    (hF : F (s.wing w).core.st (f ((s.wing w).core.get d) (b (s.wing w).core) (s.wing w).core.st).2) : CoreResult w len i s (some d) v F := by
  refine .of_step h hi hF fun p => ?_
  simp only [Core.putF, Core.get_pc, hb, hv, Core.put_pc]

/-- An instruction that writes Wd and flags from Wd and ST. -/
theorem CoreResult.of_one {w : WingId} {i : Instr} {op : Word} {d : Reg} {f : Word → Word → Word × Word} {s : State} {v : Word} {F : Word → Word → Prop}
    (h : CoreRuns w 1 s) (hi : exec i s = oneRun w op d f s) (hv : (f ((s.wing w).core.get d) (s.wing w).core.st).1 = v)
    (hF : F (s.wing w).core.st (f ((s.wing w).core.get d) (s.wing w).core.st).2) : CoreResult w 1 i s (some d) v F := by
  refine .of_step h hi hF fun p => ?_
  simp only [Core.putF, Core.get_pc, hv, Core.put_pc]

/-- An instruction that sets flags only. -/
theorem CoreResult.of_flags {w : WingId} {len : Nat} {i : Instr} {op : Word} {d : Reg} {b : Core → Word} {f : Word → Word → Word → Word × Word} {s : State}
    {v : Word} {F : Word → Word → Prop} (h : CoreRuns w len s) (hi : exec i s = flagRun w op len d b f s)
    (hb : ∀ (c : Core) p, b { c with pc := p } = b c)
    (hF : F (s.wing w).core.st (f ((s.wing w).core.get d) (b (s.wing w).core) (s.wing w).core.st).2) : CoreResult w len i s none v F := by
  refine .of_step h hi hF fun p => ?_
  simp only [Core.get_pc, hb]

@[simp] theorem b2n_false : b2n false = 0 := rfl

@[simp] theorem b2n_true : b2n true = 1 := rfl

/-- The flags of a plain sum. -/
theorem plainAdd_flags (a b st : Word) : FlagsAdd a b false (a + b == 0) st (plainAdd a b st).2 := by
  simpa [plainAdd] using addF_flags a b false false st

/-- The flags of a plain difference. -/
theorem plainSub_flags (a b st : Word) : FlagsSub a b false (a - b == 0) st (plainSub a b st).2 := by
  simpa [plainSub] using subF_flags a b false false st

@[simp] theorem plainAdd_fst (a b st : Word) : (plainAdd a b st).1 = a + b := by simp [plainAdd]

@[simp] theorem plainSub_fst (a b st : Word) : (plainSub a b st).1 = a - b := by simp [plainSub]

/-- Settles O43: the sum and its flags by the two-operand form of each instruction. -/
theorem addResults : Obligations.AddResults := by
  unfold Obligations.AddResults
  intro w d r k l s c
  refine ⟨fun h => ⟨?add, ?addc, ?addi⟩, fun h => ?addl⟩
  case add => exact .of_two (f := plainAdd) h rfl (fun _ _ => rfl) (plainAdd_fst ..) (plainAdd_flags ..)
  case addc => exact .of_two (f := fun a b st => addF a b (st.getLsbD fC) true st) h rfl (fun _ _ => rfl) (addF_fst ..) (addF_flags _ _ _ true _)
  case addi => exact .of_two (f := plainAdd) h rfl (fun _ _ => rfl) (plainAdd_fst ..) (plainAdd_flags ..)
  case addl => exact .of_two (f := plainAdd) h rfl (fun _ _ => rfl) (plainAdd_fst ..) (plainAdd_flags ..)

/-- Flags that are computed, with C then put back. -/
theorem KeepC.of_putBit {F : Word → Word → Prop} {st f : Word} (h : F st f) : KeepC F st (putBit fC (st.getLsbD fC) f) := by
  refine ⟨?_, f, h, fun i hi => ?_⟩
  · rw [getLsbD_putBit 0 0 _ _ (by decide) (by decide), if_pos rfl]
  · rw [getLsbD_putBit 0 i _ _ (by decide) i.isLt, if_neg (fun e => hi (Fin.ext e.symm))]

/-- Settles O44: the difference and its flags, with C put back by INC and DEC. -/
theorem subResults : Obligations.SubResults := by
  unfold Obligations.SubResults
  intro w d r k l s c a b z
  refine ⟨fun h => ⟨?sub, ?subb, ?neg, ?cmp, ?cmpi, ?inc, ?dec⟩, fun h => ⟨?subl, ?cmpl⟩⟩
  case sub => exact .of_two (f := plainSub) h rfl (fun _ _ => rfl) (plainSub_fst ..) (plainSub_flags ..)
  case subb => exact .of_two (f := fun a b st => subF a b (st.getLsbD fC) true st) h rfl (fun _ _ => rfl) (subF_fst ..) (subF_flags _ _ _ true _)
  case neg => exact .of_one (f := fun a st => plainSub 0 a st) h rfl (plainSub_fst ..) (plainSub_flags ..)
  case cmp => exact .of_flags (f := plainSub) h rfl (fun _ _ => rfl) (plainSub_flags ..)
  case cmpi => exact .of_flags (f := plainSub) h rfl (fun _ _ => rfl) (plainSub_flags ..)
  case inc => exact .of_one (f := incF false) h rfl (plainAdd_fst a 1 c.st) (.of_putBit (plainAdd_flags a 1 c.st))
  case dec => exact .of_one (f := incF true) h rfl (plainSub_fst a 1 c.st) (.of_putBit (plainSub_flags a 1 c.st))
  case subl => exact .of_two (f := plainSub) h rfl (fun _ _ => rfl) (plainSub_fst ..) (plainSub_flags ..)
  case cmpl => exact .of_flags (f := plainSub) h rfl (fun _ _ => rfl) (plainSub_flags ..)

/-- Turning a word by 8 exchanges its octets. -/
theorem word_rotateLeft_eight (a : Word) : a.rotateLeft 8 = (a <<< 8) ||| (a >>> 8) := by
  rw [BitVec.rotateLeft_def]

/-- The low octet of a word, through its number. -/
theorem o8_toNat_eq (a : Word) : o8 a.toNat = a.setWidth 8 := by
  apply BitVec.eq_of_toNat_eq
  simp [o8]

theorem word_and_low_octet (a : Word) : a &&& 0xFF = (a.setWidth 8).setWidth 16 := by
  apply BitVec.eq_of_getLsbD_eq
  intro i hi
  have hm : ∀ j < 16, (0xFF : Word).getLsbD j = decide (j < 8) := by decide
  rw [BitVec.getLsbD_and, hm i hi]
  simp only [BitVec.getLsbD_setWidth, hi, decide_true, Bool.true_and]
  rw [Bool.and_comm]

/-- Setting or clearing C leaves the other flags. -/
theorem putC_flags (b : Bool) (st : Word) : (putBit fC b st).getLsbD 0 = b ∧ OnlyFlags 1 st (putBit fC b st) :=
  ⟨by rw [getLsbD_putBit 0 0 _ _ (by decide) (by decide), if_pos rfl], (OnlyFlags.refl _ _).putBit (by decide) (by decide)⟩

/-- Settles O45: each logic instruction sets Z and N of its result, and the moves write no flag. -/
theorem logicResults : Obligations.LogicResults := by
  unfold Obligations.LogicResults
  intro w d r k l s c a b gives
  refine ⟨fun h => ⟨?and, ?or, ?xor, ?tst, ?not, ?clr, ?swab, ?sxt, ?zxt, ?mov, ?movi, ?nop, ?fence, ?clc, ?sec⟩, fun h => ⟨?andl, ?orl, ?xorl, ?movl⟩⟩
  case and => exact .of_two (f := andF) h rfl (fun _ _ => rfl) rfl (flagsZN_flags ..)
  case or => exact .of_two (f := orF) h rfl (fun _ _ => rfl) rfl (flagsZN_flags ..)
  case xor => exact .of_two (f := xorF) h rfl (fun _ _ => rfl) rfl (flagsZN_flags ..)
  case tst => exact .of_flags (f := andF) h rfl (fun _ _ => rfl) (flagsZN_flags ..)
  case not => exact .of_one (f := fun a st => logicF (~~~ a) st) h rfl rfl (flagsZN_flags ..)
  case clr => exact .of_one (f := fun _ st => logicF 0 st) h rfl rfl (flagsZN_flags ..)
  case swab =>
    rw [← word_rotateLeft_eight]
    exact .of_one (f := fun a st => logicF (a.rotateLeft 8) st) h rfl rfl (flagsZN_flags ..)
  case sxt =>
    rw [← o8_toNat_eq]
    exact .of_one (f := fun a st => logicF (sx8 (o8 a.toNat)) st) h rfl rfl (flagsZN_flags ..)
  case zxt =>
    rw [← word_and_low_octet]
    exact .of_one (f := fun a st => logicF (a &&& 0xFF) st) h rfl rfl (flagsZN_flags ..)
  case mov => exact .of_step h rfl fun p => Core.put_pc ..
  case movi => exact .of_step h rfl fun p => Core.put_pc ..
  case nop => exact .of_step h rfl fun p => rfl
  case fence => exact .of_step h rfl fun p => rfl
  case clc => exact .of_step h rfl (putC_flags false _) fun p => rfl
  case sec => exact .of_step h rfl (putC_flags true _) fun p => rfl
  case andl => exact .of_two (f := andF) h rfl (fun _ _ => rfl) rfl (flagsZN_flags ..)
  case orl => exact .of_two (f := orF) h rfl (fun _ _ => rfl) rfl (flagsZN_flags ..)
  case xorl => exact .of_two (f := xorF) h rfl (fun _ _ => rfl) rfl (flagsZN_flags ..)
  case movl => exact .of_step h rfl fun p => Core.put_pc ..

end Sys2Proof.Machine

namespace Sys2Proof.Machine
open Sys2Proof

/-! SUPPORT. The core's shifts, rotations and bit instructions (R412): what `n` steps of each shift leave, and which bit goes out last. -/

/-- Z and N of a shift's result, with C and V. -/
theorem shiftFlags (r st : Word) (c v : Bool) : FlagsShift r c v st (putBit fV v (flagsZN r (putBit fC c st))) := by
  refine ⟨?_, ?_, ?_, ?_, ?_⟩
  case refine_5 => repeat' first | exact OnlyFlags.refl _ _ | refine OnlyFlags.putBit ?_ (by decide) (by decide)
  all_goals simp [flagsZN, getLsbD_putBit, fC, fZ, fN, fV, word_beq, -BitVec.getLsbD_eq_getElem]

/-- One more step at the end. -/
theorem Shift.steps_succ (k : Shift) (n : Nat) (x : Word × Bool × Bool) :
    k.steps (n + 1) x = (let y := k.steps n x; let z := k.step y.1 y.2.1; (z.1, z.2, y.2.2 || (z.1.msb != y.1.msb))) := by
  induction n generalizing x with
  | zero => rfl
  | succ n ih => exact ih (_, _, _)

/-- Words and bits that follow each other by single steps are what the steps leave, and V tells whether bit 15 changed on the way. -/
theorem Shift.steps_eq (k : Shift) (f : Nat → Word) (g : Nat → Bool) {n : Nat} (h : ∀ j < n, k.step (f j) (g j) = (f (j + 1), g (j + 1))) :
    k.steps n (f 0, g 0, false) = (f n, g n, (List.range n).any (fun j => (f (j + 1)).msb != (f j).msb)) := by
  induction n with
  | zero => rfl
  | succ n ih =>
    rw [Shift.steps_succ, ih fun j hj => h j (Nat.lt_succ_of_lt hj)]
    simp only [h n (Nat.lt_succ_self n), List.range_succ, List.any_append, List.any_cons, List.any_nil, Bool.or_false]

/-- The bit at `p n` once `n` bits have gone out, and `c` before. -/
def lastOut (a : Word) (c : Bool) (p : Nat → Nat) (n : Nat) : Bool := if n = 0 then c else a.getLsbD (p n)

theorem rotateLeft_rotateLeft {w : Nat} (x : BitVec w) (r s : Nat) : (x.rotateLeft r).rotateLeft s = x.rotateLeft (r + s) := by
  apply BitVec.eq_of_getMsbD_eq
  intro i hi
  simp [BitVec.getMsbD_rotateLeft, hi, Nat.mod_lt _ (Nat.zero_lt_of_lt hi), Nat.add_assoc]

/-- A bit of a word turned to the right. -/
theorem getLsbD_rotateRight_mod {w : Nat} (x : BitVec w) (r i : Nat) (hi : i < w) : (x.rotateRight r).getLsbD i = x.getLsbD ((r + i) % w) := by
  have hr := Nat.mod_lt r (Nat.zero_lt_of_lt hi)
  rw [BitVec.getLsbD_rotateRight, ← Nat.mod_add_mod]
  by_cases h : i < w - r % w
  · rw [Nat.mod_eq_of_lt (by omega : r % w + i < w)]
    simp [h]
  · rw [Nat.mod_eq_sub_mod (by omega : w ≤ r % w + i), Nat.mod_eq_of_lt (by omega : r % w + i - w < w)]
    simp only [h, hi, decide_false, decide_true, Bool.true_and, cond_false]
    congr 1
    omega

theorem rotateRight_rotateRight {w : Nat} (x : BitVec w) (r s : Nat) : (x.rotateRight r).rotateRight s = x.rotateRight (r + s) := by
  apply BitVec.eq_of_getLsbD_eq
  intro i hi
  rw [getLsbD_rotateRight_mod _ _ _ hi, getLsbD_rotateRight_mod _ _ _ (Nat.mod_lt _ (Nat.zero_lt_of_lt hi)), getLsbD_rotateRight_mod _ _ _ hi]
  congr 1
  rw [Nat.add_mod_mod, Nat.add_assoc]

/-- A step of RTC turns the ring of C and the word (R412). -/
theorem Shift.rtcL_step (y : BitVec 17) :
    Shift.rtcL.step (y.setWidth 16) y.msb = ((y.rotateLeft 1).setWidth 16, (y.rotateLeft 1).msb) := by
  refine Prod.ext ?_ ?_
  · apply BitVec.eq_of_getLsbD_eq
    intro i hi
    have hc : ∀ b : Bool, ∀ j < 16, (w16 (b2n b)).getLsbD j = (decide (j = 0) && b) := by decide
    simp only [Shift.step, BitVec.getLsbD_or, BitVec.getLsbD_shiftLeft, BitVec.getLsbD_setWidth, hc _ i hi, BitVec.getLsbD_rotateLeft, hi]
    by_cases h : i = 0
    · subst h; simp [BitVec.msb_eq_getLsbD_last]
    · have : ¬ i < 1 := by omega
      have h17 : i < 17 := by omega
      have h16 : i - 1 < 16 := by omega
      simp [h, this, h17, h16]
  · simp [Shift.step, BitVec.msb_eq_getLsbD_last]

/-- The same to the right. -/
theorem Shift.rtcR_step (y : BitVec 17) :
    Shift.rtcR.step (y.setWidth 16) y.msb = ((y.rotateRight 1).setWidth 16, (y.rotateRight 1).msb) := by
  refine Prod.ext ?_ ?_
  · apply BitVec.eq_of_getLsbD_eq
    intro i hi
    have hc : ∀ b : Bool, ∀ j < 16, (w16 (32768 * b2n b)).getLsbD j = (decide (j = 15) && b) := by decide
    have h17 : i < 17 := by omega
    simp only [Shift.step, BitVec.getLsbD_or, BitVec.getLsbD_ushiftRight, BitVec.getLsbD_setWidth, hc _ i hi, getLsbD_rotateRight_mod _ _ _ h17, hi]
    by_cases h : i = 15
    · subst h; simp [BitVec.msb_eq_getLsbD_last]
    · have h16 : 1 + i < 16 := by omega
      simp [h, h16, Nat.mod_eq_of_lt (by omega : 1 + i < 17)]
  · simp [Shift.step, BitVec.msb_rotateRight, BitVec.getMsbD_eq_getLsbD]


/-- Turned by nothing, a word stays. -/
theorem rotateLeft_none {w : Nat} (x : BitVec w) : x.rotateLeft 0 = x := by
  apply BitVec.eq_of_getMsbD_eq
  intro i hi
  simp [BitVec.getMsbD_rotateLeft, hi, Nat.mod_eq_of_lt hi]

theorem rotateRight_none {w : Nat} (x : BitVec w) : x.rotateRight 0 = x := by
  apply BitVec.eq_of_getLsbD_eq
  intro i hi
  rw [getLsbD_rotateRight_mod _ _ _ hi, Nat.zero_add, Nat.mod_eq_of_lt hi]

theorem Shift.shzL_steps (a : Word) (c : Bool) {n : Nat} (hn : n ≤ 16) : Shift.shzL.steps n (a, c, false) =
    (a <<< n, lastOut a c (16 - ·) n, (List.range n).any (fun j => (a <<< (j + 1)).msb != (a <<< j).msb)) := by
  have h := Shift.steps_eq .shzL (fun j => a <<< j) (lastOut a c (16 - ·)) (n := n) fun j hj => by
    simp [Shift.step, lastOut, BitVec.shiftLeft_add, BitVec.msb_shiftLeft, BitVec.getMsbD_eq_getLsbD, (by omega : j < 16), (by omega : 16 - (j + 1) = 15 - j),
      -BitVec.getLsbD_eq_getElem]
  simpa [lastOut] using h

theorem Shift.shzR_steps (a : Word) (c : Bool) (n : Nat) : ∃ v, Shift.shzR.steps n (a, c, false) = (a >>> n, lastOut a c (· - 1) n, v) := by
  have h := Shift.steps_eq .shzR (fun j => a >>> j) (lastOut a c (· - 1)) (n := n) fun j _ => by
    simp [Shift.step, lastOut, BitVec.shiftRight_add]
  exact ⟨_, by simpa [lastOut] using h⟩

theorem Shift.shsR_steps (a : Word) (c : Bool) {n : Nat} (hn : n ≤ 16) :
    ∃ v, Shift.shsR.steps n (a, c, false) = (a.sshiftRight n, lastOut a c (· - 1) n, v) := by
  have h := Shift.steps_eq .shsR (fun j => a.sshiftRight j) (lastOut a c (· - 1)) (n := n) fun j hj => by
    simp [Shift.step, lastOut, BitVec.sshiftRight_add, BitVec.getLsbD_sshiftRight, (by omega : j < 16), -BitVec.getLsbD_eq_getElem]
  exact ⟨_, by simpa [lastOut] using h⟩

theorem Shift.rotL_steps (a : Word) (c : Bool) {n : Nat} (hn : n ≤ 16) :
    ∃ v, Shift.rotL.steps n (a, c, false) = (a.rotateLeft n, lastOut a c (16 - ·) n, v) := by
  have h := Shift.steps_eq .rotL (fun j => a.rotateLeft j) (lastOut a c (16 - ·)) (n := n) fun j hj => by
    simp [Shift.step, lastOut, rotateLeft_rotateLeft, BitVec.msb_rotateLeft, BitVec.getMsbD_eq_getLsbD, Nat.mod_eq_of_lt (by omega : j < 16),
      (by omega : j < 16), (by omega : 16 - (j + 1) = 15 - j), -BitVec.getLsbD_eq_getElem]
  exact ⟨_, by simpa [lastOut, rotateLeft_none] using h⟩

theorem Shift.rotR_steps (a : Word) (c : Bool) {n : Nat} (hn : n ≤ 16) :
    ∃ v, Shift.rotR.steps n (a, c, false) = (a.rotateRight n, lastOut a c (· - 1) n, v) := by
  have h := Shift.steps_eq .rotR (fun j => a.rotateRight j) (lastOut a c (· - 1)) (n := n) fun j hj => by
    simp [Shift.step, lastOut, rotateRight_rotateRight, getLsbD_rotateRight_mod _ _ 0 (by decide : 0 < 16), Nat.mod_eq_of_lt (by omega : j < 16),
      -BitVec.getLsbD_eq_getElem]
  exact ⟨_, by simpa [lastOut, rotateRight_none] using h⟩

theorem Shift.rtcL_steps (a : Word) (c : Bool) (n : Nat) : let y := (BitVec.cons c a).rotateLeft n
    ∃ v, Shift.rtcL.steps n (a, c, false) = (y.setWidth 16, y.msb, v) := by
  have h := Shift.steps_eq .rtcL (fun j => ((BitVec.cons c a).rotateLeft j).setWidth 16) (fun j => ((BitVec.cons c a).rotateLeft j).msb) (n := n) fun j _ => by
    rw [Shift.rtcL_step, rotateLeft_rotateLeft]
  exact ⟨_, by simpa only [rotateLeft_none, BitVec.setWidth_cons, BitVec.msb_cons] using h⟩

theorem Shift.rtcR_steps (a : Word) (c : Bool) (n : Nat) : let y := (BitVec.cons c a).rotateRight n
    ∃ v, Shift.rtcR.steps n (a, c, false) = (y.setWidth 16, y.msb, v) := by
  have h := Shift.steps_eq .rtcR (fun j => ((BitVec.cons c a).rotateRight j).setWidth 16) (fun j => ((BitVec.cons c a).rotateRight j).msb) (n := n) fun j _ => by
    rw [Shift.rtcR_step, rotateRight_rotateRight]
  exact ⟨_, by simpa only [rotateRight_none, BitVec.setWidth_cons, BitVec.msb_cons] using h⟩

theorem shiftCount_le (byReg : Bool) (r : Reg) (c : Core) : shiftCount byReg r c ≤ 16 := by
  have := r.isLt
  unfold shiftCount
  (repeat' split) <;> omega

theorem lastOut_pos {a : Word} {c : Bool} {p : Nat → Nat} {n : Nat} (h : n ≠ 0) : lastOut a c p n = a.getLsbD (p n) := if_neg h

/-- A shift by a count of 0 sets Z and N, and any other leaves what its steps leave (R412). -/
theorem shiftResult {w : WingId} {k : Shift} {d : Reg} {byReg : Bool} {r : Reg} {s : State} {i : Instr} {v : Word} {o b : Bool}
    (h : CoreRuns w 1 s) (hi : exec i s = shiftRun w k d byReg r s)
    (hk : shiftCount byReg r (s.wing w).core ≠ 0 →
      ∃ ch, k.steps (shiftCount byReg r (s.wing w).core) ((s.wing w).core.get d, (s.wing w).core.st.getLsbD 0, false) = (v, o, ch) ∧ (k == .shzL && ch) = b) :
    if shiftCount byReg r (s.wing w).core = 0 then CoreResult w 1 i s (some d) ((s.wing w).core.get d) (FlagsZN ((s.wing w).core.get d))
    else CoreResult w 1 i s (some d) v (FlagsShift v o b) := by
  have hrun : ∀ (c : Core) p, shiftCount byReg r { c with pc := p } = shiftCount byReg r c := fun _ _ => rfl
  split
  case isTrue h0 =>
    refine .of_step h hi (flagsZN_flags _ _) fun p => ?_
    change Core.putF d (shiftF k (shiftCount byReg r _) _ _) _ = _
    simp only [Core.putF, hrun, h0, Core.get_pc, Core.put_pc, shiftF, if_true]
  case isFalse h0 =>
    obtain ⟨ch, hsteps, hv⟩ := hk h0
    refine .of_step h hi (shiftFlags v (s.wing w).core.st o b) fun p => ?_
    change Core.putF d (shiftF k (shiftCount byReg r _) _ _) _ = _
    simp only [Core.putF, hrun, h0, Core.get_pc, Core.put_pc, shiftF, if_false, fC, hsteps, hv]

/-- A bit operation's word: bit `i` as the operation says, the others kept (R412). -/
theorem BitOp.apply_bits (o : BitOp) (a : Word) {i : Nat} (hi : i < 16) :
    (o.apply i a).getLsbD i = (match o with | .set => true | .clear => false | .invert => !a.getLsbD i | .test => a.getLsbD i) ∧
    ∀ j : Fin 16, j.val ≠ i → (o.apply i a).getLsbD j = a.getLsbD j := by
  cases o <;> refine ⟨by simp [BitOp.apply, hi], fun j hj => ?_⟩ <;> simp [BitOp.apply, BitVec.getElem_twoPow, j.isLt, hj]

/-- A bit instruction writes Wd, and C takes the old bit (R412). -/
theorem bitResult {w : WingId} {o : BitOp} {d : Reg} {byReg : Bool} {r : Reg} {s : State} {i : Instr} (h : CoreRuns w 1 s) (hi : exec i s = bitRun w o d byReg r s) :
    let a := (s.wing w).core.get d
    let n := if byReg then ((s.wing w).core.get r).toNat % 16 else r.val
    CoreResult w 1 i s (some d) (o.apply n a) (fun st st' => st'.getLsbD 0 = a.getLsbD n ∧ OnlyFlags 1 st st') := by
  refine .of_step h hi (putC_flags _ _) fun p => ?_
  simp only [Core.putF, Core.get_pc, Core.put_pc]

/-- Settles O46: each shift by its steps, and each bit instruction by its operation at the bit. -/
theorem shiftAndBitResults : Obligations.ShiftAndBitResults := by
  unfold Obligations.ShiftAndBitResults
  intro w d byReg cr s h c a n ring cy all i bitOf
  have hn : n ≤ 16 := shiftCount_le byReg cr c
  have hi : i < 16 := by
    simp only [i]
    split
    · exact Nat.mod_lt _ (by decide)
    · exact cr.isLt
  have hbit : ∀ (o : BitOp) (ins : Instr), exec ins s = bitRun w o d byReg cr s →
      bitOf ins (match o with | .set => true | .clear => false | .invert => !a.getLsbD i | .test => a.getLsbD i) := fun o ins hins =>
    ⟨o.apply i a, (o.apply_bits a hi).1, (o.apply_bits a hi).2, bitResult h hins⟩
  refine ⟨?_, hbit .set _ rfl, hbit .clear _ rfl, hbit .invert _ rfl, hbit .test _ rfl⟩
  simp only [all, List.forall_mem_cons, List.not_mem_nil, false_implies, implies_true, and_true]
  refine ⟨?shzL, ?shzR, ?shsR, ?rotL, ?rotR, ?rtcL, ?rtcR⟩
  case shzL =>
    refine shiftResult (k := .shzL) h rfl fun h0 => ⟨_, (Shift.shzL_steps a _ hn).trans (by rw [lastOut_pos h0]), ?_⟩
    simp only [beq_self_eq_true, Bool.true_and]
    exact congrArg (List.any (List.range n)) (funext fun j => bne_comm)
  case shzR =>
    obtain ⟨v, hv⟩ := Shift.shzR_steps a (c.st.getLsbD 0) n
    exact shiftResult (k := .shzR) h rfl fun h0 => ⟨v, hv.trans (by rw [lastOut_pos h0]), rfl⟩
  case shsR =>
    obtain ⟨v, hv⟩ := Shift.shsR_steps a (c.st.getLsbD 0) hn
    exact shiftResult (k := .shsR) h rfl fun h0 => ⟨v, hv.trans (by rw [lastOut_pos h0]), rfl⟩
  case rotL =>
    obtain ⟨v, hv⟩ := Shift.rotL_steps a (c.st.getLsbD 0) hn
    exact shiftResult (k := .rotL) h rfl fun h0 => ⟨v, hv.trans (by rw [lastOut_pos h0]), rfl⟩
  case rotR =>
    obtain ⟨v, hv⟩ := Shift.rotR_steps a (c.st.getLsbD 0) hn
    exact shiftResult (k := .rotR) h rfl fun h0 => ⟨v, hv.trans (by rw [lastOut_pos h0]), rfl⟩
  case rtcL =>
    obtain ⟨v, hv⟩ := Shift.rtcL_steps a (c.st.getLsbD 0) n
    exact shiftResult (k := .rtcL) h rfl fun _ => ⟨v, hv, rfl⟩
  case rtcR =>
    obtain ⟨v, hv⟩ := Shift.rtcR_steps a (c.st.getLsbD 0) n
    exact shiftResult (k := .rtcR) h rfl fun _ => ⟨v, hv, rfl⟩

end Sys2Proof.Machine

namespace Sys2Proof.Machine
open Sys2Proof

/-! SUPPORT. The core's multiply and divide instructions (R413). -/

/-- An instruction that traps. -/
theorem coreRun_trap {w : WingId} {op : Word} {len : Nat} {f : State → Except Trap State} {s : State} {e : Trap} (h : CoreRuns w len s)
    (hf : f (s.modCore w (fun c => { c with pc := c.pc + BitVec.ofNat 24 len })) = .error e) : coreRun w op len f s = .next (s.raiseTrap w op e) := by
  rw [coreRun_runs h, hf]

/-- The words of a product of 32 bits. -/
theorem word_of_low (p : BitVec 32) : w16 p.toNat = p.setWidth 16 := by
  apply BitVec.eq_of_toNat_eq
  simp [w16]

theorem word_of_high (p : BitVec 32) : w16 (p.toNat / 0x10000) = (p >>> 16).setWidth 16 := by
  apply BitVec.eq_of_toNat_eq
  simp [w16, Nat.shiftRight_eq_div_pow]

/-- The product of two words has no more than 32 bits. -/
theorem mulu_toNat (a b : Word) : (a.setWidth 32 * b.setWidth 32 : BitVec 32).toNat = a.toNat * b.toNat := by
  have h : a.toNat * b.toNat < 2 ^ 32 :=
    calc a.toNat * b.toNat < 2 ^ 16 * 2 ^ 16 := Nat.mul_lt_mul'' a.isLt b.isLt
      _ = 2 ^ 32 := by decide
  rw [BitVec.toNat_mul, BitVec.toNat_setWidth_of_le (by decide), BitVec.toNat_setWidth_of_le (by decide), Nat.mod_eq_of_lt h]

theorem muls_toNat (a b : Word) : (a.signExtend 32 * b.signExtend 32 : BitVec 32).toNat = ofSigned 32 (a.toInt * b.toInt) := by
  rw [BitVec.signExtend, BitVec.signExtend, ← BitVec.ofInt_mul, BitVec.toNat_ofInt, ofSigned]

/-- Setting C, Z, N and V gives them and keeps the other flags. -/
theorem czvnFlags (c z n v : Bool) (st : Word) : let st' := putBit fV v (putBit fC c (putBit fN n (putBit fZ z st)))
    st'.getLsbD 0 = c ∧ st'.getLsbD 1 = z ∧ st'.getLsbD 2 = n ∧ st'.getLsbD 3 = v ∧ OnlyFlags 0x000F st st' := by
  refine ⟨?_, ?_, ?_, ?_, ?_⟩
  case refine_5 => repeat' first | exact OnlyFlags.refl _ _ | refine OnlyFlags.putBit ?_ (by decide) (by decide)
  all_goals simp [getLsbD_putBit, fC, fZ, fN, fV, -BitVec.getLsbD_eq_getElem]

/-- The core after a multiplication with the product `p`. -/
theorem mulCore_eq (d : Reg) (p : BitVec 32) (c : Core) : mulCore d p.toNat c =
    { (c.put d (p.setWidth 16)).put (d + 1) ((p >>> 16).setWidth 16) with
      st := putBit fV false (putBit fC false (putBit fN p.msb (putBit fZ (decide (p = 0)) c.st))) } := by
  have hz : (p.toNat % 2 ^ 32 == 0) = decide (p = 0) := by
    rw [Nat.mod_eq_of_lt p.isLt, Bool.eq_iff_iff, beq_iff_eq, decide_eq_true_eq, ← BitVec.toNat_inj]
    rfl
  have hn : ((p >>> 16).setWidth 16 : Word).msb = p.msb := by
    rw [BitVec.msb_eq_getLsbD_last, BitVec.msb_eq_getLsbD_last]
    simp
  simp only [mulCore, word_of_low, word_of_high, hz, hn, regNext]

/-- MULU and MULS with an even d leave the product `p`. -/
theorem mulRun_even {w : WingId} {i : Instr} {g : Nat} {d r : Reg} {f : Word → Word → Nat} {p : BitVec 32} {s : State} (h : CoreRuns w 1 s)
    (hd : ¬ d.val % 2 = 1) (hi : exec i s = mulRun w g d r f s) (hp : f ((s.wing w).core.get d) ((s.wing w).core.get r) = p.toNat) :
    CoreTo w 1 i s (fun c => { (c.put d (p.setWidth 16)).put (d + 1) ((p >>> 16).setWidth 16) with
      st := putBit fV false (putBit fC false (putBit fN p.msb (putBit fZ (decide (p = 0)) (s.wing w).core.st))) }) := by
  rw [CoreTo, hi, mulRun, coreRun_ok h (if_neg hd), State.modCore_modCore]
  refine congrArg _ (State.modCore_congr ?_)
  simp only [Core.get_pc, hp, mulCore_eq, Core.put_pc]

/-- The flags of DIVU. -/
theorem divFlags_flags (z v : Bool) (st : Word) : let st' := divFlags z v st
    st'.getLsbD 0 = false ∧ st'.getLsbD 1 = z ∧ st'.getLsbD 2 = false ∧ st'.getLsbD 3 = v ∧ OnlyFlags 0x000F st st' := 
  czvnFlags false z false v st

theorem mulRun_odd {w : WingId} {i : Instr} {g : Nat} {d r : Reg} {f : Word → Word → Nat} {s : State} (h : CoreRuns w 1 s) (hd : d.val % 2 = 1)
    (hi : exec i s = mulRun w g d r f s) : exec i s = .next (s.raiseTrap w (opExt g d r) .reserved) :=
  hi.trans (coreRun_trap h (if_pos hd))

theorem execDivu_odd {w : WingId} {d r : Reg} {s : State} (h : CoreRuns w 1 s) (hd : d.val % 2 = 1) :
    execDivu w d r s = .next (s.raiseTrap w (opExt 2 d r) .reserved) := by
  unfold execDivu
  exact coreRun_trap h (if_pos hd)

section
variable {w : WingId} {d r : Reg} {s : State} (h : CoreRuns w 1 s) (hd : ¬ d.val % 2 = 1)
include h hd

theorem execDivu_zero (hb : (s.wing w).core.get r = 0) : execDivu w d r s = .next (s.raiseTrap w (opExt 2 d r) .divide) := by
  unfold execDivu
  refine coreRun_trap h ((if_neg hd).trans (if_pos ?_))
  rw [State.wing_modCore]
  exact congrArg BitVec.toNat hb

/-- A quotient that does not fit sets V (R413). -/
theorem execDivu_over (hb : (s.wing w).core.get r ≠ 0) (hhi : ((s.wing w).core.get r).toNat ≤ ((s.wing w).core.get (d + 1)).toNat) :
    execDivu w d r s = .next { s.modCore w (fun c =>
      { c with st := divFlags (s.draw.1.getLsbD 0) true (s.wing w).core.st, pc := c.pc + 1 }) with free := s.free + 1 } := by
  unfold execDivu
  refine coreRun_ok h ((if_neg hd).trans ((if_neg ?_).trans ((if_pos ?_).trans ?_)))
  · rw [State.wing_modCore]
    exact fun e => hb (BitVec.eq_of_toNat_eq e)
  · rw [State.wing_modCore]
    exact hhi
  · refine congrArg Except.ok ?_
    have hcore : (s.modCore w (fun c => { c with pc := c.pc + 1 })).modCore w (fun c => { c with st := divFlags (s.draw.1.getLsbD 0) true c.st }) =
        s.modCore w (fun c => { c with st := divFlags (s.draw.1.getLsbD 0) true (s.wing w).core.st, pc := c.pc + 1 }) :=
      (State.modCore_modCore s w _ _).trans (State.modCore_congr rfl)
    exact congrArg (fun t : State => { t with free := s.free + 1 }) hcore

/-- A quotient that fits, with the remainder (R413). -/
theorem execDivu_fits (hb : (s.wing w).core.get r ≠ 0) (hhi : ¬ ((s.wing w).core.get r).toNat ≤ ((s.wing w).core.get (d + 1)).toNat) :
    let n := ((s.wing w).core.get (d + 1)).toNat * 65536 + ((s.wing w).core.get d).toNat
    let b := ((s.wing w).core.get r).toNat
    CoreTo w 1 (.divu w d r) s (fun c => { (c.put d (BitVec.ofNat 16 (n / b))).put (d + 1) (BitVec.ofNat 16 (n % b)) with
      st := divFlags (decide (n / b = 0)) false (s.wing w).core.st }) := by
  intro n b
  have hq : (w16 (n / b) == 0) = decide (n / b = 0) := by
    have hlt : n / b < 65536 := by
      rw [Nat.div_lt_iff_lt_mul (by omega)]
      have := ((s.wing w).core.get d).isLt
      omega
    rw [Bool.eq_iff_iff, beq_iff_eq, decide_eq_true_eq, ← BitVec.toNat_inj, w16, BitVec.toNat_ofNat, Nat.mod_eq_of_lt hlt]
    rfl
  change execDivu w d r s = _
  unfold execDivu
  refine (coreRun_ok h ((if_neg hd).trans ((if_neg ?_).trans (if_neg ?_)))).trans ?_
  · rw [State.wing_modCore]
    exact fun e => hb (BitVec.eq_of_toNat_eq e)
  · rw [State.wing_modCore]
    exact hhi
  · rw [State.modCore_modCore]
    refine congrArg _ (State.modCore_congr ?_)
    simp only [n, b] at hq
    simp only [State.wing_modCore, Core.get_pc, Core.put_pc, regNext, hq, n, b]
    rfl

end

/-- Settles O47: the product's halves and flags, the quotient and remainder, or the trap. -/
theorem mulDivResults : Obligations.MulDivResults := by
  unfold Obligations.MulDivResults
  intro w d r s h c a b hi pair flags u m n
  split
  case isTrue hodd =>
    intro i hi
    simp only [List.mem_cons, List.not_mem_nil, or_false] at hi
    rcases hi with rfl | rfl | rfl
    · exact ⟨_, mulRun_odd (g := 0) (f := fun a b => a.toNat * b.toNat) h hodd rfl⟩
    · exact ⟨_, mulRun_odd (g := 1) (f := fun a b => ofSigned 32 (a.toInt * b.toInt)) h hodd rfl⟩
    · exact ⟨_, execDivu_odd h hodd⟩
  case isFalse heven =>
    refine ⟨⟨_, czvnFlags _ _ _ _ _, ?mulu⟩, ⟨_, czvnFlags _ _ _ _ _, ?muls⟩, ?divu⟩
    case mulu => exact mulRun_even (g := 0) (f := fun a b => a.toNat * b.toNat) h heven rfl (mulu_toNat a b).symm
    case muls => exact mulRun_even (g := 1) (f := fun a b => ofSigned 32 (a.toInt * b.toInt)) h heven rfl (muls_toNat a b).symm
    split
    case isTrue hb => exact ⟨_, execDivu_zero h heven hb⟩
    case isFalse hb =>
      split
      case isTrue hover => exact ⟨_, _, divFlags_flags _ _ _, execDivu_over h heven hb hover⟩
      case isFalse hfits => exact ⟨_, divFlags_flags _ _ _, execDivu_fits h heven hb hfits⟩

end Sys2Proof.Machine

namespace Sys2Proof.Machine
open Sys2Proof

/-! SUPPORT. The core's decimal instructions (R415): a digit of a sum or difference, four digits as a word, and the flags. -/

/-- A digit of a decimal sum, with its carry. -/
theorem bcdDigit_add {a b r : Nat} {c o : Bool} (ha : a ≤ 9) (hb : b ≤ 9) (h : bcdDigit false a b c = (r, o)) :
    r ≤ 9 ∧ r + 10 * b2n o = a + b + b2n c := by
  have hc : b2n c ≤ 1 := by cases c <;> decide
  simp only [bcdDigit, Bool.false_eq_true, if_false] at h
  split at h <;> cases h <;> simp only [b2n_true, b2n_false] <;> omega

/-- A digit of a decimal difference, with its borrow. -/
theorem bcdDigit_sub {a b r : Nat} {c o : Bool} (ha : a ≤ 9) (hb : b ≤ 9) (h : bcdDigit true a b c = (r, o)) :
    r ≤ 9 ∧ r + b + b2n c = a + 10 * b2n o := by
  have hc : b2n c ≤ 1 := by cases c <;> decide
  simp only [bcdDigit, if_true] at h
  split at h <;> cases h <;> simp only [b2n_true, b2n_false] <;> omega

/-- The carry or borrow of a digit, whatever the digits are. -/
theorem bcdDigit_carry {sub : Bool} {a b r : Nat} {c o : Bool} (h : bcdDigit sub a b c = (r, o)) :
    o = if sub then decide (a < b + b2n c) else decide (10 ≤ a + b + b2n c) := by
  cases sub <;> simp only [bcdDigit, Bool.false_eq_true, if_false, if_true] at h ⊢ <;> split at h <;> cases h <;> simp [*]

/-- Four decimal digits as a word. -/
theorem decWord {r0 r1 r2 r3 : Nat} (h0 : r0 ≤ 9) (h1 : r1 ≤ 9) (h2 : r2 ≤ 9) (h3 : r3 ≤ 9) :
    let v := w16 (r0 + 16 * r1 + 256 * r2 + 4096 * r3)
    decOk v = true ∧ decValue v = r0 + 10 * r1 + 100 * r2 + 1000 * r3 := by
  simp only [decOk, decValue, bits, w16, BitVec.toNat_ofNat, Bool.and_eq_true, decide_eq_true_eq]
  omega

theorem decOk_iff (a : Word) : decOk a = true ↔ bits a.toNat 3 0 ≤ 9 ∧ bits a.toNat 7 4 ≤ 9 ∧ bits a.toNat 11 8 ≤ 9 ∧ bits a.toNat 15 12 ≤ 9 := by
  simp [decOk, and_assoc]

/-- ADDD and SUBD go through the digits from the right. -/
theorem bcdF_digits (sub : Bool) (a b st : Word) : ∃ r0 c0 r1 c1 r2 c2 r3 c3,
    bcdDigit sub (bits a.toNat 3 0) (bits b.toNat 3 0) (st.getLsbD 0) = (r0, c0) ∧ bcdDigit sub (bits a.toNat 7 4) (bits b.toNat 7 4) c0 = (r1, c1) ∧
    bcdDigit sub (bits a.toNat 11 8) (bits b.toNat 11 8) c1 = (r2, c2) ∧ bcdDigit sub (bits a.toNat 15 12) (bits b.toNat 15 12) c2 = (r3, c3) ∧
    bcdF sub a b st = (let v := w16 (r0 + 16 * r1 + 256 * r2 + 4096 * r3)
      (v, putBit fC c3 (putBit fH c0 (putBit fZ (v == 0) (putBit fN false (putBit fV
        ((List.range 4).any (fun i => decide (9 < bits a.toNat (4 * i + 3) (4 * i)) || decide (9 < bits b.toNat (4 * i + 3) (4 * i)))) st)))))) :=
  ⟨_, _, _, _, _, _, _, _, rfl, rfl, rfl, rfl, rfl⟩

theorem decBad (a b : Word) :
    (List.range 4).any (fun i => decide (9 < bits a.toNat (4 * i + 3) (4 * i)) || decide (9 < bits b.toNat (4 * i + 3) (4 * i))) = !(decOk a && decOk b) := by
  rw [Bool.eq_iff_iff, Bool.not_eq_true', Bool.and_eq_false_iff, ← Bool.not_eq_true, ← Bool.not_eq_true, decOk_iff, decOk_iff]
  simp only [List.any_eq_true, List.mem_range, Bool.or_eq_true, decide_eq_true_eq]
  constructor
  · rintro ⟨i, hi, h⟩
    match i, hi with
    | 0, _ | 1, _ | 2, _ | 3, _ => simp only [Nat.reduceMul, Nat.reduceAdd] at h; omega
  · intro h
    refine Classical.byContradiction fun hno => ?_
    simp only [not_exists, not_and, not_or, Nat.not_lt] at hno
    have h0 := hno 0 (by decide)
    have h1 := hno 1 (by decide)
    have h2 := hno 2 (by decide)
    have h3 := hno 3 (by decide)
    simp only [Nat.reduceMul, Nat.reduceAdd] at h0 h1 h2 h3
    omega

/-- The flags of a decimal sum or difference. -/
theorem bcdFlags (v : Word) (co ho bad : Bool) (st : Word) :
    let st' := putBit fC co (putBit fH ho (putBit fZ (v == 0) (putBit fN false (putBit fV bad st))))
    st'.getLsbD 0 = co ∧ st'.getLsbD 1 = decide (v = 0) ∧ st'.getLsbD 2 = false ∧ st'.getLsbD 3 = bad ∧ st'.getLsbD 4 = ho ∧ OnlyFlags 0x001F st st' := by
  refine ⟨?_, ?_, ?_, ?_, ?_, ?_⟩
  case refine_6 => repeat' first | exact OnlyFlags.refl _ _ | refine OnlyFlags.putBit ?_ (by decide) (by decide)
  all_goals simp [getLsbD_putBit, fC, fZ, fN, fV, fH, word_beq, -BitVec.getLsbD_eq_getElem]

/-- C, Z and N, and H where it is cleared. -/
theorem digitFlags (v : Word) (co : Bool) (st : Word) : let st' := flagsZN v (putBit fC co st)
    st'.getLsbD 0 = co ∧ st'.getLsbD 1 = decide (v = 0) ∧ st'.getLsbD 2 = v.msb ∧ OnlyFlags 0x0007 st st' := by
  refine ⟨?_, ?_, ?_, ?_⟩
  case refine_4 => repeat' first | exact OnlyFlags.refl _ _ | refine OnlyFlags.putBit ?_ (by decide) (by decide)
  all_goals simp [flagsZN, getLsbD_putBit, fC, fZ, fN, word_beq, -BitVec.getLsbD_eq_getElem]

theorem adjustFlags (v : Word) (co : Bool) (st : Word) : let st' := putBit fC co (putBit fH false (flagsZN v st))
    st'.getLsbD 0 = co ∧ st'.getLsbD 1 = decide (v = 0) ∧ st'.getLsbD 2 = v.msb ∧ st'.getLsbD 4 = false ∧ OnlyFlags 0x0017 st st' := by
  refine ⟨?_, ?_, ?_, ?_, ?_⟩
  case refine_5 => repeat' first | exact OnlyFlags.refl _ _ | refine OnlyFlags.putBit ?_ (by decide) (by decide)
  all_goals simp [flagsZN, getLsbD_putBit, fC, fZ, fN, fH, word_beq, -BitVec.getLsbD_eq_getElem]

/-- One digit moved in from the right, and one from the left. -/
theorem digitLeft (a b : Word) : (a <<< 4) ||| (b >>> 12) = BitVec.ofNat 16 (a.toNat * 16 + b.toNat / 4096) := by
  have hb : b.toNat / 4096 < 2 ^ 4 := by have := b.isLt; omega
  have ha : a.toNat * 16 % 65536 = (a.toNat % 4096) <<< 4 := by rw [Nat.shiftLeft_eq]; omega
  apply BitVec.eq_of_toNat_eq
  simp only [BitVec.toNat_or, BitVec.toNat_shiftLeft, BitVec.toNat_ushiftRight, Nat.shiftRight_eq_div_pow, Nat.shiftLeft_eq a.toNat, Nat.reducePow, ha,
    BitVec.toNat_ofNat, ← Nat.shiftLeft_add_eq_or_of_lt hb]
  rw [Nat.shiftLeft_eq]
  omega

theorem digitRight (a b : Word) : (b <<< 12) ||| (a >>> 4) = BitVec.ofNat 16 (b.toNat * 4096 + a.toNat / 16) := by
  have ha : a.toNat / 16 < 2 ^ 12 := by have := a.isLt; omega
  have hb : b.toNat * 4096 % 65536 = (b.toNat % 16) <<< 12 := by rw [Nat.shiftLeft_eq]; omega
  apply BitVec.eq_of_toNat_eq
  simp only [BitVec.toNat_or, BitVec.toNat_shiftLeft, BitVec.toNat_ushiftRight, Nat.shiftRight_eq_div_pow, Nat.shiftLeft_eq b.toNat, Nat.reducePow, hb,
    BitVec.toNat_ofNat, ← Nat.shiftLeft_add_eq_or_of_lt ha]
  rw [Nat.shiftLeft_eq]
  omega

/-- A word differs from 0 as its number does. -/
theorem word_bne_zero (a : Word) : (a != 0) = decide (a.toNat ≠ 0) := by
  rw [Bool.eq_iff_iff, bne_iff_ne, decide_eq_true_eq, ne_eq, ← BitVec.toNat_inj]
  rfl

theorem firstDigit_bne (a : Word) : (a >>> 12 != 0) = decide (a.toNat / 4096 ≠ 0) := by
  rw [word_bne_zero, BitVec.toNat_ushiftRight, Nat.shiftRight_eq_div_pow]

theorem lastDigit_bne (a : Word) : (a &&& 0xF != 0) = decide (a.toNat % 16 ≠ 0) := by
  rw [word_bne_zero, BitVec.toNat_and]
  exact congrArg (fun n => decide (n ≠ 0)) (Nat.and_two_pow_sub_one_eq_mod a.toNat 4)

/-- Settles O48: digit by digit, with the flags of each. -/
theorem decimalResults : Obligations.DecimalResults := by
  unfold Obligations.DecimalResults
  intro w d r s h c a b k low hf six bcd adj dig
  have hlow : ∀ v : Word, bits v.toNat 3 0 = v.toNat % 16 := fun v => by simp [bits]
  refine ⟨?addd, ?subd, ?dshl, ?dshr, ?daa, ?das⟩
  case addd =>
    obtain ⟨r0, c0, r1, c1, r2, c2, r3, c3, h0, h1, h2, h3, hr⟩ := bcdF_digits false a b c.st
    refine ⟨_, c3, fun ha hb => ?_, .of_two (f := bcdF false) h rfl (fun _ _ => rfl) (congrArg Prod.fst hr) ?_⟩
    · obtain ⟨ha0, ha1, ha2, ha3⟩ := (decOk_iff a).1 ha
      obtain ⟨hb0, hb1, hb2, hb3⟩ := (decOk_iff b).1 hb
      have e0 := bcdDigit_add ha0 hb0 h0
      have e1 := bcdDigit_add ha1 hb1 h1
      have e2 := bcdDigit_add ha2 hb2 h2
      have e3 := bcdDigit_add ha3 hb3 h3
      obtain ⟨hok, hval⟩ := decWord e0.1 e1.1 e2.1 e3.1
      refine ⟨hok, ?_⟩
      rw [hval]
      simp only [decValue, k]
      omega
    · have hc0 := bcdDigit_carry h0
      simp only [hlow, Bool.false_eq_true, if_false] at hc0
      change bcd _ _ _ _ c.st (bcdF false a b c.st).2
      rw [hr, ← hc0, ← decBad]
      exact bcdFlags _ _ _ _ _
  case subd =>
    obtain ⟨r0, c0, r1, c1, r2, c2, r3, c3, h0, h1, h2, h3, hr⟩ := bcdF_digits true a b c.st
    refine ⟨_, c3, fun ha hb => ?_, .of_two (f := bcdF true) h rfl (fun _ _ => rfl) (congrArg Prod.fst hr) ?_⟩
    · obtain ⟨ha0, ha1, ha2, ha3⟩ := (decOk_iff a).1 ha
      obtain ⟨hb0, hb1, hb2, hb3⟩ := (decOk_iff b).1 hb
      have e0 := bcdDigit_sub ha0 hb0 h0
      have e1 := bcdDigit_sub ha1 hb1 h1
      have e2 := bcdDigit_sub ha2 hb2 h2
      have e3 := bcdDigit_sub ha3 hb3 h3
      obtain ⟨hok, hval⟩ := decWord e0.1 e1.1 e2.1 e3.1
      refine ⟨hok, ?_⟩
      rw [hval]
      simp only [decValue, k]
      omega
    · have hc0 := bcdDigit_carry h0
      simp only [hlow, if_true] at hc0
      change bcd _ _ _ _ c.st (bcdF true a b c.st).2
      rw [hr, ← hc0, ← decBad]
      exact bcdFlags _ _ _ _ _
  case dshl =>
    refine .of_two (f := fun a b st => let x := (a <<< 4) ||| (b >>> 12); (x, flagsZN x (putBit fC (a >>> 12 != 0) st))) h rfl (fun _ _ => rfl)
      (digitLeft a b) ?_
    simp only [digitLeft, firstDigit_bne]
    exact digitFlags _ _ _
  case dshr =>
    refine .of_two (f := fun a b st => let x := (b <<< 12) ||| (a >>> 4); (x, flagsZN x (putBit fC (a &&& 0xF != 0) st))) h rfl (fun _ _ => rfl)
      (digitRight a b) ?_
    simp only [digitRight, lastDigit_bne]
    exact digitFlags _ _ _
  case daa =>
    have hv : (adjustF false a c.st).1 = BitVec.ofNat 16 ((low + six + (if a.getLsbD 8 || decide (0x99 < low) then 0x60 else 0)) % 256) := by
      rw [Nat.add_assoc]
      rfl
    refine .of_one (f := adjustF false) h rfl hv ?_
    rw [← hv]
    exact adjustFlags _ _ _
  case das =>
    have hv : (adjustF true a c.st).1 = BitVec.ofNat 16 ((low + 512 - six - (if a.getLsbD 8 || decide (0x99 < low) then 0x60 else 0)) % 256) := by
      have hsix : six ≤ 6 := by simp only [six]; split <;> omega
      change BitVec.ofNat 16 ((low + 256 - (six + _)) % 256) = _
      congr 1
      split <;> omega
    refine .of_one (f := adjustF true) h rfl hv ?_
    rw [← hv]
    exact adjustFlags _ _ _

end Sys2Proof.Machine

namespace Sys2Proof.Machine
open Sys2Proof

/-! SUPPORT. The core's loads, stores and exchanges (R404, R405, R408, R409): each access is checked before anything changes, and in SRAM it reads or
writes the one word. -/

/-- PC goes on by `n` words. -/
def State.pcOn (w n : Nat) (s : State) : State := s.modCore w (fun c => { c with pc := c.pc + BitVec.ofNat 24 n })

@[simp] theorem State.wing_pcOn (s : State) (w : WingId) (n : Nat) :
    (s.pcOn w n).wing w = { s.wing w with core := { (s.wing w).core with pc := (s.wing w).core.pc + BitVec.ofNat 24 n } } := State.wing_modCore s w _

/-- Access checks do not look at PC. -/
theorem State.eaFault_pcOn (s : State) (w : WingId) (n : Nat) (wr : Bool) (ea : Word) :
    ((s.pcOn w n).wing w).eaFault wr ea = (s.wing w).eaFault wr ea := by
  rw [State.wing_pcOn]
  rfl

section
variable {w : WingId} {op : Word} {len : Nat} {ea : Core → Word} {s : State} (h : CoreRuns w len s) (hea : ∀ (c : Core) p, ea { c with pc := p } = ea c)
include h hea

theorem loadRun_trap {upd : Word → Core → Core} {e : Trap} (hf : (s.wing w).eaFault false (ea (s.wing w).core) = some e) :
    loadRun w op len ea upd s = .next (s.raiseTrap w op e) := by
  refine coreRun_trap h ?_
  change (match ((s.pcOn w len).wing w).eaFault false (ea ((s.pcOn w len).wing w).core) with | some e => _ | none => _) = _
  rw [State.eaFault_pcOn, State.wing_pcOn, hea, hf]

theorem loadRun_ok {upd : Word → Core → Core} (hf : (s.wing w).eaFault false (ea (s.wing w).core) = none) :
    loadRun w op len ea upd s = .next (let r := (s.pcOn w len).eaRead w (ea (s.wing w).core); r.2.modCore w (upd r.1)) := by
  refine coreRun_ok h ?_
  change (match ((s.pcOn w len).wing w).eaFault false (ea ((s.pcOn w len).wing w).core) with
    | some e => _
    | none => let r := (s.pcOn w len).eaRead w (ea ((s.pcOn w len).wing w).core); Except.ok (r.2.modCore w (upd r.1))) = _
  rw [State.eaFault_pcOn, State.wing_pcOn, hea, hf]

theorem storeRun_trap {val : Core → Word} {upd : Core → Core} {e : Trap} (hf : (s.wing w).eaFault true (ea (s.wing w).core) = some e) :
    storeRun w op len ea val upd s = .next (s.raiseTrap w op e) := by
  refine coreRun_trap h ?_
  change (match ((s.pcOn w len).wing w).eaFault true (ea ((s.pcOn w len).wing w).core) with | some e => _ | none => _) = _
  rw [State.eaFault_pcOn, State.wing_pcOn, hea, hf]

theorem storeRun_ok {val : Core → Word} {upd : Core → Core} (hval : ∀ (c : Core) p, val { c with pc := p } = val c)
    (hf : (s.wing w).eaFault true (ea (s.wing w).core) = none) :
    storeRun w op len ea val upd s = .next (((s.pcOn w len).modCore w upd).eaWrite w (ea (s.wing w).core) (val (s.wing w).core)) := by
  refine coreRun_ok h ?_
  change (match ((s.pcOn w len).wing w).eaFault true (ea ((s.pcOn w len).wing w).core) with
    | some e => _
    | none => Except.ok (((s.pcOn w len).modCore w upd).eaWrite w (ea ((s.pcOn w len).wing w).core) (val ((s.pcOn w len).wing w).core))) = _
  rw [State.eaFault_pcOn, State.wing_pcOn, hea, hval, hf]

end

/-- A write of a register leaves the bays and so every physical address (R33). -/
@[simp] theorem Core.put_phys (c : Core) (r : Reg) (v ea : Word) : (c.put r v).phys ea = c.phys ea := by
  unfold Core.put
  (repeat' split) <;> rfl

/-- A write of SRAM outside the fence changes that one word. -/
theorem State.busWrite_sram {applet : Bool} {w a : Nat} {v : Word} {s : State} (hi : inSram a) (hf : (s.wing w).fenced a = false) :
    s.busWrite applet w a v = s.modWing w (fun x => { x with sram := tset 0 a v x.sram }) := by
  obtain ⟨hlo, hhi⟩ := hi
  have hst : (s.wing w).st a v = { s.wing w with sram := tset 0 a v (s.wing w).sram } := by simp [Wing.st, hlo, hhi, hf]
  simp only [State.busWrite, hlo, hhi, decide_true, Bool.and_self, if_true, State.modWing, hst]

/-- Exchange: the first forbidden access traps (R405). -/
theorem execXch_trap {w : WingId} {d b : Reg} {s : State} {e : Trap} (h : CoreRuns w 1 s) (hf :
    (s.wing w).eaFault false ((s.wing w).core.get b) = some e ∨
      (s.wing w).eaFault false ((s.wing w).core.get b) = none ∧ (s.wing w).eaFault true ((s.wing w).core.get b) = some e) :
    ∃ op, exec (.xch w d b) s = .next (s.raiseTrap w op e) := by
  change ∃ op, execXch w d b s = _
  unfold execXch
  refine ⟨_, coreRun_trap h ?_⟩
  change (match (((s.pcOn w 1).wing w).eaFault false (((s.pcOn w 1).wing w).core.get b) <|>
    ((s.pcOn w 1).wing w).eaFault true (((s.pcOn w 1).wing w).core.get b)) with | some e => _ | none => _) = _
  rw [State.eaFault_pcOn, State.eaFault_pcOn, State.wing_pcOn, Core.get_pc]
  rcases hf with h1 | ⟨h1, h2⟩
  · rw [h1]; rfl
  · rw [h1, h2]; rfl

/-- Exchange: the word is read, and then the register as it was is written (R409). -/
theorem execXch_ok {w : WingId} {d b : Reg} {s : State} (h : CoreRuns w 1 s) (h1 : (s.wing w).eaFault false ((s.wing w).core.get b) = none)
    (h2 : (s.wing w).eaFault true ((s.wing w).core.get b) = none) :
    exec (.xch w d b) s = .next (let c := (s.wing w).core; let r := (s.pcOn w 1).eaRead w (c.get b)
      (r.2.modCore w (fun c => c.put d r.1)).busWrite c.applet w (c.phys (c.get b)) (c.get d)) := by
  change execXch w d b s = _
  unfold execXch
  refine coreRun_ok h ?_
  change (match (((s.pcOn w 1).wing w).eaFault false (((s.pcOn w 1).wing w).core.get b) <|>
    ((s.pcOn w 1).wing w).eaFault true (((s.pcOn w 1).wing w).core.get b)) with
    | some e => _
    | none => let x := (s.pcOn w 1).wing w; let r := (s.pcOn w 1).eaRead w (x.core.get b)
              Except.ok ((r.2.modCore w (fun c => c.put d r.1)).busWrite x.core.applet w (x.core.phys (x.core.get b)) (x.core.get d))) = _
  rw [State.eaFault_pcOn, State.eaFault_pcOn, State.wing_pcOn, Core.get_pc, h1, h2]
  rfl

/-- A load in SRAM, as the instruction makes it with PC already on. -/
theorem State.eaRead_pcOn {w : WingId} {n : Nat} {ea : Word} {s : State} (hi : inSram ((s.wing w).core.phys ea))
    (hf : (s.wing w).fenced ((s.wing w).core.phys ea) = false) :
    (s.pcOn w n).eaRead w ea = (s.sramWord w ((s.wing w).core.phys ea), s.pcOn w n) := by
  rw [State.eaRead_sram (by rw [State.wing_pcOn]; exact hi) (by rw [State.wing_pcOn]; exact hf), State.sramWord, State.wing_pcOn]
  rfl

/-- A store in SRAM by a core whose bays stand as they did. -/
theorem State.eaWrite_sram {w : WingId} {ea v : Word} {s : State} {a : Nat} (ha : (s.wing w).core.phys ea = a) (hi : inSram a)
    (hf : (s.wing w).fenced a = false) : s.eaWrite w ea v = s.modWing w (fun x => { x with sram := tset 0 a v x.sram }) := by
  rw [State.eaWrite, ha]
  exact State.busWrite_sram hi hf

/-- Exchange in SRAM: the register takes the word, and the word takes the register. -/
theorem execXch_sram {w : WingId} {d b : Reg} {s : State} (h : CoreRuns w 1 s) (h1 : (s.wing w).eaFault false ((s.wing w).core.get b) = none)
    (h2 : (s.wing w).eaFault true ((s.wing w).core.get b) = none) (hi : inSram ((s.wing w).core.phys ((s.wing w).core.get b)))
    (hf : (s.wing w).fenced ((s.wing w).core.phys ((s.wing w).core.get b)) = false) :
    exec (.xch w d b) s = .next (((s.pcOn w 1).modCore w (fun c => c.put d (s.sramWord w (c.phys ((s.wing w).core.get b))))).modWing w
      (fun x => { x with sram := tset 0 ((s.wing w).core.phys ((s.wing w).core.get b)) ((s.wing w).core.get d) x.sram })) := by
  have hcore : ∀ f g : Core → Core, f ((s.pcOn w 1).wing w).core = g ((s.pcOn w 1).wing w).core → (s.pcOn w 1).modCore w f = (s.pcOn w 1).modCore w g :=
    fun f g he => congrArg (fun c => (s.pcOn w 1).setWing w { (s.pcOn w 1).wing w with core := c }) he
  rw [execXch_ok h h1 h2]
  dsimp only
  rw [State.eaRead_pcOn hi hf, hcore _ (fun c => c.put d (s.sramWord w (c.phys ((s.wing w).core.get b)))) (by rw [State.wing_pcOn]; rfl)]
  refine congrArg Host.Outcome.next (State.busWrite_sram hi ?_)
  rw [State.wing_modCore, State.wing_pcOn]
  exact hf

/-- Settles O49: every load and store in its form, the exchange, and what a store in SRAM leaves. -/
theorem loadsAndStores : Obligations.LoadsAndStores := by
  unfold Obligations.LoadsAndStores
  intro w d b k l s c x step traps ram near loads stores put
  refine ⟨?loads, ?stores, ?xch, ?sram⟩
  case loads =>
    have hload : ∀ (n : Nat) (i : Instr) (op : Word) (ea : Core → Word) (upd : Word → Core → Core), exec i s = loadRun w op n ea upd s →
        (∀ (c : Core) p, ea { c with pc := p } = ea c) → CoreRuns w n s →
        (∀ f, x.eaFault false (ea c) = some f → traps i f) ∧
        (x.eaFault false (ea c) = none → let r := (step n).eaRead w (ea c)
          exec i s = .next (r.2.modCore w (upd r.1)) ∧ (ram (ea c) → r = (s.sramWord w (c.phys (ea c)), step n))) :=
      fun n i op ea upd hi hea h => ⟨fun f hf => ⟨op, hi.trans (loadRun_trap h hea hf)⟩, fun hf =>
        ⟨hi.trans (loadRun_ok h hea hf), fun hr => State.eaRead_pcOn hr.1 hr.2⟩⟩
    simp only [loads, List.forall_mem_cons, List.not_mem_nil, false_implies, implies_true, and_true]
    refine ⟨?_, ?_, ?_, ?_⟩
    · exact hload 1 _ _ (fun c => c.get b + w16 k.toNat) (fun v c => c.put d v) rfl fun _ _ => rfl
    · exact hload 1 _ _ (fun c => c.get b) (fun v c => (c.put b (c.get b + 1)).put d v) rfl fun _ _ => rfl
    · exact hload 1 _ _ (fun c => c.get b - 1) (fun v c => (c.put b (c.get b - 1)).put d v) rfl fun _ _ => rfl
    · exact hload 2 _ _ (fun _ => l) (fun v c => c.put d v) rfl fun _ _ => rfl
  case stores =>
    have hstore : ∀ (n : Nat) (i : Instr) (op : Word) (ea : Core → Word) (upd : Core → Core), exec i s = storeRun w op n ea (fun c => c.get d) upd s →
        (∀ (c : Core) p, ea { c with pc := p } = ea c) → (∀ (c : Core) a, (upd c).phys a = c.phys a) → CoreRuns w n s →
        (∀ f, x.eaFault true (ea c) = some f → traps i f) ∧
        (x.eaFault true (ea c) = none → let u := (step n).modCore w upd
          exec i s = .next (u.eaWrite w (ea c) (c.get d)) ∧ (ram (ea c) → u.eaWrite w (ea c) (c.get d) = put u (ea c) (c.get d))) := by
      intro n i op ea upd hi hea hphys h
      refine ⟨fun f hf => ⟨op, hi.trans (storeRun_trap h hea hf)⟩, fun hf => ⟨hi.trans (storeRun_ok h hea (fun _ _ => rfl) hf), fun hr => ?_⟩⟩
      have hu : ((step n).modCore w upd).wing w = { x with core := upd { c with pc := c.pc + BitVec.ofNat 24 n } } := by
        rw [State.wing_modCore]
        exact congrArg (fun y : Wing => { y with core := upd y.core }) (State.wing_pcOn s w n)
      exact State.eaWrite_sram (by rw [hu]; exact hphys _ _) hr.1 (by rw [hu]; exact hr.2)
    simp only [stores, List.forall_mem_cons, List.not_mem_nil, false_implies, implies_true, and_true]
    refine ⟨?_, ?_, ?_, ?_⟩
    · exact hstore 1 _ _ (fun c => c.get b + w16 k.toNat) (fun c => c) rfl (fun _ _ => rfl) fun _ _ => rfl
    · exact hstore 1 _ _ (fun c => c.get b) (fun c => c.put b (c.get b + 1)) rfl (fun _ _ => rfl) fun _ _ => Core.put_phys ..
    · exact hstore 1 _ _ (fun c => c.get b - 1) (fun c => c.put b (c.get b - 1)) rfl (fun _ _ => rfl) fun _ _ => Core.put_phys ..
    · exact hstore 2 _ _ (fun _ => l) (fun c => c) rfl (fun _ _ => rfl) fun _ _ => rfl
  case xch =>
    intro h a
    exact ⟨fun f hf => execXch_trap h hf, fun h1 h2 => ⟨execXch_ok h h1 h2, fun hr => execXch_sram h h1 h2 hr.1 hr.2⟩⟩
  case sram =>
    intro hrise t a v ht
    simp only [put, State.sramWord, State.wing_modWing, ht]
    exact ⟨tget_tset_same 0 _ v hrise, fun p hp => tget_tset_other 0 v hp hrise⟩

end Sys2Proof.Machine

namespace Sys2Proof.Machine
open Sys2Proof

/-! SUPPORT. The core's control transfers (R403, R410): a near transfer keeps the segment, a far one goes through the stack. -/

/-- The conditions of Bcc, in the order of their codes (R410). -/
theorem condHolds_eq (cc : BitVec 4) (st : Word) : let f := fun (i : Nat) => st.getLsbD i
    condHolds cc st = [f 1, !f 1, f 0, !f 0, f 2, !f 2, f 3, !f 3, !f 0 && !f 1, f 0 || f 1, f 2 == f 3, f 2 != f 3,
      !f 1 && f 2 == f 3, f 1 || f 2 != f 3, f 4, !f 4].getD cc.toNat false := by
  obtain ⟨n, hn⟩ := cc
  match n, hn with
  | 0, _ | 1, _ | 2, _ | 3, _ | 4, _ | 5, _ | 6, _ | 7, _ | 8, _ | 9, _ | 10, _ | 11, _ | 12, _ | 13, _ | 14, _ | 15, _ => rfl
  | k + 16, h => exact absurd h (by omega)

/-- A push or pop is checked alike wherever PC stands. -/
theorem State.stackFault_pcOn (s : State) (w : WingId) (n : Nat) (wr : Bool) (ea : Word) :
    ((s.pcOn w n).wing w).stackFault wr ea = (s.wing w).stackFault wr ea := by
  rw [State.wing_pcOn]
  rfl

/-- A near transfer, where the core executes, in the words of the core as it was. -/
theorem nearRun_goes {w : WingId} {op : Word} {upd g : Core → Core} {taken : Core → Bool} {t : Core → Word} {s : State} {p : BitVec 24} (h : CoreRuns w 1 s)
    (hu : let c := (s.wing w).core; upd { c with pc := c.pc + 1 } = { g c with pc := c.pc + 1 })
    (hp : let c := (s.wing w).core; let c' := { c with pc := c.pc + 1 }
      (if taken c' then BitVec.ofNat 24 (c.pc.toNat / 65536 * 65536 + (t c').toNat) else c.pc + 1) = p) :
    nearRun w op upd taken t s = .next (s.modCore w (fun c => { g c with pc := p })) := by
  have hpc : ∀ c : Core, c.pc + BitVec.ofNat 24 1 - 1 = c.pc := fun c => BitVec.add_sub_cancel c.pc 1
  rw [nearRun, coreStep_runs h]
  refine congrArg _ (State.modCore_congr ?_)
  subst hp
  dsimp only [BitVec.ofNat_eq_ofNat] at hu hpc ⊢
  rw [hpc, hu]
  split <;> rfl

section
variable {w : WingId} {s : State} {e : Trap}

theorem execRetf_trap (h : CoreRuns w 1 s) (hf : (s.wing w).stackFault false ((s.wing w).core.get 15) = some e) :
    ∃ op, exec (.retf w) s = .next (s.raiseTrap w op e) := by
  change ∃ op, execRetf w s = _
  unfold execRetf
  refine ⟨_, coreRun_trap h ?_⟩
  change (match ((s.pcOn w 1).wing w).stackFault false (((s.pcOn w 1).wing w).core.get 15) with | some e => _ | none => _) = _
  rw [State.stackFault_pcOn, State.wing_pcOn, Core.get_pc, hf]

theorem execRetf_ok (h : CoreRuns w 1 s) (hf : (s.wing w).stackFault false ((s.wing w).core.get 15) = none)
    (hi : inSram ((s.wing w).core.phys ((s.wing w).core.get 15))) (hs : (s.wing w).fenced ((s.wing w).core.phys ((s.wing w).core.get 15)) = false) :
    exec (.retf w) s = .next (s.modCore w (fun c => { c.put 15 ((s.wing w).core.get 15 + 1) with
      pc := BitVec.ofNat 24 ((s.sramWord w ((s.wing w).core.phys ((s.wing w).core.get 15))).toNat % 256 * 65536 + ((s.wing w).core.get 14).toNat) })) := by
  change execRetf w s = _
  unfold execRetf
  refine coreRun_ok h ?_
  change (match ((s.pcOn w 1).wing w).stackFault false (((s.pcOn w 1).wing w).core.get 15) with
    | some e => _
    | none => let r := (s.pcOn w 1).eaRead w (((s.pcOn w 1).wing w).core.get 15)
              Except.ok (r.2.modCore w (fun c => (c.put 15 (((s.pcOn w 1).wing w).core.get 15 + 1)).near (r.1.toNat % 256) (c.get 14)))) = _
  rw [State.stackFault_pcOn, State.wing_pcOn, Core.get_pc, hf]
  dsimp only
  rw [State.eaRead_pcOn hi hs, State.pcOn, State.modCore_modCore]
  refine congrArg _ (State.modCore_congr ?_)
  rw [Core.put_pc]
  rfl

theorem execCallf_trap {l : BitVec 24} (h : CoreRuns w 2 s) (hf : (s.wing w).stackFault true ((s.wing w).core.get 15 - 1) = some e) :
    ∃ op, exec (.callf w l) s = .next (s.raiseTrap w op e) := by
  change ∃ op, execCallf w l s = _
  unfold execCallf
  refine ⟨_, coreRun_trap h ?_⟩
  change (match ((s.pcOn w 2).wing w).stackFault true (((s.pcOn w 2).wing w).core.get 15 - 1) with | some e => _ | none => _) = _
  rw [State.stackFault_pcOn, State.wing_pcOn, Core.get_pc, hf]

theorem execCallf_ok {l : BitVec 24} {sp : Word} (h : CoreRuns w 2 s) (hsp : (s.wing w).core.get 15 - 1 = sp)
    (hf : (s.wing w).stackFault true sp = none)
    (hi : inSram ((s.wing w).core.phys sp)) (hs : (s.wing w).fenced ((s.wing w).core.phys sp) = false) :
    exec (.callf w l) s = .next ((s.modCore w (fun c => { (c.put 15 sp).put 14 (BitVec.ofNat 16 ((s.wing w).core.pc + 2).toNat) with pc := l })).modWing w
      (fun x => { x with sram := tset 0 ((s.wing w).core.phys sp) (BitVec.ofNat 16 (((s.wing w).core.pc + 2).toNat / 65536)) x.sram })) := by
  subst hsp
  change execCallf w l s = _
  unfold execCallf
  refine coreRun_ok h ?_
  change (match ((s.pcOn w 2).wing w).stackFault true (((s.pcOn w 2).wing w).core.get 15 - 1) with
    | some e => _
    | none => Except.ok (((s.pcOn w 2).modCore w (fun c => { (c.put 15 (((s.pcOn w 2).wing w).core.get 15 - 1)).put 14 c.pcLow with pc := l })).eaWrite w
        (((s.pcOn w 2).wing w).core.get 15 - 1) (w16 ((s.pcOn w 2).wing w).core.seg))) = _
  rw [State.stackFault_pcOn, State.wing_pcOn, Core.get_pc, hf]
  dsimp only
  rw [State.eaWrite_sram (a := (s.wing w).core.phys ((s.wing w).core.get 15 - 1)) ?_ hi ?_]
  · rw [State.pcOn, State.modCore_modCore]
    refine congrArg (fun u : State => Except.ok (State.modWing u w _)) (State.modCore_congr ?_)
    simp only [Core.put_pc]
    rfl
  · rw [State.wing_modCore, State.wing_pcOn]
    exact (Core.put_phys ..).trans (Core.put_phys ..)
  · rw [State.wing_modCore, State.wing_pcOn]
    exact hs

end

/-- Settles O50: every near and far transfer, with its link and its condition. -/
theorem controlTransfers : Obligations.ControlTransfers := by
  unfold Obligations.ControlTransfers
  intro w cc k m d l s c x f next gives goes same link holds traps ram
  refine ⟨fun h => ⟨?_, ?_, ?_, ?_, ?_, ?_, ?_, ?_⟩, fun h => ⟨?_, ?_, ?_⟩⟩
  · exact nearRun_goes (upd := fun x => x) (g := same) h rfl (by dsimp only; rw [condHolds_eq]; rfl)
  · exact nearRun_goes (upd := fun x => x) (g := same) h rfl rfl
  · exact nearRun_goes (upd := fun x => x.put 14 x.pcLow) (g := link next) h (Core.put_pc ..) rfl
  · exact nearRun_goes (upd := fun x => x) (g := same) h rfl rfl
  · exact nearRun_goes (upd := fun x => x.put 14 x.pcLow) (g := link next) h (Core.put_pc ..) rfl
  · exact nearRun_goes (upd := fun x => x) (g := same) h rfl rfl
  · exact fun e hf => execRetf_trap h hf
  · exact fun hf hr => execRetf_ok h hf hr.1 hr.2
  · exact (coreStep_runs h).trans (congrArg _ (State.modCore_congr rfl))
  · exact fun e hf => execCallf_trap h hf
  · exact fun hf hr => execCallf_ok h rfl hf hr.1 hr.2

end Sys2Proof.Machine

namespace Sys2Proof.Machine
open Sys2Proof

/-! SUPPORT. The core's system instructions (R407, R408, R414, R425, R432). -/

/-- From 6 on the system registers are the Keeper's (R414). -/
theorem Core.mfs_none {c : Core} {n seg : Nat} (ha : c.applet = true) (hn : 6 ≤ n) : c.mfs n seg = none := by
  unfold Core.mfs
  exact if_pos (by rw [ha, decide_eq_true hn]; rfl)

theorem Core.mts_none {c : Core} {n : Nat} {v : Word} (ha : c.applet = true) (hn : 6 ≤ n) : c.mts n v = none := by
  unfold Core.mts
  exact if_pos (by rw [ha, decide_eq_true hn]; rfl)

section
variable {w : WingId} {s : State} (h : CoreRuns w 1 s)
include h

/-- A core that executes is not asleep. -/
theorem CoreRuns.running : (s.wing w).core.run = .running := by
  have hr := h.1
  simp only [Wing.ready, Bool.and_eq_true, decide_eq_true_eq] at hr
  exact hr.1.2

/-- A Keeper-only instruction in applet mode is RESERVED_OP (R407). -/
theorem keeperRun_applet {op : Word} {f : State → Except Trap State} (ha : (s.wing w).core.applet = true) :
    ∃ op', keeperRun w op f s = .next (s.raiseTrap w op' .reserved) := by
  refine ⟨op, coreRun_trap h ?_⟩
  rw [State.wing_modCore, if_pos (by simpa [Core.applet] using ha)]

/-- BRK with debug enabled: the core halts, with PC at the BRK (R432). -/
theorem execBrk_debug (hd : (s.wing w).debug = true) :
    exec (.brk w) s = .next (s.modCore w (fun c => { c with run := .halted, wasAsleep := false })) := by
  change execBrk w s = _
  unfold execBrk
  refine coreRun_ok h ?_
  change Except.ok (if ((s.pcOn w 1).wing w).debug = true then ((s.pcOn w 1).modCore w (fun c => { c with pc := c.pc - 1 })).halt w else _) = _
  have hd' : ((s.pcOn w 1).wing w).debug = true := by rw [State.wing_pcOn]; exact hd
  have hpc : ∀ c : Core, c.pc + BitVec.ofNat 24 1 - 1 = c.pc := fun c => BitVec.add_sub_cancel c.pc 1
  rw [if_pos hd', State.halt, State.pcOn, State.modCore_modCore, State.modCore_modCore]
  refine congrArg _ (State.modCore_congr ?_)
  simp only [hpc, h.running]
  rfl

/-- MFS, with what the table gives (R414). -/
theorem execMfs_ok {d : Reg} {n : Fin 16} {v : Word} (hv : (s.wing w).core.mfs n ((s.wing w).core.pc.toNat / 0x10000) = some v) :
    CoreTo w 1 (.mfs w d n) s (fun c => c.put d v) := by
  have hpc : ∀ c : Core, c.pc + BitVec.ofNat 24 1 - 1 = c.pc := fun c => BitVec.add_sub_cancel c.pc 1
  have hput : (s.pcOn w 1).modCore w (fun c => c.put d v) = s.modCore w (fun c => { c.put d v with pc := c.pc + BitVec.ofNat 24 1 }) := by
    rw [State.pcOn, State.modCore_modCore]
    exact State.modCore_congr (Core.put_pc ..)
  change execMfs w d n s = _
  unfold execMfs
  refine coreRun_ok h ?_
  change (match ((s.pcOn w 1).wing w).core.mfs n ((((s.pcOn w 1).wing w).core.pc - 1).toNat / 0x10000) with | none => _ | some v => Except.ok ((s.pcOn w 1).modCore w (fun c => c.put d v))) = _
  rw [State.wing_pcOn]
  dsimp only
  rw [hpc]
  change (match (s.wing w).core.mfs n ((s.wing w).core.pc.toNat / 0x10000) with | none => _ | some v => Except.ok ((s.pcOn w 1).modCore w (fun c => c.put d v))) = _
  rw [hv]
  exact congrArg _ hput

theorem execMfs_trap {d : Reg} {n : Fin 16} (ha : (s.wing w).core.applet = true) (hn : 6 ≤ n.val) :
    ∃ op, exec (.mfs w d n) s = .next (s.raiseTrap w op .reserved) := by
  change ∃ op, execMfs w d n s = _
  unfold execMfs
  refine ⟨_, coreRun_trap h ?_⟩
  change (match ((s.pcOn w 1).wing w).core.mfs n ((((s.pcOn w 1).wing w).core.pc - 1).toNat / 0x10000) with | none => _ | some v => _) = _
  rw [Core.mfs_none (by rw [State.wing_pcOn]; exact ha) hn]

/-- MTS, with the core that the table gives (R414). -/
theorem execMts_ok {r : Reg} {n : Fin 16} {f : Core → Core} (hf : ∀ p, ({ (s.wing w).core with pc := p } : Core).mts n ((s.wing w).core.get r) = some { f (s.wing w).core with pc := p }) :
    CoreTo w 1 (.mts w n r) s f := by
  change execMts w n r s = _
  unfold execMts
  refine coreRun_ok h ?_
  change (match ((s.pcOn w 1).wing w).core.mts n (((s.pcOn w 1).wing w).core.get r) with | none => _ | some c' => Except.ok ((s.pcOn w 1).modCore w (fun _ => c'))) = _
  rw [State.wing_pcOn, Core.get_pc, hf, State.pcOn]
  dsimp only
  rw [State.modCore_modCore]
  exact congrArg _ (State.modCore_congr rfl)

theorem execMts_trap {r : Reg} {n : Fin 16} (ha : (s.wing w).core.applet = true) (hn : 6 ≤ n.val) :
    ∃ op, exec (.mts w n r) s = .next (s.raiseTrap w op .reserved) := by
  change ∃ op, execMts w n r s = _
  unfold execMts
  refine ⟨_, coreRun_trap h ?_⟩
  change (match ((s.pcOn w 1).wing w).core.mts n (((s.pcOn w 1).wing w).core.get r) with | none => _ | some c' => _) = _
  rw [Core.mts_none (by rw [State.wing_pcOn]; exact ha) hn]

end

/-- Setting or clearing IE leaves the other bits of ST. -/
theorem putIE_flags (b : Bool) (st : Word) : (putBit fIE b st).getLsbD 5 = b ∧ OnlyFlags 0x0020 st (putBit fIE b st) :=
  ⟨by rw [getLsbD_putBit 5 5 _ _ (by decide) (by decide), if_pos rfl], (OnlyFlags.refl _ _).putBit (by decide) (by decide)⟩

/-- A Keeper-only instruction that sets IE. -/
theorem keeperRun_putIE {w : WingId} {s : State} {i : Instr} {op : Word} {b : Bool} (h : CoreRuns w 1 s) (ha : (s.wing w).core.applet = false)
    (hi : exec i s = keeperRun w op (fun t => .ok (t.modCore w (fun c => { c with st := putBit fIE b c.st }))) s) :
    CoreResult w 1 i s none 0 (fun st st' => st'.getLsbD 5 = b ∧ OnlyFlags 0x0020 st st') := by
  refine ⟨_, putIE_flags b _, hi.trans (keeperRun_runs h ha ?_)⟩
  rw [State.modCore_modCore]
  exact congrArg _ (State.modCore_congr rfl)

/-- The bits of a word that are taken from another under a mask. -/
theorem getLsbD_masked (a v m : Word) (i : Nat) (hi : i < 16) :
    ((a &&& ~~~ m) ||| (v &&& m)).getLsbD i = if m.getLsbD i then v.getLsbD i else a.getLsbD i := by
  rw [BitVec.getLsbD_or, BitVec.getLsbD_and, BitVec.getLsbD_and, BitVec.getLsbD_not]
  cases m.getLsbD i <;> simp [hi, -BitVec.getLsbD_eq_getElem]

/-- Settles O53: IE, sleep, halt and the system registers, each by the table of R414. -/
theorem systemInstructions : Obligations.SystemInstructions := by
  unfold Obligations.SystemInstructions
  intro w d n s h x c v ie reserved b10 reads writes may
  refine ⟨?applet, fun ha => ⟨?ei, ?di, ?sleep⟩, execBrk_debug h, fun ha hn => ⟨execMfs_trap h ha hn, execMts_trap h ha hn⟩, fun hm => ?sys⟩
  case applet =>
    intro ha
    simp only [List.forall_mem_cons, List.not_mem_nil, false_implies, implies_true, and_true]
    change (∃ op, execEi w s = _) ∧ (∃ op, execDi w s = _) ∧ (∃ op, execSleep w s = _) ∧ ∃ op, execReti w s = _
    unfold execEi execDi execSleep execReti
    exact ⟨keeperRun_applet h ha, keeperRun_applet h ha, keeperRun_applet h ha, keeperRun_applet h ha⟩
  case ei => exact keeperRun_putIE h ha rfl
  case di => exact keeperRun_putIE h ha rfl
  case sleep =>
    change execSleep w s = _
    unfold execSleep
    refine keeperRun_runs h ha (congrArg _ ?_)
    rw [State.wing_modCore]
    change (if x.doc.request = true then _ else _) = _
    by_cases hr : x.doc.request = true
    · rw [if_pos hr]
      exact State.modCore_congr (by dsimp only; rw [if_pos hr]; rfl)
    · rw [if_neg hr, State.modCore_modCore]
      exact State.modCore_congr (by dsimp only; rw [if_neg hr]; rfl)
  case sys =>
    have hk : ¬ (c.applet && decide (6 ≤ n.val)) = true := by
      rcases hm with ha | hn
      · simp [ha]
      · simp [Nat.not_le.mpr hn]
    refine ⟨?mfs, ?mts, ?mtsSt⟩
    case mfs =>
      refine execMfs_ok h ?_
      unfold Core.mfs
      rw [if_neg hk]
      clear hm hk
      obtain ⟨n, hn⟩ := n
      match n, hn with
      | 0, _ | 1, _ | 2, _ | 3, _ | 4, _ | 5, _ | 6, _ | 7, _ | 8, _ | 9, _ | 10, _ | 11, _ | 12, _ | 13, _ | 14, _ | 15, _ => rfl
      | k + 16, h => exact absurd h (by omega)
    case mts =>
      intro hn
      refine execMts_ok h fun p => ?_
      have hb : BitVec.ofNat 10 v.toNat = b10 := by simp [b10]
      unfold Core.mts
      refine (if_neg hk).trans ?_
      rw [show (s.wing w).core.get d = v from rfl, hb]
      clear hm hk
      obtain ⟨n, hlt⟩ := n
      match n, hlt with
      | 0, _ => exact absurd rfl hn
      | 1, _ | 2, _ | 3, _ | 4, _ | 5, _ | 6, _ | 7, _ | 8, _ | 9, _ | 10, _ | 11, _ | 12, _ | 13, _ | 14, _ | 15, _ => rfl
      | k + 16, h => exact absurd h (by omega)
    case mtsSt =>
      intro hn
      refine ⟨(c.st &&& ~~~ may) ||| (v &&& may), execMts_ok h fun p => ?_, ?_, ?_⟩
      · unfold Core.mts
        refine (if_neg hk).trans ?_
        rw [hn]
        rfl
      · intro i hi
        rw [getLsbD_masked _ _ _ _ i.isLt, if_neg (by rw [hi]; decide)]
      · intro i hi
        rw [getLsbD_masked _ _ _ _ i.isLt, if_pos hi]

end Sys2Proof.Machine

namespace Sys2Proof.Machine
open Sys2Proof

/-! SUPPORT. A string instruction whose trap handler starts at the instruction itself: the vector table stands in SRAM, and its ACCESS_FAULT
vector is the PC of the instruction. -/

/-- A wing in Keeper mode before a RPT FILLS of two elements at 0x100, to ROM, with the ACCESS_FAULT vector at 0x100. -/
def rptLoopWing : Wing :=
  { sys := { state := .running }, core := { pc := 0x100, kSp := 0x4010, vbase := 0x1000, w := [(11, 2)] }, sram := [(0x100004, 0x100)] }

/-- The device with that wing. -/
def rptLoopState : State := State.reset.setWing 7 rptLoopWing

/-- The device after the one command `i`. -/
def afterCommand (i : Instr) (s : State) : State := match exec i s with | .next t => t | _ => s

/-- What the last clause of StringInstructions asks of the state after one element. -/
def rptMayGoOn (w : WingId) (s t : State) : Bool :=
  decide ((t.wing w).core.pc = (s.wing w).core.pc) && (t.wing w).ready && (t.fetchFault w 1).isNone && !(t.wing w).core.applet &&
    decide (tget 0 (t.wing w).core.w 11 ≠ 0)

theorem rptLoopState_runs : CoreRuns 7 1 rptLoopState ∧ (rptLoopState.wing 7).core.applet = false :=
  have hs : (rptLoopState.wing 7).ready = true ∧ (rptLoopState.fetchFault 7 1).isNone = true ∧ (rptLoopState.wing 7).core.applet = false := by
    decide +kernel
  ⟨⟨hs.1, Option.isNone_iff_eq_none.mp hs.2.1⟩, hs.2.2⟩

/-- The trap leaves the core at the instruction again. -/
theorem rptLoopState_trapped : let t := afterCommand (.rptFills 7 1) rptLoopState
    (t.wing 7).core.pc = (rptLoopState.wing 7).core.pc ∧ CoreRuns 7 1 t ∧ (t.wing 7).core.applet = false ∧ tget 0 (t.wing 7).core.w 11 ≠ 0 := by
  have hm : rptMayGoOn 7 rptLoopState (afterCommand (.rptFills 7 1) rptLoopState) = true := by decide +kernel
  simp only [rptMayGoOn, Bool.and_eq_true, decide_eq_true_eq, Bool.not_eq_true', Option.isNone_iff_eq_none] at hm
  obtain ⟨⟨⟨⟨hpc, hready⟩, hfetch⟩, happlet⟩, hcount⟩ := hm
  exact ⟨hpc, ⟨hready, hfetch⟩, happlet, hcount⟩

/-- A RPT FILLS answers a next state. -/
theorem exec_rptFills (w : WingId) (n : Word) (s : State) : exec (.rptFills w n) s = .next (afterCommand (.rptFills w n) s) := rfl

/-- The two elements in one command end in the trap. -/
theorem rptLoopState_two : ((afterCommand (.rptFills 7 2) rptLoopState).wing 7).sys.state = .running := by decide +kernel

/-- The second element as a command of its own traps while the first trap is being handled, which is lock-up (R423). -/
theorem rptLoopState_again :
    ((afterCommand (.rptFills 7 1) (afterCommand (.rptFills 7 1) rptLoopState)).wing 7).sys.state = .reset := by decide +kernel

/-- Refutes O54: where the ACCESS_FAULT vector is the PC of the instruction itself, a first element that traps leaves PC, W11 and the fetch as the last
clause asks, but the second element traps once more and locks the core up, which one command of two elements does not. -/
theorem not_stringInstructions : ¬ Obligations.StringInstructions := by
  intro hall
  obtain ⟨hruns, hkeeper⟩ := rptLoopState_runs
  obtain ⟨hpc, hruns', hkeeper', hcount⟩ := rptLoopState_trapped
  obtain ⟨-, -, hmore⟩ := hall 7 rptLoopState hruns hkeeper
  have heq := hmore (.rptFills 7) (by simp) 1 _ (by decide) (exec_rptFills 7 1 _) hpc hruns' hkeeper' hcount
  have hstate := congrArg (fun o : Out => match o with | .next t => (t.wing 7).sys.state | _ => .boot) heq
  simp only [exec_rptFills] at hstate
  exact absurd (rptLoopState_two.symm.trans (hstate.trans rptLoopState_again)) (by decide)

end Sys2Proof.Machine

namespace Sys2Proof.Machine
open Sys2Proof

/-! SUPPORT. The front of the queue and the reset state. -/

/-- Settles O1: a step is the command at the front on the rest of the queue. -/
theorem stepRunsFront : Obligations.StepRunsFront := by
  refine ⟨fun c rest s => rfl, fun s hs => ?_⟩
  unfold step
  rw [hs]

/-- Settles O3: each clause at reset. -/
theorem invReset : Obligations.InvReset := by
  unfold Obligations.InvReset Dome.Inv
  decide

/-- Settles O2: each part of the state at reset, which is the same in every wing. -/
theorem resetValues : Obligations.ResetValues := by
  have hwing : ∀ w : WingId, State.reset.wing w = { } := by
    intro w
    match w with
    | 0 => rfl | 1 => rfl | 2 => rfl | 3 => rfl | 4 => rfl | 5 => rfl | 6 => rfl | 7 => rfl
  have hsession : ∀ n, (State.reset.port.sessions.get n).isOpen = false := by
    intro n
    match n with
    | 0 => rfl | 1 => rfl | 2 => rfl | 3 => rfl | 4 => rfl | 5 => rfl | 6 => rfl | _ + 7 => rfl
  have hreg : ∀ r : Reg, ({} : Core).get r = 0 := by decide
  have hpage : ∀ p : Fin 64, (({} : Wing).page p).state = 0 ∧ (({} : Wing).page p).key = [] := by decide
  have hring : ∀ k : Fin 16, (({} : Wing).ring k).put = 0 ∧ (({} : Wing).ring k).take = 0 ∧ (({} : Wing).ring k).pass = 0 := by decide
  unfold Obligations.ResetValues
  refine ⟨fun w => ?_, rfl, rfl, rfl, rfl, rfl, hsession, rfl, rfl, rfl, rfl, rfl⟩
  rw [hwing]
  exact ⟨rfl, rfl, rfl, hreg, rfl, rfl, rfl, rfl, rfl, rfl, rfl, rfl, rfl, rfl, rfl, rfl, rfl, rfl, rfl, hring, rfl, rfl, rfl, rfl,
    fun _ => rfl, rfl, hpage⟩

end Sys2Proof.Machine

namespace Sys2Proof.Machine
open Sys2Proof

/-! SUPPORT. The line switch and the resets of the wings (02). -/

/-- A command whose effect stands under a condition. -/
theorem next_if_pos {c : Prop} [Decidable c] {a b t : State} (h : c) (ha : a = t) : (Host.Outcome.next (if c then a else b) : Out) = .next t := by
  rw [if_pos h, ha]

theorem next_if_neg {c : Prop} [Decidable c] {a b t : State} (h : ¬c) (hb : b = t) : (Host.Outcome.next (if c then a else b) : Out) = .next t := by
  rw [if_neg h, hb]

/-- Settles O8: the condition of each command holds or fails. -/
theorem wingResets : Obligations.WingResets := by
  unfold Obligations.WingResets
  intro s w x
  refine ⟨?pinLow, rfl, ?release, ?hold, ?self, ?trip, fun temp => ⟨?tripRests, ?recoveryRests⟩, ?pinRests, ?releaseRests, ?selfRests, ?recovery, rfl⟩
  case pinLow => exact fun h => next_if_neg (by rw [h]; decide) rfl
  case release => exact fun h h0 => next_if_pos h (if_pos h0)
  case hold => exact fun h h0 => next_if_pos h (if_neg h0)
  case self => exact fun h => next_if_pos h (if_pos rfl)
  case trip =>
    intro temp h ht
    refine next_if_neg ?_ rfl
    rw [Bool.or_eq_true, not_or, Bool.not_eq_true', Bool.not_eq_false, decide_eq_true_eq, Int.not_lt]
    exact ⟨h, ht⟩
  case tripRests =>
    intro h
    refine next_if_pos ?_ rfl
    simpa using h
  case recoveryRests =>
    intro h
    refine next_if_neg ?_ rfl
    rw [Bool.and_eq_true, decide_eq_true_eq, decide_eq_true_eq, Classical.not_and_iff_not_or_not, Int.not_lt]
    exact h
  case pinRests => exact fun h => next_if_pos h rfl
  case releaseRests => exact fun h => next_if_neg h rfl
  case selfRests =>
    intro v h
    change Host.Outcome.next _ = _
    rcases h with h | h
    · exact next_if_neg (by rw [show (s.wing w).awake = false from h]; decide) rfl
    · refine congrArg _ ?_
      rw [if_neg h, ite_self]
  case recovery => exact fun temp h ht => next_if_pos (by simpa using ⟨h, ht⟩) rfl

section
variable {d : Dome}

theorem Dome.lineLook_off_high (h : d.line = .off) (hm : d.lineStart ≤ d.lineMv) : d.lineLook = { d with line := .debounce } := by
  rw [Dome.lineLook, if_pos h, if_pos hm]

theorem Dome.lineLook_off_low (h : d.line = .off) (hm : d.lineMv < d.lineStart) : d.lineLook = d := by
  rw [Dome.lineLook, if_pos h, if_neg (Nat.not_le.mpr hm)]

theorem Dome.lineLook_overV (h : d.line = .overV) : d.lineLook = d := by simp [Dome.lineLook, h]

theorem Dome.lineLook_debounce_low (h : d.line = .debounce) (hm : d.lineMv < d.lineStart) : d.lineLook = d.gateLow .off := by
  simp [Dome.lineLook, h, hm]

theorem Dome.lineLook_debounce_high (h : d.line = .debounce) (hm : d.lineStart ≤ d.lineMv) : d.lineLook = d := by
  simp [Dome.lineLook, h, Nat.not_lt.mpr hm]

theorem Dome.lineLook_runs_low (h : d.line = .ramp ∨ d.line = .on) (hm : d.lineMv < d.lineStop) : d.lineLook = d.gateLow .off := by
  rcases h with h | h <;> simp [Dome.lineLook, h, hm]

theorem Dome.lineLook_runs_high (h : d.line = .ramp ∨ d.line = .on) (hm : d.lineStop ≤ d.lineMv) : d.lineLook = d := by
  rcases h with h | h <;> simp [Dome.lineLook, h, Nat.not_lt.mpr hm]

end

/-- The line switch looks at the line, in every phase and on either side of its threshold. -/
theorem State.lineLook_gives {i : Instr} {s : State} {e : Dome} (hi : exec i s = .next { s with dome := e.lineLook }) :
    let gives := fun (d' : Dome) => exec i s = .next { s with dome := d' }
    (e.line = .off → e.lineStart ≤ e.lineMv → gives { e with line := .debounce }) ∧ (e.line = .off → e.lineMv < e.lineStart → gives e) ∧
    (e.line = .debounce → e.lineMv < e.lineStart → gives (e.gateLow .off)) ∧ (e.line = .debounce → e.lineStart ≤ e.lineMv → gives e) ∧
    (e.line = .ramp ∨ e.line = .on → e.lineMv < e.lineStop → gives (e.gateLow .off)) ∧
    (e.line = .ramp ∨ e.line = .on → e.lineStop ≤ e.lineMv → gives e) ∧ (e.line = .overV → gives e) := by
  have hg : ∀ d', e.lineLook = d' → exec i s = .next { s with dome := d' } := fun d' h => h ▸ hi
  exact ⟨fun h hm => hg _ (Dome.lineLook_off_high h hm), fun h hm => hg _ (Dome.lineLook_off_low h hm),
    fun h hm => hg _ (Dome.lineLook_debounce_low h hm), fun h hm => hg _ (Dome.lineLook_debounce_high h hm),
    fun h hm => hg _ (Dome.lineLook_runs_low h hm), fun h hm => hg _ (Dome.lineLook_runs_high h hm), fun h => hg _ (Dome.lineLook_overV h)⟩

/-- Settles O5: the line switch looks at the line after each change of it or of its thresholds, and its timers end where they may. -/
theorem lineSwitch : Obligations.LineSwitch := by
  unfold Obligations.LineSwitch
  intro s mv d start stop gives low runs
  refine ⟨fun g => ⟨?podlDc, ?podlKept, ?podlLow⟩, ?look, ?debounce, ?debounceRests, ?overV, ?overVRests, ?release, ?releaseLow, ?releaseRests, fun b => ?bootsel⟩
  case podlDc => exact fun h => next_if_pos h rfl
  case podlKept =>
    intro h hg
    refine next_if_neg (by rw [h]; decide) ?_
    simp only [State.modDome, if_neg (Nat.not_lt.mpr hg)]
    rfl
  case podlLow =>
    intro h hg
    refine next_if_neg (by rw [h]; decide) ?_
    simp only [State.modDome, if_pos hg]
    rfl
  case look =>
    simp only [List.forall_mem_cons, List.not_mem_nil, false_implies, implies_true, and_true]
    exact ⟨State.lineLook_gives (e := { d with lineMv := mv }) rfl, State.lineLook_gives (e := { d with lineMv := mv }) rfl⟩
  case debounce => exact fun h hm => next_if_pos (by simpa using ⟨h, hm⟩) rfl
  case debounceRests =>
    intro h
    refine next_if_neg ?_ rfl
    rw [Bool.and_eq_true, decide_eq_true_eq, decide_eq_true_eq, Classical.not_and_iff_not_or_not, Nat.not_le]
    exact h
  case overV => exact fun h => next_if_pos h rfl
  case overVRests => exact fun h => next_if_neg (Nat.not_lt.mpr h) rfl
  case release =>
    intro h hm hs
    exact next_if_pos (by simpa using ⟨h, hm⟩)
      (congrArg (fun e : Dome => { s with dome := e }) (Dome.lineLook_runs_high (d := { d with lineMv := mv, line := .ramp }) (.inl rfl) hs))
  case releaseLow =>
    intro h hs
    have hstop : stop d.bootselPins ≤ 17000 := by dsimp only [stop]; split <;> omega
    have hm : mv < 62000 := by omega
    exact next_if_pos (by simpa using ⟨h, hm⟩)
      (congrArg (fun e : Dome => { s with dome := e }) (Dome.lineLook_runs_low (d := { d with lineMv := mv, line := .ramp }) (.inl rfl) hs))
  case releaseRests =>
    intro h
    refine next_if_neg ?_ rfl
    rw [Bool.and_eq_true, decide_eq_true_eq, decide_eq_true_eq, Classical.not_and_iff_not_or_not, Nat.not_lt]
    exact h
  case bootsel => exact State.lineLook_gives (e := { d with bootselPins := b }) rfl

end Sys2Proof.Machine

namespace Sys2Proof.Machine
open Sys2Proof

/-! SUPPORT. A wing after its reset, the reference, and the port's link (02, R288). -/

/-- No pulse runs, so none is cut: the lines and the option area stay. -/
theorem Flash.cutPulse_idle (k : Nat) (wild : Bool) {f : Flash} (h : f.run = none) :
    (f.cutPulse k wild).lines = f.lines ∧ (f.cutPulse k wild).opt = f.opt := by
  unfold Flash.cutPulse
  cases f.move <;> exact ⟨by simp only [h], by simp only [h]⟩

/-- Settles O9: what the reset gives, with the source's bit alone or joining the others. -/
theorem wingAfterReset : Obligations.WingAfterReset := by
  unfold Obligations.WingAfterReset
  intro k src x y
  refine ⟨rfl, rfl, rfl, rfl, rfl, rfl, rfl, rfl, rfl, rfl, rfl, rfl, rfl, ?fresh, ?again, ?por, ?flash, rfl, rfl, rfl, rfl, rfl, rfl, rfl, rfl, rfl, rfl, rfl⟩
  case fresh =>
    intro h
    simp [y, Wing.atReset, h, sat16]
    exact fun hs h' => absurd h' hs
  case again =>
    intro h
    simp [y, Wing.atReset, h]
    exact fun hs h' => absurd h' hs
  case por =>
    intro h
    simp [y, Wing.atReset, h]
  case flash => exact fun h => Flash.cutPulse_idle k false h

/-- Settles O11: the condition of each command of the link and its addresses. -/
theorem portLink : Obligations.PortLink := by
  unfold Obligations.PortLink
  intro s n p m up
  refine ⟨?up, ?upRests, fun h => next_if_pos h rfl, fun h => next_if_neg (by rw [show s.port.linkUp = false from h]; decide) rfl, ?dad, ?dadRests, rfl⟩
  case up =>
    rintro ⟨hl, hs, hp⟩
    exact next_if_neg (by rw [show s.port.linkUp = false from hl, show s.port.powerFail = false from hp, hs]; decide) rfl
  case upRests =>
    intro h
    refine next_if_pos ?_ rfl
    refine Classical.byContradiction fun hc => ?_
    simp only [Bool.or_eq_true, not_or, Bool.not_eq_true] at hc
    obtain ⟨⟨hl, hs⟩, hp⟩ := hc
    exact h ⟨hl, hs, hp⟩
  case dad => exact fun h => ⟨next_if_pos h rfl, next_if_pos h rfl⟩
  case dadRests =>
    intro h
    have h' : ¬ s.port.tentative.getLsbD n = true := by rw [show s.port.tentative.getLsbD n = false from h]; decide
    exact ⟨next_if_neg h' rfl, next_if_neg h' rfl⟩

/-- A wing whose PLL has locked (R44, R319, R340). -/
def Wing.pllMarked (x : Wing) : Wing :=
  { x with car := { x.car with pllLocked := true, lostTold := false, started := x.car.started || (x.awake && !x.car.started),
                               fine := x.car.fine || (x.awake && !x.car.started)
                               wakeReq := x.car.wakeReq || (x.car.started && !x.car.fine && decide (x.core.run = .running)) } }

/-- A wing whose VCO calibration has ended with the lock (R96). -/
def Wing.vcoSet (band : Nat) (x : Wing) : Wing := { x with rx := { x.rx with calVco := band, calReq := x.rx.calReq &&& 0b1011 } }

/-- A PLL that locks: its wing's time and VCO band, and the event where the loss was told. -/
theorem execPllLock_ready {w : WingId} {s : State} (hl : (s.wing w).car.pllLocked = false) (hr : s.dome.refLost = false)
    (hs : s.dome.mainGood = true ∨ (s.wing w).sys.watch = true) : ∃ band < 64, ∃ u : State, u.dome = s.dome ∧ u.cal = s.cal ∧ u.pending = s.pending ∧
      u.port = s.port ∧ (∀ v : WingId, v ≠ w → u.wing v = s.wing v) ∧ u.wing w = (let x := s.wing w
          { x with
            car := { x.car with pllLocked := true, lostTold := false, started := x.car.started || x.awake,
                                fine := x.car.fine || (x.awake && !x.car.started)
                                wakeReq := x.car.wakeReq || (x.car.started && !x.car.fine && decide (x.core.run = .running)) }
            rx := if x.awake then { x.rx with calVco := band, calReq := x.rx.calReq &&& 0b1011 } else x.rx }) ∧
      exec (.pllLock w) s = .next (if (s.wing w).car.lostTold then u.event 2 w 4 [] else u) := by
  have hnot : ¬ ((s.wing w).car.pllLocked || s.dome.refLost || !(s.dome.mainGood || (s.wing w).sys.watch)) = true := by
    rw [hl, hr, Bool.or_eq_true_iff.mpr hs]
    decide
  have hst : ∀ a b : Bool, (a || (b && !a)) = (a || b) := by decide
  refine ⟨(Config.freeValue s.free).toNat % 64, Nat.mod_lt _ (by decide), if (s.wing w).awake then ((s.modWing w Wing.pllMarked).draw.2).modWing w
    (Wing.vcoSet ((Config.freeValue s.free).toNat % 64)) else (s.modWing w Wing.pllMarked).draw.2, ?_⟩
  by_cases ha : (s.wing w).awake = true
  · rw [if_pos ha]
    refine ⟨rfl, rfl, rfl, rfl, fun v hv => ?_, ?_, next_if_neg hnot ?_⟩
    · exact (State.wing_modWing_other _ w v _ hv).trans (State.wing_modWing_other s w v _ hv)
    · rw [State.wing_modWing]
      change Wing.vcoSet _ ((s.modWing w Wing.pllMarked).wing w) = _
      rw [State.wing_modWing]
      simp only [Wing.vcoSet, Wing.pllMarked, hst, ha, if_true]
    · dsimp only
      rw [if_pos ha]
      rfl
  · rw [if_neg ha]
    refine ⟨rfl, rfl, rfl, rfl, fun v hv => State.wing_modWing_other s w v _ hv, ?_, next_if_neg hnot ?_⟩
    · refine (State.wing_modWing s w _).trans ?_
      simp only [Wing.pllMarked, hst, ha, Bool.false_eq_true, if_false]
    · dsimp only
      rw [if_neg ha]
      rfl

/-- Settles O10: the lock, the loss and the reference, each under its condition. -/
theorem reference : Obligations.Reference := by
  unfold Obligations.Reference
  intro s w x lost ready
  refine ⟨?lock, ?lockRests, fun h => next_if_pos h rfl, fun h => next_if_neg (by rw [show (s.wing w).car.pllLocked = false from h]; decide) rfl,
    fun h => next_if_neg (by rw [h]; decide) rfl, fun h => next_if_pos h rfl, rfl⟩
  case lock =>
    rintro ⟨hl, hr, hs⟩
    obtain ⟨band, hb, u, hdome, hcal, hpend, hport, hother, hwing, he⟩ := execPllLock_ready hl hr hs
    refine ⟨_, he, ?_⟩
    by_cases ht : x.car.lostTold = true
    · rw [if_pos ht]
      exact ⟨hdome, hcal, hpend, fun h => absurd (ht.symm.trans h) (by decide), hother, band, hb, hwing⟩
    · rw [if_neg ht]
      exact ⟨hdome, hcal, hpend, fun _ => hport, hother, band, hb, hwing⟩
  case lockRests =>
    intro h
    refine next_if_pos ?_ rfl
    refine Classical.byContradiction fun hc => ?_
    simp only [Bool.or_eq_true, not_or, Bool.not_eq_true, Bool.not_eq_true', Bool.not_eq_false] at hc
    obtain ⟨⟨hl, hr⟩, hs⟩ := hc
    exact h ⟨hl, hr, by simpa using hs⟩

end Sys2Proof.Machine

namespace Sys2Proof.Machine
open Sys2Proof

/-! SUPPORT. What the operations of a radio leave alone outside their wing: the other wings, the port, the queue, and the Dome and the calendar but for what the limiter
writes of backup RAM. -/

/-- The state without wing `w`, the words of backup RAM, the count of writes it refused, and the count of free values drawn. -/
def State.outside (w : Nat) (s : State) : State :=
  { s with wings := s.wings.set w {}, free := 0, dome := { s.dome with frozenWrites := 0 }, cal := { s.cal with bram := [] } }

/-- A fold keeps what each of its steps keeps. -/
theorem State.foldl_keeps {α β : Type} (g : State → β) {f : State → α → State} (h : ∀ t a, g (f t a) = g t) (l : List α) (s : State) :
    g (l.foldl f s) = g s := by
  induction l generalizing s with
  | nil => rfl
  | cons a l ih => exact (ih _).trans (h s a)

theorem State.forWings_keeps {β : Type} (g : State → β) {f : Nat → State → State} (h : ∀ w t, g (f w t) = g t) (s : State) : g (s.forWings f) = g s :=
  State.foldl_keeps g (fun t w => h w t) _ s

@[simp] theorem State.outside_setWing (s : State) (w : Nat) (x : Wing) : (s.setWing w x).outside w = s.outside w := by simp [State.outside, State.setWing]
@[simp] theorem State.outside_modWing (s : State) (w : Nat) (f : Wing → Wing) : (s.modWing w f).outside w = s.outside w :=
  State.outside_setWing s w _
@[simp] theorem State.outside_draw (s : State) (w : Nat) : s.draw.2.outside w = s.outside w := rfl
@[simp] theorem State.outside_raise (s : State) (w n : Nat) : (s.raise w n).outside w = s.outside w := State.outside_modWing s w _
@[simp] theorem State.outside_free (s : State) (w n : Nat) : ({ s with free := n } : State).outside w = s.outside w := rfl

@[simp] theorem State.outside_bramPut (w off : Nat) (os : Octets) (s : State) : (s.bramPut w off os).2.outside w = s.outside w := by
  unfold State.bramPut
  split <;> rfl

@[simp] theorem State.outside_charge (w k i us : Nat) (s : State) : (s.charge w k i us).2.outside w = s.outside w := by
  have h := State.outside_bramPut w (4 * i) (natLe 4 (s.limOpen w i + us)) s
  unfold State.charge
  split <;> (rename_i heq; rw [heq] at h; simpa using h)

@[simp] theorem State.outside_refund (w : Nat) (r : TxRun) (us : Nat) (s : State) : (s.refund w r us).2.outside w = s.outside w := by
  have hput : ∀ c : Bool, (if c = true then s.bramPut w (0x20 + 4 * r.sub) (natLe 4 (s.limPending w r.sub - us))
      else s.bramPut w (4 * r.sub) (natLe 4 (s.limOpen w r.sub - us))).2.outside w = s.outside w := by
    intro c
    split <;> exact State.outside_bramPut ..
  unfold State.refund
  dsimp only
  split
  · rfl
  · split <;> (rename_i heq; have h := hput r.aged; rw [heq] at h; simpa using h)

@[simp] theorem State.outside_settle (w : Nat) (r : TxRun) (used : Nat) (s : State) : (s.settle w r used).2.outside w = s.outside w := by
  have h := State.outside_refund w r (if r.kept then 0 else r.airtime - used) s
  unfold State.settle
  dsimp only
  split <;> (rename_i heq; rw [heq] at h; exact h)

@[simp] theorem State.outside_txEnd (w : Nat) (r : TxRun) (res : TxResult) (used : Nat) (s : State) : (s.txEnd w r res used).outside w = s.outside w  := by
  simp [State.txEnd]

@[simp] theorem State.outside_testEnd (w : Nat) (q : TestRun) (res : TxResult) (used : Nat) (s : State) : (s.testEnd w q res used).outside w = s.outside w  := by
  simp [State.testEnd]

@[simp] theorem State.outside_freeTime (w cap : Nat) (s : State) : (s.freeTime w cap).outside w = s.outside w := by
  unfold State.freeTime
  split <;> simp

@[simp] theorem State.outside_leaveListen (w : Nat) (s : State) : (s.leaveListen w).outside w = s.outside w := by
  unfold State.leaveListen
  dsimp only
  split
  · rfl
  · exact (State.outside_setWing ..).trans rfl

@[simp] theorem State.outside_sweep (w : Nat) (s : State) : (s.sweep w).outside w = s.outside w := State.outside_modWing s w _

@[simp] theorem State.outside_radioCut (w : Nat) (s : State) : (s.radioCut w).outside w = s.outside w := by
  unfold State.radioCut
  dsimp only
  (repeat' split) <;> simp

@[simp] theorem State.outside_radioOff (w : Nat) (s : State) : (s.radioOff w).outside w = s.outside w := by simp [State.radioOff]

section
variable {w : Nat} {s t : State} (h : t.outside w = s.outside w)
include h

theorem State.port_of_outside : t.port = s.port := by
  rw [show t.port = (t.outside w).port from rfl, h]
  rfl

theorem State.pending_of_outside : t.pending = s.pending := by
  rw [show t.pending = (t.outside w).pending from rfl, h]
  rfl

theorem State.dome_of_outside : { t.dome with frozenWrites := 0 } = { s.dome with frozenWrites := 0 } := congrArg State.dome h

theorem State.cal_of_outside : { t.cal with bram := [] } = { s.cal with bram := [] } := congrArg State.cal h

end

theorem State.wing_of_outside {w v : WingId} {s t : State} (h : t.outside w = s.outside w) (hv : v ≠ w) : t.wing v = s.wing v := by
  have hw : (t.outside w).wing v = (s.outside w).wing v := congrArg (fun u : State => u.wing v) h
  simpa [State.outside, State.wing, Oct.get_set_other _ _ _ _ hv] using hw

end Sys2Proof.Machine

namespace Sys2Proof.Machine
open Sys2Proof

/-! SUPPORT. The Dome through the resets of the wings and of the port, and the main supply (02). -/

@[simp] theorem State.raise_dome (w n : Nat) (s : State) : (s.raise w n).dome = s.dome := rfl

@[simp] theorem State.alarmMatch_dome (s : State) : s.alarmMatch.dome = s.dome := by
  unfold State.alarmMatch
  dsimp only
  split
  · rfl
  · refine State.forWings_keeps State.dome (fun w t => ?_) _
    split <;> rfl

@[simp] theorem State.applyCarry_dome (s : State) : s.applyCarry.dome = s.dome := by
  unfold State.applyCarry
  dsimp only
  split <;> simp

@[simp] theorem State.calRelease_dome (z : Bool) (s : State) : (s.calRelease z).dome = s.dome := by
  unfold State.calRelease
  dsimp only
  split <;> simp

@[simp] theorem State.calDrop_dome (p : Nat) (s : State) : (s.calDrop p).dome = s.dome := by
  unfold State.calDrop
  split <;> simp

@[simp] theorem State.emit_dome (n : Nat) (peer msg : Octets) (s : State) : (s.emit n peer msg).dome = s.dome := by
  unfold State.emit State.sendFrame
  (repeat' split) <;> rfl

@[simp] theorem State.reply_dome (q : WaitReq) (st : Status) (more : Bool) (body : Octets) (s : State) : (s.reply q st more body).dome = s.dome := by
  unfold State.reply State.replyCode
  dsimp only
  split
  · rfl
  · exact (State.emit_dome ..).trans rfl

@[simp] theorem State.answer_dome (w n : Nat) (st : Status) (body : Octets) (s : State) : (s.answer w n st body).dome = s.dome := by
  unfold State.answer
  split
  · rfl
  · exact State.reply_dome ..

@[simp] theorem State.refuseWaiting_dome (w : Nat) (s : State) : (s.refuseWaiting w).dome = s.dome :=
  (State.foldl_keeps State.dome (fun _ _ => State.reply_dome ..) _ _).trans (State.foldl_keeps State.dome (fun _ _ => State.answer_dome ..) _ s)

@[simp] theorem State.toState_dome (w : Nat) (st : WingState) (cause : Nat) (s : State) : (s.toState w st cause).dome = s.dome := by
  unfold State.toState
  split <;> rfl

@[simp] theorem State.closeSession_dome (n : Nat) (s : State) : (s.closeSession n).dome = s.dome := by
  unfold State.closeSession
  exact (State.forWings_keeps State.dome (fun _ _ => State.modWing_dome ..) _).trans rfl

@[simp] theorem State.portReset_dome (s : State) : s.portReset.dome = s.dome := by
  have h := State.foldl_keeps State.dome (f := fun t n => t.closeSession n) (fun t n => State.closeSession_dome n t) (List.range 8) s
  unfold State.portReset
  simp only [State.calDrop_dome, h]

@[simp] theorem State.portStart_dome (s : State) : s.portStart.dome = s.dome := State.portReset_dome s

/-- Entering RESET leaves the Dome, but for the writes of backup RAM that it refuses. -/
theorem State.enterReset_dome (w : Nat) (src : ResetSource) (s : State) :
    ({ (s.enterReset w src).dome with frozenWrites := 0 } : Dome) = { s.dome with frozenWrites := 0 } := by
  rw [State.enterReset, State.toState_dome]
  refine Eq.trans ?_ (State.dome_of_outside (State.outside_radioOff w s))
  exact congrArg (fun d : Dome => { d with frozenWrites := 0 }) ((State.refuseWaiting_dome ..).trans (State.calDrop_dome ..))

theorem State.resetWings_dome (keep : Option Nat) (src : ResetSource) (s : State) :
    ({ (s.resetWings keep src).dome with frozenWrites := 0 } : Dome) = { s.dome with frozenWrites := 0 } := by
  refine State.forWings_keeps (fun t : State => ({ t.dome with frozenWrites := 0 } : Dome)) (fun w t => ?_) s
  split
  · rfl
  · exact State.enterReset_dome w src t

/-- T_B silences the port (R46). -/
theorem State.brownoutBegin_powerFail (up wild : Bool) (vbak : Nat) {s : State} (h : s.dome.mainGood = true) :
    (s.brownoutBegin up vbak wild).port.powerFail = true := by
  unfold State.brownoutBegin
  rw [if_neg (by simp [h])]
  dsimp only
  refine Eq.trans (State.forWings_keeps (fun t : State => t.port.powerFail) ?_ _) ?_
  · intro w t
    split
    · rfl
    · exact congrArg Port.powerFail ((State.port_of_outside (State.outside_radioOff w (t.raise w 45))).trans rfl)
  · rfl

/-- A change of some wings, each by itself. -/
theorem State.wing_foldl_modWing (f : Nat → Wing → Wing) (v : WingId) (l : List Nat) (hl : l.Nodup) (hlt : ∀ a ∈ l, a < 8) (s : State) :
    (l.foldl (fun t w => t.modWing w (f w)) s).wing v = if v.val ∈ l then f v (s.wing v) else s.wing v := by
  induction l generalizing s with
  | nil => rfl
  | cons a l ih =>
    obtain ⟨ha, hnd⟩ := List.nodup_cons.mp hl
    rw [List.foldl_cons, ih hnd fun b hb => hlt b (List.mem_cons_of_mem a hb)]
    by_cases hv : v.val = a
    · subst hv
      rw [if_neg ha, if_pos List.mem_cons_self, State.wing_modWing]
    · have hother : (s.modWing a (f a)).wing v = s.wing v :=
        State.wing_modWing_other s ⟨a, hlt a List.mem_cons_self⟩ v _ fun he => hv (congrArg Fin.val he)
      simp only [hother, List.mem_cons, hv, false_or]

/-- A change of each wing by itself. -/
theorem State.wing_forWings_modWing (f : Nat → Wing → Wing) (v : WingId) (s : State) : (s.forWings (fun w t => t.modWing w (f w))).wing v = f v (s.wing v) := by
  refine (State.wing_foldl_modWing f v (List.range 8) List.nodup_range (fun _ => List.mem_range.mp) s).trans ?_
  rw [if_pos (List.mem_range.mpr v.isLt)]

end Sys2Proof.Machine

namespace Sys2Proof.Machine
open Sys2Proof

/-! SUPPORT. Main good, the brown-out and VCORE (02). -/

/-- Main good gives a Watch wing back to the main rails (R58). -/
def Wing.mainBack (x : Wing) : Wing :=
  if x.sys.watch then { x with sys := { x.sys with watch := false }, fls := { x.fls with blocked := false } } else x

@[simp] theorem Wing.mainBack_sys (x : Wing) : x.mainBack.sys = { x.sys with watch := false } := by
  unfold Wing.mainBack
  by_cases hw : x.sys.watch = true
  · rw [if_pos hw]
  · rw [if_neg hw]
    conv => rhs; rw [← Bool.eq_false_iff.mpr hw]

theorem Wing.mainBack_fls (x : Wing) : x.mainBack.fls = if x.sys.watch then { x.fls with blocked := false } else x.fls := by
  unfold Wing.mainBack
  split <;> rfl

@[simp] theorem Wing.mainBack_core (x : Wing) : x.mainBack.core = x.core := by
  unfold Wing.mainBack
  split <;> rfl

@[simp] theorem Wing.mainBack_sram (x : Wing) : x.mainBack.sram = x.sram := by
  unfold Wing.mainBack
  split <;> rfl

/-- An event changes the port only. -/
theorem State.event_eq (c w k : Nat) (d : Octets) (s : State) : s.event c w k d = { s with port := (s.event c w k d).port } := rfl

/-- The comparators leave everything but their own readings and the events. -/
theorem State.cellLook_eq (mv : Nat) (s : State) : ∃ v l e p,
    s.cellLook mv = { s with dome := { s.dome with vbak := v, cellLow := l, cellEmpty := e }, port := p } ∧ p.powerFail = s.port.powerFail := by
  unfold State.cellLook
  split
  · exact ⟨s.dome.vbak, s.dome.cellLow, s.dome.cellEmpty, s.port, rfl, rfl⟩
  · dsimp only
    split
    · exact ⟨mv, _, _, s.port, rfl, rfl⟩
    · exact ⟨mv, _, _, _, State.event_eq .., rfl⟩

/-- The state as main good makes it, before the comparators of VBAK read. -/
def State.mainUp (s : State) : State :=
  let d := s.dome
  ({ s with
    dome := { d with mainGood := true, vintQual := false, domePor := false, mode := .line, vcore := 900, vcoreRead := false, watchArmed := false,
                     bootsel := if d.bootselTaken then d.bootsel else d.bootselPins, bootselTaken := true }
    port := { s.port with powerFail := false }, cal := { s.cal with drive := false } } : State).forWings (fun w t => t.modWing w Wing.mainBack)

theorem State.mainUp_dome (s : State) : s.mainUp.dome = (let d := s.dome
    { d with mainGood := true, vintQual := false, domePor := false, mode := .line, vcore := 900, vcoreRead := false, watchArmed := false,
             bootsel := if d.bootselTaken then d.bootsel else d.bootselPins, bootselTaken := true }) :=
  State.forWings_keeps State.dome (fun _ _ => rfl) _

theorem State.mainUp_cal (s : State) : s.mainUp.cal = { s.cal with drive := false } := State.forWings_keeps State.cal (fun _ _ => rfl) _

theorem State.mainUp_port (s : State) : s.mainUp.port = { s.port with powerFail := false } := State.forWings_keeps State.port (fun _ _ => rfl) _

theorem State.mainUp_wing (s : State) (w : WingId) : s.mainUp.wing w = (s.wing w).mainBack := State.wing_forWings_modWing (fun _ => Wing.mainBack) w _

theorem execMainGoodReported_ok {vbak : Nat} {s : State} (hv : s.dome.vintQual = true) (hm : s.dome.mainGood = false) (hb : s.dome.brownout = false) :
    exec (.mainGoodReported vbak) s = .next (s.mainUp.cellLook vbak) := by
  refine next_if_neg (by rw [hv, hm, hb]; decide) ?_
  refine congrArg (State.cellLook vbak) (congrArg (fun f => State.forWings f _) ?_)
  funext w t
  unfold State.modWing Wing.mainBack
  dsimp only
  split
  · rfl
  · exact (State.setWing_wing t w).symm

/-- The Dome without the count of the writes of backup RAM that it refused. -/
def Dome.supply (d : Dome) : Dome := { d with frozenWrites := 0 }

theorem State.resetWings_supply (keep : Option Nat) (src : ResetSource) (s : State) : (s.resetWings keep src).dome.supply = s.dome.supply :=
  State.resetWings_dome keep src s

theorem rampOn_iff (d : Dome) : (d.mainGood || d.brownout || decide (d.mode = .watch) || decide (d.mode = .line)) = true ↔
    d.mainGood = true ∨ d.brownout = true ∨ d.mode = .watch ∨ d.mode = .line := by
  simp only [Bool.or_eq_true, decide_eq_true_eq, or_assoc]

/-- The end of the ramp from KEEP or DARK is a Dome power-on (log 30). -/
theorem execGateRampComplete_por {s : State} (h : s.dome.line = .ramp)
    (hon : ¬ (s.dome.mainGood = true ∨ s.dome.brownout = true ∨ s.dome.mode = .watch ∨ s.dome.mode = .line)) :
    Does .gateRampComplete s (fun t => t.dome.supply = ({ s.dome with
        line := .on, buck := true, domePor := true, bootselTaken := false, watchWing := 0xFF, watchReq := 0xFF, watchWait := [],
        refLost := false } : Dome).supply ∧ t.port.pairs = [] ∧ t.port.imageFinal = false ∧ t.pending = s.pending) := by
  refine ⟨_, next_if_neg (not_not_intro h) (if_neg (fun hc => hon ((rampOn_iff s.dome).mp hc))), ?_, rfl, rfl, ?_⟩
  · dsimp only
    rw [State.portStart_dome, State.resetWings_supply]
    rfl
  · dsimp only
    exact (State.portStart_kept _).2.trans (State.resetWings_kept ..).2

/-- T_B and a rail fault under main good (R43, R45, R46). -/
theorem State.brownoutBegin_does {up wild : Bool} {vbak : Nat} {s : State} (h : s.dome.mainGood = true) : let t := s.brownoutBegin up vbak wild
    t.dome.mainGood = false ∧ t.dome.vintQual = (up && s.dome.buck) ∧ t.dome.brownout = true ∧ t.dome.mode = s.dome.mode ∧
    t.dome.brownouts = (s.dome.brownouts + 1) % 2 ^ 32 ∧ t.dome.line = s.dome.line ∧ t.dome.buck = s.dome.buck ∧ t.port.powerFail = true ∧
    t.dome.railFaults = s.dome.railFaults := by
  have hd := (State.brownoutBegin_kept up wild vbak s h).1
  exact ⟨(congrArg Dome.mainGood hd :), (congrArg Dome.vintQual hd :), (congrArg Dome.brownout hd :), (congrArg Dome.mode hd :), (congrArg Dome.brownouts hd :),
    (congrArg Dome.line hd :), (congrArg Dome.buck hd :), State.brownoutBegin_powerFail up wild vbak h, (congrArg Dome.railFaults hd :)⟩

/-- The reset that ends a brown-out (R46, R48, R55, R57). -/
theorem execBrownoutReset_does {b : Bool} {s : State} (h : s.dome.brownout = true) :
    Does (.brownoutReset b) s (fun t => t.dome.supply = ({ s.dome with
        brownout := false, watchArmed := false, holdupShort := b, holdupShorts := if b then sat16 s.dome.holdupShorts else s.dome.holdupShorts
        mode := if s.watchKept.isSome then .watch else if s.dome.bpor then .dark else .keep } : Dome).supply ∧
      t.port.powerFail = true ∧ t.port.pairs = []) := by
  refine ⟨_, next_if_neg (by rw [h]; decide) rfl, ?_, rfl, rfl⟩
  dsimp only
  rw [State.portStart_dome]
  split
  · exact State.resetWings_supply ..
  · exact State.resetWings_supply ..

section
variable {step : Nat} {s : State}

/-- VCORE as R44 and R57 ask for it. -/
theorem execVcoreAdapt_gives {mv : Nat} (h : s.dome.mainGood = true ∨ s.dome.mode = .watch) (hv : s.vcoreAim step = mv) :
    exec (.vcoreAdapt step) s = .next { s with dome := { s.dome with vcore := mv, vcoreRead := true } } := by
  subst hv
  exact next_if_pos (by simpa using h) rfl

theorem any_wings (p : Wing → Bool) : ((List.range 8).map s.wing).any p = true ↔ ∃ w : WingId, p (s.wing w) = true := by
  simp only [List.any_map, List.any_eq_true, List.mem_range, Function.comp]
  exact ⟨fun ⟨n, hn, hp⟩ => ⟨⟨n, hn⟩, hp⟩, fun ⟨w, hp⟩ => ⟨w, w.isLt, hp⟩⟩

theorem any_fine : ((List.range 8).map s.wing).any (fun x => x.car.fine || x.car.wakeReq) = true ↔
    ∃ w : WingId, (s.wing w).car.fine = true ∨ (s.wing w).car.wakeReq = true := by
  rw [any_wings]
  simp only [Bool.or_eq_true]

theorem any_busy : ((List.range 8).map s.wing).any (fun x => x.awake && decide (x.core.run = .running)) = true ↔
    ∃ w : WingId, (s.wing w).awake = true ∧ (s.wing w).core.run = .running := by
  rw [any_wings]
  simp only [Bool.and_eq_true, decide_eq_true_eq]

end

/-- Settles O6: each command of the main supply under its condition. -/
theorem mainSupply : Obligations.MainSupply := by
  unfold Obligations.MainSupply
  intro s vbak b d on
  refine ⟨?rampRests, ?rampOn, ?rampPor, ?vint, ?vintRests, ?good, ?goodRests, ?brown, ?brownRests, ?reset, ?resetRests, fun step => ?vcore⟩
  case rampRests => exact fun h => next_if_pos h rfl
  case rampOn => exact fun h hon => next_if_neg (not_not_intro h) (if_pos ((rampOn_iff d).mpr hon))
  case rampPor =>
    intro h hon
    obtain ⟨t, ht, hd, hpairs, himage, hpend⟩ := execGateRampComplete_por h hon
    have hgood : d.mainGood = false := by
      rw [← Bool.not_eq_true]
      exact fun hm => hon (.inl hm)
    exact ⟨t, ht, (congrArg Dome.line hd :), (congrArg Dome.buck hd :), (congrArg Dome.domePor hd :), (congrArg Dome.mainGood hd :).trans hgood, (congrArg Dome.mode hd :),
      (congrArg Dome.brownouts hd :), hpairs, himage, hpend⟩
  case vint =>
    intro hb hm
    exact next_if_pos (by rw [show s.dome.buck = true from hb, show s.dome.mainGood = false from hm]; rfl) rfl
  case vintRests =>
    intro h
    refine next_if_neg ?_ rfl
    rw [Bool.and_eq_true, Bool.not_eq_true', Classical.not_and_iff_not_or_not, Bool.not_eq_true, Bool.not_eq_false]
    exact h
  case good =>
    intro hv hm hb
    refine ⟨_, execMainGoodReported_ok hv hm hb, ?_⟩
    obtain ⟨v, l, e, p, ht, hp⟩ := State.cellLook_eq vbak s.mainUp
    rw [ht]
    have hd := s.mainUp_dome
    refine ⟨(congrArg Dome.mainGood hd :), (congrArg Dome.vintQual hd :), (congrArg Dome.domePor hd :), (congrArg Dome.mode hd :), (congrArg Dome.vcore hd :),
      (congrArg Dome.bootselTaken hd :), (congrArg Dome.bootsel hd :), s.mainUp_cal, hp.trans (congrArg Port.powerFail s.mainUp_port), fun w => ?_⟩
    have hw : ∀ d' p', ({ s.mainUp with dome := d', port := p' } : State).wing w = (s.wing w).mainBack := fun _ _ => s.mainUp_wing w
    rw [hw]
    exact ⟨Wing.mainBack_sys _, Wing.mainBack_fls _, Wing.mainBack_core _, Wing.mainBack_sram _⟩
  case goodRests =>
    intro h
    refine next_if_pos ?_ rfl
    refine Classical.byContradiction fun hc => ?_
    simp only [Bool.not_eq_true', Bool.and_eq_false_iff, Bool.not_eq_false', not_or, Bool.not_eq_true, Bool.not_eq_false] at hc
    obtain ⟨⟨hv, hm⟩, hb⟩ := hc
    rcases h with h | h | h
    · exact absurd (hv.symm.trans h) (by decide)
    · exact absurd (hm.symm.trans h) (by decide)
    · exact absurd (hb.symm.trans h) (by decide)
  case brown =>
    intro hm
    simp only [List.forall_mem_cons, List.not_mem_nil, false_implies, implies_true, and_true]
    refine ⟨⟨_, rfl, State.brownoutBegin_does hm⟩, ⟨_, rfl, ?_⟩⟩
    simp only [decide_true, if_true]
    exact State.brownoutBegin_does (s := s.modDome (fun d => { d with railFaults := sat16 d.railFaults })) hm
  case brownRests =>
    intro h
    have hb : ∀ t : State, t.dome.mainGood = false → ∀ up, t.brownoutBegin up vbak b = t := fun t ht up => if_pos (by rw [ht]; rfl)
    exact ⟨congrArg Host.Outcome.next (hb s h false), congrArg Host.Outcome.next (hb (s.modDome (fun d => { d with railFaults := sat16 d.railFaults })) h true)⟩
  case reset =>
    intro h
    obtain ⟨t, ht, hd, hfail, hpairs⟩ := execBrownoutReset_does h
    exact ⟨t, ht, (congrArg Dome.brownout hd :), (congrArg Dome.watchArmed hd :), (congrArg Dome.holdupShort hd :), (congrArg Dome.holdupShorts hd :),
      (congrArg Dome.mode hd :), (congrArg Dome.brownouts hd :), hfail, hpairs⟩
  case resetRests => exact fun h => next_if_pos (by rw [show s.dome.brownout = false from h]; rfl) rfl
  case vcore =>
    intro gives adaptive fine busy
    refine ⟨fun hm hw ha => ?_, fun hm hw ha hf => ?_, fun hm hw ha hf hb => ?_, fun hm hw ha hf hb => ?_, fun hw => ?_, fun hm hw => ?_⟩
    · refine execVcoreAdapt_gives (.inl hm) ?_
      rw [State.vcoreAim, if_neg hw, if_pos (Classical.not_not.mp ha)]
    · refine execVcoreAdapt_gives (.inl hm) ?_
      rw [State.vcoreAim, if_neg hw, if_neg ha, if_pos (any_fine.mpr hf)]
    · refine execVcoreAdapt_gives (.inl hm) ?_
      rw [State.vcoreAim, if_neg hw, if_neg ha, if_neg (fun h => hf (any_fine.mp h)), if_pos (any_busy.mpr hb)]
    · refine execVcoreAdapt_gives (.inl hm) ?_
      rw [State.vcoreAim, if_neg hw, if_neg ha, if_neg (fun h => hf (any_fine.mp h)), if_neg (fun h => hb (any_busy.mp h))]
    · refine execVcoreAdapt_gives (.inr hw) ?_
      rw [State.vcoreAim, if_pos hw]
      exact ite_congr (propext (any_wings Wing.watchRaised)) (fun _ => rfl) (fun _ => rfl)
    · refine next_if_neg ?_ rfl
      simp only [Bool.or_eq_true, decide_eq_true_eq, not_or]
      exact ⟨by rw [show s.dome.mainGood = false from hm]; decide, hw⟩

end Sys2Proof.Machine

namespace Sys2Proof.Machine
open Sys2Proof

/-! SUPPORT. The backup domain (R50 to R53, R55, R58). -/

/-- The alarm match leaves backup RAM, the halt and the Dome. -/
theorem State.alarmMatch_keeps (s : State) : s.alarmMatch.cal.bram = s.cal.bram ∧ s.alarmMatch.cal.owner = s.cal.owner := by
  unfold State.alarmMatch
  dsimp only
  split
  · exact ⟨rfl, rfl⟩
  · have hstep : ∀ {β : Type} (g : Calendar → β) (w : Nat) (t : State), g (if (t.wing w).live then t.raise w 61 else t).cal = g t.cal := by
      intro β g w t
      split <;> rfl
    exact ⟨State.forWings_keeps (fun t => t.cal.bram) (fun w t => hstep Calendar.bram w t) _, State.forWings_keeps (fun t => t.cal.owner) (fun w t => hstep Calendar.owner w t) _⟩

theorem State.applyCarry_keeps (s : State) : s.applyCarry.cal.bram = s.cal.bram ∧ s.applyCarry.cal.owner = s.cal.owner := by
  unfold State.applyCarry
  dsimp only
  split
  · exact State.alarmMatch_keeps _
  · exact ⟨rfl, rfl⟩

/-- A halt that is released leaves nobody with it, and backup RAM as it was. -/
theorem State.calRelease_keeps (z : Bool) (s : State) : (s.calRelease z).cal.bram = s.cal.bram ∧ (s.calRelease z).cal.owner = none := by
  unfold State.calRelease
  dsimp only
  split
  · exact State.applyCarry_keeps _
  · exact ⟨rfl, rfl⟩

/-- CELL_EMPTY is set (R53). -/
theorem State.cellEmptied_eq (s : State) : ∃ p, s.cellEmptied = { s with dome := { s.dome with cellEmpty := true }, port := p } := by
  unfold State.cellEmptied
  split
  case isTrue h => exact ⟨s.port, by rw [← h]⟩
  case isFalse => exact ⟨_, State.event_eq ..⟩

/-- The write freeze (R51, R53, R360). -/
theorem execWriteFreeze_does {s : State} (h : s.dome.writeFrozen = false) :
    Does .writeFreeze s (fun t => t.dome = { s.dome with writeFrozen := true, cellEmpty := s.dome.cellEmpty || !s.dome.bpor } ∧
      t.cal.bram = s.cal.bram ∧ t.cal.owner = none) := by
  refine ⟨_, next_if_neg (by rw [h]; decide) rfl, ?_⟩
  have hrel : ∀ u : State, u.dome = { s.dome with writeFrozen := true, cellEmpty := s.dome.cellEmpty || !s.dome.bpor } → u.cal = s.cal →
      let t := if u.cal.owner.isSome then u.calRelease false else u
      t.dome = { s.dome with writeFrozen := true, cellEmpty := s.dome.cellEmpty || !s.dome.bpor } ∧ t.cal.bram = s.cal.bram ∧ t.cal.owner = none := by
    intro u hd hc
    dsimp only
    split
    case isTrue => exact ⟨(State.calRelease_dome ..).trans hd, (State.calRelease_keeps ..).1.trans (congrArg Calendar.bram hc), (State.calRelease_keeps ..).2⟩
    case isFalse ho => exact ⟨hd, congrArg Calendar.bram hc, by simpa using ho⟩
  dsimp only
  split
  case isTrue hb =>
    refine hrel _ ?_ rfl
    have hb' : s.dome.bpor = true := hb
    simp [State.modDome, hb']
  case isFalse hb =>
    have hb' : s.dome.bpor = false := by simpa [State.modDome] using hb
    obtain ⟨p, hp⟩ := State.cellEmptied_eq (s.modDome (fun d => { d with writeFrozen := true }))
    rw [hp]
    refine hrel _ ?_ rfl
    simp [State.modDome, hb']

/-- The comparators read, off the POR (R50). -/
theorem State.cellLook_seen {mv : Nat} {s : State} (h : s.dome.bpor = false) : let d := s.dome
    (s.cellLook mv).dome = { d with vbak := mv, cellLow := decide (mv < 2100) || (d.cellLow && decide (mv < 2200)),
                                    cellEmpty := d.cellEmpty || decide (mv < 2000) } ∧
    (s.cellLook mv).cal = s.cal ∧ (s.cellLook mv).wings = s.wings := by
  unfold State.cellLook
  rw [if_neg (by rw [h]; decide)]
  dsimp only
  split <;> exact ⟨rfl, rfl, rfl⟩

theorem State.cellLook_por {mv : Nat} {s : State} (h : s.dome.bpor = true) : s.cellLook mv = s := if_pos h

/-- What the limiters hold goes to backup RAM, and the time stays (R130). -/
theorem State.limFlush_outside (w : Nat) (s : State) : (s.limFlush w).outside w = s.outside w := by
  have hput : ∀ (t : State) off os (f : Wing → Wing),
      (match t.bramPut w off os with | (true, t) => t.modWing w f | (false, t) => t).outside w = t.outside w := by
    intro t off os f
    have h := State.outside_bramPut w off os t
    split <;> (rename_i heq; rw [heq] at h; simpa using h)
  unfold State.limFlush
  dsimp only
  split
  · exact (hput ..).trans (State.foldl_keeps (State.outside w) (fun t e => hput ..) _ s)
  · exact State.foldl_keeps (State.outside w) (fun t e => hput ..) _ s

theorem State.setOsf_dome (why : Nat) (s : State) : (s.setOsf why).dome = s.dome := by
  unfold State.setOsf
  dsimp only
  rw [State.event_dome]
  refine (State.forWings_keeps State.dome (fun w t => ?_) _).trans rfl
  split <;> rfl

theorem State.setOsf_cal (why : Nat) (s : State) : (s.setOsf why).cal = { s.cal with osf := true, osfLatch := List.range 8 } := by
  unfold State.setOsf
  dsimp only
  rw [State.event_cal]
  refine (State.forWings_keeps State.cal (fun w t => ?_) _).trans rfl
  split <;> rfl

/-- WATCH ends in KEEP, and the Watch wing enters RESET (R58). -/
theorem execWatchEnd_does {s : State} (h : s.dome.mode = .watch) :
    Does .watchEnd s (fun t => t.dome.supply = ({ s.dome with mode := .keep } : Dome).supply) := by
  refine ⟨_, next_if_neg (not_not_intro h) rfl, ?_⟩
  dsimp only
  refine Eq.trans (State.forWings_keeps (fun t : State => t.dome.supply) (fun w t => ?_) _) rfl
  split
  · exact State.enterReset_dome ..
  · rfl

/-- Settles O7: each command of the backup domain under its condition. -/
theorem backupDomain : Obligations.BackupDomain := by
  unfold Obligations.BackupDomain
  intro s mv d low empty seen
  refine ⟨?por, fun h => next_if_neg (by rw [show s.dome.bpor = true from h]; decide) rfl, fun h => next_if_pos h rfl,
    fun h => next_if_pos (by rw [show s.dome.bpor = false from h]; rfl) rfl, ?freeze, fun h => next_if_pos h rfl, ?unfreeze, ?unfreezeRests,
    ?sample, ?crossing, ?sampleRests, ?crossingRests, fun h => next_if_pos h rfl, ?watch⟩
  case por =>
    intro h
    refine ⟨_, next_if_neg (by rw [show s.dome.bpor = false from h]; decide) rfl, ?_⟩
    dsimp only
    rw [State.setOsf_dome, State.setOsf_cal]
    exact ⟨rfl, rfl, rfl, rfl, rfl, rfl⟩
  case freeze =>
    intro h
    obtain ⟨t, ht, hd, hb, ho⟩ := execWriteFreeze_does h
    exact ⟨t, ht, (congrArg Dome.writeFrozen hd :), hb, ho, (congrArg Dome.bpor hd :), (congrArg Dome.vbak hd :), (congrArg Dome.cellLow hd :), (congrArg Dome.cellEmpty hd :)⟩
  case unfreeze =>
    intro h hb
    refine ⟨_, next_if_neg (by rw [show s.dome.writeFrozen = true from h, show s.dome.bpor = false from hb]; decide) rfl, ?_⟩
    have hkeep : ∀ {β : Type} (g : State → β), (∀ w t, g (t.limFlush w) = g t) → ∀ t : State,
        g (t.forWings (fun w t => if (t.wing w).awake then t.limFlush w else t)) = g t := by
      intro β g hg t
      refine State.forWings_keeps g (fun w t => ?_) t
      split
      · exact hg w t
      · rfl
    refine ⟨(hkeep (fun t => t.dome.writeFrozen) (fun w t => ?_) _).trans rfl, (hkeep (fun t => t.dome.bpor) (fun w t => ?_) _).trans hb,
      (hkeep (fun t => t.cal.time) (fun w t => ?_) _).trans rfl⟩
    · exact (congrArg Dome.writeFrozen (State.dome_of_outside (State.limFlush_outside w t)) :)
    · exact (congrArg Dome.bpor (State.dome_of_outside (State.limFlush_outside w t)) :)
    · exact (congrArg Calendar.time (State.cal_of_outside (State.limFlush_outside w t)) :)
  case unfreezeRests =>
    intro h
    refine next_if_pos ?_ rfl
    rw [Bool.or_eq_true, Bool.not_eq_true']
    exact h
  case sample => exact fun hm hb => ⟨_, next_if_neg (by rw [show s.dome.mainGood = false from hm]; decide) rfl, State.cellLook_seen hb⟩
  case crossing => exact fun hm hb => ⟨_, next_if_pos hm rfl, State.cellLook_seen hb⟩
  case sampleRests =>
    intro h
    by_cases hm : s.dome.mainGood = true
    · exact next_if_pos hm rfl
    · exact next_if_neg hm (State.cellLook_por (h.resolve_left hm))
  case crossingRests =>
    intro h
    by_cases hm : s.dome.mainGood = true
    · exact next_if_pos hm (State.cellLook_por (h.resolve_left (by rw [show d.mainGood = true from hm]; decide)))
    · exact next_if_neg hm rfl
  case watch =>
    intro h
    obtain ⟨t, ht, hd⟩ := execWatchEnd_does h
    exact ⟨t, ht, (congrArg Dome.mode hd :), (congrArg Dome.bpor hd :), (congrArg Dome.line hd :), (congrArg Dome.mainGood hd :)⟩

end Sys2Proof.Machine

namespace Sys2Proof.Machine
open Sys2Proof

/-! SUPPORT. Lanes: one detection with every lane free, and the end of the PHR (R79 to R87). -/

/-- No detection is its own leakage. -/
theorem Plan.leaks_self (q : Plan) (d : Det) : q.leaks d d = false := by simp [Plan.leaks, Plan.adjacent]

/-- The detections of the last two symbols, noted. -/
def Wing.noteDet (t : Nat) (d : Det) (x : Wing) : Wing := { x with rx := { x.rx with recent := [(d.ch, d.rssi, t)] } }

section
variable {x : Wing} {t : Nat} {d : Det} (hl : x.rx.lanes = []) (hr : x.rx.recent = [])
include hl hr

/-- One detection that a watcher may not report leaves the wing. -/
theorem Wing.detect_unreported (h : x.rx.live.reports d = false) : x.detect t [d] = x := by
  have hx : ∀ r, x.rx.recent = r → ({ x with rx := { x.rx with recent := r } } : Wing) = x := by
    rintro _ rfl
    rfl
  have hf : ∀ p, x.rx.lanes.filter p = [] := fun p => by rw [hl]; rfl
  have hp : ∀ p, x.rx.recent.filter p = [] := fun p => by rw [hr]; rfl
  simp only [Wing.detect, hf, hp, List.filter, h, List.map, List.append_nil, List.any, List.foldl, List.foldr]
  exact hx [] hr

/-- One reported detection, with nothing to merge with. -/
theorem Wing.detect_one (h : x.rx.live.reports d = true) :
    x.detect t [d] = if x.chClass t d.ch = .closed then x.noteDet t d else (x.noteDet t d).assignLane t false d := by
  have hf : ∀ p, x.rx.lanes.filter p = [] := fun p => by rw [hl]; rfl
  have hp : ∀ p, x.rx.recent.filter p = [] := fun p => by rw [hr]; rfl
  have hc : ({ x with rx := { x.rx with recent := [(d.ch, d.rssi, t)] } } : Wing).chClass t d.ch = x.chClass t d.ch := rfl
  by_cases hcl : x.chClass t d.ch = .closed
  · simp [Wing.detect, hf, hp, h, Plan.leaks_self, hc, hcl, Wing.noteDet]
  · simp [Wing.detect, hf, hp, h, Plan.leaks_self, hc, hcl, Wing.noteDet, Wing.detInsert]

end

/-- With every lane free a detection takes lane 0. -/
theorem Wing.assignLane_free {x : Wing} {t : Nat} {d : Det} (merged : Bool) (hl : x.rx.lanes = []) : ∃ l : RLane,
    l.state = .seeking ∧ l.ch = d.ch ∧ l.prof = x.rx.live.profOf d.ch ∧ l.rssi = d.rssi ∧ l.det = t ∧ l.buf = none ∧ l.ovl = x.rx.ovl ∧
    l.prio = (x.chClass t d.ch).prio ∧ l.merged = merged ∧ l.preempted = false ∧ x.assignLane t merged d = x.setLane 0 l := by
  have hbusy : x.ofdmBusy = 0 := by simp [Wing.ofdmBusy, hl]
  have hfind : (List.range 16).find? (fun i => !(x.rlane i).busy) = some 0 := by simp [Wing.rlane, hl, RLane.busy, List.range, List.range.loop]
  let l : RLane :=
    { state := .seeking, ch := d.ch, prof := x.rx.live.profOf d.ch, prio := (x.chClass t d.ch).prio, rssi := d.rssi, det := t, merged := merged,
      ovl := x.rx.ovl, ackWin := match x.lnk.own with | none => false | some o => o.ch == d.ch && decide ((x.chClass t d.ch).prio = 2) }
  refine ⟨l, rfl, rfl, rfl, rfl, rfl, rfl, rfl, rfl, rfl, rfl, ?_⟩
  unfold Wing.assignLane
  dsimp only
  rw [hfind, hbusy]
  exact if_pos (by cases x.rx.live.phy (x.rx.live.profOf d.ch) == 3 <;> rfl)

theorem Wing.phrEnd_bad (x : Wing) (pick i len : Nat) (sw : Bool) : x.phrEnd pick i false sw len = (x.rxCount 3).setLane i {} := by
  unfold Wing.phrEnd
  exact if_pos rfl

theorem Wing.phrEnd_modeSwitch {x : Wing} {i : Nat} (pick len : Nat) (h : x.rx.live.phy (x.rlane i).prof < 2) :
    x.phrEnd pick i true true len = (x.rxCount 10).setLane i {} := by
  unfold Wing.phrEnd
  dsimp only
  rw [if_neg (by decide), if_pos (by rw [Bool.true_and, decide_eq_true_eq]; exact h)]

theorem Wing.phrEnd_long {x : Wing} {i len : Nat} {sw : Bool} (pick : Nat) (hsw : ¬ (sw = true ∧ x.rx.live.phy (x.rlane i).prof < 2))
    (hlen : 2 * x.bufWords < len) : x.phrEnd pick i true sw len = (x.rxCount 6).setLane i {} := by
  unfold Wing.phrEnd
  dsimp only
  rw [if_neg (by decide), if_neg (by rw [Bool.and_eq_true, decide_eq_true_eq]; exact hsw), if_pos hlen]

/-- The end of a PHR that takes a buffer, or finds none (R87). -/
theorem Wing.phrEnd_pick {x : Wing} {i len : Nat} {sw : Bool} (pick : Nat) (hsw : ¬ (sw = true ∧ x.rx.live.phy (x.rlane i).prof < 2)) (hlen : len ≤ 2 * x.bufWords) :
    let free := (List.range (x.reg 0xFF6022)).filter (fun b => !x.rx.held.contains b)
    (free = [] → x.phrEnd pick i true sw len = (x.rxCount 5).setLane i {}) ∧
    (free ≠ [] → ∃ b ∈ free, x.phrEnd pick i true sw len =
      { x with rx := { x.rx with held := x.rx.held ++ [b] } }.setLane i { x.rlane i with buf := some b, len := len }) := by
  have hsw' : ¬ (sw && decide (x.rx.live.phy (x.rlane i).prof < 2)) = true := by simpa using hsw
  intro free
  have hx : x.phrEnd pick i true sw len = match free[pick % max 1 free.length]? with
      | none => (x.rxCount 5).setLane i {}
      | some b => { x with rx := { x.rx with held := x.rx.held ++ [b] } }.setLane i { x.rlane i with buf := some b, len := len } := by
    unfold Wing.phrEnd
    dsimp only
    rw [if_neg (by decide), if_neg hsw', if_neg (Nat.not_lt.mpr hlen)] <;> rfl
  rw [hx]
  refine ⟨fun h => by rw [h]; rfl, fun h => ?_⟩
  have hpos : 0 < free.length := List.length_pos_iff.mpr h
  have hlt : pick % max 1 free.length < free.length := by
    rw [Nat.max_eq_right hpos]
    exact Nat.mod_lt _ hpos
  rw [List.getElem?_eq_getElem hlt]
  exact ⟨_, List.getElem_mem hlt, rfl⟩

/-- Settles O12: each event of a lane under its condition. -/
theorem lanes : Obligations.Lanes := by
  unfold Obligations.Lanes
  intro s w dt lane x y q
  refine ⟨?detect, ?unheard, ?sfd, fun h => next_if_pos h rfl, fun h => next_if_neg h rfl, ?phr⟩
  case detect =>
    intro d hy hl hr noted
    have hx : exec (.preambleDetection w dt [d]) s = .next (s.setWing w (y.detect y.now [d])) := next_if_pos hy rfl
    refine ⟨fun hw hf hc => ?_, fun hw hf hc => ?_, fun h => ?_⟩
    · have hrep : q.reports d = true := by simp [Plan.reports, hw, hf]
      obtain ⟨l, h1, h2, h3, h4, h5, h6, h7, h8, h9, h10, hl'⟩ := Wing.assignLane_free (x := y.noteDet y.now d) (t := y.now) (d := d) false hl
      rw [Wing.detect_one hl hr hrep, if_neg hc, hl'] at hx
      exact ⟨_, hx, l, h1, h2, h3, h4, h5, h6, h7, h8, h9, h10, rfl⟩
    · have hrep : q.reports d = true := by simp [Plan.reports, hw, hf]
      rw [Wing.detect_one hl hr hrep, if_pos hc] at hx
      exact hx
    · have hrep : q.reports d = false := by
        rcases h with h | h
        · simp [Plan.reports, h]
        · simp [Plan.reports, Int.not_le.mpr h]
      rw [Wing.detect_unreported hl hr hrep] at hx
      exact hx
  case unheard => exact fun ds h => next_if_neg (by rw [show (Wing.advance dt (s.wing w)).listening = false from h]; decide) rfl
  case sfd =>
    intro coded l
    refine ⟨fun h hf ho => ?_, fun h => ?_⟩
    · refine next_if_pos ?_ rfl
      rw [Bool.and_eq_true, decide_eq_true_eq]
      refine ⟨h, ?_⟩
      by_cases hp : q.phy l.prof < 2
      · rw [if_pos hp]
        simpa using hf hp
      · rw [if_neg hp]
        simpa using ho (Nat.not_lt.mp hp)
    · refine next_if_neg ?_ rfl
      rw [Bool.and_eq_true, decide_eq_true_eq]
      exact fun hc => h hc.1
  case phr =>
    intro ok sw len l gives fsk some'
    refine ⟨fun h => ?_, fun h hb hlen => ?_⟩
    · refine next_if_neg ?_ rfl
      rw [Bool.and_eq_true, decide_eq_true_eq]
      exact fun hc => h hc.1
    · have hgo : ((x.rlane lane).state = .receiving && (x.rlane lane).buf.isNone) = true := by
        rw [show (x.rlane lane).state = .receiving from h, show (x.rlane lane).buf = none from hb]
        rfl
      have hx : ∀ z, x.phrEnd s.draw.1.toNat lane ok sw len = z → gives z := by
        rintro _ rfl
        refine next_if_pos hgo ?_
        rw [Nat.mod_eq_of_lt hlen]
        rfl
      refine ⟨fun h1 => hx _ ?_, fun h1 h2 h3 => hx _ ?_, fun h1 h2 h3 => hx _ ?_, fun h1 h2 h3 h4 => hx _ ?_, fun h1 h2 h3 h4 => ?_⟩
      · subst h1
        exact Wing.phrEnd_bad ..
      · subst h1 h2
        exact Wing.phrEnd_modeSwitch _ _ h3
      · subst h1
        exact Wing.phrEnd_long _ h2 h3
      · subst h1
        refine (Wing.phrEnd_pick _ h2 h3).1 (List.filter_eq_nil_iff.mpr fun b hb hc => ?_)
        exact absurd (List.any_eq_true.mpr ⟨b, hb, hc⟩) (by rw [show List.any _ _ = false from h4]; decide)
      · subst h1
        obtain ⟨c, hc, hfree⟩ := List.any_eq_true.mp h4
        obtain ⟨b, hb, he⟩ := (Wing.phrEnd_pick s.draw.1.toNat h2 h3).2 (List.ne_nil_of_mem (List.mem_filter.mpr ⟨hc, hfree⟩))
        obtain ⟨hlt, hnot⟩ := List.mem_filter.mp hb
        exact ⟨b, List.mem_range.mp hlt, by simpa using hnot, hx _ he⟩

end Sys2Proof.Machine

namespace Sys2Proof.Machine
open Sys2Proof

/-! SUPPORT. The end of a frame, overload and the receive pool (R87 to R91). -/

/-- A write of octets changes SRAM only. -/
theorem Wing.putOctets_eq (a off : Nat) (os : Octets) (x : Wing) : ∃ m, x.putOctets a off os = { x with sram := m } := by
  induction os generalizing off x with
  | nil => exact ⟨x.sram, rfl⟩
  | cons o os ih =>
    unfold Wing.putOctets
    dsimp only
    obtain ⟨m, hm⟩ := ih (off + 1) _
    refine ⟨m, ?_⟩
    rw [hm, Wing.st_frame]

section
variable {s : State} {w : WingId} {lane : Nat} {psdu : Octets} {fcs4 : Bool} {mcs freq snr b : Nat} (hb : ((s.wing w).rlane lane).buf = some b)
include hb

/-- A frame with a wrong FCS that is not to be delivered (R88). -/
theorem State.frameEnd_badFcs (hd : bit ((s.wing w).reg 0xFF6000) 6 = false) : ∃ m, s.frameEnd w lane psdu false fcs4 mcs freq snr =
    s.setWing w (((({ s.wing w with sram := m } : Wing).setLane lane {}).rxCount 4).bufReturn b) := by
  obtain ⟨m, hm⟩ := Wing.putOctets_eq ((s.wing w).bufAddr b) 0 psdu (s.wing w)
  refine ⟨m, ?_⟩
  have hreg : ((({ s.wing w with sram := m } : Wing).setLane lane {}).rxCount 4).reg 0xFF6000 = (s.wing w).reg 0xFF6000 := rfl
  simp only [State.frameEnd, hb, hm, hreg, hd, Bool.false_and, Bool.not_false, if_true, Bool.false_eq_true, if_false]

/-- The acknowledgement that the wing awaits is held for its check (R164). -/
theorem State.frameEnd_ack (hw : ((s.wing w).rlane lane).ackWin = true) (hp : formatOk (psdu.take (psdu.length - (if fcs4 then 4 else 2))) = true)
    (ht : (parseMac (psdu.take (psdu.length - (if fcs4 then 4 else 2)))).typ = 2) (ho : (s.wing w).lnk.own.isSome = true) (hi : (s.wing w).lnk.ackIn = none) :
    ∃ m f, f.psdu = psdu.take (psdu.length - (if fcs4 then 4 else 2)) ∧ f.ch = ((s.wing w).rlane lane).ch ∧ f.prof = ((s.wing w).rlane lane).prof ∧
      f.endT = (s.wing w).endTs ((s.wing w).rlane lane) mcs psdu.length ∧
      s.frameEnd w lane psdu true fcs4 mcs freq snr = s.setWing w
        (let x := ({ s.wing w with sram := m } : Wing).setLane lane {}
         { x with lnk := { x.lnk with seq := (x.lnk.seq + 1) % 65536, ackIn := some f } }) := by
  obtain ⟨m, hm⟩ := Wing.putOctets_eq ((s.wing w).bufAddr b) 0 psdu (s.wing w)
  have hc : (((s.wing w).rlane lane).ackWin && formatOk (psdu.take (psdu.length - (if fcs4 then 4 else 2))) &&
      decide ((parseMac (psdu.take (psdu.length - (if fcs4 then 4 else 2)))).typ = 2) && (s.wing w).lnk.own.isSome && (s.wing w).lnk.ackIn.isNone) = true := by
    rw [hw, hp, decide_eq_true ht, ho, hi]
    rfl
  unfold State.frameEnd
  simp only [hb, hm]
  refine ⟨m, _, ?_, ?_, ?_, ?_, if_pos hc⟩ <;> rfl

end

/-- An overload marks itself, its lanes and its count (R91). -/
def Wing.ovlMark (x : Wing) : Wing :=
  { x with rx := { x.rx with ovl := true, ovlPeriod := true, lanes := x.rx.lanes.map (fun (e : Nat × RLane) => (e.1, { e.2 with ovl := true })) } }.rxCount 8

/-- The first overload since OVL_SEEN was cleared notes its tick and raises its source. -/
theorem Wing.overloadStart_first {x : Wing} (h : x.rx.ovlSeen = false) : x.overloadStart =
    ({ x.ovlMark with rx := { x.ovlMark.rx with ovlSeen := true, ovlFirst := x.car.tb } } : Wing).raise 48 := by
  have hn : ¬ x.ovlMark.rx.ovlSeen = true := Bool.eq_false_iff.mp h
  exact if_neg hn

theorem Wing.overloadStart_later {x : Wing} (h : x.rx.ovlSeen = true) : x.overloadStart = x.ovlMark := by
  have hp : x.ovlMark.rx.ovlSeen = true := h
  exact if_pos hp

/-- The start of an overload (R91). -/
theorem Wing.overloadStart_marks (y : Wing) : let z := y.overloadStart
    z.rx.ovl = true ∧ z.rx.ovlPeriod = true ∧ z.rx.ovlSeen = true ∧ z.core = y.core ∧
    z.cnt 0xFF601B = tget 0 (tmod 0 0xFF601B sat16 y.cnt16) 0xFF601B ∧
    (y.rx.ovlSeen = false → z.rx.ovlFirst = y.car.tb ∧ z.doc.pend.getLsbD 48 = true) ∧
    (y.rx.ovlSeen = true → z.rx.ovlFirst = y.rx.ovlFirst ∧ z.doc = y.doc) := by
  cases h : y.rx.ovlSeen
  · rw [Wing.overloadStart_first h]
    refine ⟨rfl, rfl, rfl, rfl, rfl, fun _ => ⟨rfl, ?_⟩, fun hf => absurd hf (by decide)⟩
    simp [Wing.raise, Docent.raise]
  · rw [Wing.overloadStart_later h]
    exact ⟨rfl, rfl, h, rfl, rfl, fun hf => absurd hf (by decide), fun _ => ⟨rfl, rfl⟩⟩

/-- Settles O13: the frame's end, the overload's start and end, and the pool. -/
theorem frameEnd : Obligations.FrameEnd := by
  unfold Obligations.FrameEnd
  intro s w dt lane psdu fcsOk fcs4 mcs freq snr x y l
  refine ⟨?ends, ?endRests, ?ovlRests, ?ovl, rfl, ?pool⟩
  case ends =>
    intro hs hlen hy
    have he : exec (.frameEnd w lane psdu fcsOk fcs4 mcs freq snr dt) s =
        .next ((s.setWing w y).frameEnd w lane psdu fcsOk fcs4 mcs.toNat freq.toNat snr.toNat) := by
      refine next_if_pos ?_ rfl
      simp only [Bool.and_eq_true, decide_eq_true_eq]
      exact ⟨⟨hs, hlen⟩, hy⟩
    have hw : (s.setWing w y).wing w = y := State.wing_setWing s w y
    refine ⟨he, fun b hb hf hd => ?_, ?_⟩
    · subst hf
      obtain ⟨m, hm⟩ := State.frameEnd_badFcs (s := s.setWing w y) (w := w) (lane := lane.val) (psdu := psdu) (fcs4 := fcs4) (mcs := mcs.toNat)
        (freq := freq.toNat) (snr := snr.toNat) (by rw [hw]; exact hb) (by rw [hw]; exact hd)
      refine ⟨_, he.trans (congrArg _ hm), _, State.setWing_setWing s w _ _, ?_⟩
      rw [hw]
      exact ⟨rfl, rfl, rfl, rfl, rfl⟩
    · intro b hb hf ha p hp ht ho hi
      subst hf
      obtain ⟨m, f, h1, h2, h3, h4, hm⟩ := State.frameEnd_ack (s := s.setWing w y) (w := w) (lane := lane.val) (psdu := psdu) (fcs4 := fcs4) (mcs := mcs.toNat)
        (freq := freq.toNat) (snr := snr.toNat) (by rw [hw]; exact hb) (by rw [hw]; exact ha) (by rw [hlen]; exact hp) (by rw [hlen]; exact ht)
        (by rw [hw]; exact ho) (by rw [hw]; exact hi)
      rw [hw] at h2 h3 h4
      rw [hlen] at h1 h4
      refine ⟨_, he.trans (congrArg _ hm), _, f, State.setWing_setWing s w _ _, ?_⟩
      rw [hw]
      exact ⟨rfl, h1, h2, h3, h4, rfl, rfl, rfl, rfl⟩
  case endRests =>
    intro h
    refine next_if_neg ?_ rfl
    simp only [Bool.and_eq_true, decide_eq_true_eq, and_assoc]
    exact h
  case ovlRests =>
    intro h
    refine next_if_neg ?_ rfl
    rw [Bool.and_eq_true, decide_eq_true_eq, Bool.not_eq_true', Classical.not_and_iff_not_or_not, Bool.not_eq_false]
    exact h
  case ovl =>
    intro hr ho
    exact ⟨_, next_if_pos (by rw [decide_eq_true hr, ho]; rfl) rfl, _, rfl, Wing.overloadStart_marks y⟩
  case pool =>
    intro v h i
    refine next_if_pos h (congrArg (s.setWing w) ?_)
    exact ite_congr (propext List.contains_iff_mem) (fun _ => rfl) (fun _ => rfl)

end Sys2Proof.Machine

namespace Sys2Proof.Machine
open Sys2Proof

/-! SUPPORT. What a radio transition and the end of LISTEN change of a wing, and the calibrations (R96 to R99, R107, R362). -/

/-- Counts of the receiver's registers move, and nothing else. -/
theorem Wing.iter_rxCount (i n : Nat) (x : Wing) : ∃ c d, iter n (Wing.rxCount i) x = { x with cnt16 := c, cnt32 := d } := by
  induction n generalizing x with
  | zero => exact ⟨x.cnt16, x.cnt32, rfl⟩
  | succ n ih =>
    obtain ⟨c, d, h⟩ := ih (x.rxCount i)
    exact ⟨c, d, h⟩

/-- The wing's time moves on, and nothing else (R318). -/
theorem Wing.advance_eq (dt : Nat) (x : Wing) : ∃ tb, x.advance dt = { x with car := { x.car with tb := tb } } := by
  unfold Wing.advance
  split
  · exact ⟨_, rfl⟩
  · exact ⟨x.car.tb, rfl⟩

theorem Wing.reach_eq (t : Nat) (x : Wing) : ∃ tb, x.reach t = { x with car := { x.car with tb := tb } } := Wing.advance_eq (t - x.now) x

/-- A transition begins: the receiver heads for the state, FEM pins, plan and gain may follow (R75, R92, R107), and counts may move. -/
theorem Wing.radioTo_eq (r : RadioState) (x : Wing) : ∃ fem plan live step quiet per c d, x.radioTo r =
    { x with rx := { x.rx with going := some r, fem := fem, plan := plan, live := live, step := step, quiet := quiet, ovlPeriod := per },
             cnt16 := c, cnt32 := d } := by
  cases r with
  | listen =>
    let y : Wing := ({ x with rx := { x.rx with going := some .listen } } : Wing).agc
    let p := y.rx.plan.recheck y.band
    obtain ⟨c, d, h⟩ := Wing.iter_rxCount 11 p.1 { y with rx := { y.rx with plan := p.2, live := p.2 } }
    exact ⟨_, _, _, _, _, _, c, d, congrArg (Wing.setFem (bits (x.reg 0xFF7002) 7 4)) h⟩
  | standby => exact ⟨_, _, _, _, _, _, x.cnt16, x.cnt32, rfl⟩
  | off => exact ⟨_, _, _, _, _, _, x.cnt16, x.cnt32, rfl⟩
  | tx => exact ⟨_, _, _, _, _, _, x.cnt16, x.cnt32, rfl⟩
  | cal => exact ⟨_, _, _, _, _, _, x.cnt16, x.cnt32, rfl⟩

/-- Lanes dropped with their buffers change the lanes and the buffers held. -/
theorem Wing.dropLanes_eq (l : List (Nat × RLane)) (x : Wing) :
    ∃ lanes held, l.foldl (fun (y : Wing) (e : Nat × RLane) => y.dropLane e.1) x = { x with rx := { x.rx with lanes := lanes, held := held } } := by
  induction l generalizing x with
  | nil => exact ⟨x.rx.lanes, x.rx.held, rfl⟩
  | cons e l ih =>
    obtain ⟨lanes, held, h⟩ := ih (x.dropLane e.1)
    refine ⟨lanes, held, h.trans ?_⟩
    unfold Wing.dropLane
    dsimp only
    split <;> rfl

/-- The end of LISTEN changes lanes, buffers and gain of the receiver and counts of its wing, and draws free values (R92, R153). -/
theorem State.leaveListen_eq (w : WingId) (s : State) : ∃ k lanes held quiet noise recent c d, s.leaveListen w =
    ({ s with free := k } : State).setWing w { s.wing w with
      rx := { (s.wing w).rx with lanes := lanes, held := held, quiet := quiet, noise := noise, recent := recent }, cnt16 := c, cnt32 := d } := by
  unfold State.leaveListen
  dsimp only
  split
  · exact ⟨s.free, _, _, _, _, _, _, _, (State.setWing_wing s w).symm⟩
  · obtain ⟨lanes, held, h⟩ := Wing.dropLanes_eq (s.wing w).rx.lanes (s.wing w)
    obtain ⟨c, d, h'⟩ := Wing.iter_rxCount 7 ((s.wing w).rx.lanes.filter (fun (e : Nat × RLane) => decide (e.2.state = .receiving))).length
      { s.wing w with rx := { (s.wing w).rx with lanes := lanes, held := held } }
    simp only [h, h']
    exact ⟨_, _, _, _, _, _, _, _, rfl⟩

/-- A change of one wing and of the free values drawn leaves the rest of the device. -/
theorem State.setWing_alone (s : State) (k : Nat) (w : WingId) (z : Wing) : let t := ({ s with free := k } : State).setWing w z
    t.dome = s.dome ∧ t.cal = s.cal ∧ t.port = s.port ∧ ∀ v : WingId, v ≠ w → t.wing v = s.wing v :=
  ⟨rfl, rfl, rfl, fun v hv => State.wing_setWing_other { s with free := k } w v z hv⟩

/-- A foreground calibration that is due and may start (R96, R98). -/
theorem calDue_iff {x : Wing} {k : Fin 4} : (((k.val != 2 && (x.rx.calDue ||| x.rx.calReq).getLsbD k) &&
      (x.rx.calRun.isNone && x.rx.going.isNone && x.tx.run.isNone && !x.tx.test && x.isRunning)) = true) ↔
    (k ≠ 2 ∧ (x.rx.calDue ||| x.rx.calReq).getLsbD k = true ∧ x.rx.calRun = none ∧ x.rx.going = none ∧ x.tx.run = none ∧
        x.tx.testRun = none ∧ x.isRunning = true) := by
  simp only [Transmitter.test, Bool.and_eq_true, bne_iff_ne, ne_eq, Option.isNone_iff_eq_none, Bool.not_eq_true', Option.isSome_eq_false_iff, and_assoc]
  rw [show k.val = 2 ↔ k = 2 from ⟨fun h => Fin.ext h, fun h => h ▸ rfl⟩]

theorem calUs_eq (k : Fin 4) : calUs k = if k.val = 0 then 1600 else if k.val = 1 then 300 else 50 := by
  revert k
  decide

/-- TRIM follows the measurement of the wing that the trim names (R362). -/
theorem State.trimRefresh_of_running {s : State} {x : Wing} (hx : s.wing s.cal.trimWing = x) (hm : 2 ≤ s.cal.trimMode) (hr : x.isRunning = true)
    (hd : x.rx.lfDone = true) (hl : s.dome.mode = .line) : s.trimRefresh =
    { s with cal := { s.cal with
      trim := max (-32000) (min 32000 (if s.cal.trimMode = 2 then x.rx.calLf else x.rx.calLf + x.rx.calRef)) } } := by
  have hok : (decide (x.sys.state = .running) && x.rx.lfDone && decide (s.dome.mode = .line)) = true := by
    rw [hd, show decide (x.sys.state = .running) = true from hr, hl]
    rfl
  unfold State.trimRefresh
  simp only [hx, hok, if_true]
  obtain h2 | ⟨n, hn⟩ : s.cal.trimMode = 2 ∨ ∃ n, s.cal.trimMode = n + 3 := by
    rcases Nat.lt_or_ge 2 s.cal.trimMode with h | h
    · exact .inr ⟨s.cal.trimMode - 3, by omega⟩
    · exact .inl (by omega)
  · simp [h2]
  · simp [hn]

theorem toSigned_toNat (e : Word) : toSigned 16 e.toNat = e.toInt := by
  unfold toSigned
  rw [BitVec.toInt_eq_toNat_cond]
  have := e.isLt
  split <;> split <;> omega

theorem ite_takes {α : Type} (c : Prop) [Decidable c] (a b : α) : (if c then a else b) = a ∨ (if c then a else b) = b := by
  by_cases h : c
  · exact .inl (if_pos h)
  · exact .inr (if_neg h)

/-- A calibration's end: the wing, its results, and the state that the radio leaves CAL for (R99). -/
theorem State.calComplete_eq {s : State} {w : WingId} {k : Fin 4} {ok : Bool} {v : Octet} (hk : k ≠ 2) (hr : (s.wing w).rx.calRun = some k.val) :
    ∃ (y : Wing) (r : RadioState), exec (.calibrationComplete w k ok v) s = .next (s.draw.2.setWing w ((y.raiseIf (!ok) 49).radioTo r)) ∧
      (r = .listen ∨ r = .standby) ∧ y.core = (s.wing w).core ∧ y.doc = (s.wing w).doc ∧
      y.rx.calRun = none ∧ y.rx.calDeferred = false ∧
      y.rx.calReq = (s.wing w).rx.calReq &&& ~~~ BitVec.twoPow 4 k.val ∧ y.rx.calDue = (s.wing w).rx.calDue &&& ~~~ BitVec.twoPow 4 k.val ∧
      y.rx.calIr = (if ok = true ∧ k = 0 then v.toNat else (s.wing w).rx.calIr) ∧
      y.rx.calFilt = (if ok = true ∧ k = 1 then v.toNat else (s.wing w).rx.calFilt) ∧
      y.rx.calOffs = (if ok = true ∧ k = 3 then v.toNat else (s.wing w).rx.calOffs) ∧
      y.rx.calFail = (if ok then (s.wing w).rx.calFail else (s.wing w).rx.calFail ||| (if k = 0 then 1 else if k = 1 then 2 else 4)) := by
  obtain ⟨tb, ht⟩ := Wing.reach_eq (s.wing w).rx.calEnd (s.wing w)
  refine ⟨_, _, next_if_neg hk (if_pos hr), ?_, ?_⟩
  · exact ite_takes _ _ _
  rw [ht]
  match ok, k, hk with
  | false, 0, _ | false, 1, _ | false, 3, _ | true, 0, _ | true, 1, _ | true, 3, _ => exact ⟨rfl, rfl, rfl, rfl, rfl, rfl, rfl, rfl, rfl, rfl⟩

/-- Settles O14: requests and triggers, the deferral, the start and the end of a run, and the background results. -/
theorem calibrations : Obligations.Calibrations := by
  unfold Obligations.Calibrations
  intro s w x gives lasts alone
  refine ⟨fun v => ⟨?req, ?reqAsleep⟩, fun f => ⟨?temp, ?tempRests⟩, ?defer, ?deferRests, fun k => ⟨?standby, ?listen, ?startRests⟩, ?complete,
    ?completeRests, ?vco, ?background, ?backgroundRests, fun e => ⟨?lf, ?lfTrim, ?lfRests⟩⟩
  case req =>
    intro ha
    refine next_if_pos ha (congrArg (fun q => s.setWing w { x with rx := { x.rx with calReq := x.rx.calReq ||| q } }) ?_)
    exact BitVec.ofNat_toNat 4 v
  case reqAsleep => exact fun ha => next_if_neg (Bool.eq_false_iff.mp ha) rfl
  case temp =>
    rintro ⟨hs, ht⟩
    refine next_if_pos ?_ rfl
    rw [Bool.and_eq_true, Bool.or_eq_true, decide_eq_true_eq, decide_eq_true_eq]
    exact ⟨hs.imp decide_eq_true id, Nat.pos_of_ne_zero ht⟩
  case tempRests =>
    refine fun hn => next_if_neg (fun hc => hn ?_) rfl
    rw [Bool.and_eq_true, Bool.or_eq_true, decide_eq_true_eq, decide_eq_true_eq] at hc
    exact ⟨hc.1.imp of_decide_eq_true id, Nat.pos_iff_ne_zero.mp hc.2⟩
  case defer =>
    intro hd hr
    exact next_if_pos (by rw [decide_eq_true hd, show (s.wing w).rx.calRun = none from hr]; rfl) rfl
  case deferRests =>
    refine fun h => next_if_neg (fun hc => ?_) rfl
    rw [Bool.and_eq_true, decide_eq_true_eq, Option.isNone_iff_eq_none] at hc
    exact h.elim hc.1 (fun hr => hr hc.2)
  case standby =>
    intro due hs hg
    have hl : decide (x.rx.radio = .listen) = false := by rw [hs]; rfl
    have hu : s.leaveListen w = s := if_pos (by rw [show (s.wing w).rx.radio = .standby from hs]; decide)
    refine next_if_pos ?_ ?_
    · rw [Bool.and_eq_true]
      refine ⟨calDue_iff.mpr due, ?_⟩
      rw [calUs_eq k, show (s.wing w).rx.radio = .standby from hs]
      exact Bool.or_eq_true_iff.mpr (.inl hg)
    · dsimp only
      rw [hu]
      refine congrArg (s.setWing w) ?_
      rw [show decide ((s.wing w).rx.radio = .listen) = false from hl, calUs_eq k]
      exact congrArg (fun (q : RadioState) => { x with
        rx := { x.rx with calRun := some k.val, calFrom := q, calEnd := x.now + us (2 + lasts k), going := some .cal } }) hs
  case listen =>
    intro due hl hd ht hv
    have hvs : (s.wing w).lnk.wins.any (fun v => !v.search) = false := by
      rw [List.any_eq_false]
      intro v hm
      rw [hv v hm]
      decide
    have hlost : (decide ((s.wing w).rx.radio = .listen) && (s.wing w).rx.calDeferred && !(s.wing w).lnk.txSlot &&
        !(s.wing w).lnk.wins.any (fun v => !v.search)) = true := by
      rw [hvs, show (s.wing w).rx.radio = .listen from hl, show (s.wing w).rx.calDeferred = true from hd, show (s.wing w).lnk.txSlot = false from ht]
      rfl
    refine ⟨_, next_if_pos ?_ rfl, ?_⟩
    · rw [Bool.and_eq_true, Bool.or_eq_true]
      exact ⟨calDue_iff.mpr due, .inr hlost⟩
    · dsimp only
      rw [hlost, calUs_eq k]
      obtain ⟨n, lanes, held, quiet, noise, recent, c, d, hu⟩ := State.leaveListen_eq w s
      rw [hu]
      simp only [if_true, State.modWing, State.setWing_setWing, State.wing_setWing]
      exact ⟨State.setWing_alone s n w _, rfl, hl, rfl, rfl, rfl⟩
  case startRests =>
    refine fun hn => next_if_neg (fun hc => hn ?_) rfl
    rw [Bool.and_eq_true] at hc
    exact calDue_iff.mp hc.1
  case complete =>
    intro k ok v hk hr
    obtain ⟨y, r, he, hto, hcore, hdoc, hrun, hdef, hreq, hdue, hir, hfilt, hoffs, hfail⟩ := State.calComplete_eq (ok := ok) (v := v) hk hr
    obtain ⟨fem, plan, live, step, quiet, per, c, d, hz⟩ := Wing.radioTo_eq r (y.raiseIf (!ok) 49)
    rw [hz] at he
    refine ⟨_, he, State.setWing_alone s (s.free + 1) w _, _, State.wing_setWing _ w _, ?_⟩
    have hy : (y.raiseIf (!ok) 49).rx = y.rx ∧ (y.raiseIf (!ok) 49).core = y.core := by cases ok <;> exact ⟨rfl, rfl⟩
    dsimp only
    rw [hy.1, hy.2]
    refine ⟨hrun, hdef, hreq, hdue, hir, hfilt, hoffs, ?_, hfail, ?_, hto.imp (congrArg some) (congrArg some), hcore⟩
    · rintro rfl
      simp [Wing.raiseIf, Wing.raise, Docent.raise]
    · rintro rfl
      exact hdoc
  case completeRests =>
    rintro k ok v (⟨hk, hr⟩ | ⟨rfl, ha⟩)
    · exact next_if_neg hk (if_neg hr)
    · exact next_if_pos rfl (if_neg (Bool.eq_false_iff.mp ha))
  case vco => exact fun v ha => ⟨next_if_pos rfl (if_pos ha), next_if_pos rfl (if_pos ha)⟩
  case background =>
    intro v hl hg
    have hon : (s.wing w).listening = true := by
      unfold Wing.listening
      rw [show (s.wing w).rx.radio = .listen from hl, show (s.wing w).rx.going = none from hg]
      rfl
    exact ⟨next_if_pos hon rfl, next_if_pos hon rfl⟩
  case backgroundRests =>
    refine fun b v h => next_if_neg (fun hc => ?_) rfl
    rw [Wing.listening, Bool.and_eq_true, decide_eq_true_eq, Option.isNone_iff_eq_none] at hc
    exact h.elim (fun h => h hc.1) (fun h => h hc.2)
  case lf =>
    rintro ⟨ha, hp, hd⟩ htrim
    refine (next_if_pos ?_ rfl).trans (congrArg Host.Outcome.next ?_)
    · rw [Bool.and_eq_true, Bool.and_eq_true, Bool.or_eq_true, Bool.not_eq_true', decide_eq_true_eq]
      exact ⟨⟨ha, hp⟩, hd⟩
    · dsimp only
      rw [toSigned_toNat]
      refine if_neg (fun hc => ?_)
      rw [Bool.and_eq_true, decide_eq_true_eq, decide_eq_true_eq] at hc
      exact htrim.elim (Nat.not_lt.mpr hc.1) (fun h => h hc.2)
  case lfTrim =>
    rintro ⟨ha, hp, hd⟩ hm hw hr hl
    refine (next_if_pos ?_ rfl).trans (congrArg Host.Outcome.next ?_)
    · rw [Bool.and_eq_true, Bool.and_eq_true, Bool.or_eq_true, Bool.not_eq_true', decide_eq_true_eq]
      exact ⟨⟨ha, hp⟩, hd⟩
    · dsimp only
      rw [toSigned_toNat]
      refine (if_pos ?_).trans ?_
      · rw [Bool.and_eq_true, decide_eq_true_eq, decide_eq_true_eq]
        exact ⟨hm, hw⟩
      have ht : (s.setWing w { s.wing w with rx := { (s.wing w).rx with calLf := e.toInt, lfDone := true } }).wing s.cal.trimWing =
          { s.wing w with rx := { (s.wing w).rx with calLf := e.toInt, lfDone := true } } := by
        rw [hw]
        exact State.wing_setWing s w _
      exact State.trimRefresh_of_running ht hm hr rfl hl
  case lfRests =>
    refine fun hn => next_if_neg (fun hc => hn ?_) rfl
    rw [Bool.and_eq_true, Bool.and_eq_true, Bool.or_eq_true, Bool.not_eq_true', decide_eq_true_eq] at hc
    exact ⟨hc.1.1, hc.1.2, hc.2⟩

end Sys2Proof.Machine

namespace Sys2Proof.Machine
open Sys2Proof

/-! SUPPORT. The radio's transitions, its wake-up and the listen windows (R107, R108, R153). -/

/-- A finished transition puts its state in force (R107). -/
theorem Wing.radioDone_eq {x : Wing} {r : RadioState} (h : x.rx.going = some r) :
    ∃ fem, x.radioDone = { x with rx := { x.rx with radio := r, going := none, fem := fem } } := by
  unfold Wing.radioDone
  rw [h]
  cases r with
  | off => exact ⟨_, rfl⟩
  | cal =>
    dsimp only
    split
    · exact ⟨_, rfl⟩
    · exact ⟨x.rx.fem, rfl⟩
  | standby => exact ⟨x.rx.fem, rfl⟩
  | listen => exact ⟨x.rx.fem, rfl⟩
  | tx => exact ⟨x.rx.fem, rfl⟩

/-- What the schedule asks of a radio at rest changes its receiver and counts only. -/
theorem Wing.radioRest_eq (x : Wing) : ∃ q c d, q.radio = x.rx.radio ∧ x.radioRest = { x with rx := q, cnt16 := c, cnt32 := d } := by
  have hto : ∀ r, ∃ q c d, q.radio = x.rx.radio ∧ x.radioTo r = { x with rx := q, cnt16 := c, cnt32 := d } := by
    intro r
    obtain ⟨fem, plan, live, step, quiet, per, c, d, h⟩ := Wing.radioTo_eq r x
    refine ⟨_, c, d, ?_, h⟩
    rfl
  unfold Wing.radioRest
  split
  · exact ⟨x.rx, x.cnt16, x.cnt32, rfl, rfl⟩
  split
  · exact hto .listen
  split
  · exact ⟨x.rx, x.cnt16, x.cnt32, rfl, rfl⟩
  · exact hto .off

/-- The earliest of some times, kept while the list is run through. -/
def leastOf (b : Option Nat) (t : Nat) : Option Nat := match b with | none => some t | some u => some (min t u)

theorem foldl_leastOf (l : List Nat) (m : Nat) : l.foldl leastOf (some m) = some (l.foldl min m) := by
  induction l generalizing m with
  | nil => rfl
  | cons a l ih => exact (ih (min a m)).trans (congrArg (fun k => some (l.foldl min k)) (Nat.min_comm a m))

theorem foldl_leastOf_none (l : List Nat) : l.foldl leastOf none = l.min? := by
  cases l with
  | nil => rfl
  | cons a l => exact foldl_leastOf l a

/-- The earliest moment among the actions (R153). -/
theorem foldl_leastOf_least {l : List Nat} {t : Nat} (ht : t ∈ l) (hl : ∀ u ∈ l, t ≤ u) : l.foldl leastOf none = some t := by
  rw [foldl_leastOf_none]
  exact List.min?_eq_some_iff.mpr ⟨ht, hl⟩

/-- The end of LISTEN with no lane busy. -/
theorem State.leaveListen_idle {s : State} {w : WingId} (h : (s.wing w).rx.lanes = []) : ∃ k quiet noise recent, s.leaveListen w =
    ({ s with free := k } : State).setWing w { s.wing w with rx := { (s.wing w).rx with lanes := [], quiet := quiet, noise := noise, recent := recent } } := by
  unfold State.leaveListen
  dsimp only
  split
  · refine ⟨s.free, (s.wing w).rx.quiet, (s.wing w).rx.noise, (s.wing w).rx.recent, ?_⟩
    rw [← h]
    exact (State.setWing_wing s w).symm
  · simp only [h, List.foldl_nil, List.filter_nil, List.length_nil, iter]
    exact ⟨_, _, _, _, rfl⟩

/-- Settles O16: transitions, the wake-up from OFF, and the start and the end of the listen windows. -/
theorem radioStates : Obligations.RadioStates := by
  unfold Obligations.RadioStates
  intro s w dt x y
  refine ⟨?done, ?doneRests, ?wake, ?start, ?endw⟩
  case done =>
    intro r hr
    obtain ⟨fem, h⟩ := Wing.radioDone_eq hr
    obtain ⟨q, c, d, hq, h'⟩ := Wing.radioRest_eq { x with rx := { x.rx with radio := r, going := none, fem := fem } }
    refine ⟨_, next_if_pos (by rw [show (s.wing w).rx.going = some r from hr]; rfl) (congrArg (s.setWing w) ((congrArg Wing.radioRest h).trans h')), ?_⟩
    exact ⟨_, rfl, hq, rfl, rfl, rfl⟩
  case doneRests => exact fun hr => next_if_neg (by rw [show (s.wing w).rx.going = none from hr]; decide) rfl
  case wake =>
    intro on held wins acts
    have hon : (x.isRunning && decide (x.rx.radio = .off) && x.rx.going.isNone && x.car.pllLocked && !s.dome.refLost) = true ↔ on := by
      simp only [Bool.and_eq_true, decide_eq_true_eq, Option.isNone_iff_eq_none, Bool.not_eq_true', and_assoc]
      exact Iff.rfl
    have hheld : (x.wantListen && x.holdListen) = true ↔ held := Bool.and_eq_true_iff
    refine ⟨fun h hl => ?_, fun t ht h hl hu => ?_, fun h => ?_⟩
    · exact congrArg Host.Outcome.next ((if_neg (by rw [hon.mpr h]; decide)).trans (if_pos (hheld.mpr hl)))
    · refine congrArg Host.Outcome.next ((if_neg (by rw [hon.mpr h]; decide)).trans ((if_neg (mt hheld.mp hl)).trans ?_))
      have hw : x.wakeAt = some t := foldl_leastOf_least ht hu
      rw [hw]
    · by_cases h' : on
      · obtain ⟨hl, ha⟩ := h.resolve_left (not_not_intro h')
        refine congrArg Host.Outcome.next ((if_neg (by rw [hon.mpr h']; decide)).trans ((if_neg (mt hheld.mp hl)).trans ?_))
        have hw : x.wakeAt = none := by
          change acts.foldl leastOf none = none
          rw [ha]
          rfl
        rw [hw]
      · exact congrArg Host.Outcome.next (if_pos (by rw [Bool.eq_false_iff.mpr (mt hon.mp h')]; rfl))
  case start =>
    intro on
    have hon : (y.canListen && !y.tx.test && !y.rx.calFirst && decide (y.rx.radio = .standby) && y.rx.going.isNone &&
        y.tx.run.isNone && (y.windowOpen || y.holdListen)) = true ↔ on := by
      simp only [Transmitter.test, Bool.and_eq_true, Bool.or_eq_true, decide_eq_true_eq, Option.isNone_iff_eq_none, Bool.not_eq_true',
        Option.isSome_eq_false_iff, and_assoc]
      exact Iff.rfl
    exact ⟨fun h => next_if_pos (hon.mpr h) rfl, fun h => next_if_neg (mt hon.mp h) rfl⟩
  case endw =>
    intro shut on
    have hshut : y.windowsShut = true ↔ shut := by
      unfold Wing.windowsShut
      rw [Bool.and_eq_true, List.all_eq_true]
      refine and_congr (forall₂_congr fun v _ => decide_eq_true_iff) ?_
      cases ho : y.lnk.own with
      | none => simp
      | some o => simp
    have hon : (y.listening && y.windowsShut && !y.holdListen && y.rx.lanes.isEmpty) = true ↔ on := by
      simp only [Bool.and_eq_true, Bool.not_eq_true', List.isEmpty_iff, hshut, and_assoc]
      exact Iff.rfl
    refine ⟨fun h => ?_, fun h => next_if_neg (mt hon.mp h) rfl⟩
    refine ⟨_, next_if_pos (hon.mpr h) rfl, ?_⟩
    obtain ⟨-, -, -, hlanes⟩ := h
    have hcore : y.core = x.core := by
      obtain ⟨tb, hy⟩ := Wing.advance_eq dt x
      exact (congrArg Wing.core hy :)
    obtain ⟨k, quiet, noise, recent, hu⟩ := State.leaveListen_idle (s := s.setWing w y) (w := w) (by rw [State.wing_setWing]; exact hlanes)
    let z : Wing := { y with rx := { y.rx with lanes := [], quiet := quiet, noise := noise, recent := recent } }
    have ht : ((s.setWing w y).leaveListen w).modWing w (Wing.radioTo .standby) = ({ s with free := k } : State).setWing w (z.radioTo .standby) := by
      rw [hu, State.modWing, State.wing_setWing, State.setWing_setWing, State.wing_setWing]
      exact State.setWing_setWing { s with free := k } w y _
    obtain ⟨hd, hc, hp, hw⟩ := State.setWing_alone s k w (z.radioTo .standby)
    obtain ⟨fem, plan, live, step, q, per, c, d, hz⟩ := Wing.radioTo_eq .standby z
    rw [ht, State.wing_setWing]
    refine ⟨?_, ?_, hd, hc, hp, ?_, hw⟩
    all_goals rw [hz]
    exact hcore

end Sys2Proof.Machine

namespace Sys2Proof.Machine
open Sys2Proof

/-! SUPPORT. What the link engine's bookkeeping leaves alone: the rings, buffers, counts, items and neighbours move, and the rest of the wing
stays. -/

theorem foldl_keeps {α β γ : Type} (g : α → γ) {f : α → β → α} (h : ∀ a b, g (f a b) = g a) (l : List β) (a : α) : g (l.foldl f a) = g a := by
  induction l generalizing a with
  | nil => rfl
  | cons b l ih => exact (ih _).trans (h a b)

/-- The wing without SRAM, Docent, rings, counts, link engine, mesh, accepted work and held buffers. -/
def Wing.still (x : Wing) : Wing :=
  { x with sram := [], doc := {}, rings := [], cnt16 := [], cnt32 := [], lnk := {}, msh := {}, wrk := {}, rx := { x.rx with held := [] } }

theorem Wing.tx_of_still {x y : Wing} (h : x.still = y.still) : x.tx = y.tx := (congrArg Wing.tx h :)
theorem Wing.sys_of_still {x y : Wing} (h : x.still = y.still) : x.sys = y.sys := (congrArg Wing.sys h :)
theorem Wing.core_of_still {x y : Wing} (h : x.still = y.still) : x.core = y.core := (congrArg Wing.core h :)
theorem Wing.fls_of_still {x y : Wing} (h : x.still = y.still) : x.fls = y.fls := (congrArg Wing.fls h :)
theorem Wing.car_of_still {x y : Wing} (h : x.still = y.still) : x.car = y.car := (congrArg Wing.car h :)
theorem Wing.radio_of_still {x y : Wing} (h : x.still = y.still) : x.rx.radio = y.rx.radio := congrArg (fun z => z.rx.radio) h
theorem Wing.going_of_still {x y : Wing} (h : x.still = y.still) : x.rx.going = y.rx.going := congrArg (fun z => z.rx.going) h

@[simp] theorem Wing.still_bump (r i : Nat) (x : Wing) : (x.bump r i).still = x.still := rfl
@[simp] theorem Wing.still_raise (n : Nat) (x : Wing) : (x.raise n).still = x.still := rfl
@[simp] theorem Wing.still_raiseIf (c : Bool) (n : Nat) (x : Wing) : (x.raiseIf c n).still = x.still := by cases c <;> rfl
@[simp] theorem Wing.still_setRing (r : Nat) (g : Ring) (x : Wing) : (x.setRing r g).still = x.still := rfl
@[simp] theorem Wing.still_bufReturn (i : Nat) (x : Wing) : (x.bufReturn i).still = x.still := rfl
@[simp] theorem Wing.still_modItem (a : Nat) (f : Item → Item) (x : Wing) : (x.modItem a f).still = x.still := rfl
@[simp] theorem Wing.still_modNb (i : Nat) (f : Nb → Nb) (x : Wing) : (x.modNb i f).still = x.still := rfl
@[simp] theorem Wing.still_lnkCount (i : Nat) (x : Wing) : (x.lnkCount i).still = x.still := rfl

@[simp] theorem Wing.still_st (a : Nat) (v : Word) (x : Wing) : (x.st a v).still = x.still := by
  rw [Wing.st_frame]
  rfl

@[simp] theorem Wing.still_sts (a : Nat) (vs : List Word) (x : Wing) : (x.sts a vs).still = x.still := by
  induction vs generalizing a x with
  | nil => rfl
  | cons v vs ih => exact (ih (a + 1) _).trans (Wing.still_st a v x)

@[simp] theorem Wing.still_publish (r : Nat) (src : Bool) (d : List Word) (x : Wing) : (x.publish r src d).2.still = x.still := by
  unfold Wing.publish
  dsimp only
  split
  · rfl
  · simp

@[simp] theorem Wing.still_deliver (f : RxFrame) (x : Wing) : (x.deliver f).still = x.still := by
  have h := Wing.still_publish f.ring true f.descriptor x
  unfold Wing.deliver
  split <;> (rename_i heq; rw [heq] at h; exact h)

@[simp] theorem Wing.still_partnerAck (f : RxFrame) (x : Wing) : (x.partnerAck f).still = x.still := by
  unfold Wing.partnerAck
  split
  · rfl
  · split <;> rfl

@[simp] theorem Wing.still_fullContact (i : Nat) (x : Wing) : (x.fullContact i).still = x.still := by
  unfold Wing.fullContact
  split <;> rfl

@[simp] theorem Wing.still_finishRx (f : RxFrame) (x : Wing) : (x.finishRx f).still = x.still := by
  have hlnk : ∀ (y : Wing) (l : Link), ({ y with lnk := l } : Wing).still = y.still := fun _ _ => rfl
  unfold Wing.finishRx
  dsimp only
  split <;> split <;> simp [hlnk]

/-- Finishing frames leaves all but the link engine's bookkeeping (R160, R220). -/
@[simp] theorem Wing.still_rxSweep (x : Wing) : x.rxSweep.still = x.still := by
  refine foldl_keeps Wing.still (fun y f => ?_) _ x
  split
  · exact Wing.still_finishRx f y
  · rfl

@[simp] theorem Wing.still_noteRadiated (t : Word) (x : Wing) : (x.noteRadiated t).still = x.still := by
  unfold Wing.noteRadiated
  split <;> rfl

@[simp] theorem Wing.still_radiated (q : TxReq) (x : Wing) : (x.radiated q).still = x.still := by
  unfold Wing.radiated
  split
  · split
    · rfl
    · simp
  · rfl

/-- An event reaches the bells and raises their sources (R333). -/
theorem Wing.carEvent_eq (src : Nat) (x : Wing) : ∃ bells doc, x.carEvent src = { x with car := { x.car with bells := bells }, doc := doc } := by
  have hone : ∀ (b : Nat) (y : Wing), ∃ bells doc, y.bellEvent src b = { y with car := { y.car with bells := bells }, doc := doc } := by
    intro b y
    unfold Wing.bellEvent
    dsimp only
    split
    · split
      · exact ⟨_, _, rfl⟩
      · split
        · exact ⟨_, _, rfl⟩
        · exact ⟨_, y.doc, rfl⟩
      · exact ⟨y.car.bells, y.doc, rfl⟩
    · exact ⟨y.car.bells, y.doc, rfl⟩
  unfold Wing.carEvent
  induction List.range 32 generalizing x with
  | nil => exact ⟨x.car.bells, x.doc, rfl⟩
  | cons b l ih =>
    obtain ⟨bells, doc, h⟩ := hone b x
    obtain ⟨bells', doc', h'⟩ := ih (x.bellEvent src b)
    refine ⟨bells', doc', h'.trans ?_⟩
    rw [h]

/-- The sweep of finished frames changes the one wing only. -/
theorem State.sweep_eq (w : WingId) (s : State) (x : Wing) : (s.setWing w x).sweep w = s.setWing w x.rxSweep := by
  rw [State.sweep, State.modWing, State.wing_setWing, State.setWing_setWing]

end Sys2Proof.Machine

namespace Sys2Proof.Machine
open Sys2Proof

/-! SUPPORT. The phases of a transmission (R107, R113 to R116, R125, R126). -/

@[simp] theorem Wing.advance_tx (dt : Nat) (x : Wing) : (x.advance dt).tx = x.tx := by
  obtain ⟨tb, h⟩ := Wing.advance_eq dt x
  exact (congrArg Wing.tx h :)

@[simp] theorem Wing.reach_tx (t : Nat) (x : Wing) : (x.reach t).tx = x.tx := Wing.advance_tx _ x

@[simp] theorem Wing.carEvent_tx (src : Nat) (x : Wing) : (x.carEvent src).tx = x.tx := by
  obtain ⟨bells, doc, h⟩ := Wing.carEvent_eq src x
  exact (congrArg Wing.tx h :)

@[simp] theorem Wing.radiated_tx (q : TxReq) (x : Wing) : (x.radiated q).tx = x.tx := Wing.tx_of_still (Wing.still_radiated q x)
@[simp] theorem Wing.rxSweep_tx (x : Wing) : x.rxSweep.tx = x.tx := Wing.tx_of_still (Wing.still_rxSweep x)

/-- A charge leaves what is being transmitted. -/
theorem State.charge_run {s v : State} {w : WingId} {k i us : Nat} {b : Bool} (h : s.charge w k i us = (b, v)) :
    (v.wing w).tx.run = (s.wing w).tx.run := by
  have hput : ∀ (os : Octets), ((s.bramPut w (4 * i) os).2.wing w) = s.wing w := by
    intro os
    unfold State.bramPut
    split <;> rfl
  unfold State.charge at h
  split at h <;> rename_i t heq <;> obtain ⟨-, rfl⟩ := Prod.mk.inj h
  · rw [State.wing_modWing, ← hput (natLe 4 (s.limOpen w i + us)), heq]
    unfold Wing.dwellAdd
    split <;> rfl
  · rw [← hput (natLe 4 (s.limOpen w i + us)), heq]

section
variable {s : State} {w : WingId} {q : TxReq} (hq : (s.wing w).txFirst = some q) {id : Nat} (hid : q.what = .ack id)
include hq hid

/-- The decision point of an acknowledgement, whose octets stand (R125). -/
theorem State.decisionPoint_ack : let y := ((s.wing w).reach (q.start - ((s.wing w).tLead + us 2))).txWithdraw (fun p => p == q)
    s.decisionPoint w = (s.setWing w y).txDecide w q (decide (q.start < y.now + y.tLead + us 2) || decide (y.rx.radio = .off)) := by
  have hfill : ∀ t : State, t.fillReq w q = (some q.psdu, t) := by
    intro t
    unfold State.fillReq
    rw [hid]
  unfold State.decisionPoint
  dsimp only
  rw [hq]
  dsimp only
  rw [hfill]
  dsimp only
  unfold State.txPoint
  rw [State.wing_setWing]

end

section
variable {s : State} {w : WingId} {q : TxReq} {i : Nat} {v : State}

theorem State.txDecide_late : s.txDecide w q true = s.modWing w (Wing.txRefuse q .late) := by
  unfold State.txDecide
  simp only [if_true]

theorem State.txDecide_overlap (ho : (s.wing w).txOverlaps q = true) : s.txDecide w q false = s.modWing w (Wing.txRefuse q .overlap) := by
  unfold State.txDecide
  simp only [Bool.false_eq_true, if_false, ho, if_true]

/-- The transmission as the decision point makes it (R113, R118, R125). -/
def Wing.decidedRun (q : TxReq) (i : Nat) (x : Wing) : TxRun :=
  { req := q, dur := x.rx.live.frameTicks q.prof q.coded q.mcs q.len,
    airtime := airUs (x.rx.live.frameTicks q.prof q.coded q.mcs q.len + 2 * x.tRamp), sub := i,
    power := (x.txPower q.prof i q.power).1, clamps := (x.txPower q.prof i q.power).2, air := q.psdu ++ fcsOf q.fcs4 q.psdu }

/-- All checks pass (R125). -/
theorem State.txDecide_ok {air : Nat} (ha : airUs ((s.wing w).rx.live.frameTicks q.prof q.coded q.mcs q.len + 2 * (s.wing w).tRamp) = air)
    (ho : (s.wing w).txOverlaps q = false) (hl : s.txLimits w q air = .ok i) (hd : s.txDuty w i air = true)
    (hy : q.yield = true → ∀ e ∈ (s.wing w).rx.lanes, e.2.state ≠ .receiving) (hc : s.charge w q.ch i air = (true, v))
    (hr : (s.wing w).tx.run = none) : s.txDecide w q false =
    v.modWing w (fun z => { z with tx := { z.tx with run := some ((s.wing w).decidedRun q i) } }) := by
  subst ha
  have hyield : (q.yield && (s.wing w).rx.lanes.any (fun e => decide (e.2.state = .receiving))) = false := by
    cases h : q.yield
    · rfl
    · rw [Bool.true_and, List.any_eq_false]
      exact fun e he hs => hy h e he (of_decide_eq_true hs)
  have hrun : (v.wing w).tx.run = none := (State.charge_run hc).trans hr
  unfold State.txDecide
  simp only [Bool.false_eq_true, if_false, ho, hl, hd, hyield, hc, Bool.not_true, State.modWing, hrun, Option.isSome_none]
  rfl

end

section
variable {s : State} {w : WingId} {r : TxRun}

/-- The ramp-down ends (R108, R113). -/
theorem State.rampDownEnd_eq (hr : (s.wing w).tx.run = some r) (hp : r.phase = .rampDown) :
    let y := (s.wing w).reach (if r.aborted then r.backAt else r.req.start + r.dur + (s.wing w).tRamp)
    let u := (s.setWing w { y with tx := { y.tx with run := y.tx.next, next := none, pa := false, lock := false } }).txEnd w r
      (if r.aborted then .aborted else .sent) (if r.aborted then r.used else r.airtime)
    s.rampDownEnd w = if (match y.tx.next with | none => false | some n => decide (n.req.start ≤ y.now + y.tLead)) = true then u
      else u.modWing w (fun y => y.radioBack (y.returnTo r.req)) := by
  unfold State.rampDownEnd
  simp only [hr]
  exact if_neg (not_not_intro hp)

/-- What an honoured abort leaves of a transmission that is locked or on air: its ramp-down, with the airtime used (R116). -/
def Wing.cutRun (r : TxRun) (y : Wing) : Wing :=
  { y with tx := { y.tx with run := some { r with phase := .rampDown, aborted := true, used := y.usedNow r, backAt := y.now + us 2 } } }

/-- The limit of an abort (R116). -/
theorem abortLimit (r : TxRun) : (r.req.start + match r.req.abortTo with | some n => n | none => r.dur) = r.req.start + r.req.abortTo.getD r.dur := by
  cases r.req.abortTo <;> rfl

section
variable (hr : (s.wing w).tx.run = some r)
include hr

theorem State.txAbort_late (h : r.aborted = true ∨ r.req.start + r.req.abortTo.getD r.dur < (s.wing w).now) :
    s.txAbort w (fun _ => true) = s.modWing w (Wing.bump 0xFF703C 0x22200D) := by
  have hlim : (decide (r.req.start + r.req.abortTo.getD r.dur < (s.wing w).now) || r.aborted) = true :=
    Bool.or_eq_true_iff.mpr (h.symm.imp decide_eq_true id)
  rw [← abortLimit] at hlim
  unfold State.txAbort
  simp only [hr]
  exact (if_neg Bool.false_ne_true).trans (if_pos hlim)

variable (ha : r.aborted = false) (hn : (s.wing w).now ≤ r.req.start + r.req.abortTo.getD r.dur)
include ha hn

theorem State.txAbort_decided (hp : r.phase = .decided) :
    s.txAbort w (fun _ => true) = (s.modWing w (fun y => { y with tx := { y.tx with run := none } })).txEnd w r .aborted 0 := by
  have hlim : ¬(decide (r.req.start + r.req.abortTo.getD r.dur < (s.wing w).now) || r.aborted) = true := by
    rw [decide_eq_false (Nat.not_lt.mpr hn), ha]
    decide
  rw [← abortLimit] at hlim
  unfold State.txAbort
  simp only [hr]
  refine (if_neg Bool.false_ne_true).trans ((if_neg hlim).trans ?_)
  rw [hp]

theorem State.txAbort_cut (hp : r.phase = .locked ∨ r.phase = .ramping) : s.txAbort w (fun _ => true) =
    s.modWing w (fun y => if r.req.start ≤ y.now then (y.cutRun r).radiated r.req else y.cutRun r) := by
  have hlim : ¬(decide (r.req.start + r.req.abortTo.getD r.dur < (s.wing w).now) || r.aborted) = true := by
    rw [decide_eq_false (Nat.not_lt.mpr hn), ha]
    decide
  rw [← abortLimit] at hlim
  unfold State.txAbort
  simp only [hr]
  refine (if_neg Bool.false_ne_true).trans ((if_neg hlim).trans ?_)
  obtain hp | hp := hp <;> rw [hp] <;> rfl

end
end

/-- Settles O17: the decision point, the phases in order, the end, and the abort. -/
theorem txPhases : Obligations.TxPhases := by
  unfold Obligations.TxPhases
  intro s w r x phase at_ back
  have hgo : ∀ dt, x.awake = true → ∀ t, (s.setWing w (x.advance dt)).txAbort w (fun _ => true) = t →
      exec (.txAbort w 0x5A5A dt) s = .next (t.sweep w) := by
    intro dt ha t ht
    exact next_if_pos ha ((if_pos rfl).trans (congrArg (State.sweep w) ht))
  refine ⟨fun q id hq hid => ?decision, fun hq => ?noReq, ?departure, ?synth, ?synthTest, ?rampUp, ?lastSymbol, ?rampDown, ?idle,
    fun dt ha => ⟨?abortNone, ?abortDecided, ?abortCut, ?abortLate⟩, ?abortRests⟩
  case decision =>
    intro y u late dur air
    have hdp : s.decisionPoint w = u.txDecide w q (decide (q.start < y.now + y.tLead + us 2) || decide (y.rx.radio = .off)) := State.decisionPoint_ack hq hid
    have hw : u.wing w = y := State.wing_setWing s w y
    have hgo : ∀ t, u.txDecide w q (decide (q.start < y.now + y.tLead + us 2) || decide (y.rx.radio = .off)) = t →
        exec (.txDecisionPoint w) s = .next (t.sweep w) := fun t ht => congrArg (fun (v : State) => Host.Outcome.next (v.sweep w)) (hdp.trans ht)
    have hnot : ¬late → (decide (q.start < y.now + y.tLead + us 2) || decide (y.rx.radio = .off)) = false := by
      intro h
      rw [Bool.or_eq_false_iff, decide_eq_false_iff_not, decide_eq_false_iff_not]
      exact not_or.mp h
    refine ⟨fun hl => hgo _ ?_, fun hl ho => hgo _ ?_, fun i v hl ho hlim hd hy hc hr => hgo _ ?_⟩
    · have hl' : (decide (q.start < y.now + y.tLead + us 2) || decide (y.rx.radio = .off)) = true :=
        Bool.or_eq_true_iff.mpr (hl.imp decide_eq_true decide_eq_true)
      rw [hl', State.txDecide_late, State.modWing, hw]
      exact State.setWing_setWing s w y _
    · rw [hnot hl, State.txDecide_overlap (by rw [hw]; exact ho), State.modWing, hw]
      exact State.setWing_setWing s w y _
    · rw [hnot hl, State.txDecide_ok (by rw [hw]) (by rw [hw]; exact ho) hlim hd (by rw [hw]; exact hy) hc (by rw [hw]; exact hr), hw]
      rfl
  case noReq =>
    have h : s.decisionPoint w = s := by
      unfold State.decisionPoint
      dsimp only
      rw [show (s.wing w).txFirst = none from hq]
    exact congrArg (fun (v : State) => Host.Outcome.next (v.sweep w)) h
  case departure =>
    rintro ⟨hr, hp⟩
    have he : exec (.txDeparture w) s = .next (((s.setWing w (x.reach (r.req.start - x.tLead))).leaveListen w).modWing w (fun x =>
        ({ x with tx := { x.tx with run := some { r with phase := .synthCal, shift := x.carrierShift } } }.radioTo .cal).setFem
          (bits (x.reg 0xFF7002) 15 12))) := by
      change execTxDeparture w s = _
      unfold execTxDeparture
      rw [show (s.wing w).tx.run = some r from hr]
      exact if_neg (not_not_intro hp)
    obtain ⟨k, lanes, held, quiet, noise, recent, c, d, hu⟩ := State.leaveListen_eq w (s.setWing w (x.reach (r.req.start - x.tLead)))
    refine ⟨_, he, ?_⟩
    rw [hu]
    simp only [phase, State.wing_modWing, State.wing_setWing]
    exact ⟨⟨_, rfl, rfl, rfl, rfl⟩, rfl, rfl, rfl⟩
  case synth =>
    rintro y ht ⟨hr, hp⟩
    have hd : ∀ ok, s.synthDone w ok = if ok = true then s.setWing w { y with tx := { y.tx with run := some { r with phase := .locked } } }.toTx
        else ((s.setWing w { y with tx := { y.tx with run := none } }).txEnd w r .synthFail 0).modWing w (fun y => y.radioBack (y.returnTo r.req)) := by
      intro ok
      unfold State.synthDone
      dsimp only
      rw [show (s.wing w).tx.testRun = none from ht, show (s.wing w).tx.run = some r from hr]
      exact if_neg (not_not_intro hp)
    exact ⟨congrArg (fun (v : State) => Host.Outcome.next (v.sweep w)) (hd true), congrArg (fun (v : State) => Host.Outcome.next (v.sweep w)) (hd false)⟩
  case synthTest =>
    intro q hq hp y
    have hd : ∀ ok, s.synthDone w ok = if ok = true then
        s.setWing w (let z := { y with tx := { y.tx with testRun := some { q with blk := { q.blk with phase := .ramping } } } }.toTx
          { z with tx := { z.tx with pa := true } })
        else (s.setWing w y).testStop w q .synthFail 0 := by
      intro ok
      unfold State.synthDone
      dsimp only
      rw [show (s.wing w).tx.testRun = some q from hq]
      exact if_neg (not_not_intro hp)
    refine ⟨⟨_, congrArg (fun (v : State) => Host.Outcome.next (v.sweep w)) (hd true), ?_⟩,
      congrArg (fun (v : State) => Host.Outcome.next (v.sweep w)) (hd false)⟩
    dsimp only
    rw [if_pos rfl, State.sweep_eq, State.wing_setWing]
    have hs := Wing.still_rxSweep (let z := { y with tx := { y.tx with testRun := some { q with blk := { q.blk with phase := .ramping } } } }.toTx
          { z with tx := { z.tx with pa := true } })
    have htx := Wing.tx_of_still hs
    exact ⟨(congrArg Transmitter.pa htx :), (congrArg Transmitter.lock htx :), Wing.radio_of_still hs, rfl⟩
  case rampUp =>
    rintro ⟨hr, hp⟩
    have he : exec (.txRampUp w) s = .next (s.setWing w ((({ x with tx := { x.tx with run := some { r with phase := .ramping }, pa := true } }.reach
        r.req.start).carEvent 7).radiated r.req)) := by
      change execTxRampUp w s = _
      unfold execTxRampUp
      dsimp only
      rw [show (s.wing w).tx.run = some r from hr]
      exact congrArg Host.Outcome.next (if_neg (not_not_intro hp))
    refine ⟨_, he, ?_⟩
    simp only [phase, State.wing_setWing, Wing.radiated_tx, Wing.carEvent_tx, Wing.reach_tx]
    exact ⟨⟨_, rfl, rfl, rfl, rfl⟩, trivial, rfl, rfl⟩
  case lastSymbol =>
    rintro ⟨hr, hp⟩
    have he : exec (.txLastSymbol w) s = .next (s.setWing w ({ x with tx := { x.tx with run := some { r with phase := .rampDown } } }.reach
        (r.req.start + r.dur))) := by
      change execTxLastSymbol w s = _
      unfold execTxLastSymbol
      dsimp only
      rw [show (s.wing w).tx.run = some r from hr]
      exact congrArg Host.Outcome.next (if_neg (not_not_intro hp))
    refine ⟨_, he, ?_⟩
    simp only [phase, State.wing_setWing, Wing.reach_tx]
    exact ⟨⟨_, rfl, rfl, rfl, rfl⟩, trivial, rfl, rfl⟩
  case rampDown =>
    rintro ⟨hr, hp⟩ y u follow
    have hf : (match y.tx.next with | none => false | some n => decide (n.req.start ≤ y.now + y.tLead)) = true ↔ follow := by
      cases hn : y.tx.next with
      | none => simp [follow, hn]
      | some n => simp [follow, hn]
    have he := State.rampDownEnd_eq hr hp
    exact ⟨fun h => congrArg (fun (v : State) => Host.Outcome.next (v.sweep w)) (he.trans (if_pos (hf.mpr h))),
      fun h => congrArg (fun (v : State) => Host.Outcome.next (v.sweep w)) (he.trans (if_neg (mt hf.mp h)))⟩
  case idle =>
    intro hr ht
    have hr' : (s.wing w).tx.run = none := hr
    have ht' : (s.wing w).tx.testRun = none := ht
    refine ⟨?_, ?_, ?_, ?_, fun ok => ?_⟩
    · change execTxDeparture w s = _
      unfold execTxDeparture
      rw [hr']
    · change execTxRampUp w s = _
      unfold execTxRampUp
      dsimp only
      rw [hr']
    · change execTxLastSymbol w s = _
      unfold execTxLastSymbol
      dsimp only
      rw [hr']
    · refine congrArg (fun (v : State) => Host.Outcome.next (v.sweep w)) (?_ : s.rampDownEnd w = s)
      unfold State.rampDownEnd
      dsimp only
      rw [hr']
    · refine congrArg (fun (v : State) => Host.Outcome.next (v.sweep w)) (?_ : s.synthDone w ok = s)
      unfold State.synthDone
      dsimp only
      rw [ht', hr']
  case abortNone =>
    intro hr
    let y := x.advance dt
    refine hgo dt ha (s.setWing w (y.bump 0xFF703C 0x22200D)) ?_
    unfold State.txAbort
    dsimp only
    rw [State.modWing, State.wing_setWing, show y.tx.run = none from (congrArg Transmitter.run (Wing.advance_tx dt x)).trans hr]
    exact State.setWing_setWing s w _ _
  case abortDecided =>
    rintro ⟨hr, hp⟩ hab hlim
    let y := x.advance dt
    have hr' : ((s.setWing w y).wing w).tx.run = some r := by rw [State.wing_setWing]; exact (congrArg Transmitter.run (Wing.advance_tx dt x)).trans hr
    refine hgo dt ha _ ((State.txAbort_decided hr' hab (by rw [State.wing_setWing]; exact hlim) hp).trans ?_)
    rw [State.modWing, State.wing_setWing, State.setWing_setWing]
  case abortCut =>
    intro hat hab hlim
    let y := x.advance dt
    have hr : x.tx.run = some r := hat.elim And.left And.left
    have hr' : ((s.setWing w y).wing w).tx.run = some r := by rw [State.wing_setWing]; exact (congrArg Transmitter.run (Wing.advance_tx dt x)).trans hr
    refine ⟨_, hgo dt ha _ (State.txAbort_cut hr' hab (by rw [State.wing_setWing]; exact hlim) (hat.imp And.right And.right)), ?_⟩
    dsimp only
    rw [State.modWing, State.wing_setWing, State.setWing_setWing, State.sweep_eq, State.wing_setWing, Wing.rxSweep_tx]
    have hcut : (if r.req.start ≤ y.now then (y.cutRun r).radiated r.req else y.cutRun r).tx = (y.cutRun r).tx := by
      split
      · exact Wing.radiated_tx r.req _
      · rfl
    rw [hcut]
    exact ⟨_, rfl, rfl, rfl, rfl, rfl, rfl, rfl⟩
  case abortLate =>
    rintro ⟨hr, hp⟩ hl
    have hr' : ((s.setWing w (x.advance dt)).wing w).tx.run = some r := by rw [State.wing_setWing]; exact (congrArg Transmitter.run (Wing.advance_tx dt x)).trans hr
    refine hgo dt ha _ ((State.txAbort_late hr' (by rw [State.wing_setWing]; exact hl)).trans ?_)
    rw [State.modWing, State.wing_setWing, State.setWing_setWing]
  case abortRests =>
    rintro v dt (hv | ha)
    · change Host.Outcome.next (if (s.wing w).awake = true then if v = 0x5A5A then _ else s else s) = _
      rw [if_neg hv, ite_self]
    · exact next_if_neg (Bool.eq_false_iff.mp ha) rfl

end Sys2Proof.Machine

namespace Sys2Proof.Machine
open Sys2Proof

/-! SUPPORT. Octets at consecutive keys of a table, and backup RAM (R51, R130). -/

section
variable {α : Type} [DecidableEq α]

theorem trising_tputs (d : α) (vs : List α) (n : Nat) {t : Tab α} (h : trising t = true) : trising (tputs d n vs t) = true := by
  induction vs generalizing n t with
  | nil => exact h
  | cons v vs ih => exact ih (n + 1) (trising_tset d n v h)

theorem tget_tputs_outside (d : α) (vs : List α) {n m : Nat} {t : Tab α} (h : trising t = true) (hm : m < n ∨ n + vs.length ≤ m) :
    tget d (tputs d n vs t) m = tget d t m := by
  induction vs generalizing n t with
  | nil => rfl
  | cons v vs ih =>
    rw [List.length_cons] at hm
    exact (ih (trising_tset d n v h) (by omega)).trans (tget_tset_other d v (by omega) h)

theorem tget_tputs_at (d : α) {vs : List α} {n i : Nat} {t : Tab α} (h : trising t = true) (hi : i < vs.length) :
    tget d (tputs d n vs t) (n + i) = vs[i] := by
  induction vs generalizing n i t with
  | nil => exact absurd hi (Nat.not_lt_zero i)
  | cons v vs ih =>
    cases i with
    | zero => exact (tget_tputs_outside d vs (trising_tset d n v h) (.inl (Nat.lt_succ_self n))).trans (tget_tset_same d n v h)
    | succ i =>
      rw [show n + (i + 1) = n + 1 + i by omega]
      exact ih (trising_tset d n v h) (Nat.lt_of_succ_lt_succ hi)

theorem tgets_tputs_same (d : α) (vs : List α) (n : Nat) {t : Tab α} (h : trising t = true) : tgets d (tputs d n vs t) n vs.length = vs := by
  refine List.ext_getElem (by simp [tgets]) (fun i h1 h2 => ?_)
  simp only [tgets, List.getElem_map, List.getElem_range]
  exact tget_tputs_at d h h2

theorem tgets_tputs_other (d : α) (vs : List α) {n m k : Nat} {t : Tab α} (h : trising t = true) (hm : m + k ≤ n ∨ n + vs.length ≤ m) :
    tgets d (tputs d n vs t) m k = tgets d t m k := by
  refine List.map_congr_left (fun i hi => tget_tputs_outside d vs h ?_)
  have := List.mem_range.mp hi
  omega

end

/-- Octets least significant first give back the number, as far as they reach. -/
theorem leNat_natLe (k n : Nat) : leNat (natLe k n) = n % 256 ^ k := by
  induction k generalizing n with
  | zero => simp [natLe, leNat, Nat.mod_one]
  | succ k ih =>
    have ho : (o8 n).toNat = n % 256 := BitVec.toNat_ofNat n 8
    rw [natLe, leNat, ih, ho, Nat.pow_succ, Nat.mul_comm (256 ^ k) 256, Nat.mod_mul]

section
variable {s : State} (hf : s.dome.writeFrozen = false) (hp : s.dome.bpor = false)
include hf hp

/-- Backup RAM takes a write (R51). -/
theorem State.bramPut_ok (w off : Nat) (os : Octets) : s.bramPut w off os =
    (true, { s with cal := { s.cal with bram := tputs 0 (112 * w + off) (os.map (fun o => o.toNat)) s.cal.bram } }) :=
  if_neg (by rw [hf, hp]; decide)

variable (hr : trising s.cal.bram = true)
include hr

theorem State.bramGet_bramPut_same (w off : Nat) (os : Octets) : (s.bramPut w off os).2.bramGet w off os.length = os := by
  rw [State.bramPut_ok hf hp]
  have h := tgets_tputs_same 0 (os.map (fun o => o.toNat)) (112 * w + off) hr
  rw [List.length_map] at h
  unfold State.bramGet
  dsimp only
  rw [h, List.map_map]
  refine (List.map_congr_left fun o _ => ?_).trans (List.map_id os)
  exact BitVec.ofNat_toNat 8 o |>.trans (BitVec.setWidth_eq o)

theorem State.bramGet_bramPut_other (w : Nat) {off off' n : Nat} (os : Octets) (h : off' + n ≤ off ∨ off + os.length ≤ off') :
    (s.bramPut w off os).2.bramGet w off' n = s.bramGet w off' n := by
  rw [State.bramPut_ok hf hp]
  unfold State.bramGet
  dsimp only
  rw [tgets_tputs_other 0 _ hr (by rw [List.length_map]; omega)]

end

theorem State.limOpen_of_none {s : State} {w i : Nat} (h : tget 0 (s.wing w).tx.heldOpen i = 0) : s.limOpen w i = leNat (s.bramGet w (4 * i) 4) := by
  unfold State.limOpen
  rw [h]

/-- The newest of an account is `v`, and every other is one older. -/
theorem agePush_newest {k n v : Nat} {t : Tab Nat} (h : trising t = true) : tget 0 (agePush k n v t) k = v :=
  tget_tputs_at 0 (vs := v :: tgets 0 t k (n - 1)) (i := 0) h (Nat.zero_lt_succ _)

theorem agePush_older {k n v m : Nat} {t : Tab Nat} (h : trising t = true) (hm : m < n - 1) :
    tget 0 (agePush k n v t) (k + m + 1) = tget 0 t (k + m) := by
  have hl : m + 1 < (v :: tgets 0 t k (n - 1)).length := by simp [tgets]; exact hm
  refine (tget_tputs_at 0 h hl).trans ?_
  simp [tgets]

/-- The closed buckets with the open one as the newest (R128). -/
def State.bucketAged (w i : Nat) (s : State) : State :=
  s.modWing w (fun x => { x with tx := { x.tx with closed := agePush (64 * i) 60 (s.limOpen w i) x.tx.closed } })

section
variable {s : State} {w : WingId} {i : Nat}

theorem State.bucketClose1_none (h : s.limOpen w i = 0) : s.bucketClose1 w i = s.bucketAged w i := by
  unfold State.bucketClose1
  simp only [h, decide_true, Bool.true_or, if_true]
  rw [State.bucketAged, h]

variable (hf : s.dome.writeFrozen = false) (hp : s.dome.bpor = false) (hh : tget 0 (s.wing w).tx.heldOpen i = 0)
include hf hp hh

/-- A bucket with airtime closes: it is added to PENDING and OPEN starts again at 0 (R130). -/
theorem State.bucketClose1_some (h : s.limOpen w i ≠ 0) : s.bucketClose1 w i =
    (((s.bucketAged w i).bramPut w (0x20 + 4 * i) (natLe 4 (s.limPending w i + s.limOpen w i))).2.bramPut w (4 * i) (natLe 4 0)).2 := by
  have hput : ∀ os, (s.bucketAged w i).bramPut w (0x20 + 4 * i) os = (true, ((s.bucketAged w i).bramPut w (0x20 + 4 * i) os).2) := by
    intro os
    rw [State.bramPut_ok (s := s.bucketAged w i) hf hp]
  unfold State.bucketClose1
  simp only [h, hh, decide_false, Bool.false_or, bne_self_eq_false, Bool.false_eq_true, if_false]
  change (match (s.bucketAged w i).bramPut w (0x20 + 4 * i) (natLe 4 (s.limPending w i + s.limOpen w i)) with
    | (true, s) => (s.bramPut w (4 * i) (natLe 4 0)).2
    | (false, s) => s) = _
  rw [hput]

end

section
variable {s : State} {w : WingId}

/-- A write of backup RAM, taken or not, changes the calendar and the Dome only. -/
theorem State.bramPut_eq (w off : Nat) (os : Octets) (s : State) : ∃ cal dome, (s.bramPut w off os).2 = { s with cal := cal, dome := dome } := by
  unfold State.bramPut
  split
  · exact ⟨s.cal, _, rfl⟩
  · exact ⟨_, s.dome, rfl⟩

theorem State.bucketClose1_eq (w i : Nat) (s : State) : ∃ cal dome, s.bucketClose1 w i = { s.bucketAged w i with cal := cal, dome := dome } := by
  unfold State.bucketClose1
  dsimp only
  split
  · exact ⟨s.cal, s.dome, rfl⟩
  · obtain ⟨cal, dome, h⟩ := State.bramPut_eq w (0x20 + 4 * i) (natLe 4 (s.limPending w i + s.limOpen w i)) (s.bucketAged w i)
    split
    · rename_i t heq
      have ht : t = { s.bucketAged w i with cal := cal, dome := dome } := (congrArg Prod.snd heq).symm.trans h
      obtain ⟨cal', dome', h'⟩ := State.bramPut_eq w (4 * i) (natLe 4 0) t
      refine ⟨cal', dome', h'.trans ?_⟩
      rw [ht]
    · rename_i t heq
      exact ⟨cal, dome, (congrArg Prod.snd heq).symm.trans h⟩

theorem State.bucketClose1_wing (w : WingId) (i : Nat) (s : State) : (s.bucketClose1 w i).wing w =
    { s.wing w with tx := { (s.wing w).tx with closed := agePush (64 * i) 60 (s.limOpen w i) (s.wing w).tx.closed } } := by
  obtain ⟨cal, dome, h⟩ := State.bucketClose1_eq w i s
  have hw : (s.bucketClose1 w i).wing w = (s.bucketAged w i).wing w := (congrArg (fun (v : State) => v.wing w) h :)
  exact hw.trans (State.wing_modWing s w _)

/-- What the close of a minute leaves alone. -/
theorem State.buckets_keep (w : WingId) (s : State) : let u := (List.range 8).foldl (fun (t : State) i => t.bucketClose1 w i) s
    u.port = s.port ∧ (u.wing w).core = (s.wing w).core ∧ (u.wing w).tx.hold = (s.wing w).tx.hold := by
  have hone : ∀ (t : State) (i : Nat), ((t.bucketClose1 w i).port, ((t.bucketClose1 w i).wing w).core, ((t.bucketClose1 w i).wing w).tx.hold) =
      (t.port, (t.wing w).core, (t.wing w).tx.hold) := by
    intro t i
    obtain ⟨cal, dome, h⟩ := State.bucketClose1_eq w i t
    rw [State.bucketClose1_wing, h]
    rfl
  have h := State.foldl_keeps (fun (t : State) => (t.port, (t.wing w).core, (t.wing w).tx.hold)) hone (List.range 8) s
  simpa only [Prod.mk.injEq] using h

/-- The close of one sub-band's bucket (R128, R130). -/
theorem State.bucketClose1_moves {i : Nat} (hf : s.dome.writeFrozen = false) (hp : s.dome.bpor = false) (hh : tget 0 (s.wing w).tx.heldOpen i = 0)
    (hc : trising (s.wing w).tx.closed = true) (hr : trising s.cal.bram = true) (hi : i < 8) (hsum : s.limPending w i + s.limOpen w i < 2 ^ 32) :
    let u := s.bucketClose1 w i
    tget 0 (u.wing w).tx.closed (64 * i) = s.limOpen w i ∧ (∀ n < 59, tget 0 (u.wing w).tx.closed (64 * i + n + 1) = tget 0 (s.wing w).tx.closed (64 * i + n)) ∧
      u.limOpen w i = 0 ∧ u.limPending w i = s.limPending w i + s.limOpen w i := by
  intro u
  have hw : u.wing w = _ := State.bucketClose1_wing w i s
  have hu : u = s.bucketClose1 w i := rfl
  clear_value u
  have hopen : u.limOpen w i = leNat (u.bramGet w (4 * i) 4) := by
    have hheld : (u.wing w).tx.heldOpen = (s.wing w).tx.heldOpen := (congrArg (fun (x : Wing) => x.tx.heldOpen) hw :)
    exact State.limOpen_of_none (hheld ▸ hh)
  have hclosed : (u.wing w).tx.closed = agePush (64 * i) 60 (s.limOpen w i) (s.wing w).tx.closed := by rw [hw]
  rw [hclosed, hopen]
  refine ⟨agePush_newest hc, fun n hn => agePush_older hc (by omega), ?_⟩
  by_cases h0 : s.limOpen w i = 0
  · have hcal : u.cal = s.cal := (congrArg State.cal (hu.trans (State.bucketClose1_none h0)) :)
    unfold State.limPending State.bramGet
    rw [hcal, h0]
    exact ⟨(State.limOpen_of_none hh).symm.trans h0, rfl⟩
  · let a := s.bucketAged w i
    let b := (a.bramPut w (0x20 + 4 * i) (natLe 4 (s.limPending w i + s.limOpen w i))).2
    have hb : u = (b.bramPut w (4 * i) (natLe 4 0)).2 := hu.trans (State.bucketClose1_some hf hp hh h0)
    have hok := State.bramPut_ok (s := a) hf hp w (0x20 + 4 * i) (natLe 4 (s.limPending w i + s.limOpen w i))
    have hfb : b.dome = s.dome := (congrArg (fun (v : Bool × State) => v.2.dome) hok :)
    have hrb : trising b.cal.bram = true := (congrArg (fun (v : Bool × State) => trising v.2.cal.bram) hok).trans (trising_tputs 0 _ _ hr)
    unfold State.limPending
    rw [hb]
    constructor
    · have := State.bramGet_bramPut_same (s := b) (by rw [hfb]; exact hf) (by rw [hfb]; exact hp) hrb w (4 * i) (natLe 4 0)
      rw [natLe_length] at this
      rw [this, leNat_natLe, Nat.zero_mod]
    · rw [State.bramGet_bramPut_other (s := b) (by rw [hfb]; exact hf) (by rw [hfb]; exact hp) hrb w (natLe 4 0) (by rw [natLe_length]; omega)]
      have := State.bramGet_bramPut_same (s := a) hf hp hr w (0x20 + 4 * i) (natLe 4 (s.limPending w i + s.limOpen w i))
      rw [natLe_length] at this
      rw [this, leNat_natLe]
      exact Nat.mod_eq_of_lt hsum

end

end Sys2Proof.Machine

namespace Sys2Proof.Machine
open Sys2Proof

/-! SUPPORT. Test transmissions and the limiter's accounts (R128 to R131). -/

theorem Wing.awake_of_running {x : Wing} (h : x.isRunning = true) : x.awake = true := by
  unfold Wing.awake
  rw [of_decide_eq_true h]

section
variable {s : State} {w : WingId} (hrun : (s.wing w).isRunning = true) (htok : s.tokenOk w = true)
include hrun htok

/-- A test mode that the wing takes (R131): what comes of it. -/
theorem State.txTest_eq (m : BitVec 2) : exec (.txTest w m) s = .next
    (match (s.wing w).tx.testRun with
    | some q => if m.toNat % 4 % 3 = 0 then (s.modWing w (Wing.setReg 0xFF7010 (m.toNat % 4 % 3))).testStop w q .sent q.blk.airtime
        else s.modWing w (Wing.setReg 0xFF7010 (m.toNat % 4 % 3))
    | none => if m.toNat % 4 % 3 = 0 then s.modWing w (Wing.setReg 0xFF7010 (m.toNat % 4 % 3)) else s.txTest w m.toNat) := by
  refine next_if_pos (Wing.awake_of_running hrun) ?_
  have hgo : ¬ (!(s.wing w).isRunning || !s.tokenOk w) = true := by
    rw [hrun, htok]
    decide
  split <;> rename_i ht
  · unfold State.txTest
    rw [if_neg hgo]
    simp only [ht]
  · split
    · unfold State.txTest
      rw [if_neg hgo]
      simp only [ht]
      exact if_pos ‹_›
    · rfl

end

theorem testMode_stop {m : BitVec 2} (h : m = 0 ∨ m = 3) : m.toNat % 4 % 3 = 0 := by
  revert h
  revert m
  decide

/-- The first block of a test transmission (R131). -/
def Wing.testBlk (i : Nat) (x : Wing) : TxRun :=
  { req := x.testReq, phase := .synthCal, dur := us 1000 - 2 * x.tRamp, airtime := 1000, sub := i,
    power := (x.txPower x.testReq.prof i x.testReq.power).1, clamps := (x.txPower x.testReq.prof i x.testReq.power).2, shift := x.carrierShift }

section
variable {s v : State} {w : WingId} {i : Nat} {m : BitVec 2}

/-- A test transmission starts (R131). -/
theorem State.txTest_start (hrun : (s.wing w).isRunning = true) (htok : s.tokenOk w = true) (hm : m = 1 ∨ m = 2)
    (ht : (s.wing w).tx.testRun = none) (hr : (s.wing w).tx.run = none) (hcal : (s.wing w).rx.calRun = none) (hradio : (s.wing w).rx.radio ≠ .off)
    (hlim : (s.modWing w (Wing.setReg 0xFF7010 m.toNat)).txLimits w (s.wing w).testReq 1000 = .ok i)
    (hblk : (s.modWing w (Wing.setReg 0xFF7010 m.toNat)).testBlock w (s.wing w).testReq.ch i = some v) :
    exec (.txTest w m) s = .next ((v.leaveListen w).modWing w (fun y =>
      ({ y with tx := { y.tx with testRun := some { blk := (s.wing w).testBlk i, first := (s.wing w).testReq.start } } }.radioTo .cal).setFem
        (bits (y.reg 0xFF7002) 15 12))) := by
  have hmode : m.toNat % 4 % 3 = m.toNat ∧ m.toNat ≠ 0 := by
    revert hm
    generalize m = k
    revert k
    decide
  refine next_if_pos (Wing.awake_of_running hrun) ?_
  unfold State.txTest
  rw [if_neg (by rw [hrun, htok]; decide)]
  simp only [ht, hr, hcal, hmode.1, hmode.2, if_false, Option.isSome_none, Bool.or_false, Bool.false_eq_true, hradio, hlim, hblk]
  rfl

/-- A further block is charged (R131). -/
theorem State.testBlock_next {q : TestRun} (hq : (s.wing w).tx.testRun = some q) (hp : q.blk.phase = .ramping)
    (hb : (s.setWing w ((s.wing w).reach (q.blk.req.start + us 1000 - (s.wing w).tRamp))).testBlock w q.blk.req.ch q.blk.sub = some v) :
    exec (.testBlock w) s = .next (v.modWing w (fun y => { y with tx := { y.tx with testRun := some { q with
        past := q.past + q.blk.airtime
        blk := { q.blk with req := { q.blk.req with start := q.blk.req.start + us 1000 }, kept := false, aged := false, dwAge := 0 } } } })) := by
  change execTestBlock w s = _
  unfold execTestBlock
  simp only [hq]
  rw [if_neg (not_not_intro hp), hb]

/-- No further block may be charged (R131). -/
theorem State.testBlock_stops {q : TestRun} (hq : (s.wing w).tx.testRun = some q) (hp : q.blk.phase = .ramping)
    (hb : (s.setWing w ((s.wing w).reach (q.blk.req.start + us 1000 - (s.wing w).tRamp))).testBlock w q.blk.req.ch q.blk.sub = none) :
    exec (.testBlock w) s = .next ((s.setWing w ((s.wing w).reach (q.blk.req.start + us 1000 - (s.wing w).tRamp))).testStop w q .refusedDuty q.blk.airtime) := by
  change execTestBlock w s = _
  unfold execTestBlock
  simp only [hq]
  rw [if_neg (not_not_intro hp), hb]

/-- A charge changes the dwell account of its wing only. -/
theorem State.charge_wing (w : WingId) (k i us : Nat) (s : State) : ∃ dwell, (s.charge w k i us).2.wing w =
    { s.wing w with tx := { (s.wing w).tx with dwell := dwell } } := by
  have hput : ∀ (os : Octets), ((s.bramPut w (4 * i) os).2.wing w) = s.wing w := by
    intro os
    obtain ⟨cal, dome, h⟩ := State.bramPut_eq w (4 * i) os s
    exact (congrArg (fun (t : State) => t.wing w) h :)
  have hput := hput (natLe 4 (s.limOpen w i + us))
  unfold State.charge
  split <;> (rename_i t heq; rw [heq] at hput)
  · dsimp only
    rw [State.wing_modWing, hput]
    unfold Wing.dwellAdd
    split
    · exact ⟨(s.wing w).tx.dwell, rfl⟩
    · exact ⟨_, rfl⟩
  · exact ⟨(s.wing w).tx.dwell, hput⟩

theorem State.testBlock_wing {k : Nat} (h : s.testBlock w k i = some v) : ∃ dwell, v.wing w = { s.wing w with tx := { (s.wing w).tx with dwell := dwell } } := by
  obtain ⟨dwell, hd⟩ := State.charge_wing w k i 1000 s
  unfold State.testBlock at h
  split at h
  · exact absurd h (by simp)
  · split at h
    · rename_i t heq
      rw [heq] at hd
      exact ⟨dwell, (Option.some.inj h) ▸ hd⟩
    · exact absurd h (by simp)

end

/-- A transmission that has used its whole charge is settled with nothing given back (R128). -/
theorem State.settle_all (w : WingId) (r : TxRun) (s : State) : s.settle w r r.airtime = (r.airtime, s) := by
  have hback : (if r.kept then 0 else r.airtime - r.airtime) = 0 := by
    rw [Nat.sub_self, ite_self]
  unfold State.settle
  simp only [hback]
  rfl

@[simp] theorem Wing.radioTo_tx (r : RadioState) (x : Wing) : (x.radioTo r).tx = x.tx := by
  obtain ⟨_, _, _, _, _, _, _, _, h⟩ := Wing.radioTo_eq r x
  exact (congrArg Wing.tx h :)

@[simp] theorem Wing.radioDone_tx (x : Wing) : x.radioDone.tx = x.tx := by
  cases h : x.rx.going with
  | none => unfold Wing.radioDone; rw [h]
  | some r =>
    obtain ⟨_, h⟩ := Wing.radioDone_eq h
    exact (congrArg Wing.tx h :)

@[simp] theorem Wing.radioBack_tx (r : RadioState) (x : Wing) : (x.radioBack r).tx = x.tx := by
  unfold Wing.radioBack
  dsimp only
  split <;> simp

/-- The runs of a transmitter, changed one by one, leave the accounts. -/
theorem modRuns_if {p q : TxRun → Prop} [DecidablePred p] [DecidablePred q] (h : ∀ r, p r ↔ q r) (f : TxRun → TxRun) (t : Transmitter) :
    t.modRuns (fun r => if p r then f r else r) = t.modRuns (fun r => if q r then f r else r) := by
  have hf : (fun r => if p r then f r else r) = (fun r => if q r then f r else r) := funext fun r => ite_congr (propext (h r)) (fun _ => rfl) (fun _ => rfl)
  rw [hf]

/-- Settles O18: tests, the close of buckets and of sub-windows, the Curator's journal of PENDING, and the Watch naming. -/
theorem limiterAccounts : Obligations.LimiterAccounts := by
  unfold Obligations.LimiterAccounts
  intro s w sub x shut may
  refine ⟨?refused, ?stop, ?stopTest, ?start, ?block, ?blockRests, ?close, ?moves, ?asleep, ?journal, ?journalRests, ?ack, ?dwell, rfl, ?watch, ?watchRests⟩
  case refused =>
    intro m hm
    have hno : s.txTest w m.toNat = s := by
      refine if_pos ?_
      rw [Bool.or_eq_true, Bool.not_eq_true', Bool.not_eq_true', ← Bool.not_eq_true, ← Bool.not_eq_true]
      exact Classical.not_and_iff_not_or_not.mp hm
    change Host.Outcome.next (if (s.wing w).awake = true then s.txTest w m.toNat else s) = _
    rw [hno, ite_self]
  case stop =>
    rintro m ⟨hrun, htok⟩ ht hm
    refine (State.txTest_eq hrun htok m).trans (congrArg Host.Outcome.next ?_)
    rw [show (s.wing w).tx.testRun = none from ht, testMode_stop hm]
    exact if_pos rfl
  case stopTest =>
    rintro m q ⟨hrun, htok⟩ hq hm
    refine (State.txTest_eq hrun htok m).trans (congrArg Host.Outcome.next ?_)
    rw [show (s.wing w).tx.testRun = some q from hq, testMode_stop hm]
    exact if_pos rfl
  case start =>
    rintro m i v ⟨hrun, htok⟩ ht hm hr hcal hradio u q hlim hblk
    refine ⟨_, State.txTest_start hrun htok hm ht hr hcal hradio hlim hblk, ?_⟩
    obtain ⟨k, lanes, held, quiet, noise, recent, c, d, hu⟩ := State.leaveListen_eq w v
    rw [hu]
    simp only [State.wing_modWing, State.wing_setWing]
    exact ⟨rfl, rfl, rfl, _, rfl, rfl, rfl, rfl, rfl⟩
  case block =>
    intro q hq hp u
    refine ⟨fun v hv => ⟨_, State.testBlock_next hq hp hv, ?_⟩, fun hn => ⟨_, State.testBlock_stops hq hp hn, ?_⟩⟩
    · obtain ⟨dwell, hd⟩ := State.testBlock_wing hv
      have hpa : (v.wing w).tx.pa = x.tx.pa := by
        rw [hd, State.wing_setWing, Wing.reach_tx]
      refine ⟨rfl, rfl, ?_, ?_⟩ <;> rw [State.wing_modWing]
      · exact hpa
      · exact ⟨_, rfl, rfl, rfl, hp⟩
    · have hs : u.testStop w q .refusedDuty q.blk.airtime = (u.modWing w (fun x =>
          ({ x with tx := { x.tx with
            testRun := none, pa := false, lock := false, clamps := q.blk.clamps, power := q.blk.power
            start := q.first % lapTicks, airtime := q.past + q.blk.airtime } }.setReg 0xFF7010 0).txNote .refusedDuty)).modWing w (Wing.radioBack .standby) := by
        unfold State.testStop State.testEnd
        rw [State.settle_all]
      refine Eq.mpr (congrArg (fun (t : State) => (t.wing w).tx.testRun = none ∧ (t.wing w).tx.pa = false ∧
        (t.wing w).tx.result = .refusedDuty ∧ t.cal = s.cal ∧ t.dome = s.dome) hs) ?_
      simp only [State.wing_modWing, Wing.radioBack_tx]
      exact ⟨rfl, rfl, rfl, rfl, rfl⟩
  case blockRests =>
    intro hq
    change execTestBlock w s = _
    unfold execTestBlock
    dsimp only
    rw [show (s.wing w).tx.testRun = none from hq]
  case close =>
    intro ha u
    refine ⟨_, next_if_pos ha rfl, ?_⟩
    obtain ⟨hport, hcore, hhold⟩ := State.buckets_keep w s
    unfold State.bucketClose
    dsimp only
    rw [State.wing_modWing]
    refine ⟨rfl, rfl, ?_, hport, hcore, hhold⟩
    simp [Wing.raise, Docent.raise]
  case moves => exact fun hf hp hh hc hr hsum => State.bucketClose1_moves hf hp hh hc hr sub.isLt hsum
  case asleep =>
    intro ha
    have hna : ¬ (s.wing w).awake = true := Bool.eq_false_iff.mp ha
    refine ⟨next_if_neg hna rfl, next_if_neg ?_ rfl, fun a => next_if_neg hna rfl⟩
    rw [show (s.wing w).awake = false from ha]
    exact Bool.false_ne_true
  case journal =>
    intro ha hb hv
    refine next_if_pos ?_ rfl
    rw [show (s.wing w).awake = true from ha, show (s.wing w).fls.blocked = false from hb, decide_eq_true hv]
    rfl
  case journalRests =>
    refine fun h => next_if_neg (fun hc => ?_) rfl
    rw [Bool.and_eq_true, Bool.and_eq_true, Bool.not_eq_true', decide_eq_true_eq] at hc
    exact h.elim (fun hb => Bool.false_ne_true (hc.1.2.symm.trans hb)) hc.2
  case ack => exact fun a ha => next_if_pos ha rfl
  case dwell =>
    intro ch k tx
    refine congrArg (fun (t : Transmitter) => Host.Outcome.next (s.setWing w
      { x with tx := { t with dwell := tputs 0 k (0 :: tgets 0 x.tx.dwell k 16) x.tx.dwell } })) ?_
    exact modRuns_if (fun r => by rw [Bool.and_eq_true, decide_eq_true_eq, decide_eq_true_eq]) _ _
  case watch =>
    intro hl hb hw t left
    refine (next_if_pos ?_ rfl).trans (congrArg Host.Outcome.next ?_)
    · rw [show (s.wing w).live = true from hl, show (s.wing w).fls.blocked = false from hb]
      rfl
    · exact if_neg (by rw [List.contains_iff_mem.mpr hw]; decide)
  case watchRests =>
    intro h
    by_cases hc : ((s.wing w).live && !(s.wing w).fls.blocked) = true
    · rw [Bool.and_eq_true, Bool.not_eq_true'] at hc
      have hw : ¬ w.val ∈ s.dome.watchWait :=
        (h.resolve_left (fun hl => Bool.false_ne_true (hl.symm.trans hc.1))).resolve_left (fun hb => Bool.false_ne_true (hc.2.symm.trans hb))
      refine next_if_pos (by rw [hc.1, hc.2]; rfl) (if_pos ?_)
      rw [Bool.not_eq_true', ← Bool.not_eq_true, List.contains_iff_mem]
      exact hw
    · exact next_if_neg hc rfl

end Sys2Proof.Machine

namespace Sys2Proof.Machine
open Sys2Proof

/-! SUPPORT. A table of rings that is not in canonical form (R452, R463). -/

/-- A RUNNING wing whose rings stand out of order in their table: ring 10 holds one descriptor and is one TAKE short of its reset value. -/
def ringWrapWing : Wing := { sys := { state := .running }, rings := [(12, { base := 0x10A400, pass := 1 }), (10, { base := 0x10A000, take := 0xFFFF })] }

/-- The device with that wing. -/
def ringWrapState : State := State.reset.setWing 0 ringWrapWing

theorem ringWrapState_ready : (ringWrapState.wing 0).isRunning = true ∧ ((ringWrapState.wing 0).ringHead 10).isSome = true ∧
    (ringWrapState.wing 0).lnk.table.length < 64 ∧ (ringWrapState.wing 0).lnk.heldCompl = [] := by decide +kernel

/-- The take writes the reset value of ring 10, which leaves the entry that stands behind ring 12. -/
theorem ringWrapState_take : (((ringWrapState.wing 0).takeTx 0).ring 10).take ≠ ((ringWrapState.wing 0).ring 10).take + 1 := by decide +kernel

/-- Refutes O19: the statement holds of tables of rings in canonical form only. Where ring 10 stands behind ring 12 in the table, the TAKE of a descriptor
that brings ring 10 to its reset value, from 0xFFFF to 0, is not read back, so that the descriptor is not passed. -/
theorem not_slotSteps : ¬ Obligations.SlotSteps := by
  unfold Obligations.SlotSteps
  intro h
  obtain ⟨-, -, -, -, -, htake, -⟩ := h ringWrapState 0
  obtain ⟨hrun, hhead, hroom, hheld⟩ := ringWrapState_ready
  obtain ⟨d, hd⟩ := Option.isSome_iff_exists.mp hhead
  obtain ⟨t, he, z, ht, -, -, hz, -⟩ := htake 0 d hrun hd hroom hheld
  have he' : exec (.txDescriptorTake 0 0) ringWrapState = .next (ringWrapState.setWing 0 ((ringWrapState.wing 0).takeTx 0)) := next_if_pos hrun rfl
  have hw : z = (ringWrapState.wing 0).takeTx 0 := by
    have heq : ringWrapState.setWing 0 ((ringWrapState.wing 0).takeTx 0) = ringWrapState.setWing 0 z := by
      rw [he'] at he
      injection he with he
      exact he.trans ht
    have := congrArg (fun (u : State) => u.wing 0) heq
    exact this.symm
  rw [hw] at hz
  exact ringWrapState_take hz

end Sys2Proof.Machine

namespace Sys2Proof.Machine
open Sys2Proof

/-! SUPPORT. Checks and acknowledgements of received and own frames (R156 to R165). -/

section
variable {s : State} {w : WingId} {f : RxFrame}

/-- A frame whose key is not held fails its MIC check (R164, R190). -/
theorem State.micDone_noKey (h : (s.rxKey w f).1 = none) : s.micDone w f = (s.rxKey w f).2.failRx w f Wing.lnkCount := by
  unfold State.micDone
  rw [show s.rxKey w f = (none, (s.rxKey w f).2) from Prod.ext h rfl]

/-- A frame whose MIC is wrong fails with its payload erased (R164). -/
theorem State.micDone_wrong {k : Octets} (h : (s.rxKey w f).1 = some k) (ho : f.openWith k ((s.wing w).nb f.nb).eui.toNat = none) (hk : f.kind ≠ 2) :
    s.micDone w f = ((s.rxKey w f).2.modWing w (fun y => y.putOctets (y.bufAddr f.buf) ((parseMac f.mac).hdr + (parseMac f.mac).aux)
      (zeros (f.mac.length - ((parseMac f.mac).hdr + (parseMac f.mac).aux) - 4)))).failRx w f Wing.lnkCount := by
  unfold State.micDone
  rw [show s.rxKey w f = (some k, (s.rxKey w f).2) from Prod.ext h rfl]
  dsimp only
  rw [ho]
  dsimp only
  rw [if_neg hk]

/-- A new partner frame whose MIC is right goes to its Journal check (R164, R235). -/
theorem State.micDone_partner {k p : Octets} (h : (s.rxKey w f).1 = some k) (ho : f.openWith k ((s.wing w).nb f.nb).eui.toNat = some p)
    (hk : f.kind = 0) (hc : f.cls = .new)
    (hr : ((s.rxKey w f).2.modWing w (fun y => y.putOctets (y.bufAddr f.buf) ((parseMac f.mac).hdr + (parseMac f.mac).aux) p)).role w ≠ .standby) :
    s.micDone w f = ((s.rxKey w f).2.modWing w (fun y => y.putOctets (y.bufAddr f.buf) ((parseMac f.mac).hdr + (parseMac f.mac).aux) p)).partnerStart w
      { f with mic := some true } p := by
  unfold State.micDone
  rw [show s.rxKey w f = (some k, (s.rxKey w f).2) from Prod.ext h rfl]
  dsimp only
  rw [ho]
  dsimp only
  rw [if_neg (show ¬ f.kind = 2 by rw [hk]; decide), if_neg hr]
  split
  · rfl
  all_goals simp_all

end

section
variable {s : State} {w : WingId} {f : RxFrame}

theorem State.ackEvaluate_shut (h : (s.role w = .standby || (s.wing w).lnk.sync = .searching || (s.wing w).sys.watch) = true) :
    s.ackEvaluate w f = s.setWing w (((s.wing w).putRx { f with noAck := true }).rxSweep) := by
  unfold State.ackEvaluate
  exact if_pos h

variable (hs : ¬ (s.role w = .standby || (s.wing w).lnk.sync = .searching || (s.wing w).sys.watch) = true)
include hs

theorem State.ackEvaluate_busy (h : (s.wing w).rx.lanes.any (fun e => decide (e.2.state = .receiving) && decide (1 ≤ e.2.prio)) = true) :
    s.ackEvaluate w f = s.setWing w ((((s.wing w).lnkCount 4).putRx { f with noAck := true }).rxSweep) := by
  unfold State.ackEvaluate
  dsimp only
  rw [if_neg hs, if_pos h]

variable (hb : ¬ (s.wing w).rx.lanes.any (fun e => decide (e.2.state = .receiving) && decide (1 ≤ e.2.prio)) = true) {p : Octets}
  (hp : (s.ackPsdu w f).1 = some p)
include hb hp

theorem State.ackEvaluate_conflict (h : (s.wing w).ackConflict ((s.wing w).ackReq f p) = true) :
    s.ackEvaluate w f = s.setWing w ((((s.wing w).lnkCount 5).putRx { f with noAck := true }).rxSweep) := by
  unfold State.ackEvaluate
  dsimp only
  rw [if_neg hs, if_neg hb, show s.ackPsdu w f = (some p, (s.ackPsdu w f).2) from Prod.ext hp rfl]
  exact if_pos h

theorem State.ackEvaluate_commit (h : (s.wing w).ackConflict ((s.wing w).ackReq f p) = false) :
    s.ackEvaluate w f = (s.ackPsdu w f).2.modWing w (fun z => (z.txCommit ((s.wing w).ackReq f p)).putRx { f with ack := some false }) := by
  unfold State.ackEvaluate
  dsimp only
  rw [if_neg hs, if_neg hb, show s.ackPsdu w f = (some p, (s.ackPsdu w f).2) from Prod.ext hp rfl]
  exact if_neg (Bool.eq_false_iff.mp h)

end

/-- What a wing makes of the frame `g` that came in the window of its own frame (R158). -/
def State.ackAnswer (w : Nat) (g : RxFrame) (o : OwnAck) (s : State) : State :=
  let x := s.wing w
  let bad := { x with lnk := { x.lnk with ackIn := none } }
  match x.pendOf o.id with
  | none => s.setWing w (bad.bufReturn g.buf)
  | some f =>
    match x.keyOf (pairLabel (f.fc.getD (0, 0)).1 (s.identity w).toNat (x.nb f.nb).eui.toNat) with
    | (none, _) => s.setWing w ((bad.lnkCount 10).bufReturn g.buf)
    | (some k, y) =>
      if g.mac.length = 11 && checkFrame k (x.nb f.nb).eui.toNat (f.fc.getD (0, 0)).2 g.mac then s.setWing w (y.ackGood f g)
      else s.setWing w ((bad.lnkCount 10).bufReturn g.buf)

theorem ackReceived_eq {s : State} {w : WingId} {g : RxFrame} {o : OwnAck} (hg : (s.wing w).lnk.ackIn = some g) (ho : (s.wing w).lnk.own = some o) :
    exec (.ackReceived w) s = .next (s.ackAnswer w g o) := by
  change execAckReceived w s = _
  unfold execAckReceived
  dsimp only
  split
  · rename_i g' o' hg' ho'
    obtain rfl := Option.some.inj (hg'.symm.trans hg)
    obtain rfl := Option.some.inj (ho'.symm.trans ho)
    rfl
  · rename_i h
    exact absurd ho (h g o hg)

/-- Settles O20: the MIC and Journal checks, the evaluation of an acknowledgement, its deadline, and the acknowledgement of an own frame. -/
theorem ackSteps : Obligations.AckSteps := by
  unfold Obligations.AckSteps
  intro s w id f x
  refine ⟨fun hf => ⟨?mic, ?journal, ?evaluate, ?deadline⟩, ?noFrame, ?ackRests, ?expiryRests, fun o g hg ho => ?ack, fun o ho hi hl => ?expiry⟩
  case mic =>
    intro hm u m
    have he : exec (.micCheckDone w id) s = .next (s.micDone w f) := by
      change execMicCheckDone w id s = _
      unfold execMicCheckDone
      rw [show (s.wing w).rxOf id.toNat = some f from hf]
      exact next_if_pos (by rw [hm]; rfl) rfl
    exact ⟨he, fun h => he.trans (congrArg _ (State.micDone_noKey h)), fun k h ho hk => he.trans (congrArg _ (State.micDone_wrong h ho hk)),
      fun k p h ho hk hc hr => he.trans (congrArg _ (State.micDone_partner h ho hk hc hr))⟩
  case journal =>
    intro hk hc hm hj hs
    change execJournalCheckDone w id s = _
    unfold execJournalCheckDone
    dsimp only
    rw [show (s.wing w).rxOf id.toNat = some f from hf]
    refine next_if_pos ?_ rfl
    have hn : (s.wing w).wrk.sealWait.contains (2, f.acc) = false := by
      rw [← Bool.not_eq_true, List.contains_iff_mem]
      exact hs
    rw [hk, hc, hm, hj, hn]
    rfl
  case evaluate =>
    intro y u shut busy no ha hack hno hq
    have he : exec (.ackEvaluation w id) s = .next (u.ackEvaluate w f) := by
      change execAckEvaluation w id s = _
      unfold execAckEvaluation
      dsimp only
      rw [show (s.wing w).rxOf id.toNat = some f from hf]
      dsimp only
      rw [show (s.wing w).evalQueue f = [] from hq]
      refine next_if_pos ?_ rfl
      unfold RxFrame.toEvaluate
      rw [ha, hack, hno]
      rfl
    have hw : u.wing w = y := State.wing_setWing s w y
    have hset : ∀ z, u.setWing w z = s.setWing w z := fun z => State.setWing_setWing s w y z
    have hshut : (u.role w = .standby || y.lnk.sync = .searching || y.sys.watch) = true ↔ shut := by
      rw [Bool.or_eq_true, Bool.or_eq_true, decide_eq_true_eq, decide_eq_true_eq, or_assoc]
    have hbusy : y.rx.lanes.any (fun e => decide (e.2.state = .receiving) && decide (1 ≤ e.2.prio)) = true ↔ busy := by
      rw [List.any_eq_true]
      exact exists_congr fun e => and_congr_right fun _ => by rw [Bool.and_eq_true, decide_eq_true_eq, decide_eq_true_eq]
    have hb : ∀ {z t : State}, z = t → exec (.ackEvaluation w id) s = .next z → exec (.ackEvaluation w id) s = .next t := fun h h' => h ▸ h'
    refine ⟨fun hsh => ?_, fun hsh hbu => ?_, fun p hsh hbu hp hc => ?_, fun p hsh hbu hp hc => ?_⟩
    · refine hb ?_ he
      rw [State.ackEvaluate_shut (by rw [hw]; exact hshut.mpr hsh), hw, hset]
    · refine hb ?_ he
      rw [State.ackEvaluate_busy (by rw [hw]; exact mt hshut.mp hsh) (by rw [hw]; exact hbusy.mpr hbu), hw, hset]
    · refine hb ?_ he
      rw [State.ackEvaluate_conflict (by rw [hw]; exact mt hshut.mp hsh) (by rw [hw]; exact mt hbusy.mp hbu) hp (by rw [hw]; exact hc), hw, hset]
    · refine hb ?_ he
      rw [State.ackEvaluate_commit (by rw [hw]; exact mt hshut.mp hsh) (by rw [hw]; exact mt hbusy.mp hbu) hp (by rw [hw]; exact hc), hw]
  case deadline =>
    intro y ha hn hp ho
    change execAckCheckDeadline w id s = _
    unfold execAckCheckDeadline
    dsimp only
    rw [show (s.wing w).rxOf id.toNat = some f from hf]
    refine next_if_pos ?_ rfl
    rw [ha, hn, hp, show ((s.wing w).reach (f.endT + (s.wing w).ackGap + ((s.wing w).rx.live.preTicks f.prof - us 1))).ackOut f.id = true from ho]
    rfl
  case noFrame =>
    intro hf i hi
    have hf' : (s.wing w).rxOf id.toNat = none := hf
    simp only [List.mem_cons, List.not_mem_nil, or_false] at hi
    obtain rfl | rfl | rfl | rfl := hi
    · change execMicCheckDone w id s = _
      unfold execMicCheckDone
      rw [hf']
    · change execJournalCheckDone w id s = _
      unfold execJournalCheckDone
      dsimp only
      rw [hf']
    · change execAckEvaluation w id s = _
      unfold execAckEvaluation
      dsimp only
      rw [hf']
    · change execAckCheckDeadline w id s = _
      unfold execAckCheckDeadline
      dsimp only
      rw [hf']
  case ackRests =>
    intro h
    change execAckReceived w s = _
    unfold execAckReceived
    dsimp only
    split
    · rename_i hi ho
      exact absurd h (by rw [show x.lnk.ackIn = some _ from hi, show x.lnk.own = some _ from ho]; simp)
    · rfl
  case expiryRests =>
    intro h
    change execAckWindowExpiry w s = _
    unfold execAckWindowExpiry
    dsimp only
    split
    · rfl
    · rename_i o ho
      refine congrArg Host.Outcome.next (if_pos ?_)
      rw [Bool.or_eq_true, List.any_eq_true, Option.isSome_iff_ne_none]
      exact h.resolve_left (by rw [show x.lnk.own = some o from ho]; simp)
  case ack =>
    intro bad
    have he : exec (.ackReceived w) s = .next (s.ackAnswer w g o) := ackReceived_eq hg ho
    refine ⟨fun hn => he.trans ?_, fun p hp => ?_⟩
    · unfold State.ackAnswer
      dsimp only
      rw [show (s.wing w).pendOf o.id = none from hn]
    intro key good
    have ha : s.ackAnswer w g o = match key with
        | (none, _) => s.setWing w ((bad.lnkCount 10).bufReturn g.buf)
        | (some k, y) => if g.mac.length = 11 && checkFrame k (x.nb p.nb).eui.toNat (p.fc.getD (0, 0)).2 g.mac then s.setWing w (y.ackGood p g)
            else s.setWing w ((bad.lnkCount 10).bufReturn g.buf) := by
      unfold State.ackAnswer
      dsimp only
      rw [show (s.wing w).pendOf o.id = some p from hp]
    refine ⟨fun k hk hgood => he.trans ?_, fun hbad => he.trans ?_⟩
    · rw [ha, show key = (some k, key.2) from Prod.ext hk rfl]
      refine congrArg Host.Outcome.next (if_pos ?_)
      rw [hgood.1, hgood.2]
      rfl
    · rw [ha]
      obtain hn | ⟨k, hk, hng⟩ := hbad
      · rw [show key = (none, key.2) from Prod.ext hn rfl]
      · rw [show key = (some k, key.2) from Prod.ext hk rfl]
        refine congrArg Host.Outcome.next (if_neg (fun hc => hng ?_))
        rw [Bool.and_eq_true, decide_eq_true_eq] at hc
        exact hc
  case expiry =>
    intro y
    change execAckWindowExpiry w s = _
    unfold execAckWindowExpiry
    dsimp only
    rw [show (s.wing w).lnk.own = some o from ho]
    refine congrArg Host.Outcome.next (if_neg ?_)
    have hany : (s.wing w).rx.lanes.any (fun e => e.2.ackWin) = false := List.any_eq_false.mpr fun e he => Bool.eq_false_iff.mp (hl e he)
    rw [hany, show (s.wing w).lnk.ackIn = none from hi]
    decide

end Sys2Proof.Machine

namespace Sys2Proof.Machine
open Sys2Proof

/-! SUPPORT. Missed windows and the recovery of a neighbour (R167, R173). -/

theorem Wing.nb_setNb {x : Wing} (h : trising x.msh.nbs = true) (i : Nat) (n : Nb) : (x.setNb i n).nb i = n := tget_tset_same ({} : Nb) i n h

theorem Wing.goAdrift_nb (x : Wing) (h : trising x.msh.nbs = true) (i : Nat) : (x.goAdrift i).nb i = Nb.lose .adrift (x.nb i) :=
  Wing.nb_setNb h i _

/-- The window has closed without a contact and is owed no more. -/
def Wing.dropOwed (v : Win) (x : Wing) : Wing :=
  { x with lnk := { x.lnk with wins := x.lnk.wins.map (fun u => if u = v then { u with owed := false } else u) } }

/-- Record `i` with one more miss, up to 15. -/
def Wing.missed (i : Nat) (y : Wing) : Nb :=
  { y.nb i with misses := min 15 ((y.nb i).misses + 1) }

/-- The miss is counted against record `i` (R167). -/
def Wing.countMiss (i : Nat) (y : Wing) : Wing :=
  (y.setNb i (y.missed i)).lnkCount 12

/-- A miss counts against record `i`, and at MISS_LIMIT a NORMAL record is ADRIFT (R167, R168). -/
def Wing.missNb (i : Nat) (y : Wing) : Wing :=
  if (y.countMiss i).reg 0xFF8013 ≤ (y.missed i).misses && (y.missed i).timing = .normal then (y.countMiss i).goAdrift i else y.countMiss i

theorem Wing.countMiss_nb {y : Wing} (h : trising y.msh.nbs = true) (i : Nat) : (y.countMiss i).nb i = y.missed i :=
  Wing.nb_setNb h i (y.missed i)

theorem Wing.goAdrift_countMiss_nb {y : Wing} (h : trising y.msh.nbs = true) (i : Nat) :
    ((y.countMiss i).goAdrift i).nb i = Nb.lose .adrift (y.missed i) := by
  rw [Wing.goAdrift_nb _ (trising_tset ({} : Nb) i (y.missed i) h), Wing.countMiss_nb h]

theorem Wing.countMiss_reg (i n : Nat) (y : Wing) : (y.countMiss i).reg n = y.reg n := rfl

theorem Wing.goAdrift_frame (i : Nat) (y : Wing) : (y.goAdrift i).lnk = y.lnk ∧ (y.goAdrift i).core = y.core := ⟨rfl, rfl⟩

theorem Wing.countMiss_frame (i : Nat) (y : Wing) : (y.countMiss i).lnk = y.lnk ∧ (y.countMiss i).core = y.core := ⟨rfl, rfl⟩

theorem Wing.windowMiss_eq {x : Wing} {cell i : Nat} {v : Win} (hv : x.lnk.wins.find? (fun v => v.owed && v.cell == cell) = some v) (hi : v.nb = some i) :
    x.windowMiss cell = ((x.reach v.hi).dropOwed v).missNb i := by
  unfold Wing.windowMiss
  rw [hv]
  dsimp only
  rw [hi]
  rfl

/-- MISSES rises by one up to 15, and at MISS_LIMIT a NORMAL record is ADRIFT. -/
theorem Wing.missNb_moves {y : Wing} (h : trising y.msh.nbs = true) (i : Nat) : ((y.missNb i).nb i).misses = min 15 ((y.nb i).misses + 1) ∧
    ((y.missNb i).nb i).timing = (if y.reg 0xFF8013 ≤ min 15 ((y.nb i).misses + 1) ∧ (y.nb i).timing = .normal then .adrift else (y.nb i).timing) ∧
    (y.missNb i).lnk = y.lnk ∧ (y.missNb i).core = y.core := by
  have hmiss : (y.missed i).misses = min 15 ((y.nb i).misses + 1) := rfl
  have htim : (y.missed i).timing = (y.nb i).timing := rfl
  obtain ⟨hl, hc⟩ := Wing.countMiss_frame i y
  unfold Wing.missNb
  rw [Wing.countMiss_reg, ← hmiss, ← htim]
  split
  · rename_i hlim
    obtain ⟨hl', hc'⟩ := Wing.goAdrift_frame i (y.countMiss i)
    rw [Bool.and_eq_true, decide_eq_true_eq, decide_eq_true_eq] at hlim
    rw [Wing.goAdrift_countMiss_nb h, if_pos hlim]
    exact ⟨rfl, rfl, hl'.trans hl, hc'.trans hc⟩
  · rename_i hlim
    rw [Bool.and_eq_true, decide_eq_true_eq, decide_eq_true_eq] at hlim
    rw [Wing.countMiss_nb h, if_neg hlim]
    exact ⟨rfl, rfl, hl, hc⟩

/-- What stays owed was owed before, and is not the window missed. -/
theorem Wing.dropOwed_owed {x : Wing} {u v : Win} (hu : u ∈ (x.dropOwed v).lnk.wins) (ho : u.owed = true) : u ∈ x.lnk.wins ∧ u ≠ v := by
  obtain ⟨u', hm, rfl⟩ := List.mem_map.mp hu
  split at ho
  · exact absurd ho Bool.false_ne_true
  · rename_i hne
    rw [if_neg hne]
    exact ⟨hm, hne⟩

/-- Settles O21: the window that is missed, and the recovery of a record. -/
theorem windowsRecover : Obligations.WindowsRecover := by
  unfold Obligations.WindowsRecover
  intro s w x
  refine ⟨?miss, ?missRests, fun nb ha => next_if_neg (Bool.eq_false_iff.mp ha) rfl, fun nb ha => ⟨fun hv => ?_, fun hv => ?_⟩⟩
  case miss =>
    intro cell v i hrun hv hi hr
    refine ⟨_, next_if_pos hrun rfl, _, rfl, ?_⟩
    rw [Wing.windowMiss_eq hv hi]
    obtain ⟨tb, ht⟩ := Wing.reach_eq v.hi (s.wing w)
    rw [ht]
    obtain ⟨hmiss, htiming, hlnk, hcore⟩ := Wing.missNb_moves (y := ({ s.wing w with car := { (s.wing w).car with tb := tb } } : Wing).dropOwed v) hr i
    refine ⟨hmiss, htiming, fun u hu ho => ?_, hcore⟩
    rw [hlnk] at hu
    exact Wing.dropOwed_owed hu ho
  case missRests =>
    intro cell h
    obtain h | h := h
    · exact next_if_neg (Bool.eq_false_iff.mp h) rfl
    · change Host.Outcome.next (if (s.wing w).isRunning = true then s.modWing w (Wing.windowMiss cell.val) else s) = _
      have hm : (s.wing w).windowMiss cell.val = s.wing w := by
        unfold Wing.windowMiss
        rw [show (s.wing w).lnk.wins.find? (fun v => v.owed && v.cell == cell.val) = none from h]
      rw [State.modWing, hm, State.setWing_wing, ite_self]
  · exact next_if_pos ha (congrArg (s.setWing w) (if_pos hv))
  · exact next_if_pos ha ((congrArg (s.setWing w) (if_neg (Bool.eq_false_iff.mp hv))).trans (State.setWing_wing s w))

end Sys2Proof.Machine

namespace Sys2Proof.Machine
open Sys2Proof

/-! SUPPORT. Admission, the flood limit and the search (R179, R180, R193, R203). -/

section
variable {s : State} {w : WingId} {d : List Word}

/-- What the Curator makes of the candidate at the head of ring 8, once it has taken it (R179, R180). -/
def State.admitTake (w : Nat) (d : List Word) (s : State) : State :=
  let x := s.wing w
  let c := x.candidate d
  let old := x.msh.find c.mac.sam c.mac.src
  let u := s.setWing w ((x.ringTook 8).bufReturn (descBuf d))
  let srch := x.lnk.sync = .searching && c.mac.typ = 0
  if x.admitMode = 0 || u.role w = .standby then u
  else if x.admitMode = 2 && old.isNone && !srch then u.modWing w (fun y => y.meshEvent 4 c.event)
  else match (if c.mac.sam = 3 then some c.mac.src else old.map (fun i => (x.nb i).eui.toNat)) with
  | none => if x.admitMode = 1 then u.modWing w (Wing.mshCount 1) else u
  | some eui =>
    let u := if x.admitMode = 2 && old.isNone then u.modWing w (fun y => y.meshEvent 4 c.event) else u
    if x.admitMode = 1 || srch then u.admitCand w eui old c else u

theorem admission_takes (hd : (s.wing w).ringHead 8 = some d) (ha : (s.wing w).awake = true) (hb : (s.wing w).fls.blocked = false)
    (hk : bits (d.getD 7 0).toNat 13 12 = 3) : exec (.admission w) s = .next (s.admitTake w d) := by
  change execAdmission w s = _
  unfold execAdmission
  dsimp only
  rw [hd]
  refine congrArg Host.Outcome.next (if_neg ?_)
  rw [ha, hb, hk]
  decide

section
variable (hr : (s.setWing w (((s.wing w).ringTook 8).bufReturn (descBuf d))).role w ≠ .standby)
include hr

theorem State.admitTake_host (hm : (s.wing w).admitMode = 2) (ho : (s.wing w).msh.find ((s.wing w).candidate d).mac.sam ((s.wing w).candidate d).mac.src = none)
    (hs : ¬((s.wing w).lnk.sync = .searching ∧ ((s.wing w).candidate d).mac.typ = 0)) : s.admitTake w d =
    (s.setWing w (((s.wing w).ringTook 8).bufReturn (descBuf d))).modWing w (fun y => y.meshEvent 4 ((s.wing w).candidate d).event) := by
  unfold State.admitTake
  dsimp only
  rw [if_neg (by rw [hm, decide_eq_false hr]; decide), if_pos ?_]
  rw [hm, ho, show (decide ((s.wing w).lnk.sync = .searching) && decide (((s.wing w).candidate d).mac.typ = 0)) = false by
    rw [← Bool.not_eq_true, Bool.and_eq_true, decide_eq_true_eq, decide_eq_true_eq]; exact hs]
  rfl

variable (hm : (s.wing w).admitMode = 1)
include hm

theorem State.admitTake_auto {eui : Nat} (he : (if ((s.wing w).candidate d).mac.sam = 3 then some ((s.wing w).candidate d).mac.src else
      ((s.wing w).msh.find ((s.wing w).candidate d).mac.sam ((s.wing w).candidate d).mac.src).map (fun i => ((s.wing w).nb i).eui.toNat)) = some eui) :
    s.admitTake w d = (s.setWing w (((s.wing w).ringTook 8).bufReturn (descBuf d))).admitCand w eui
      ((s.wing w).msh.find ((s.wing w).candidate d).mac.sam ((s.wing w).candidate d).mac.src) ((s.wing w).candidate d) := by
  unfold State.admitTake
  dsimp only
  rw [if_neg (by rw [hm, decide_eq_false hr]; decide), if_neg (by rw [hm]; exact Bool.false_ne_true), he]
  dsimp only
  rw [if_pos (by rw [hm]; rfl), if_neg (by rw [hm]; exact Bool.false_ne_true)]

theorem State.admitTake_unknown (hsam : ((s.wing w).candidate d).mac.sam ≠ 3)
    (ho : (s.wing w).msh.find ((s.wing w).candidate d).mac.sam ((s.wing w).candidate d).mac.src = none) :
    s.admitTake w d = (s.setWing w (((s.wing w).ringTook 8).bufReturn (descBuf d))).modWing w (Wing.mshCount 1) := by
  unfold State.admitTake
  dsimp only
  rw [if_neg (by rw [hm, decide_eq_false hr]; decide), if_neg (by rw [hm]; exact Bool.false_ne_true), if_neg hsam, ho]
  exact if_pos hm

end
end

/-- Settles O22: admission, the raise of the flood limit, and the end of a search. -/
theorem lineageSteps : Obligations.LineageSteps := by
  unfold Obligations.LineageSteps
  intro s w x
  refine ⟨?admission, ?flood, ?search, ?admissionRests, ?floodRests, ?searchRests⟩
  case admission =>
    intro d hd ha hb hk c u old
    have he := admission_takes hd ha hb hk
    refine ⟨fun h => he.trans (congrArg _ (if_pos ?_)), fun hr hm ho hs => he.trans (congrArg _ (State.admitTake_host hr hm ho hs)),
      fun hr hm hsam => he.trans (congrArg _ (State.admitTake_auto hr hm (if_pos hsam))),
      fun i hr hm hsam ho => he.trans (congrArg _ (State.admitTake_auto hr hm ((if_neg hsam).trans ?_))),
      fun hr hm hsam ho => he.trans (congrArg _ (State.admitTake_unknown hr hm hsam ho))⟩
    · rw [Bool.or_eq_true, decide_eq_true_eq, decide_eq_true_eq]
      exact h
    · exact congrArg (Option.map _) ho
  case flood =>
    intro ha hs hl t
    refine (next_if_pos ?_ rfl).trans (congrArg Host.Outcome.next ?_)
    · rw [show (s.wing w).awake = true from ha, decide_eq_true hl, show (s.wing w).wrk.sealWait.contains (8, 0) = false from by
        rw [← Bool.not_eq_true, List.contains_iff_mem]; exact hs]
      rfl
    · exact ite_congr (propext (by rw [Bool.and_eq_true, decide_eq_true_eq, decide_eq_true_eq])) (fun _ => rfl) (fun _ => rfl)
  case search =>
    intro hr hs hm hmode t
    refine next_if_pos ?_ rfl
    rw [Bool.and_eq_true, Bool.and_eq_true, Bool.and_eq_true, Bool.or_eq_true, decide_eq_true_eq, decide_eq_true_eq, decide_eq_true_eq,
      Option.isNone_iff_eq_none]
    exact ⟨⟨⟨hr, hs⟩, hm⟩, hmode⟩
  case admissionRests =>
    intro h
    change execAdmission w s = _
    unfold execAdmission
    dsimp only
    split
    · rfl
    · rename_i d hd
      refine congrArg Host.Outcome.next (if_pos ?_)
      rw [Bool.or_eq_true, Bool.or_eq_true, Bool.not_eq_true', decide_eq_true_eq, or_assoc]
      obtain h | h | h | ⟨d', hd', h⟩ := h
      · exact absurd (hd.symm.trans h) (by simp)
      · exact .inl h
      · exact .inr (.inl h)
      · obtain rfl := Option.some.inj (hd'.symm.trans hd)
        exact .inr (.inr h)
  case floodRests =>
    refine fun h => next_if_neg (fun hc => ?_) rfl
    rw [Bool.and_eq_true, Bool.and_eq_true, Bool.not_eq_true', decide_eq_true_eq, ← Bool.not_eq_true, List.contains_iff_mem] at hc
    obtain ⟨⟨ha, hs⟩, hl⟩ := hc
    obtain h | h | h := h
    · exact Bool.false_ne_true (h.symm.trans ha)
    · exact hs h
    · exact Nat.not_lt.mpr hl h
  case searchRests =>
    refine fun h => next_if_neg (fun hc => ?_) rfl
    rw [Bool.and_eq_true, Bool.and_eq_true, Bool.and_eq_true, Bool.or_eq_true, decide_eq_true_eq, decide_eq_true_eq, decide_eq_true_eq,
      Option.isNone_iff_eq_none] at hc
    obtain ⟨⟨⟨hr, hs⟩, hm⟩, hmode⟩ := hc
    obtain h | h | h | h | h := h
    · exact Bool.false_ne_true (h.symm.trans hr)
    · exact h hs
    · exact h hm
    all_goals
      have hmode : x.rootMode = 1 ∨ x.rootMode = 2 := hmode
      omega

end Sys2Proof.Machine

namespace Sys2Proof.Machine
open Sys2Proof

/-! SUPPORT. Orders and barriers (R209 to R213). -/

/-- A publication changes SRAM, the rings, the Docent and counts (R452 to R454). -/
theorem Wing.publish_eq (r : Nat) (src : Bool) (d : List Word) (x : Wing) : ∃ m rings doc c e, (x.publish r src d).2 =
    { x with sram := m, rings := rings, doc := doc, cnt16 := c, cnt32 := e } := by
  have hsts : ∀ (vs : List Word) (a : Nat) (y : Wing), ∃ m, y.sts a vs = { y with sram := m } := by
    intro vs
    induction vs with
    | nil => exact fun a y => ⟨y.sram, rfl⟩
    | cons v vs ih =>
      intro a y
      obtain ⟨m, hm⟩ := ih (a + 1) (y.st a v)
      refine ⟨m, hm.trans ?_⟩
      rw [Wing.st_frame]
  unfold Wing.publish
  dsimp only
  split
  · exact ⟨x.sram, _, x.doc, _, _, rfl⟩
  · obtain ⟨m, hm⟩ := hsts d ((x.ring r).slot (x.ring r).put) x
    rw [hm]
    cases src
    · exact ⟨m, _, x.doc, x.cnt16, x.cnt32, rfl⟩
    · exact ⟨m, _, _, x.cnt16, x.cnt32, rfl⟩

/-- An event on ring 5 changes besides these the events that wait for the port (R307). -/
theorem Wing.meshEvent_eq (code : Nat) (data : Octets) (x : Wing) : ∃ m rings doc c e wrk, x.meshEvent code data =
    { x with sram := m, rings := rings, doc := doc, cnt16 := c, cnt32 := e, wrk := wrk } := by
  obtain ⟨m, rings, doc, c, e, h⟩ := Wing.publish_eq 5 false (w16 (0x8000 + code) :: List.replicate 7 0) x
  unfold Wing.meshEvent
  split
  · rename_i y hy
    have hy' := (congrArg Prod.snd hy).symm.trans h
    dsimp only at hy'
    rw [hy']
    exact ⟨m, _, doc, c, e, _, rfl⟩
  · rename_i y hy
    exact ⟨m, rings, doc, c, e, x.wrk, (congrArg Prod.snd hy).symm.trans h⟩

@[simp] theorem Wing.meshEvent_msh (code : Nat) (data : Octets) (x : Wing) : (x.meshEvent code data).msh = x.msh := by
  obtain ⟨_, _, _, _, _, _, h⟩ := Wing.meshEvent_eq code data x
  exact (congrArg Wing.msh h :)

@[simp] theorem Wing.meshEvent_core (code : Nat) (data : Octets) (x : Wing) : (x.meshEvent code data).core = x.core := by
  obtain ⟨_, _, _, _, _, _, h⟩ := Wing.meshEvent_eq code data x
  exact (congrArg Wing.core h :)

@[simp] theorem Wing.meshEvent_lnk (code : Nat) (data : Octets) (x : Wing) : (x.meshEvent code data).lnk = x.lnk := by
  obtain ⟨_, _, _, _, _, _, h⟩ := Wing.meshEvent_eq code data x
  exact (congrArg Wing.lnk h :)

theorem Wing.missingEvents_keeps (oid : Nat) (euis : List Nat) (x : Wing) : let y := x.missingEvents oid euis
    y.msh = x.msh ∧ y.core = x.core ∧ y.lnk = x.lnk := by
  have h := foldl_keeps (fun (z : Wing) => (z.msh, z.core, z.lnk)) (f := fun (y : Wing) k => y.meshEvent 2 (natLe 2 oid ++
    natLe 2 ((euis.drop (128 * k)).take 128).length ++ ((euis.drop (128 * k)).take 128).flatMap (natBe 8))) (fun _ _ => by simp)
    (List.range ((euis.length + 127) / 128)) x
  simp only [Prod.mk.injEq] at h
  exact h

/-- The first of two orders. -/
def firstOrder (present : Nat) (b : Option Order) (o : Order) : Option Order :=
  match b with | none => some o | some p => if o.before present p then some o else some p

/-- `o` is one of `l`, and none of `l` lies before it. -/
def OrderFirst (present : Nat) (l : List Order) (o : Order) : Prop := o ∈ l ∧ ∀ p ∈ l, ¬ p.before present o = true

theorem before_iff {present : Nat} {o p : Order} : o.before present p = true ↔
    asnDiff present p.asn < asnDiff present o.asn ∨ (o.asn = p.asn ∧ o.oid < p.oid) := by
  simp [Order.before]

/-- An order that lies before the first so far is the first of all so far. -/
theorem firstOrder_step {present : Nat} {l : List Order} {p o : Order} (hp : OrderFirst present l p) :
    OrderFirst present (l ++ [o]) (if o.before present p then o else p) := by
  obtain ⟨hm, hl⟩ := hp
  have hself : ∀ q : Order, ¬ q.before present q = true := by
    intro q
    rw [before_iff]
    omega
  split
  · rename_i hb
    refine ⟨by simp, fun q hq => ?_⟩
    obtain hq | hq := List.mem_append.mp hq
    · intro hqo
      refine hl q hq ?_
      rw [before_iff] at hqo hb ⊢
      obtain hqo | ⟨hqa, hqi⟩ := hqo
      · obtain hb | ⟨hba, hbi⟩ := hb
        · exact .inl (by omega)
        · rw [hba] at hqo
          exact .inl hqo
      · obtain hb | ⟨hba, hbi⟩ := hb
        · rw [hqa]
          exact .inl hb
        · exact .inr ⟨hqa.trans hba, by omega⟩
    · rw [List.mem_singleton.mp hq]
      exact hself o
  · rename_i hb
    refine ⟨List.mem_append_left _ hm, fun q hq => ?_⟩
    obtain hq | hq := List.mem_append.mp hq
    · exact hl q hq
    · rw [List.mem_singleton.mp hq]
      exact hb

theorem foldl_firstOrder {present : Nat} (l seen : List Order) {p : Order} (hp : OrderFirst present seen p) :
    ∃ o, l.foldl (firstOrder present) (some p) = some o ∧ OrderFirst present (seen ++ l) o := by
  induction l generalizing seen p with
  | nil => exact ⟨p, rfl, by simpa using hp⟩
  | cons a l ih =>
    obtain ⟨o, ho, hf⟩ := ih (seen ++ [a]) (firstOrder_step (o := a) hp)
    have hs : firstOrder present (some p) a = some (if a.before present p then a else p) := (apply_ite some _ _ _).symm
    refine ⟨o, ?_, by simpa using hf⟩
    rw [List.foldl_cons, hs]
    exact ho

/-- The order that executes next is due, and the first of those due (R209). -/
theorem Wing.dueOrder_first {x : Wing} {o : Order} (h : x.dueOrder = some o) :
    OrderFirst x.lnk.asn (x.msh.orders.filter (fun o => asnPast x.lnk.asn o.asn)) o := by
  have hd : x.dueOrder = (x.msh.orders.filter (fun o => asnPast x.lnk.asn o.asn)).foldl (firstOrder x.lnk.asn) none := rfl
  rw [hd] at h
  cases hl : x.msh.orders.filter (fun o => asnPast x.lnk.asn o.asn) with
  | nil =>
    rw [hl] at h
    exact absurd h (by simp)
  | cons a l =>
    rw [hl] at h
    have ha : OrderFirst x.lnk.asn [a] a := by
      refine ⟨List.mem_singleton_self a, fun q hq => ?_⟩
      rw [List.mem_singleton.mp hq, before_iff]
      omega
    obtain ⟨o', ho', hf⟩ := foldl_firstOrder l [a] ha
    obtain rfl := Option.some.inj (ho'.symm.trans h)
    exact hf

theorem Wing.dueOrder_none {x : Wing} (h : x.dueOrder = none) : ∀ p ∈ x.msh.orders, asnPast x.lnk.asn p.asn = false := by
  have hd : x.dueOrder = (x.msh.orders.filter (fun o => asnPast x.lnk.asn o.asn)).foldl (firstOrder x.lnk.asn) none := rfl
  rw [hd] at h
  cases hl : x.msh.orders.filter (fun o => asnPast x.lnk.asn o.asn) with
  | nil => exact fun p hp => Bool.eq_false_iff.mpr (List.filter_eq_nil_iff.mp hl p hp)
  | cons a l =>
    rw [hl] at h
    have ha : OrderFirst x.lnk.asn [a] a := by
      refine ⟨List.mem_singleton_self a, fun q hq => ?_⟩
      rw [List.mem_singleton.mp hq, before_iff]
      omega
    obtain ⟨o', ho', -⟩ := foldl_firstOrder l [a] ha
    exact absurd (ho'.symm.trans h) (by simp)

/-- The end of a barrier of a wing without a parent changes that wing: the barrier is held no more (R213). -/
theorem State.barrierEnd_root {s : State} {w : WingId} (b : Barrier) (h : (s.wing w).lnk.parent = none) : ∃ z : Wing, s.barrierEnd w b = s.setWing w z ∧
    z.msh.barriers = (s.wing w).msh.barriers.filter (fun c => c ≠ b) ∧ z.core = (s.wing w).core := by
  let x := s.wing w
  let gone := x.children.filter (fun i => !(b.heard.filter (fun h => x.children.contains h.1)).any (fun h => h.1 == i))
  let y := ({ x with msh := { x.msh with barriers := x.msh.barriers.filter (fun c => c ≠ b) } } : Wing).missingEvents b.oid
    (gone.map (fun i => (({ x with msh := { x.msh with barriers := x.msh.barriers.filter (fun c => c ≠ b) } } : Wing).nb i).eui.toNat))
  obtain ⟨hmsh, hcore, hlnk⟩ : y.msh = { x.msh with barriers := x.msh.barriers.filter (fun c => c ≠ b) } ∧ y.core = x.core ∧ y.lnk = x.lnk :=
    Wing.missingEvents_keeps b.oid _ _
  have hp : y.lnk.parent = none := (congrArg Link.parent hlnk).trans h
  have hend : ∃ body, s.barrierEnd w b = s.setWing w (if y.lnk.sync = .root then y.meshEvent 3 body else y) := by
    unfold State.barrierEnd
    dsimp only
    rw [show Link.parent _ = none from hp]
    exact ⟨_, rfl⟩
  obtain ⟨body, hend⟩ := hend
  refine ⟨_, hend, ?_, ?_⟩
  · split
    · rw [Wing.meshEvent_msh, hmsh]
    · rw [hmsh]
  · split
    · rw [Wing.meshEvent_core, hcore]
    · exact hcore

section
variable {s : State} {w : WingId} {o : Order} {late : Bool} (hc : o.cls = 2)
include hc

theorem State.orderAct_resync (ha : o.action = 1) : s.orderAct w o late = s.modWing w Wing.toSearch := by
  simp only [State.orderAct, hc, ha]

theorem State.orderAct_restart (ha : o.action = 2) : s.orderAct w o late = s.enterReset w .host := by
  simp only [State.orderAct, hc, ha]

/-- A RESET order of any other action does nothing (R212). -/
theorem State.orderAct_other (h1 : o.action ≠ 1) (h2 : o.action ≠ 2) : s.orderAct w o late = s := by
  simp only [State.orderAct, hc]

end

/-- Settles O23: the order that is due, and the barrier whose conditions hold. -/
theorem orderSteps : Obligations.OrderSteps := by
  unfold Obligations.OrderSteps
  intro s w x on
  have hon : ((s.wing w).isRunning && (s.wing w).lnk.sync ≠ .searching) = true ↔ on := by
    rw [Bool.and_eq_true, decide_eq_true_eq]
  refine ⟨fun o hon' hb hd => ?due, fun hon' hd => ⟨?none, Wing.dueOrder_none hd⟩, fun b hon' hb => ⟨?confirm, fun hp => ?root⟩, fun hon' hb => ?noBarrier,
    fun hoff => ⟨?off, next_if_neg (mt hon.mp hoff) rfl⟩⟩
  case due =>
    intro late u
    have he : exec (.orderExecute w) s = .next (u.orderAct w o late) := by
      refine next_if_pos ?_ ?_
      · rw [Bool.and_eq_true]
        exact ⟨hon.mpr hon', by rw [hb]; rfl⟩
      · rw [show (s.wing w).dueOrder = some o from hd]
        rfl
    obtain ⟨hm, hl⟩ := Wing.dueOrder_first hd
    obtain ⟨hm, hpast⟩ := List.mem_filter.mp hm
    refine ⟨he, hm, hpast, fun p hp hpp hpo => absurd hpo (hl p (List.mem_filter.mpr ⟨hp, hpp⟩)), fun hc ha => he.trans (congrArg _ (State.orderAct_resync hc ha)),
      fun hc ha => he.trans (congrArg _ (State.orderAct_restart hc ha)), fun hc h1 h2 => he.trans (congrArg _ (State.orderAct_other hc h1 h2))⟩
  case none =>
    change Host.Outcome.next (if ((s.wing w).isRunning && (s.wing w).lnk.sync ≠ .searching && !(s.wing w).fls.blocked) = true then
      (match (s.wing w).dueOrder with | none => s | some o => s.orderRun w o) else s) = _
    rw [show (s.wing w).dueOrder = none from hd]
    exact congrArg _ (ite_self s)
  case confirm =>
    refine next_if_pos (hon.mpr hon') ?_
    rw [show (s.wing w).msh.barriers.find? (fun b => (s.wing w).barrierReady b) = some b from hb]
  case root =>
    obtain ⟨z, hz, hbar, hcore⟩ := State.barrierEnd_root (s := s) (w := w) b hp
    refine ⟨_, next_if_pos (hon.mpr hon') ?_, z, hz, hbar, hcore⟩
    rw [show (s.wing w).msh.barriers.find? (fun b => (s.wing w).barrierReady b) = some b from hb]
  case noBarrier =>
    refine next_if_pos (hon.mpr hon') ?_
    rw [show (s.wing w).msh.barriers.find? (fun b => (s.wing w).barrierReady b) = none from hb]
  case off =>
    refine next_if_neg (fun hc => hoff (hon.mp ?_)) rfl
    rw [Bool.and_eq_true] at hc
    exact hc.1

end Sys2Proof.Machine

namespace Sys2Proof.Machine
open Sys2Proof

/-! SUPPORT. Intake, completions, the journal's carry and stores (R222 to R242, R278, R279). -/

/-- A report, written or kept until the ring has room, changes SRAM, rings, the Docent, counts and the reports that wait (R234). -/
theorem Wing.putReport_eq (ws : List Word) (x : Wing) : ∃ m rings doc c e reports, x.putReport ws =
    { x with sram := m, rings := rings, doc := doc, cnt16 := c, cnt32 := e, wrk := { x.wrk with reports := reports } } := by
  unfold Wing.putReport
  dsimp only
  split
  · obtain ⟨m, rings, doc, c, e, h⟩ := Wing.publish_eq x.itemRing false ws x
    rw [h]
    exact ⟨m, _, doc, c, e, x.wrk.reports, rfl⟩
  · exact ⟨x.sram, x.rings, x.doc, x.cnt16, x.cnt32, _, rfl⟩

/-- A descriptor that the core takes changes SRAM, rings, the Docent, counts and the completions that the flash controller holds (R452). -/
theorem Wing.coreTake_eq (r : Nat) (x : Wing) : ∃ m rings doc c e held, x.coreTake r =
    { x with sram := m, rings := rings, doc := doc, cnt16 := c, cnt32 := e, fls := { x.fls with held := held } } := by
  have htook : ∃ rings doc, x.ringTook r = { x with rings := rings, doc := doc } := by
    unfold Wing.ringTook
    dsimp only
    split
    · exact ⟨x.rings, x.doc, rfl⟩
    · unfold Wing.raiseIf
      split
      · exact ⟨_, _, rfl⟩
      · exact ⟨_, x.doc, rfl⟩
  obtain ⟨rings, doc, ht⟩ := htook
  unfold Wing.coreTake
  split
  · rw [ht]
    unfold Wing.flsRelease
    dsimp only
    split
    · exact ⟨x.sram, rings, doc, x.cnt16, x.cnt32, x.fls.held, rfl⟩
    · rename_i d t hh
      split
      · exact ⟨x.sram, rings, doc, x.cnt16, x.cnt32, x.fls.held, rfl⟩
      · obtain ⟨m, rings', doc', c, e, h⟩ := Wing.publish_eq 13 true d
          { x with rings := rings, doc := doc, fls := { x.fls with held := t } }
        exact ⟨m, rings', doc', c, e, t, h⟩
  · exact ⟨x.sram, x.rings, x.doc, x.cnt16, x.cnt32, x.fls.held, rfl⟩

theorem State.pump_of_empty {s : State} (h : s.port.queue = []) : s.pump = s := by
  unfold State.pump
  rw [h]
  rfl

/-- No query waits, so none goes on (R242). -/
theorem State.queryPump_none {s : State} {w : WingId} (h : (s.wing w).wrk.queries = []) : s.queryPump w = s := by
  have hx : ∀ l, (s.wing w).wrk.queries = l → ({ s.wing w with wrk := { (s.wing w).wrk with queries := l } } : Wing) = s.wing w := by
    rintro _ rfl
    rfl
  unfold State.queryPump
  simp only [h, List.filter_nil, List.foldl_nil, State.modWing]
  rw [hx [] h]
  exact State.setWing_wing s w

/-- A descriptor that fails a check is reported and taken (R223). -/
theorem State.intake_refused {s : State} {w : WingId} {r : Nat} {d : List Word} {c : Nat} (hr : (s.wing w).intakeRing = some r)
    (hd : (s.wing w).ringHead r = some d) (hc : s.intakeCheck w d ((s.wing w).intakeFrame d) = some c) :
    s.intake w = s.setWing w ((((s.wing w).bump 0 0x25200A).putReport (refuseReport c r d)).coreTake r) := by
  unfold State.intake
  simp only [hr, hd, hc, State.modWing]

/-- The completion at the head, of no item, passes on (R236). -/
theorem itemCompletion_passes {s : State} {w : WingId} {r : Nat} {idx : Word} {rest : List (Nat × Word)} (ha : (s.wing w).awake = true)
    (hb : (s.wing w).fls.blocked = false) (hc : (s.wing w).lnk.complAt = (r, idx) :: rest)
    (ht : (((s.wing w).lds (((s.wing w).ring r).slot idx) 8).getD 6 0).getLsbD 15 = false) : ∃ m, exec (.itemCompletion w) s =
    .next (s.setWing w (({ s.wing w with sram := m, lnk := { (s.wing w).lnk with complAt := rest } } : Wing).passOwn r)) := by
  have hsts : ∀ (vs : List Word) (a : Nat) (y : Wing), ∃ m, y.sts a vs = { y with sram := m } := by
    intro vs
    induction vs with
    | nil => exact fun a y => ⟨y.sram, rfl⟩
    | cons v vs ih =>
      intro a y
      obtain ⟨m, hm⟩ := ih (a + 1) (y.st a v)
      refine ⟨m, hm.trans ?_⟩
      rw [Wing.st_frame]
  have hx : ∃ m, (if (false || decide (r = (s.wing w).itemRing)) = true then (s.wing w).sts (((s.wing w).ring r).slot idx) (List.replicate 8 0xFFFF)
      else s.wing w) = { s.wing w with sram := m } := by
    split
    · exact hsts _ _ _
    · exact ⟨(s.wing w).sram, rfl⟩
  obtain ⟨m, hm⟩ := hx
  refine ⟨m, ?_⟩
  change execItemCompletion w s = _
  unfold execItemCompletion
  dsimp only
  rw [if_neg (by rw [ha, hb]; decide), hc]
  dsimp only
  rw [ht, hm]
  rfl

/-- A refused descriptor changes neither items, journal nor NEXT_ACCESSION. -/
theorem Wing.refusal_keeps (c r : Nat) (d : List Word) (x : Wing) : let z := ((x.bump 0 0x25200A).putReport (refuseReport c r d)).coreTake r
    z.wrk.items = x.wrk.items ∧ z.wrk.jrn = x.wrk.jrn ∧ z.wrk.next = x.wrk.next ∧ z.wrk.queries = x.wrk.queries := by
  intro z
  obtain ⟨m, rings, doc, cn, e, reports, hp⟩ := Wing.putReport_eq (refuseReport c r d) (x.bump 0 0x25200A)
  obtain ⟨m', rings', doc', cn', e', held, hk⟩ := Wing.coreTake_eq r ((x.bump 0 0x25200A).putReport (refuseReport c r d))
  rw [show z = _ from hk, hp]
  exact ⟨rfl, rfl, rfl, rfl⟩

theorem intakeDescriptor_refuses {s : State} {w : WingId} {r : Nat} {d : List Word} {c : Nat} (hm : s.mayIntake w = true)
    (hr : (s.wing w).intakeRing = some r) (hd : (s.wing w).ringHead r = some d) (hc : s.intakeCheck w d ((s.wing w).intakeFrame d) = some c)
    (hq : (s.wing w).wrk.queries = []) : exec (.intakeDescriptor w) s =
    .next (s.setWing w ((((s.wing w).bump 0 0x25200A).putReport (refuseReport c r d)).coreTake r)) := by
  refine next_if_pos hm ?_
  rw [State.intake_refused hr hd hc]
  refine State.queryPump_none ?_
  rw [State.wing_setWing]
  exact (Wing.refusal_keeps c r d (s.wing w)).2.2.2.trans hq

theorem Wing.jCarry_carries {x : Wing} (hb : x.fls.blocked = false) : x.jCarry.wrk.tail = (x.wrk.tail + 1) % 32 ∧
    ∀ r ∈ x.jCarry.wrk.jrn, r.at_ / 256 ≠ x.wrk.tail ∨ x.wrk.jseq < r.seq := by
  unfold Wing.jCarry
  rw [if_neg (Bool.eq_false_iff.mp hb)]
  refine ⟨rfl, fun r hr => ?_⟩
  have hs := (List.mem_filter.mp hr).2
  rw [Bool.or_eq_true, Bool.not_eq_true', beq_eq_false_iff_ne, decide_eq_true_eq] at hs
  exact hs

theorem Wing.jCarry_blocked {x : Wing} (hb : x.fls.blocked = true) : x.jCarry = x := if_pos hb

theorem exec_journalCarry (w : WingId) (s : State) : exec (.journalCarry w) s = .next (s.setWing w
    (if ((s.wing w).awake && decide ((s.wing w).wrk.free ≤ 1024)) = true then (s.wing w).jCarry else s.wing w)) := rfl

theorem journalCarry_rests {s : State} {w : WingId} (h : (s.wing w).awake = false ∨ 1024 < (s.wing w).wrk.free ∨ (s.wing w).fls.blocked = true) :
    Rests (.journalCarry w) s := by
  refine (exec_journalCarry w s).trans ?_
  have hx : (if ((s.wing w).awake && decide ((s.wing w).wrk.free ≤ 1024)) = true then (s.wing w).jCarry else s.wing w) = s.wing w := by
    split
    · rename_i hc
      rw [Bool.and_eq_true, decide_eq_true_eq] at hc
      obtain h | h | h := h
      · exact absurd hc.1 (Bool.eq_false_iff.mp h)
      · exact absurd hc.2 (Nat.not_le.mpr h)
      · exact Wing.jCarry_blocked h
    · rfl
  rw [hx, State.setWing_wing]

/-- The end of a store: its flags, the queued one, and the image when it was good (R279). -/
theorem Wing.storeEnd_work (img : Image) (good : Bool) (ms : Nat) (x : Wing) : let k := (x.storeEnd img good ms).wrk
    k.failed = !good ∧ k.storeMs = ms ∧ (k.storing ≠ none ↔ x.wrk.queued = true) ∧ k.queued = false ∧ k.jrn = x.wrk.jrn ∧
    k.stored = (if good then img else x.wrk.stored) ∧ k.gen = (if good then wrap32 x.wrk.gen else x.wrk.gen) := by
  intro k
  refine ⟨rfl, rfl, ?_, rfl, ?_⟩
  · have hk : ∀ i : Image, (if x.wrk.queued = true then some i else none) ≠ none ↔ x.wrk.queued = true := by
      intro i
      split <;> simp_all
    exact hk _
  · cases good <;> exact ⟨rfl, rfl, rfl⟩

theorem State.role_of_unpaired {s : State} {w : Nat} (h : s.pairOf w = none) : s.role w = .single := by
  unfold State.role
  rw [h]

theorem State.nbTellAll_unpaired {s : State} {w : Nat} (h : s.pairOf w = none) : s.nbTellAll w = s := by
  have hi : ∀ i, s.nbTell w i = s := by
    intro i
    refine if_neg ?_
    rw [State.role_of_unpaired h]
    exact Bool.false_ne_true
  unfold State.nbTellAll
  generalize ((s.wing w).msh.nbs.filter (fun (e : Nat × Nb) => e.2.valid)).map (fun (e : Nat × Nb) => e.1) = l
  induction l with
  | nil => rfl
  | cons i l ih =>
    rw [List.foldl_cons, hi]
    exact ih

/-- Events leave wings, pairs and waiting requests. -/
theorem State.storeTell_frame (realm wing : Nat) (good : Bool) (gen ms : Nat) (codes : List Nat) (s : State) :
    let t := s.storeTell realm wing good gen ms codes
    t.wings = s.wings ∧ t.port.queue = s.port.queue ∧ t.port.pairs = s.port.pairs := by
  have hk : ∀ {β : Type} (g : State → β), (∀ (t : State) c k d, g (t.event 6 c k d) = g t) → g (s.storeTell realm wing good gen ms codes) = g s := by
    intro β g hg
    refine (State.foldl_keeps g ?_ codes _).trans ?_
    · exact fun t c => hg t wing 2 _
    · exact hg s wing 1 _
  exact ⟨hk State.wings (fun _ _ _ _ => rfl), hk (fun u => u.port.queue) (fun _ _ _ _ => rfl), hk (fun u => u.port.pairs) (fun _ _ _ _ => rfl)⟩

theorem State.pairOf_congr {s t : State} (h : t.port.pairs = s.port.pairs) (w : Nat) : t.pairOf w = s.pairOf w := by
  unfold State.pairOf Port.pair
  rw [h]

theorem State.pairStored_unpaired {s : State} {w : Nat} (h : s.pairOf w = none) (good share : Bool) (ask : List Nat) : s.pairStored w good share ask = s := by
  unfold State.pairStored
  rw [h]

theorem State.storeEndWing_rests {s : State} {w : WingId} (h : (s.wing w).wrk.storing = none ∨ (s.wing w).fls.blocked = true) (good : Bool) (ms : Nat) :
    s.storeEndWing w good ms = s := by
  have hn : (if (s.wing w).fls.blocked = true then none else (s.wing w).wrk.storing) = none := by
    obtain h | h := h
    · rw [h, ite_self]
    · exact if_pos h
  unfold State.storeEndWing
  simp only [hn]

/-- The end of a store of an unpaired wing, to which nobody waits. -/
theorem State.storeEndWing_unpaired {s : State} {w : WingId} {img : Image} (hs : (s.wing w).wrk.storing = some img)
    (hb : (s.wing w).fls.blocked = false) (hw : (s.wing w).wrk.waiting = []) (hp : s.pairOf w = none) (good : Bool) (ms : Nat) :
    ∃ gen, s.storeEndWing w good ms =
      (s.modWing w (Wing.storeEnd img good ms)).storeTell w w good gen ms (s.wing w).wrk.restores := by
  have hn : (if (s.wing w).fls.blocked = true then none else (s.wing w).wrk.storing) = some img :=
    (if_neg (Bool.eq_false_iff.mp hb)).trans hs
  have hq : (s.modWing w (Wing.storeEnd img good ms)).pairOf w = none := hp
  refine ⟨((s.modWing w (Wing.storeEnd img good ms)).wing w).wrk.gen, ?_⟩
  unfold State.storeEndWing
  simp only [hn, hw, State.nbTellAll_unpaired hq, ite_self]
  exact State.pairStored_unpaired ((State.pairOf_congr (State.storeTell_frame ..).2.2 w).trans hq) ..

theorem storeComplete_wing {s : State} {w : WingId} {img : Image} (hs : (s.wing w).wrk.storing = some img)
    (hb : (s.wing w).fls.blocked = false) (hw : (s.wing w).wrk.waiting = []) (hp : s.pairOf w = none) (hq : s.port.queue = []) (good : Bool) (ms : Word) :
    Does (.storeComplete (.wing w) good ms) s (fun t => (t.wing w).wrk = ((s.wing w).storeEnd img good ms.toNat).wrk) := by
  obtain ⟨gen, he⟩ := State.storeEndWing_unpaired hs hb hw hp good ms.toNat
  obtain ⟨hwings, hqueue, -⟩ := State.storeTell_frame w w good gen ms.toNat (s.wing w).wrk.restores (s.modWing w (Wing.storeEnd img good ms.toNat))
  refine ⟨_, congrArg Host.Outcome.next ((congrArg State.pump he).trans (State.pump_of_empty (hqueue.trans hq))), ?_⟩
  have hx : ∀ (u v : State), u.wings = v.wings → u.wing w = v.wing w := fun u v h => congrArg (fun l : Oct Wing => l.get w) h
  dsimp only
  rw [hx _ _ hwings, State.wing_modWing]


theorem State.storeEndPort_rests {s : State} {p : Bool} (h : takeStore (if p then 0xE else 0xD) s.port.storing = none) (good : Bool) (ms : Nat) :
    s.storeEndPort p good ms = s := by
  unfold State.storeEndPort
  simp only [h]

/-- What the host port keeps of realms D and P, and the Dome's line. -/
def State.settings (s : State) : Tab Octets × Nat × Bool × LinePhase × Bool :=
  (s.port.cat, s.port.gen, s.port.imageFinal, s.dome.line, s.dome.mainGood)

theorem State.settings_sendFrame (f : Octets) (s : State) : (s.sendFrame f).settings = s.settings := by
  unfold State.sendFrame
  split <;> rfl

theorem State.settings_solicit (i : Nat) (s : State) : (s.solicit i).settings = s.settings := by
  unfold State.solicit
  dsimp only
  split
  · rfl
  · exact State.settings_sendFrame _ _

theorem State.settings_watchWrite (v : Nat) (s : State) : (s.watchWrite v).settings = s.settings := by
  unfold State.watchWrite State.modDome
  dsimp only
  split <;> rfl

/-- The image's settings taken, and its pairs (R251, R278). -/
def State.imageLoaded (s : State) : State :=
  { s.portLoad with port := { s.portLoad.port.loadPairs with imageFinal := true } }

/-- What the final image sets off leaves the settings as loaded. -/
theorem exec_portImageFinal {s : State} (h : s.port.imageFinal = false) : Does .portImageFinal s (fun t => t.settings = s.imageLoaded.settings) := by
  refine ⟨_, next_if_neg (Bool.eq_false_iff.mp h) rfl, ?_⟩
  refine (State.foldl_keeps State.settings (fun t i => State.settings_solicit i t) [1, 2] _).trans ?_
  refine (State.forWings_keeps State.settings (fun w t => ?_) _).trans (State.settings_watchWrite _ _)
  split <;> rfl

theorem State.imageLoaded_missing {s : State} (h : newestCopy s.port.copies = none) : s.imageLoaded.settings =
    (tset [] (dpKey true 0x11F0 6) [1] (tset [] (dpKey false 0x12F0 6) [1] s.port.cat), s.port.gen, true, s.dome.line, s.dome.mainGood) := by
  unfold State.imageLoaded State.portLoad
  rw [h]
  rfl

theorem State.imageLoaded_found {s : State} {c gen : Nat} (h : newestCopy s.port.copies = some (c, gen)) : s.imageLoaded.settings =
    (((s.wing c).wrk.portCopy.map (fun (e : Nat × Tab Octets) => e.2)).getD [], gen, true, s.dome.line, s.dome.mainGood) := by
  unfold State.imageLoaded State.portLoad
  rw [h]
  rfl

/-- Settles O24: intake, completions, the journal's carry, stores and the port's image. -/
theorem workSteps : Obligations.WorkSteps := by
  unfold Obligations.WorkSteps
  intro s w x
  refine ⟨fun hm => ⟨next_if_pos hm rfl, fun r d c hr hd hc hq => ?_, fun hr hq => ?_⟩, fun h => ?_, fun r idx rest ha hb hc ht => ?_, fun h => ?_,
    fun ha hf hb => ?_, journalCarry_rests, fun hrun hs => ?_, fun hrun hs => ?_, fun hrun => next_if_neg (Bool.eq_false_iff.mp hrun) rfl,
    fun good ms => ⟨rfl, rfl, rfl, fun img hs hb hw hq hp => ?_, fun hq => ⟨fun h => ?_, fun h => ?_, fun h => ?_⟩⟩, fun h => next_if_pos h rfl, fun h => ?_⟩
  · obtain ⟨hi, hj, hn, -⟩ := Wing.refusal_keeps c r d x
    exact ⟨_, intakeDescriptor_refuses hm hr hd hc hq, _, rfl, hi, hj, hn⟩
  · refine next_if_pos hm ?_
    have hi : s.intake w = s := by
      unfold State.intake
      simp only [show (s.wing w).intakeRing = none from hr]
    rw [hi]
    exact State.queryPump_none hq
  · refine next_if_neg ?_ rfl
    unfold State.mayIntake
    obtain h | h | h := h
    · rw [show (s.wing w).awake = false from h]
      exact Bool.false_ne_true
    · rw [h, Bool.and_false, Bool.false_and]
      exact Bool.false_ne_true
    · rw [show (s.wing w).fls.blocked = true from h, Bool.not_true, Bool.and_false]
      exact Bool.false_ne_true
  · obtain ⟨m, hm⟩ := itemCompletion_passes ha hb hc ht
    exact ⟨_, hm, _, rfl, rfl, rfl, rfl⟩
  · change execItemCompletion w s = _
    unfold execItemCompletion
    dsimp only
    split
    · rfl
    · rename_i hn
      obtain h | h | h := h
      · rw [show (s.wing w).awake = false from h] at hn
        exact absurd rfl hn
      · rw [show (s.wing w).fls.blocked = true from h, Bool.or_true] at hn
        exact absurd rfl hn
      · rw [show (s.wing w).lnk.complAt = [] from h]
  · have hgo : ((s.wing w).awake && decide ((s.wing w).wrk.free ≤ 1024)) = true := by
      rw [Bool.and_eq_true, decide_eq_true_eq]
      exact ⟨ha, hf⟩
    have he : exec (.journalCarry w) s = .next (s.setWing w x.jCarry) := by
      rw [exec_journalCarry, if_pos hgo]
    refine ⟨he, _, he, ?_⟩
    dsimp only
    rw [State.wing_setWing]
    exact Wing.jCarry_carries hb
  · refine next_if_pos hrun (congrArg (s.setWing w) ?_)
    unfold Wing.storeAsk
    dsimp only
    rw [if_pos (by rw [show (s.wing w).wrk.storing = none from hs]; rfl)]
    rfl
  · refine next_if_pos hrun (congrArg (s.setWing w) ?_)
    unfold Wing.storeAsk
    dsimp only
    rw [if_neg (by rw [Option.isNone_iff_eq_none]; exact hs)]
    change ({ x with wrk := { x.wrk with queued := true, waitNext := x.wrk.waitNext ++ [] } } : Wing) = _
    rw [List.append_nil]
  · obtain ⟨t, ht, hk⟩ := storeComplete_wing hs hb hw hp hq good ms
    refine ⟨t, ht, ?_⟩
    dsimp only
    rw [hk]
    exact Wing.storeEnd_work img good ms.toNat x
  · exact congrArg Host.Outcome.next ((congrArg State.pump (State.storeEndWing_rests h good ms.toNat)).trans (State.pump_of_empty hq))
  · exact congrArg Host.Outcome.next ((congrArg State.pump (State.storeEndPort_rests (p := false) h good ms.toNat)).trans (State.pump_of_empty hq))
  · exact congrArg Host.Outcome.next ((congrArg State.pump (State.storeEndPort_rests (p := true) h good ms.toNat)).trans (State.pump_of_empty hq))
  · obtain ⟨t, ht, hk⟩ := exec_portImageFinal h
    refine ⟨t, ht, ?_⟩
    cases hn : newestCopy s.port.copies with
    | none =>
      rw [State.imageLoaded_missing hn] at hk
      obtain ⟨hcat, hgen, hfin, hline, hmain⟩ : _ ∧ _ ∧ _ ∧ _ ∧ _ := by simpa only [State.settings, Prod.mk.injEq] using hk
      refine ⟨hfin, hline, hmain, fun _ hr => ?_, fun c gen hc => nomatch hc⟩
      have hr' := trising_tset [] (dpKey false 0x12F0 6) [1] hr
      rw [hcat, tget_tset_same [] _ _ hr', tget_tset_other [] _ (by decide) hr', tget_tset_same [] _ _ hr]
      exact ⟨rfl, rfl⟩
    | some e =>
      obtain ⟨c, gen⟩ := e
      rw [State.imageLoaded_found hn] at hk
      obtain ⟨hcat, hgen, hfin, hline, hmain⟩ : _ ∧ _ ∧ _ ∧ _ ∧ _ := by simpa only [State.settings, Prod.mk.injEq] using hk
      refine ⟨hfin, hline, hmain, fun hc => (nomatch hc), fun c' gen' hc => ?_⟩
      obtain ⟨rfl, rfl⟩ := Prod.mk.injEq .. ▸ Option.some.inj hc
      refine ⟨hgen, fun l hl => ?_⟩
      rw [hcat, hl]
      rfl

end Sys2Proof.Machine

namespace Sys2Proof.Machine
open Sys2Proof

/-! SUPPORT. What the answer of a waiting request leaves of every wing (R303, R461), and the flash controller's own descriptors (R372). -/

/-- What `f` sees of each wing. -/
def State.each {β : Type} (f : Wing → β) (s : State) : Oct β :=
  s.wings.map (fun _ => f)

theorem Oct.map_set_same {α β : Type} (f : α → β) (o : Oct α) {v : Nat} {y : α} (h : f y = f (o.get v)) :
    (o.set v y).map (fun _ => f) = o.map (fun _ => f) := by
  rcases v with _ | _ | _ | _ | _ | _ | _ | v <;> (simp only [Oct.set, Oct.map]; rw [h]; rfl)

theorem State.each_setWing {β : Type} {f : Wing → β} {s : State} {v : Nat} {y : Wing} (h : f y = f (s.wing v)) : (s.setWing v y).each f = s.each f :=
  Oct.map_set_same f s.wings h

theorem State.wing_of_each {β : Type} {f : Wing → β} {s t : State} (h : t.each f = s.each f) (w : WingId) : f (t.wing w) = f (s.wing w) := by
  have hg : ∀ u : State, (u.each f).get w = f (u.wing w) := by
    intro u
    match w with
    | 0 => rfl | 1 => rfl | 2 => rfl | 3 => rfl | 4 => rfl | 5 => rfl | 6 => rfl | 7 => rfl
  rw [← hg t, h, hg]

theorem Wing.putOctets_fls (a off : Nat) (os : Octets) (x : Wing) : (x.putOctets a off os).fls = x.fls := by
  obtain ⟨m, hm⟩ := Wing.putOctets_eq a off os x
  rw [hm]

theorem Wing.ownSend_fls (word0 : Nat) (p : Octets) (x : Wing) : (x.ownSend word0 p).2.fls = x.fls := by
  unfold Wing.ownSend
  split
  · rfl
  · rename_i a _
    obtain ⟨m, rings, doc, c, e, h⟩ := Wing.publish_eq 11 false
      [w16 word0, w16 a, w16 (a / 65536 + 256 * x.reg 0xFF801E), w16 (p.length % 2048), 0, 0, 0, 0] (x.putOctets a 0 p)
    dsimp only
    split
    · rw [h]
      exact Wing.putOctets_fls a 0 p x
    · rfl

theorem State.postNotice_fls (w n : Nat) (s : State) : (s.postNotice w n).each Wing.fls = s.each Wing.fls := by
  unfold State.postNotice
  dsimp only
  split <;> exact State.each_setWing rfl

theorem State.wingRespond_fls (w n : Nat) (st : Status) (more : Bool) (body : Octets) (s : State) :
    (s.wingRespond w n st more body).each Wing.fls = s.each Wing.fls := by
  unfold State.wingRespond
  split
  · rfl
  · exact (State.postNotice_fls w n _).trans (State.each_setWing (Wing.putOctets_fls ..))

theorem State.meshReply_fls (w nb trans : Nat) (st : Status) (value : Octets) (s : State) :
    (s.meshReply w nb trans st value).each Wing.fls = s.each Wing.fls :=
  State.each_setWing (Wing.ownSend_fls ..)

theorem State.storeAnswer_fls (who : List Nat) (st : Status) (w : Nat) (s : State) :
    (s.storeAnswer who st (fun n u => u.wingRespond w n st false [])).each Wing.fls = s.each Wing.fls := by
  refine State.foldl_keeps (State.each Wing.fls) (fun t n => ?_) who s
  split
  · exact State.wingRespond_fls ..
  · exact State.meshReply_fls ..

/-- The Curator's descriptors wait only while the queue is full. -/
theorem Flash.feed_waits {f : Flash} (h : f.feed.queue = []) : f.feed.mine = [] := by
  obtain ⟨hq, hm⟩ := List.append_eq_nil_iff.mp h
  have hroom : 1 ≤ 32 - f.load := by
    unfold Flash.load
    rw [hq]
    split <;> decide
  change f.mine.drop (32 - f.load) = []
  obtain hz | hz := List.take_eq_nil_iff.mp hm
  · omega
  · rw [hz, List.drop_nil]

/-- The pump's own steps: descriptors fed, and jobs that have ended taken off. -/
def Flash.pumped (f : Flash) : Flash :=
  { f.feed with jobs := f.feed.jobs.filter (fun e => f.feed.working e.job) }

theorem State.jobPump_fls (s : State) (w : WingId) : ((s.jobPump w).wing w).fls = (s.wing w).fls.pumped := by
  have hx : ∀ u : State, ((s.jobPump w)).each Wing.fls = u.each Wing.fls → (u.wing w).fls = (s.wing w).fls.pumped →
      ((s.jobPump w).wing w).fls = (s.wing w).fls.pumped := fun u h hu => (State.wing_of_each h w).trans hu
  refine hx _ (State.foldl_keeps (State.each Wing.fls) (fun t e => State.storeAnswer_fls ..) _ _) ?_
  rw [State.wing_modWing, State.wing_modWing]
  rfl

/-- A descriptor of operation `op` and of the Curator's job `k`. -/
def jobDesc (op k : Nat) : FlsDesc :=
  { op := op, tag := 0, addr := 0, buf := 0, lines := 0, own := some k }

/-- A TALLY of the Curator's own at the front, with a descriptor of another job behind. -/
def ownTally : State :=
  State.reset.setWing 0 { State.reset.wing 0 with fls := { (State.reset.wing 0).fls with queue := [jobDesc 3 0], mine := [jobDesc 1 1] } }

/-- Refutes O25: FLASH_TALLY and FLASH_READ do not feed the Curator's descriptors, also where the one that ends was its own: the other
job's descriptor still waits behind an empty queue, as after no pump. -/
theorem not_flashOperations : ¬ Obligations.FlashOperations := by
  unfold Obligations.FlashOperations
  intro h
  obtain ⟨-, -, -, hown, -⟩ := h 0 0 false ownTally
  obtain ⟨u, hu, -⟩ := hown (jobDesc 3 0) [] rfl rfl rfl (by decide) (by decide) (3, .flashTally 0) (by decide) rfl 6 (by decide +kernel)
  have hq : ∃ t, exec (.flashTally 0) ownTally = .next t ∧ (t.wing 0).fls.queue = [] ∧ (t.wing 0).fls.mine ≠ [] :=
    ⟨_, rfl, by decide +kernel, by decide +kernel⟩
  obtain ⟨t, ht, hqueue, hmine⟩ := hq
  have htu : t = u.jobPump 0 := Host.Outcome.next.inj (ht.symm.trans hu)
  have hf : (t.wing 0).fls = (u.wing 0).fls.pumped := by
    rw [htu]
    exact State.jobPump_fls u 0
  rw [hf] at hqueue hmine
  exact hmine (Flash.feed_waits hqueue)

end Sys2Proof.Machine

namespace Sys2Proof.Machine
open Sys2Proof

/-! SUPPORT. Requests of a session as the port hands them on (R296, R303, R461). -/

theorem leNat_take_natLe {k n : Nat} (h : n < 256 ^ k) (os : Octets) : leNat ((natLe k n ++ os).take k) = n := by
  rw [List.take_append_of_le_length (Nat.le_of_eq (natLe_length k n).symm), List.take_of_length_le (Nat.le_of_eq (natLe_length k n)), leNat_natLe, Nat.mod_eq_of_lt h]

theorem slice_append_right (a b : Octets) (k : Nat) : slice (a ++ b) a.length k = b.take k := by
  unfold slice
  rw [List.drop_left]

theorem leNat_slice_natLe {k n : Nat} (h : n < 256 ^ k) (a os : Octets) : leNat (slice (a ++ (natLe k n ++ os)) a.length k) = n := by
  rw [slice_append_right, leNat_take_natLe h]

theorem leNat_slice_start {k n : Nat} (h : n < 256 ^ k) (os : Octets) : leNat (slice (natLe k n ++ os) 0 k) = n :=
  leNat_take_natLe h os

/-- A request to a wing stays with it, unless it writes to both wings of a pair or submits. -/
theorem State.target_single {op : Nat} (h11 : op ≠ 0x11) (h13 : op ≠ 0x13) (h20 : op ≠ 0x20) (w : WingId) (body : Octets) (s : State) :
    s.target op (.wing w) body = w := by
  unfold State.target
  simp [h11, h13, h20]

theorem realmFits_wing (op : Nat) (w : WingId) (h30 : op ≠ 0x30) (h31 : op ≠ 0x31) (h40 : op ≠ 0x40) : realmFits op w = true := by
  have hr : realmOf w.val = some (.wing w) := by simp [realmOf, w.isLt]
  unfold realmFits
  rw [hr]
  simp [h30, h31, h40]

/-- A job's descriptors follow those that wait, the queue is filled up to 32 pending, and the job waits for its end (R303, R372). -/
theorem Wing.flsJob_feeds (who : Option Nat) (ds : List FlsDesc) (x : Wing) : let f := (x.flsJob who ds).fls
    f.queue ++ f.mine = x.fls.queue ++ x.fls.mine ++ ds.map (fun d => { d with own := some x.fls.jobNo }) ∧
    f.queue.length = min (x.fls.queue.length + (32 - x.fls.load)) (x.fls.queue.length + x.fls.mine.length + ds.length) ∧
    f.jobs = x.fls.jobs ++ [{ job := x.fls.jobNo, who := who }] ∧ f.jobNo = x.fls.jobNo + 1 ∧ f.lines = x.fls.lines := by
  refine ⟨?_, ?_, rfl, rfl, rfl⟩
  · change (x.fls.queue ++ (x.fls.mine ++ ds.map _).take (32 - x.fls.load)) ++ (x.fls.mine ++ ds.map _).drop (32 - x.fls.load) = _
    rw [List.append_assoc, List.take_append_drop, List.append_assoc]
  · change (x.fls.queue ++ (x.fls.mine ++ ds.map _).take (32 - x.fls.load)).length = _
    rw [List.length_append, List.length_take, List.length_append, List.length_map]
    omega

/-- A job of the Curator that a request starts, whose end answers the request. -/
theorem job_starts {i : Instr} {s u : State} {w : WingId} {n : Nat} {ds : List FlsDesc}
    (he : exec i s = .next (answered w n (none, (u.modWing w (Wing.flsJob (some n) ds)).disarm w))) :
    Does i s (fun t => ∃ v : State, t = (v.disarm w).pump ∧ let f := (v.wing w).fls
      let g := (u.wing w).fls
      f.queue ++ f.mine = g.queue ++ g.mine ++ ds.map (fun d => { d with own := some g.jobNo }) ∧
      f.queue.length = min (g.queue.length + (32 - g.load)) (g.queue.length + g.mine.length + ds.length) ∧
      f.jobs = g.jobs ++ [{ job := g.jobNo, who := some n }] ∧ f.jobNo = g.jobNo + 1 ∧ f.lines = g.lines ∧ v.port = u.port) := by
  refine ⟨_, he, _, rfl, ?_⟩
  dsimp only
  rw [State.wing_modWing]
  obtain ⟨hq, hl, hj, hn, hlines⟩ := Wing.flsJob_feeds (some n) ds (u.wing w)
  exact ⟨hq, hl, hj, hn, hlines, rfl⟩

theorem exec_order {s : State} {rq : Req} {w : WingId} (hf : s.fresh rq .keeper = true) (hc : s.canHand w rq.session = true)
    (c : Octet) (asn : BitVec 40) (oid : Word) (act par ttl : Octet) :
    let b := [c] ++ natLe 5 asn.toNat ++ natLe 2 oid.toNat ++ [act, par, ttl]
    exec (.order rq w c asn oid act par ttl) s = .next (answered w rq.session (((s.heard rq).handed (rq.ask 0x38 w w) b).opOrder w b)) :=
  State.ask_wing hf hc (by simp [bodyFits]) (realmFits_wing _ w (by decide) (by decide) (by decide)) (by decide)
    (by decide) (by decide) (by decide) (by decide) (State.target_single (by decide) (by decide) (by decide) ..)

theorem exec_stageErase {s : State} {rq : Req} {w : WingId} (hf : s.fresh rq .keeper = true) (hc : s.canHand w rq.session = true) :
    exec (.stageErase rq w) s = .next (answered w rq.session (((s.heard rq).handed (rq.ask 0x3A w w) []).opStageErase w rq.session)) :=
  State.ask_wing hf hc rfl (realmFits_wing _ w (by decide) (by decide) (by decide)) (by decide)
    (by decide) (by decide) (by decide) (by decide) (State.target_single (by decide) (by decide) (by decide) ..)

theorem exec_stageWrite {s : State} {rq : Req} {w : WingId} (hf : s.fresh rq .keeper = true) (hc : s.canHand w rq.session = true)
    (off : BitVec 32) {v : Octets} (h16 : 16 ≤ v.length) (hmax : v.length ≤ 1024) (hal : v.length % 16 = 0) :
    exec (.stageWrite rq w off v) s = .next (answered w rq.session
      (((s.heard rq).handed (rq.ask 0x3B w w) (natLe 4 off.toNat ++ v)).opStageWrite w rq.session off.toNat v.length)) := by
  have hb : bodyFits 0x3B (natLe 4 off.toNat ++ v) = true := by
    simp only [bodyFits, List.length_append, natLe_length, Bool.and_eq_true, decide_eq_true_eq, beq_iff_eq]
    omega
  refine (State.ask_wing hf hc hb (realmFits_wing _ w (by decide) (by decide) (by decide)) (by decide)
    (by decide) (by decide) (by decide) (by decide) (State.target_single (by decide) (by decide) (by decide) ..)).trans ?_
  refine congrArg (fun r => Host.Outcome.next (answered w rq.session r)) ?_
  change State.opStageWrite w rq.session (leNat (slice (natLe 4 off.toNat ++ v) 0 4)) ((natLe 4 off.toNat ++ v).length - 4) _ = _
  rw [leNat_slice_start off.isLt, List.length_append, natLe_length, Nat.add_sub_cancel_left]

theorem exec_stageRead {s : State} {rq : Req} {w : WingId} (hf : s.fresh rq .keeper = true) (hc : s.canHand w rq.session = true)
    (off : BitVec 32) (c : Word) : let u := (s.heard rq).handed (rq.ask 0x3C w w) (natLe 4 off.toNat ++ natLe 2 c.toNat)
    exec (.stageRead rq w off c) s = .next (answered w rq.session ((u.wing w).opStageRead off.toNat c.toNat, u)) := by
  intro u
  refine (State.ask_wing hf hc (by simp [bodyFits]) (realmFits_wing _ w (by decide) (by decide) (by decide)) (by decide)
    (by decide) (by decide) (by decide) (by decide) (State.target_single (by decide) (by decide) (by decide) ..)).trans ?_
  have hcnt : leNat (slice (natLe 4 off.toNat ++ natLe 2 c.toNat) 4 2) = c.toNat := by
    have h := leNat_slice_natLe (k := 2) c.isLt (natLe 4 off.toNat) []
    rwa [List.append_nil, natLe_length] at h
  change Host.Outcome.next (answered w rq.session ((u.wing w).opStageRead (leNat (slice (natLe 4 off.toNat ++ natLe 2 c.toNat) 0 4))
    (leNat (slice (natLe 4 off.toNat ++ natLe 2 c.toNat) 4 2)), u)) = _
  rw [leNat_slice_start off.isLt, hcnt]

theorem exec_forward {s : State} {rq : Req} {w : WingId} (hf : s.fresh rq .operator = true) (hc : s.canHand w rq.session = true)
    (nb : Word) (op realm : Octet) (idx : Word) (sub : Octet) {v : Octets} (hv : v.length < 65536) :
    let b := natLe 2 nb.toNat ++ [op, realm] ++ natLe 2 idx.toNat ++ [sub] ++ natLe 2 v.length ++ v
    exec (.forward rq w nb op realm idx sub v) s =
      .next (answered w rq.session (((s.heard rq).handed (rq.ask 0x39 w w) b).opForward w (rq.ask 0x39 w w) b)) := by
  intro b
  have hlen : leNat (slice b 7 2) = v.length := by
    have h := leNat_slice_natLe (k := 2) hv (natLe 2 nb.toNat ++ [op, realm] ++ natLe 2 idx.toNat ++ [sub]) v
    rw [← List.append_assoc] at h
    simpa [b] using h
  have hb : bodyFits 0x39 b = true := by
    simp only [bodyFits, hlen, Bool.and_eq_true, decide_eq_true_eq, beq_iff_eq]
    simp [b]
    omega
  exact State.ask_wing hf hc hb (realmFits_wing _ w (by decide) (by decide) (by decide)) (by decide)
    (by decide) (by decide) (by decide) (by decide) (State.target_single (by decide) (by decide) (by decide) ..)

theorem State.opForward_invalid {u : State} {w : WingId} {nb : Nat} {q : WaitReq} {b : Octets} (hn : leNat (b.take 2) = nb)
    (hv : ¬ (nb < 1024 ∧ ((u.wing w).nb nb).valid = true)) : u.opForward w q b = (.no .neighbourInvalid, u) := by
  unfold State.opForward
  rw [hn]
  refine if_pos ?_
  rw [Bool.or_eq_true, decide_eq_true_eq, Bool.not_eq_true']
  refine Classical.byContradiction fun hc => ?_
  rw [not_or, Nat.not_le, Bool.not_eq_false] at hc
  exact hv hc

/-- A FORWARD to a valid record: too long for a frame, or sent, or without room (R311). -/
theorem State.opForward_valid {u : State} {w : WingId} {nb : Nat} {q : WaitReq} {b : Octets} (hn : leNat (b.take 2) = nb)
    (hv : nb < 1024 ∧ ((u.wing w).nb nb).valid = true) : let t := (u.port.trans + 1) % 65536
    let msg := meshMsg 1 t (b.drop 2)
    let long := (u.wing w).meshLong nb (u.dataFrame w true (some ((u.wing w).nb nb)) msg).length
    (long = true → u.opForward w q b = (.no .badLength, u)) ∧
    (∀ y, long = false → u.meshSend w nb msg = (false, y) → u.opForward w q b = (.no .ringFull, y)) ∧
    (∀ y, long = false → u.meshSend w nb msg = (true, y) → u.opForward w q b = (none, { y with port := { y.port with
      trans := t, fwds := y.port.fwds ++ [{ session := q.session, seq := q.seq, wing := w, nb := nb, trans := t }] } })) := by
  obtain ⟨hlt, hval⟩ := hv
  have hgo : ¬ (decide (1024 ≤ nb) || !((u.wing w).nb nb).valid) = true := by
    rw [hval, Bool.not_true, Bool.or_false, decide_eq_true_eq]
    omega
  intro t msg long
  unfold State.opForward
  rw [hn]
  dsimp only
  rw [if_neg hgo]
  refine ⟨fun hl => if_pos hl, fun y hl hy => ?_, fun y hl hy => ?_⟩
  · refine (if_neg (Bool.eq_false_iff.mp hl)).trans ?_
    rw [hy]
  · refine (if_neg (Bool.eq_false_iff.mp hl)).trans ?_
    rw [hy]

/-- Settles O28: orders, forwards and staging. -/
theorem orderStaging : Obligations.OrderStaging := by
  unfold Obligations.OrderStaging
  intro s rq w n hand
  refine ⟨fun hf hc => ?keeper, ?forward, fun m q => ⟨fun f hm => ?_, fun hm => ?_⟩⟩
  case keeper =>
    intro no job
    refine ⟨fun c asn oid act par ttl => ?order, ⟨fun hsh => ?_, fun hsh => ?_⟩, fun off v => ?write, fun off c => ⟨fun h => ?_, fun h hm => ?_, fun h hm => ?_⟩⟩
    case order =>
      intro b u msg
      refine ⟨fun hcls => ?_, fun ok y h1 h3 hy => ?_⟩
      · refine (exec_order hf hc c asn oid act par ttl).trans (congrArg (fun r => Host.Outcome.next (answered w n r)) (if_pos ?_))
        rw [Bool.or_eq_true, decide_eq_true_eq, decide_eq_true_eq]
        exact hcls
      · refine (exec_order hf hc c asn oid act par ttl).trans (congrArg (fun r => Host.Outcome.next (answered w n r)) ((if_neg ?_).trans ?_))
        · rw [Bool.or_eq_true, decide_eq_true_eq, decide_eq_true_eq]
          change ¬ (c.toNat = 0 ∨ 3 < c.toNat)
          omega
        · change (let (ok, x) := (u.wing w).ownSend 0x400 (u.dataFrame w false none msg)
            (if ok then Ans.ok [] else Ans.no .ringFull, u.setWing w x)) = _
          rw [hy]
          cases ok <;> rfl
    case write =>
      intro u fits h16 hmax hal
      have he := exec_stageWrite hf hc off h16 hmax hal
      have hfit : ((decide (off.toNat % 16 ≠ 0) || decide (262144 < off.toNat + v.length)) = true) ↔ ¬ fits := by
        rw [Bool.or_eq_true, decide_eq_true_eq, decide_eq_true_eq]
        change _ ↔ ¬ (off.toNat % 16 = 0 ∧ off.toNat + v.length ≤ 262144)
        omega
      refine ⟨fun hn => he.trans (congrArg (fun r => Host.Outcome.next (answered w n r)) (if_pos (hfit.mpr hn))), fun hy hsh => ?_, fun hy hsh => ?_⟩
      · exact he.trans (congrArg (fun r => Host.Outcome.next (answered w n r)) ((if_neg (fun hc => hfit.mp hc hy)).trans (if_pos hsh)))
      · exact job_starts (he.trans (congrArg (fun r => Host.Outcome.next (answered w n r))
          ((if_neg (fun hc => hfit.mp hc hy)).trans (if_neg (Bool.eq_false_iff.mp hsh)))))
    · exact (exec_stageErase hf hc).trans (congrArg (fun r => Host.Outcome.next (answered w n r)) (if_pos hsh))
    · exact job_starts ((exec_stageErase hf hc).trans (congrArg (fun r => Host.Outcome.next (answered w n r)) (if_neg (Bool.eq_false_iff.mp hsh))))
    · exact (exec_stageRead hf hc off c).trans (congrArg (fun r => Host.Outcome.next (answered w n (r, _))) (if_pos h))
    · exact (exec_stageRead hf hc off c).trans (congrArg (fun r => Host.Outcome.next (answered w n (r, _))) ((if_neg (Nat.not_lt.mpr h)).trans (if_pos hm)))
    · exact (exec_stageRead hf hc off c).trans (congrArg (fun r => Host.Outcome.next (answered w n (r, _)))
        ((if_neg (Nat.not_lt.mpr h)).trans (if_neg (Nat.not_lt.mpr hm))))
  case forward =>
    intro nb op realm idx sub v hf hc b u t msg valid long i hv
    have he : exec i s = .next (answered w n (u.opForward w (rq.ask 0x39 w w) b)) := exec_forward hf hc nb op realm idx sub hv
    have hn : leNat (b.take 2) = nb.toNat := by
      have h := leNat_take_natLe (k := 2) nb.isLt ([op, realm] ++ natLe 2 idx.toNat ++ [sub] ++ natLe 2 v.length ++ v)
      simpa [b] using h
    refine ⟨fun hval => ?_, fun hval hl => ?_, fun y hval hl hy => ?_, fun y hval hl hy => ?_⟩
    · rw [he, State.opForward_invalid hn hval]
      rfl
    · rw [he, (State.opForward_valid hn hval).1 hl]
      rfl
    · rw [he, (State.opForward_valid hn hval).2.1 y hl hy]
      rfl
    · rw [he, (State.opForward_valid hn hval).2.2 y hl hy]
      rfl
  · change execForwardTimeout m q s = _
    unfold execForwardTimeout
    rw [hm]
  · change execForwardTimeout m q s = _
    unfold execForwardTimeout
    rw [hm]

end Sys2Proof.Machine

namespace Sys2Proof.Machine
open Sys2Proof

/-! SUPPORT. Requests for the Catalogue of a realm, and DOMAIN transfers (R267 to R275). -/

/-- The state in which the request is carried out: the wing has it, or it waits at the port. -/
def State.asked (op : Nat) (rq : Req) (realm : Realm) (body : Octets) (s : State) : State :=
  match realm with
  | .wing _ => (s.heard rq).handed (rq.ask op realm.code realm.code) body
  | _ => (s.heard rq).waitFor (rq.ask op realm.code realm.code)

/-- How the answer `r` goes to the session. -/
def Req.outcome (rq : Req) (op : Nat) (realm : Realm) (r : Ans × State) : State :=
  match realm with
  | .wing w => answered w rq.session r
  | _ => finished (rq.ask op realm.code realm.code) r

/-- What a realm does with an opcode of the Catalogue or of a DOMAIN transfer. -/
def State.runRealm (q : WaitReq) (realm : Realm) (body : Octets) (s : State) : Ans × State :=
  if 0x14 ≤ q.opcode then s.opDomain q.opcode q.session realm body else s.opCatalogue q realm body

theorem Realm.of_code (realm : Realm) : realmOf realm.code = some realm := by
  cases realm with
  | wing w => simp [Realm.code, realmOf, w.isLt]
  | dome => rfl
  | port => rfl

/-- A fresh request that is not CLOSE or PING is delivered at once (R297). -/
theorem State.ask_delivers {rq : Req} {role : SRole} {op d : Nat} {realm : Realm} {body : Octets} {s : State}
    (h : s.fresh rq role = true) (hb : bodyFits op body = true) (hr : realmFits op realm.code = true) (ho : (opRole op).rank ≤ role.rank)
    (h3 : op ≠ 0x03) (h4 : op ≠ 0x04) (ht : s.target op realm body = d) :
    s.ask rq op realm body = .next ((s.heard rq).deliver (rq.ask op realm.code d) body).pump := by
  obtain ⟨hw, hq⟩ := State.fresh_idle h
  refine congrArg Host.Outcome.next (congrArg State.pump ((State.request_fresh h hb hr ho).trans ?_))
  unfold State.carryOut
  split
  · rename_i e
    exact absurd e h3
  · rename_i e
    exact absurd e h4
  · rw [show realmOf (rq.ask op realm.code 0xF).realm = some realm from realm.of_code]
    refine (if_neg ?_).trans (congrArg (fun v => (s.heard rq).deliver { rq.ask op realm.code 0xF with wing := v } body) ht)
    rw [show (s.heard rq).port.waits = [] from hw, show (s.heard rq).port.queue = [] from hq]
    exact Bool.false_ne_true

/-- A request for realm D or P that is not CLOSE or PING is done by the port. -/
theorem State.ask_port {rq : Req} {role : SRole} {op : Nat} {realm : Realm} {body : Octets} {s : State} (hp : ∀ w, realm ≠ .wing w)
    (h : s.fresh rq role = true) (hb : bodyFits op body = true) (hr : realmFits op realm.code = true) (ho : (opRole op).rank ≤ role.rank)
    (h3 : op ≠ 0x03) (h4 : op ≠ 0x04) : let q := rq.ask op realm.code realm.code
    s.ask rq op realm body = .next (finished q (((s.heard rq).waitFor q).portRun q body)) := by
  have hd : 8 ≤ realm.code ∧ s.target op realm body = realm.code := by
    cases realm with
    | wing w => exact absurd rfl (hp w)
    | dome => exact ⟨by decide, rfl⟩
    | port => exact ⟨by decide, rfl⟩
  refine (State.ask_delivers h hb hr ho h3 h4 hd.2).trans ?_
  exact congrArg Host.Outcome.next (congrArg State.pump (if_pos hd.1))

/-- A request of the Catalogue to a realm that can take it now: run there, with its answer. -/
theorem State.ask_realm {rq : Req} {op : Nat} {realm : Realm} {body : Octets} {s u : State} {out : Ans × State → State} {r : Ans × State}
    (hop : op = 0x10 ∨ op = 0x12 ∨ op = 0x14 ∨ op = 0x15 ∨ op = 0x16) (h : s.fresh rq .observer = true)
    (hc : ∀ w, realm = .wing w → s.canHand w rq.session = true) (hb : bodyFits op body = true)
    (hu : u = s.asked op rq realm body) (hout : ∀ r, out r = rq.outcome op realm r) (hrun : u.runRealm (rq.ask op realm.code realm.code) realm body = r) :
    s.ask rq op realm body = .next (out r) := by
  have hrole : (opRole op).rank ≤ SRole.observer.rank := by
    obtain rfl | rfl | rfl | rfl | rfl := hop <;> decide
  have h34 : op ≠ 3 ∧ op ≠ 4 ∧ op ≠ 0x11 ∧ op ≠ 0x13 ∧ op ≠ 0x20 ∧ op ≠ 0x28 ∧ op ≠ 0x30 ∧ op ≠ 0x31 ∧ op ≠ 0x40 := by omega
  obtain ⟨h3, h4, h11, h13, h20, h28, h30, h31, h40⟩ := h34
  rw [hout, ← hrun, hu]
  cases realm with
  | wing w =>
    refine (State.ask_wing h (hc w rfl) hb (realmFits_wing op w h30 h31 h40) hrole h3 h4 h20 h28 (State.target_single h11 h13 h20 w body s)).trans ?_
    have hw : Fin.ofNat 8 w.val = w := Fin.ofNat_val_eq_self w
    have hrw : (s.asked op rq (.wing w) body).wingRun (rq.ask op w w) w body =
        (s.asked op rq (.wing w) body).runRealm (rq.ask op w w) (.wing (Fin.ofNat 8 w.val)) body := by
      obtain rfl | rfl | rfl | rfl | rfl := hop <;> rfl
    rw [hw] at hrw
    exact congrArg (fun r => Host.Outcome.next (answered w rq.session r)) hrw
  | dome =>
    refine (State.ask_port (by simp) h hb (by simp [realmFits, h30, h31, h40]; omega) hrole h3 h4).trans ?_
    obtain rfl | rfl | rfl | rfl | rfl := hop <;> rfl
  | port =>
    refine (State.ask_port (by simp) h hb (by simp [realmFits, h30, h31, h40]; omega) hrole h3 h4).trans ?_
    obtain rfl | rfl | rfl | rfl | rfl := hop <;> rfl

/-- To a wing that is not live no request goes (R15). -/
theorem State.ask_down {rq : Req} {op : Nat} {w : WingId} {body : Octets} {s : State} (hop : op = 0x10 ∨ op = 0x12 ∨ op = 0x16)
    (h : s.fresh rq .observer = true) (hb : bodyFits op body = true) :
    ((s.wing w).live = false → s.ask rq op (.wing w) body =
      .next (finished (rq.ask op w w) (some (.wingUnavailable, false, []), (s.heard rq).waitFor (rq.ask op w w)))) ∧
    ((s.wing w).live = true → ((s.wing w).mb (rq.session % 4)).state ≠ .free → s.ask rq op (.wing w) body =
      .next (finished (rq.ask op w w) (some (.ringFull, false, []), (s.heard rq).waitFor (rq.ask op w w)))) := by
  have hrole : (opRole op).rank ≤ SRole.observer.rank := by
    obtain rfl | rfl | rfl := hop <;> decide
  have hne : op ≠ 3 ∧ op ≠ 4 ∧ op ≠ 0x11 ∧ op ≠ 0x13 ∧ op ≠ 0x20 ∧ op ≠ 0x28 ∧ op ≠ 0x30 ∧ op ≠ 0x31 ∧ op ≠ 0x40 := by omega
  obtain ⟨h3, h4, h11, h13, h20, h28, h30, h31, h40⟩ := hne
  have hcarry : s.ask rq op (.wing w) body = .next ((s.heard rq).deliver (rq.ask op w w) body).pump :=
    State.ask_delivers h hb (realmFits_wing op w h30 h31 h40) hrole h3 h4 (State.target_single h11 h13 h20 w body s)
  rw [hcarry]
  have h8 : ¬ 8 ≤ (rq.ask op w w).wing := Nat.not_le.mpr w.isLt
  have hdel : ∀ t, (if (!(s.wing w).live) = true then ((s.heard rq).waitFor (rq.ask op w w)).finish (rq.ask op w w) .wingUnavailable false []
      else if ((s.wing w).mb (rq.session % 4)).state ≠ .free then ((s.heard rq).waitFor (rq.ask op w w)).finish (rq.ask op w w) .ringFull false [] else
        (match ((s.heard rq).handed (rq.ask op w w) body).wingRun (rq.ask op w w) w body with
        | (none, t) => t
        | (some (st, more, b), t) => t.wingRespond w rq.session st more b)) = t →
      (s.heard rq).deliver (rq.ask op w w) body = t := by
    intro t ht
    unfold State.deliver
    refine (if_neg h8).trans ((if_neg h20).trans ((if_neg h28).trans ?_))
    exact ht
  refine ⟨fun hl => ?_, fun hl hm => ?_⟩
  · rw [hdel _ (if_pos (by rw [hl]; rfl))]
    rfl
  · rw [hdel _ ((if_neg (by rw [hl]; exact Bool.false_ne_true)).trans (if_pos hm))]
    rfl

theorem State.asked_reachable {op : Nat} {rq : Req} {realm : Realm} (body : Octets) {s : State}
    (hc : ∀ w, realm = .wing w → s.canHand w rq.session = true) : (s.asked op rq realm body).reachable realm = true := by
  cases realm with
  | wing w =>
    have hl := hc w rfl
    rw [State.canHand, Bool.and_eq_true] at hl
    change (((s.heard rq).handed (rq.ask op w w) body).wing w).live = true
    rw [Wing.live, State.handed_sys _ _ _ _ rfl]
    exact hl.1
  | dome => rfl
  | port => rfl

theorem State.asked_role (op : Nat) (rq : Req) (realm : Realm) (body : Octets) (s : State) :
    ((s.asked op rq realm body).port.sessions.get rq.session).role = (s.port.sessions.get rq.session).role := by
  have hs : (s.asked op rq realm body).port.sessions = (s.heard rq).port.sessions := by cases realm <;> rfl
  rw [hs, State.heard, State.modSession, Oct.get_set_same]
  rfl

theorem leNat_natLe_two {i : Nat} (h : i < 65536) : leNat (natLe 2 i) = i := by
  rw [leNat_natLe]
  exact Nat.mod_eq_of_lt h

section
variable {op : Nat} {rq : Req} {realm : Realm} {i : Nat} {sub : Octet} {u : State} (hi : i < 65536) (hu : u.reachable realm = true)
include hi hu

/-- READ (R267). -/
theorem State.runRealm_read {rest : Octets} : let a := rq.ask 0x10 realm.code realm.code
    let role := (u.port.sessions.get rq.session).role
    (realm.entry i sub.toNat = none → u.runRealm a realm (natLe 2 i ++ [sub] ++ rest) = (.no .noEntry, u)) ∧
    (∀ e, realm.entry i sub.toNat = some e → role.rank < e.rd.rank → u.runRealm a realm (natLe 2 i ++ [sub] ++ rest) = (.no .role, u)) ∧
    (∀ e v t, realm.entry i sub.toNat = some e → e.rd.rank ≤ role.rank → u.readValue realm i sub.toNat e = (some v, t) → v.length ≤ 1424 →
      u.runRealm a realm (natLe 2 i ++ [sub] ++ rest) = (.ok v, t)) := by
  intro a role
  have hrun : ∀ res, u.catRequest 0x10 realm i sub.toNat rest bodyMax { role := role, who := some rq.session.val } = res →
      u.runRealm a realm (natLe 2 i ++ [sub] ++ rest) = (res.1.map (fun p => (p.1, false, p.2)), res.2) := by
    rintro res rfl
    unfold State.runRealm
    rw [if_neg (by change ¬ 0x14 ≤ 0x10; decide)]
    unfold State.opCatalogue
    rw [show leNat ((natLe 2 i ++ [sub] ++ rest).take 2) = i from leNat_natLe_two hi]
    rfl
  refine ⟨fun he => ?_, fun e he hr => ?_, fun e v t he hr hv hl => ?_⟩
  · rw [hrun (some (.noEntry, []), u) ?_]
    · rfl
    · unfold State.catRequest
      simp only [hu, he, Bool.not_true, Bool.false_eq_true, if_false]
  · rw [hrun (some (.role, []), u) ?_]
    · rfl
    · unfold State.catRequest
      simp only [hu, he, Bool.not_true, Bool.false_eq_true, if_false, if_pos hr]
  · rw [hrun (some (.ok, v), t) ?_]
    · rfl
    · unfold State.catRequest
      simp only [hu, he, Bool.not_true, Bool.false_eq_true, if_false, if_neg (Nat.not_lt.mpr hr), hv, if_pos hl]

/-- READ_RECORD (R270). -/
theorem State.runRealm_readRecord : let a := rq.ask 0x12 realm.code realm.code
    let role := (u.port.sessions.get rq.session).role
    let es := (realm.subs i).filterMap (fun k => realm.entry i k)
    (es = [] → u.runRealm a realm (natLe 2 i) = (.no .noEntry, u)) ∧
    (es ≠ [] → (∃ e ∈ es, role.rank < e.rd.rank) → u.runRealm a realm (natLe 2 i) = (.no .role, u)) ∧
    (∀ v t, es ≠ [] → (∀ e ∈ es, e.rd.rank ≤ role.rank) → i ≠ 0x2822 → u.catRecord realm i = (v, t) → v.length ≤ 1424 →
      u.runRealm a realm (natLe 2 i) = (.ok v, t)) := by
  intro a role es
  have hrun : ∀ res, (if es.isEmpty = true then (some (Status.noEntry, ([] : Octets)), u)
      else if es.any (fun e => decide (role.rank < e.rd.rank)) = true then (some (.role, []), u)
      else if i = 0x2822 then (some (.badLength, []), u)
      else if (u.catRecord realm i).1.length ≤ bodyMax then (some (.ok, (u.catRecord realm i).1), (u.catRecord realm i).2) else (some (.badLength, []), u))
        = res → u.runRealm a realm (natLe 2 i) = (res.1.map (fun p => (p.1, false, p.2)), res.2) := by
    rintro res rfl
    unfold State.runRealm
    rw [if_neg (by change ¬ 0x14 ≤ 0x12; decide)]
    unfold State.opCatalogue
    rw [show leNat ((natLe 2 i).take 2) = i from leNat_natLe_two hi]
    unfold State.catRequest
    simp only [hu, Bool.not_true, Bool.false_eq_true, if_false]
    rfl
  have hsome : es ≠ [] → ¬ es.isEmpty = true := fun h he => h (List.isEmpty_iff.mp he)
  refine ⟨fun he => hrun _ (if_pos (List.isEmpty_iff.mpr he)), fun hne hr => hrun _ ((if_neg (hsome hne)).trans (if_pos ?_)),
    fun v t hne hr hn hv hl => ?_⟩
  · obtain ⟨e, hm, hlt⟩ := hr
    exact List.any_eq_true.mpr ⟨e, hm, decide_eq_true hlt⟩
  · refine hrun (some (.ok, v), t) ((if_neg (hsome hne)).trans ((if_neg ?_).trans ((if_neg hn).trans ?_)))
    · rw [List.any_eq_true]
      rintro ⟨e, hm, hlt⟩
      exact Nat.not_lt.mpr (hr e hm) (of_decide_eq_true hlt)
    · rw [hv]
      exact if_pos hl

theorem State.opDomain_missing {n : Nat} {rest : Octets} (he : realm.entry i sub.toNat = none) :
    u.opDomain op n realm (natLe 2 i ++ [sub] ++ rest) = (.no .noEntry, u) := by
  unfold State.opDomain
  rw [show leNat ((natLe 2 i ++ [sub] ++ rest).take 2) = i from leNat_natLe_two hi,
    show ((natLe 2 i ++ [sub] ++ rest).getD 2 0).toNat = sub.toNat from rfl]
  simp only [hu, he, Bool.not_true, Bool.false_eq_true, if_false]

/-- The DOMAIN operations on a DOMAIN entry (R274). -/
theorem State.opDomain_entry {e : Ent} {k : Nat} {f : Bool} (he : realm.entry i sub.toNat = some e) (ht : e.ty = .domain k f) (n : Nat) (rest : Octets) :
    u.opDomain 0x14 n realm (natLe 2 i ++ [sub] ++ rest) =
      u.domainBegin n realm i sub.toNat e (decide (rest.getD 0 0 = 0)) (leNat ((rest.drop 1).take 4)) ∧
    u.opDomain 0x15 n realm (natLe 2 i ++ [sub] ++ rest) = u.domainBlock n realm i sub.toNat e (leNat (rest.take 4)) (rest.drop 4) ∧
    u.opDomain 0x16 n realm (natLe 2 i ++ [sub] ++ rest) = u.domainEnd n realm i sub.toNat e := by
  unfold State.opDomain
  rw [show leNat ((natLe 2 i ++ [sub] ++ rest).take 2) = i from leNat_natLe_two hi,
    show ((natLe 2 i ++ [sub] ++ rest).getD 2 0).toNat = sub.toNat from rfl]
  simp only [hu, he, ht, Bool.not_true, Bool.false_eq_true, if_false]
  exact ⟨rfl, rfl, trivial⟩

end

/-- The begin of a write (R274). -/
theorem State.domainBegin_write (n : Nat) (realm : Realm) (i sub : Nat) (e : Ent) (len : Nat) (v : State) :
    (∀ st, v.beginCheck realm i sub e n len = some st → v.domainBegin n realm i sub e true len = (.no st, v)) ∧
    (v.beginCheck realm i sub e n len = none → v.domainBegin n realm i sub e true len =
      (.ok [], v.beginTransfer n realm { realm := realm.code, index := i, sub := sub, write := true, length := len })) := by
  refine ⟨fun st h => ?_, fun h => ?_⟩
  · unfold State.domainBegin
    simp only [if_true, h]
  · unfold State.domainBegin
    simp only [if_true, h]

/-- A block without a transfer, of a write, and of a read whose value has been copied (R274, R275). -/
theorem State.domainBlock_cases (n : Nat) (realm : Realm) (i sub : Nat) (e : Ent) (off : Nat) (rest : Octets) (v : State) :
    (∀ st, v.transferOf n realm i sub = .error st → v.domainBlock n realm i sub e off rest = (.no st, v)) ∧
    (∀ x, v.transferOf n realm i sub = .ok x → x.write = true → v.domainBlock n realm i sub e off rest = v.blockWrite n realm x off rest) ∧
    (∀ x, v.transferOf n realm i sub = .ok x → x.write = false → rest.length = 2 →
      v.domainBlock n realm i sub e off rest = v.blockRead n realm e x off (leNat rest)) ∧
    (∀ x, v.transferOf n realm i sub = .ok x → x.write = false → rest.length ≠ 2 → v.domainBlock n realm i sub e off rest = (.no .badMessage, v)) := by
  unfold State.domainBlock
  refine ⟨fun st h => ?_, fun x h hw => ?_, fun x h hw hr => ?_, fun x h hw hr => ?_⟩
  · simp only [h]
  · simp only [h, hw, if_true]
  · simp only [h, hw, Bool.false_eq_true, if_false, if_pos hr]
  · simp only [h, hw, Bool.false_eq_true, if_false, if_neg hr]

theorem State.blockRead_taken {n : Nat} {realm : Realm} {e : Ent} {x : Transfer} {off count : Nat} {v : State} (ht : x.taken = true)
    (hc : count ≤ 1024) (ho : off ≤ x.length) : let k := min count (x.length - off)
    v.blockRead n realm e x off count = (some (.ok, decide (off + k < x.length), x.octets off k),
      if off + k < x.length then v.putTransfer n realm x else v.endTransfer n realm x.index x.sub) := by
  intro k
  have hgo : ¬ (decide (1024 < count) || decide (x.length < off)) = true := by
    rw [Bool.or_eq_true, decide_eq_true_eq, decide_eq_true_eq]
    omega
  unfold State.blockRead
  simp only [ht, if_true, if_neg hgo, decide_eq_true_eq]
  rfl

/-- The end of a transfer (R274). -/
theorem State.domainEnd_cases (n : Nat) (realm : Realm) (i sub : Nat) (e : Ent) (v : State) :
    (∀ st, v.transferOf n realm i sub = .error st → v.domainEnd n realm i sub e = (.no st, v)) ∧
    (∀ x, v.transferOf n realm i sub = .ok x → x.write = false → v.domainEnd n realm i sub e = (.ok [], v.endTransfer n realm i sub)) ∧
    (∀ x, v.transferOf n realm i sub = .ok x → x.write = true → x.data.length ≠ x.length → v.domainEnd n realm i sub e = (.no .badLength, v)) ∧
    (∀ x t, v.transferOf n realm i sub = .ok x → x.write = true → x.data.length = x.length →
      v.catWrite realm i { role := (v.port.sessions.get n).role, who := some n } (some n)
        [{ sub := sub, ent := e, val := e.ty.wire (x.octets 0 x.length) }] true = (some .ok, t) →
      v.domainEnd n realm i sub e = (.ok [], t.endTransfer n realm i sub)) := by
  unfold State.domainEnd
  refine ⟨fun st h => ?_, fun x h hw => ?_, fun x h hw hl => ?_, fun x t h hw hl hc => ?_⟩
  · simp only [h]
  · simp only [h, hw, Bool.not_false, if_true]
  · simp only [h, hw, Bool.not_true, Bool.false_eq_true, if_false, if_pos hl]
  · simp only [h, hw, Bool.not_true, Bool.false_eq_true, if_false, hl, ne_eq, not_true_eq_false, hc]

/-- A time-out marks the transfers of its entry in its own session. -/
theorem domainTransferTimeout_marks (m : Fin 8) (realm : Realm) (idx : Word) (sub : Octet) (s : State) :
    Does (.domainTransferTimeout m realm idx sub) s (fun t => ∀ k : Fin 8,
      (t.port.sessions.get k).transfers = (if k = m then ((s.port.sessions.get k).transfers.map (fun x =>
        if x.isOf realm idx.toNat sub.toNat then { x with timedOut := true, data := [] } else x)) else (s.port.sessions.get k).transfers) ∧
      (t.port.sessions.get k).isOpen = (s.port.sessions.get k).isOpen) := by
  refine ⟨_, rfl, fun k => ?_⟩
  unfold State.modTransfers State.modSession
  dsimp only
  by_cases hk : k = m
  · subst hk
    rw [Oct.get_set_same, if_pos rfl]
    exact ⟨rfl, rfl⟩
  · rw [Oct.get_set_other _ _ _ _ hk, if_neg hk]
    exact ⟨rfl, rfl⟩

/-- Settles O29: reads of the Catalogue and DOMAIN transfers. -/
theorem catalogueReads : Obligations.CatalogueReads := by
  unfold Obligations.CatalogueReads
  intro s rq realm idx sub n role h i u out body rows no
  have hu : ∀ op b, u op b = s.asked op rq realm b := fun op b => by cases realm <;> rfl
  have hout : ∀ op r, out op r = rq.outcome op realm r := fun op r => by cases realm <;> rfl
  have hi : i < 65536 := idx.isLt
  refine ⟨fun hf w hw => ⟨fun hl e he => ?_, fun hl hm e he => ?_⟩, fun hf hc => ?_, fun m => domainTransferTimeout_marks m realm idx sub s⟩
  · subst hw
    obtain rfl | rfl | rfl : e = (0x10, .read rq (.wing w) idx sub) ∨ e = (0x12, .readRecord rq (.wing w) idx) ∨ e = (0x16, .domainEnd rq (.wing w) idx sub) := by
      simpa [rows] using he
    · exact (State.ask_down (.inl rfl) hf rfl).1 hl
    · exact (State.ask_down (.inr (.inl rfl)) hf rfl).1 hl
    · exact (State.ask_down (.inr (.inr rfl)) hf rfl).1 hl
  · subst hw
    obtain rfl | rfl | rfl : e = (0x10, .read rq (.wing w) idx sub) ∨ e = (0x12, .readRecord rq (.wing w) idx) ∨ e = (0x16, .domainEnd rq (.wing w) idx sub) := by
      simpa [rows] using he
    · exact (State.ask_down (.inl rfl) hf rfl).2 hl hm
    · exact (State.ask_down (.inr (.inl rfl)) hf rfl).2 hl hm
    · exact (State.ask_down (.inr (.inr rfl)) hf rfl).2 hl hm
  · have hreach : ∀ op b, (u op b).reachable realm = true := fun op b => by
      rw [hu]
      exact State.asked_reachable b hc
    have hrole : ∀ op b, ((u op b).port.sessions.get rq.session).role = role := fun op b => by
      rw [hu]
      exact State.asked_role op rq realm b s
    have hread := State.runRealm_read (rq := rq) (sub := sub) (rest := []) hi (hreach 0x10 body)
    have hrecord := State.runRealm_readRecord (rq := rq) hi (hreach 0x12 (natLe 2 i))
    rw [List.append_nil] at hread
    rw [hrole] at hread hrecord
    obtain ⟨hnone, hlow, hval⟩ := hread
    obtain ⟨hrnone, hrlow, hrval⟩ := hrecord
    have hask10 : ∀ {r}, (u 0x10 body).runRealm (rq.ask 0x10 realm.code realm.code) realm body = r → exec (.read rq realm idx sub) s = .next (out 0x10 r) :=
      State.ask_realm (.inl rfl) hf hc rfl (hu _ _) (hout _)
    have hask12 : ∀ {r}, (u 0x12 (natLe 2 i)).runRealm (rq.ask 0x12 realm.code realm.code) realm (natLe 2 i) = r →
        exec (.readRecord rq realm idx) s = .next (out 0x12 r) :=
      State.ask_realm (.inr (.inl rfl)) hf hc rfl (hu _ _) (hout _)
    have hask16 : ∀ {r}, (u 0x16 body).opDomain 0x16 n realm body = r → exec (.domainEnd rq realm idx sub) s = .next (out 0x16 r) := by
      intro r hr
      exact State.ask_realm (.inr (.inr (.inr (.inr rfl)))) hf hc rfl (hu _ _) (hout _) hr
    refine ⟨fun he => ⟨hask10 (hnone he), hask16 ?_⟩, fun e he hr => hask10 (hlow e he hr), fun e v t he hr hv hl => hask10 (hval e v t he hr hv hl),
      ⟨fun he => hask12 (hrnone he), fun hne hr => hask12 (hrlow hne hr), fun v t hne hr hn hv hl => hask12 (hrval v t hne hr hn hv hl)⟩,
      fun e k f he ht => ⟨fun len hlen => ?begin, ?beginRead, fun off count value hoff h1 hmax => ?block, fun off count hoff hcount => ?blockRead, ?done⟩⟩
    · have hm := State.opDomain_missing (op := 0x16) (n := n) (rest := []) hi (hreach 0x16 body) he
      rwa [List.append_nil] at hm
    case begin =>
      intro c v
      have hop := (State.opDomain_entry hi (hreach 0x14 (body ++ 0 :: natLe 4 len)) he ht n (0 :: natLe 4 len)).1
      have hlen4 : leNat (((0 :: natLe 4 len).drop 1).take 4) = len := by
        have h4 := leNat_take_natLe (k := 4) hlen []
        rwa [List.append_nil] at h4
      rw [hlen4] at hop
      obtain ⟨hno, hgo⟩ := State.domainBegin_write n realm i sub.toNat e len v
      have hask : ∀ {r}, v.domainBegin n realm i sub.toNat e true len = r → exec c s = .next (out 0x14 r) := by
        intro r hr
        exact State.ask_realm (.inr (.inr (.inl rfl))) hf hc rfl (hu _ _) (hout _) (hop.trans hr)
      exact ⟨fun st hst => hask (hno st hst), fun hn => hask (hgo hn)⟩
    case beginRead =>
      intro len
      have hop := (State.opDomain_entry hi (hreach 0x14 (body ++ [1])) he ht n [1]).1
      exact State.ask_realm (.inr (.inr (.inl rfl))) hf hc rfl (hu _ _) (hout _) hop
    case block =>
      intro c v
      have hval : (if value.isEmpty = true then natLe 2 count else value) = value :=
        if_neg (fun hn => by rw [List.isEmpty_iff.mp hn] at h1; exact absurd h1 (by decide))
      have hop := (State.opDomain_entry hi (hreach 0x15 (body ++ natLe 4 off ++ value)) he ht n (natLe 4 off ++ value)).2.1
      rw [leNat_take_natLe (k := 4) hoff value, show (natLe 4 off ++ value).drop 4 = value from rfl, ← List.append_assoc] at hop
      have hask : ∀ {r}, v.domainBlock n realm i sub.toNat e off value = r → exec c s = .next (out 0x15 r) := by
        intro r hr
        change s.ask rq 0x15 realm (body ++ natLe 4 off ++ (if value.isEmpty = true then natLe 2 count else value)) = _
        rw [hval]
        refine State.ask_realm (.inr (.inr (.inr (.inl rfl)))) hf hc ?_ (hu _ _) (hout _) (hop.trans hr)
        simp only [bodyFits, body, List.length_append, natLe_length, List.length_singleton, Bool.and_eq_true, decide_eq_true_eq]
        omega
      obtain ⟨hno, hwrite, -, hbad⟩ := State.domainBlock_cases n realm i sub.toNat e off value v
      refine ⟨fun st hst => hask (hno st hst), fun x hx hw => ⟨fun hl => hask ((hwrite x hx hw).trans (if_pos hl)),
        fun hl => hask ((hwrite x hx hw).trans (if_neg (Nat.not_lt.mpr hl)))⟩, fun x hx hw hl => hask (hbad x hx hw hl)⟩
    case blockRead =>
      intro c v
      have hop := (State.opDomain_entry hi (hreach 0x15 (body ++ natLe 4 off ++ natLe 2 count)) he ht n (natLe 4 off ++ natLe 2 count)).2.1
      rw [leNat_take_natLe (k := 4) hoff, show (natLe 4 off ++ natLe 2 count).drop 4 = natLe 2 count from rfl, ← List.append_assoc] at hop
      have hask : ∀ {r}, v.domainBlock n realm i sub.toNat e off (natLe 2 count) = r → exec c s = .next (out 0x15 r) := by
        intro r hr
        exact State.ask_realm (.inr (.inr (.inr (.inl rfl)))) hf hc rfl (hu _ _) (hout _) (hop.trans hr)
      obtain ⟨hno, -, hread, -⟩ := State.domainBlock_cases n realm i sub.toNat e off (natLe 2 count) v
      have hblk : ∀ x, v.transferOf n realm i sub.toNat = .ok x → x.write = false →
          v.domainBlock n realm i sub.toNat e off (natLe 2 count) = v.blockRead n realm e x off count := by
        intro x hx hw
        have hb := hread x hx hw rfl
        rwa [leNat_natLe_two hcount] at hb
      exact ⟨fun st hst => hask (hno st hst), fun x hx hw htk hcn ho => hask ((hblk x hx hw).trans (State.blockRead_taken htk hcn ho)),
        fun x hx hw _ => hask (hblk x hx hw)⟩
    case done =>
      intro v c
      have hop := (State.opDomain_entry hi (hreach 0x16 body) he ht n []).2.2
      rw [List.append_nil] at hop
      obtain ⟨hno, hread, hshort, hgo⟩ := State.domainEnd_cases n realm i sub.toNat e v
      have hv : (v.port.sessions.get n).role = role := hrole 0x16 body
      rw [hv] at hgo
      exact ⟨fun st hst => hask16 (hop.trans (hno st hst)), fun x hx hw => hask16 (hop.trans (hread x hx hw)),
        fun x hx hw hl => hask16 (hop.trans (hshort x hx hw hl)), fun x t hx hw hl ht => hask16 (hop.trans (hgo x t hx hw hl ht))⟩

end Sys2Proof.Machine

namespace Sys2Proof.Machine
open Sys2Proof

/-! SUPPORT. Writes of the Catalogue over Feran (R267, R268, R271, R279 to R281). -/

/-- The answer of a write: its status, or none while a store or the flash answers it. -/
def writeAns (r : Option Status × State) : Ans × State :=
  (r.1.map (fun st => (st, false, [])), r.2)

/-- The session of a request, as it asks for a write. -/
def State.actor (n : Nat) (s : State) : Actor :=
  { role := (s.port.sessions.get n).role, who := some n }

theorem bodyFits_write (i : Nat) (sub : Octet) (v : Octets) : bodyFits 0x11 (natLe 2 i ++ [sub] ++ v) = true := by
  simp only [bodyFits, List.length_append, natLe_length, List.length_singleton, decide_eq_true_eq]
  omega

theorem State.target_unpaired {w : WingId} {s : State} (h : s.pairOf w = none) {op : Nat} (h20 : op ≠ 0x20) (body : Octets) : s.target op (.wing w) body = w := by
  unfold State.target
  simp [h, h20]

/-- A write that goes to both wings of a pair goes to its ACTIVE wing first (R281). -/
theorem State.target_paired {w : WingId} {c : Nat} {s : State} (h : s.pairOf w = some c) {i : Nat} (hi : i < 65536) (hd : dualIndex i = true)
    (hl : (s.wing (s.port.pair c).head).live = true) (os : Octets) : s.target 0x11 (.wing w) (natLe 2 i ++ os) = (s.port.pair c).head := by
  unfold State.target
  rw [leNat_take_natLe (k := 2) hi]
  simp [h, hd, hl]

section
variable {q : WaitReq} {realm : Realm} {i : Nat} {u : State} (hi : i < 65536) (hu : u.reachable realm = true)
include hi hu

/-- A WRITE of one value (R267). -/
theorem State.opCatalogue_write (hq : q.opcode = 0x11) (sub : Octet) (v : Octets) : let body := natLe 2 i ++ [sub] ++ v
    (onePut realm i sub.toNat v = none → u.opCatalogue q realm body = (.no .noEntry, u)) ∧
    (∀ p, onePut realm i sub.toNat v = some p →
      u.opCatalogue q realm body = writeAns (u.catWrite realm i (u.actor q.session) none [p] true)) := by
  intro body
  have hrun : ∀ res, u.catRequest 0x11 realm i sub.toNat v bodyMax (u.actor q.session) = res →
      u.opCatalogue q realm body = (res.1.map (fun p => (p.1, false, p.2)), res.2) := by
    rintro res rfl
    unfold State.opCatalogue
    rw [hq, show leNat (body.take 2) = i from leNat_natLe_two hi]
    rfl
  unfold onePut
  refine ⟨fun he => ?_, fun p hp => ?_⟩
  · rw [hrun (some (.noEntry, []), u) ?_]
    · rfl
    · unfold State.catRequest
      simp only [hu, Option.map_eq_none_iff.mp he, Bool.not_true, Bool.false_eq_true, if_false]
  · obtain ⟨e, he, rfl⟩ := Option.map_eq_some_iff.mp hp
    rw [hrun _ rfl]
    unfold State.catRequest
    simp only [hu, he, Bool.not_true, Bool.false_eq_true, if_false, Option.map_map]
    rfl

/-- A WRITE_RECORD (R271). -/
theorem State.opCatalogue_writeRecord (hq : q.opcode = 0x13) (v : Octets) : let k := realm.writables i
    (realm.subs i = [] → u.opCatalogue q realm (natLe 2 i ++ v) = (.no .noEntry, u)) ∧
    (realm.subs i ≠ [] → k = [] → u.opCatalogue q realm (natLe 2 i ++ v) = (.no .readOnly, u)) ∧
    (k ≠ [] → u.opCatalogue q realm (natLe 2 i ++ v) =
      writeAns (u.catWrite realm i (u.actor q.session) none (recordPuts k v).1 (recordPuts k v).2)) := by
  intro k
  have hrun : ∀ res, u.catRequest 0x13 realm i 0 v bodyMax (u.actor q.session) = res →
      u.opCatalogue q realm (natLe 2 i ++ v) = (res.1.map (fun p => (p.1, false, p.2)), res.2) := by
    rintro res rfl
    unfold State.opCatalogue
    rw [hq, leNat_take_natLe (k := 2) hi]
    rfl
  have hreq : u.catRequest 0x13 realm i 0 v bodyMax (u.actor q.session) =
      (if (realm.subs i).isEmpty = true then (some (.noEntry, []), u) else if k.isEmpty = true then (some (.readOnly, []), u) else
        ((u.catWrite realm i (u.actor q.session) none (recordPuts k v).1 (recordPuts k v).2).1.map (fun st => (st, [])),
          (u.catWrite realm i (u.actor q.session) none (recordPuts k v).1 (recordPuts k v).2).2)) := by
    unfold State.catRequest
    simp only [hu, Bool.not_true, Bool.false_eq_true, if_false]
    rfl
  refine ⟨fun hs => ?_, fun hs hk => ?_, fun hk => ?_⟩
  · exact hrun _ (hreq.trans (if_pos (List.isEmpty_iff.mpr hs)))
  · exact hrun _ (hreq.trans ((if_neg (fun h => hs (List.isEmpty_iff.mp h))).trans (if_pos (List.isEmpty_iff.mpr hk))))
  · have hs : ¬ (realm.subs i).isEmpty = true := by
      intro h
      refine hk ?_
      change (realm.subs i).filterMap _ = []
      rw [List.isEmpty_iff.mp h]
      rfl
    rw [hrun _ (hreq.trans ((if_neg hs).trans (if_neg (fun h => hk (List.isEmpty_iff.mp h)))))]
    unfold writeAns
    simp only [Option.map_map]
    rfl

end

/-- The checks and the commit of one value in an unpaired wing (R267, R268). -/
theorem State.catWrite_wing {u : State} {w : WingId} {i sub : Nat} {v : Octets} {p : Put} (a : Actor) (hp : u.pairOf w = none)
    (hput : onePut (.wing w) i sub v = some p) :
    (∀ e, u.writeCheck (.wing w) i a.role none [p] true = some e → u.catWrite (.wing w) i a none [p] true = (some e, u)) ∧
    (u.writeCheck (.wing w) i a.role none [p] true = none → u.catWrite (.wing w) i a none [p] true = u.commitWing w i [p] a.who) := by
  obtain ⟨e, he, rfl⟩ := Option.map_eq_some_iff.mp hput
  have hw : Fin.ofNat 8 w.val = w := Fin.ofNat_val_eq_self w
  unfold State.catWrite
  simp only [hp, ite_self]
  unfold State.wingWrite
  simp only [hw, List.map_cons, List.map_nil, he, Option.getD_some]
  refine ⟨fun e' hc => ?_, fun hc => ?_⟩
  · rw [hc]
  · rw [hc]

theorem State.catWrite_wings {u : State} {w : WingId} {i : Nat} (a : Actor) (hp : u.pairOf w = none) (ps : List Put) (ok : Bool) :
    u.catWrite (.wing w) i a none ps ok = u.wingWrite w i a none ps ok := by
  unfold State.catWrite
  simp only [hp, ite_self]

/-- The checks and the commit of a write to realm D or P. -/
theorem State.catWrite_port {u : State} {r : Realm} (hr : r = .dome ∨ r = .port) (i : Nat) (a : Actor) (p : Put) :
    (∀ e, u.writeCheck r i a.role none [p] true = some e → u.catWrite r i a none [p] true = (some e, u)) ∧
    (u.writeCheck r i a.role none [p] true = none →
      u.catWrite r i a none [p] true = (if r = .dome then u.commitDome i [p] a.who else u.commitPort i [p] a.who)) := by
  unfold State.catWrite
  obtain rfl | rfl := hr
  · refine ⟨fun e hc => ?_, fun hc => ?_⟩
    · simp only [hc]
    · simp only [hc, if_true]
  · refine ⟨fun e hc => ?_, fun hc => ?_⟩
    · simp only [hc]
    · simp only [hc]
      rfl

theorem State.handed_reachable {op : Nat} {rq : Req} {w : WingId} {s : State} (body : Octets) (hc : s.canHand w rq.session = true) :
    ((s.heard rq).handed (rq.ask op w w) body).reachable (.wing w) = true :=
  State.asked_reachable (realm := .wing w) (op := op) body (fun w' hw => by
    obtain rfl := Realm.wing.inj hw
    exact hc)

theorem State.handed_actor (rq : Req) (op realm d : Nat) (body : Octets) (s : State) :
    ((s.heard rq).handed (rq.ask op realm d) body).actor rq.session = s.actor rq.session := by
  have hs : ((s.heard rq).handed (rq.ask op realm d) body).port.sessions = (s.heard rq).port.sessions := rfl
  unfold State.actor
  rw [hs, State.heard, State.modSession, Oct.get_set_same]
  rfl

theorem State.waitFor_actor (rq : Req) (q : WaitReq) (s : State) : ((s.heard rq).waitFor q).actor rq.session = s.actor rq.session := by
  have hs : ((s.heard rq).waitFor q).port.sessions = (s.heard rq).port.sessions := rfl
  unfold State.actor
  rw [hs, State.heard, State.modSession, Oct.get_set_same]
  rfl

/-- A request of the Catalogue that has come to wing `w`, for the realm of `r`. -/
theorem State.wingRun_write {q : WaitReq} (h : q.opcode = 0x11 ∨ q.opcode = 0x13) {r : WingId} (hr : q.realm = r) (d : Nat) (body : Octets) (u : State) :
    u.wingRun q d body = u.opCatalogue q (.wing r) body := by
  have hw : Fin.ofNat 8 r.val = r := Fin.ofNat_val_eq_self r
  unfold State.wingRun
  obtain h | h := h <;> (rw [h, hr]; dsimp only; rw [hw]; rfl)

section
variable {s : State} {rq : Req} {w : WingId} (hf : s.fresh rq .observer = true) (hc : s.canHand w rq.session = true) (hp : s.pairOf w = none)
include hf hc hp

/-- A WRITE to an unpaired wing whose mailbox is free. -/
theorem exec_write_wing (idx : Word) (sub : Octet) (v : Octets) : let body := natLe 2 idx.toNat ++ [sub] ++ v
    let u := (s.heard rq).handed (rq.ask 0x11 w w) body
    (onePut (.wing w) idx.toNat sub.toNat v = none →
      exec (.write rq (.wing w) idx sub v) s = .next (answered w rq.session (some (.noEntry, false, []), u))) ∧
    (∀ p e, onePut (.wing w) idx.toNat sub.toNat v = some p → u.writeCheck (.wing w) idx.toNat (s.actor rq.session).role none [p] true = some e →
      exec (.write rq (.wing w) idx sub v) s = .next (answered w rq.session (some (e, false, []), u))) ∧
    (∀ p, onePut (.wing w) idx.toNat sub.toNat v = some p → u.writeCheck (.wing w) idx.toNat (s.actor rq.session).role none [p] true = none →
      exec (.write rq (.wing w) idx sub v) s = .next (answered w rq.session (writeAns (u.commitWing w idx.toNat [p] (some rq.session.val))))) := by
  intro body u
  have hb : bodyFits 0x11 body = true := bodyFits_write idx.toNat sub v
  have hask : ∀ {r}, u.opCatalogue (rq.ask 0x11 w w) (.wing w) body = r →
      exec (.write rq (.wing w) idx sub v) s = .next (answered w rq.session r) := by
    rintro r rfl
    refine (State.ask_wing hf hc hb (realmFits_wing _ w (by decide) (by decide) (by decide)) (by decide) (by decide) (by decide) (by decide) (by decide)
      (State.target_unpaired hp (by decide) body)).trans ?_
    exact congrArg (fun r => Host.Outcome.next (answered w rq.session r)) (State.wingRun_write (.inl rfl) rfl w body u)
  obtain ⟨hno, hput⟩ := State.opCatalogue_write (q := rq.ask 0x11 w w) idx.isLt (State.handed_reachable body hc) rfl sub v
  have hact : u.actor (rq.ask 0x11 w w).session = s.actor rq.session := State.handed_actor rq 0x11 w w body s
  refine ⟨fun h => hask (hno h), fun p e h hw => ?_, fun p h hw => ?_⟩
  · refine hask ((hput p h).trans ?_)
    rw [hact, (State.catWrite_wing (u := u) (s.actor rq.session) hp h).1 e hw]
    rfl
  · refine hask ((hput p h).trans ?_)
    rw [hact, (State.catWrite_wing (u := u) (s.actor rq.session) hp h).2 hw]
    rfl

/-- A WRITE_RECORD to an unpaired wing whose mailbox is free. -/
theorem exec_writeRecord_wing (idx : Word) (v : Octets) : let u := (s.heard rq).handed (rq.ask 0x13 w w) (natLe 2 idx.toNat ++ v)
    let k := (Realm.wing w).writables idx.toNat
    ((Realm.wing w).subs idx.toNat = [] → exec (.writeRecord rq (.wing w) idx v) s = .next (answered w rq.session (some (.noEntry, false, []), u))) ∧
    ((Realm.wing w).subs idx.toNat ≠ [] → k = [] →
      exec (.writeRecord rq (.wing w) idx v) s = .next (answered w rq.session (some (.readOnly, false, []), u))) ∧
    (k ≠ [] → exec (.writeRecord rq (.wing w) idx v) s =
      .next (answered w rq.session (writeAns (u.wingWrite w idx.toNat (s.actor rq.session) none (recordPuts k v).1 (recordPuts k v).2)))) := by
  intro u k
  have hb : bodyFits 0x13 (natLe 2 idx.toNat ++ v) = true := by simp [bodyFits]
  have hask : ∀ {r}, u.opCatalogue (rq.ask 0x13 w w) (.wing w) (natLe 2 idx.toNat ++ v) = r →
      exec (.writeRecord rq (.wing w) idx v) s = .next (answered w rq.session r) := by
    rintro r rfl
    refine (State.ask_wing hf hc hb (realmFits_wing _ w (by decide) (by decide) (by decide)) (by decide) (by decide) (by decide) (by decide) (by decide)
      (State.target_unpaired hp (by decide) _)).trans ?_
    exact congrArg (fun r => Host.Outcome.next (answered w rq.session r)) (State.wingRun_write (.inr rfl) rfl w _ u)
  obtain ⟨hno, hro, hput⟩ := State.opCatalogue_writeRecord (q := rq.ask 0x13 w w) idx.isLt (State.handed_reachable (op := 0x13) (natLe 2 idx.toNat ++ v) hc) rfl v
  refine ⟨fun h => hask (hno h), fun h hk => hask (hro h hk), fun hk => hask ((hput hk).trans ?_)⟩
  rw [show u.actor (rq.ask 0x13 w w).session = s.actor rq.session from State.handed_actor rq 0x13 w w _ s,
    State.catWrite_wings (u := u) (s.actor rq.session) hp]

end

/-- Writes to realm D or P. -/
theorem exec_write_port {s : State} {rq : Req} (hf : s.fresh rq .observer = true) {r : Realm} (hr : r = .dome ∨ r = .port)
    (idx : Word) (sub : Octet) (v : Octets) : let q := rq.ask 0x11 r.code r.code
    let qr := rq.ask 0x13 r.code r.code
    let u := (s.heard rq).waitFor q
    let k := r.writables idx.toNat
    (onePut r idx.toNat sub.toNat v = none → exec (.write rq r idx sub v) s = .next (finished q (some (.noEntry, false, []), u))) ∧
    (∀ p e, onePut r idx.toNat sub.toNat v = some p → u.writeCheck r idx.toNat (s.actor rq.session).role none [p] true = some e →
      exec (.write rq r idx sub v) s = .next (finished q (some (e, false, []), u))) ∧
    (∀ p, onePut r idx.toNat sub.toNat v = some p → u.writeCheck r idx.toNat (s.actor rq.session).role none [p] true = none →
      exec (.write rq r idx sub v) s = .next (finished q (writeAns
        (if r = .dome then u.commitDome idx.toNat [p] (some rq.session.val) else u.commitPort idx.toNat [p] (some rq.session.val))))) ∧
    (k ≠ [] → exec (.writeRecord rq r idx v) s = .next (finished qr (writeAns
      (((s.heard rq).waitFor qr).catWrite r idx.toNat (s.actor rq.session) none (recordPuts k v).1 (recordPuts k v).2)))) := by
  intro q qr u k
  have hw : ∀ w, r ≠ .wing w := by
    obtain rfl | rfl := hr <;> simp
  have hfit : ∀ op, op = 0x11 ∨ op = 0x13 → realmFits op r.code = true := by
    rintro op (rfl | rfl) <;> rfl
  have hreach : ∀ t : State, t.reachable r = true := by
    obtain rfl | rfl := hr <;> exact fun _ => rfl
  have hrun : ∀ op, op = 0x11 ∨ op = 0x13 → ∀ (t : State) (b : Octets), t.portRun (rq.ask op r.code r.code) b =
      t.opCatalogue (rq.ask op r.code r.code) r b := by
    rintro op (rfl | rfl) t b <;> (obtain rfl | rfl := hr <;> rfl)
  have hask : ∀ {o}, u.opCatalogue q r (natLe 2 idx.toNat ++ [sub] ++ v) = o → exec (.write rq r idx sub v) s = .next (finished q o) := by
    rintro o rfl
    refine (State.ask_port hw hf (bodyFits_write idx.toNat sub v) (hfit _ (.inl rfl)) (by decide) (by decide) (by decide)).trans ?_
    exact congrArg (fun o => Host.Outcome.next (finished q o)) (hrun 0x11 (.inl rfl) u _)
  have hactor : ∀ p, ((s.heard rq).waitFor p).actor rq.session = s.actor rq.session := fun p => State.waitFor_actor rq p s
  obtain ⟨hno, hput⟩ := State.opCatalogue_write (q := q) idx.isLt (hreach u) rfl sub v
  refine ⟨fun h => hask (hno h), fun p e h hc => ?_, fun p h hc => ?_, fun hk => ?_⟩
  · refine hask ((hput p h).trans ?_)
    rw [show u.actor q.session = s.actor rq.session from hactor q, (State.catWrite_port hr idx.toNat (s.actor rq.session) p).1 e hc]
    rfl
  · refine hask ((hput p h).trans ?_)
    rw [show u.actor q.session = s.actor rq.session from hactor q, (State.catWrite_port hr idx.toNat (s.actor rq.session) p).2 hc]
    rfl
  · refine (State.ask_port hw hf (by simp [bodyFits]) (hfit _ (.inr rfl)) (by decide) (by decide) (by decide)).trans ?_
    refine congrArg (fun o => Host.Outcome.next (finished qr o)) ((hrun 0x13 (.inr rfl) _ _).trans ?_)
    rw [(State.opCatalogue_writeRecord (q := qr) idx.isLt (hreach _) rfl v).2.2 hk,
      show ((s.heard rq).waitFor qr).actor qr.session = s.actor rq.session from hactor qr]

/-- A WRITE to a wing of a pair, of an index that goes to both, is delivered to its ACTIVE wing (R281). -/
theorem exec_write_paired {s : State} {rq : Req} {w : WingId} {c : Fin 4} {p : Put} {idx : Word} {sub : Octet} {v : Octets}
    (hf : s.fresh rq .observer = true) (hp : s.pairOf w = some c.val) (hd : dualIndex idx.toNat = true) (h8 : (s.port.pair c).head < 8)
    (hc : s.canHand (s.port.pair c).head rq.session = true) (hput : onePut (.wing w) idx.toNat sub.toNat v = some p) :
    let u := (s.heard rq).handed (rq.ask 0x11 w (s.port.pair c).head) (natLe 2 idx.toNat ++ [sub] ++ v)
    (u.wing w).live = true → exec (.write rq (.wing w) idx sub v) s =
      .next (answered (s.port.pair c).head rq.session (writeAns (u.pairedWrite c.val idx.toNat (s.actor rq.session) none [p] true))) := by
  intro u hl
  rw [State.canHand, Bool.and_eq_true, decide_eq_true_eq] at hc
  obtain ⟨hlive, hfree⟩ := hc
  have ht : s.target 0x11 (.wing w) (natLe 2 idx.toNat ++ [sub] ++ v) = (s.port.pair c).head := by
    rw [List.append_assoc]
    exact State.target_paired hp idx.isLt hd hlive _
  refine (State.ask_delivers hf (bodyFits_write idx.toNat sub v) (realmFits_wing _ w (by decide) (by decide) (by decide)) (by decide) (by decide)
    (by decide) ht).trans ?_
  refine (congrArg (fun t => Host.Outcome.next (State.pump t)) (State.deliver_wing (rq.ask 0x11 w (s.port.pair c).head) _ (s.heard rq) h8
    (by change 0x11 ≠ 0x20; decide) (by change 0x11 ≠ 0x28; decide) hlive hfree)).trans ?_
  refine congrArg (fun r => Host.Outcome.next (answered (s.port.pair c).head rq.session r)) ((State.wingRun_write (.inl rfl) rfl _ _ u).trans ?_)
  rw [(State.opCatalogue_write (q := rq.ask 0x11 w (s.port.pair c).head) (realm := .wing w) idx.isLt (u := u) hl rfl sub v).2 p hput,
    show u.actor (rq.ask 0x11 w (s.port.pair c).head).session = s.actor rq.session from State.handed_actor rq 0x11 w _ _ s]
  refine congrArg writeAns ?_
  have hpu : u.pairOf w = some c.val := hp
  unfold State.catWrite
  simp only [hd, if_true, hpu]

/-- An accepted value is one of an entry, whose checks pass. -/
theorem State.accepts_iff {r : Realm} {idx sub : Nat} {role : SRole} {v : Octets} {u : State} (h : u.accepts r idx sub role v = true) :
    ∃ e, r.entry idx sub = some e ∧ onePut r idx sub v = some { sub := sub, ent := e, val := e.ty.wire v } ∧
      u.writeCheck r idx role none [{ sub := sub, ent := e, val := e.ty.wire v }] true = none := by
  unfold State.accepts at h
  split at h
  · exact absurd h Bool.false_ne_true
  · rename_i p hp
    obtain ⟨e, he, rfl⟩ := Option.map_eq_some_iff.mp hp
    exact ⟨e, he, hp, Option.isNone_iff_eq_none.mp h⟩

/-- RESTORE takes a number of two octets in each realm (R285). -/
theorem restore_entry : (∀ w : WingId, ((Realm.wing w).entry 0x2004 4).map (fun e => e.ty) = some (.u 2)) ∧
    (Realm.dome.entry 0x12F0 4).map (fun e => e.ty) = some (.u 2) ∧ (Realm.port.entry 0x11F0 4).map (fun e => e.ty) = some (.u 2) := by
  decide +kernel

/-- The code that a RESTORE writes. -/
theorem putNum_restore {e : Ent} (he : e.ty = .u 2) (code : Word) : putNum 4 [{ sub := 4, ent := e, val := e.ty.wire (natLe 2 code.toNat) }] = some code.toNat := by
  unfold putNum
  rw [he]
  exact congrArg some (leNat_natLe_two code.isLt)

theorem toNat_eq_three (code : Word) : decide (code.toNat = 3) = decide (code = 3) :=
  decide_eq_decide.mpr ⟨fun h => BitVec.eq_of_toNat_eq h, fun h => congrArg BitVec.toNat h⟩

/-- STORE and RESTORE in a wing (R279, R280). -/
theorem State.commitWing_control (w : WingId) (who : Option Nat) (u : State) :
    (∀ (e : Ent) (v : Octets), u.commitWing w 0x2004 [{ sub := 1, ent := e, val := e.ty.wire v }] who = (none, u.wingStore w who [])) ∧
    (∀ (e : Ent) (code : Word), e.ty = .u 2 → let p : Put := { sub := 4, ent := e, val := e.ty.wire (natLe 2 code.toNat) }
      ((u.wing w).restoreMay code.toNat = none →
        u.commitWing w 0x2004 [p] who = (none, (u.restoreWing w (code = 3)).wingStore w who [code.toNat])) ∧
      (∀ st, (u.wing w).restoreMay code.toNat = some st → u.commitWing w 0x2004 [p] who = (some st, u))) := by
  refine ⟨fun e v => rfl, fun e code he => ?_⟩
  intro p
  have hctl : u.commitWing w 0x2004 [p] who = u.wingControl w [p] who := rfl
  rw [hctl]
  unfold State.wingControl
  rw [putNum_restore he code]
  refine ⟨fun h => ?_, fun st h => ?_⟩
  · simp only [h, toNat_eq_three]
    rfl
  · simp only [h]

/-- STORE and RESTORE in realm D (R279, R280). -/
theorem State.commitDome_control (who : Option Nat) (u : State) :
    (∀ (e : Ent) (v : Octets), u.commitDome 0x12F0 [{ sub := 1, ent := e, val := e.ty.wire v }] who =
      (none, { u with port := u.port.storeAsk 0xD who [] })) ∧
    (∀ (e : Ent) (code : Word), e.ty = .u 2 → code ≠ 3 → let t := ({ u with port := u.port.restore false }.trimPush).watchWrite 0xFF
      u.commitDome 0x12F0 [{ sub := 4, ent := e, val := e.ty.wire (natLe 2 code.toNat) }] who =
        (none, { t with port := t.port.storeAsk 0xD who [code.toNat] })) := by
  refine ⟨fun e v => rfl, fun e code he hc => ?_⟩
  have hne : ¬ code.toNat = 3 := fun h => hc (BitVec.eq_of_toNat_eq h)
  intro t
  unfold State.commitDome
  dsimp only
  rw [putNum_restore he code]
  exact if_neg hne

/-- STORE and RESTORE in realm P (R279, R280). -/
theorem State.commitPort_control (who : Option Nat) (u : State) :
    (∀ (e : Ent) (v : Octets), u.commitPort 0x11F0 [{ sub := 1, ent := e, val := e.ty.wire v }] who =
      (none, { u with port := u.port.storeAsk 0xE who [] })) ∧
    (∀ (e : Ent) (code : Word), e.ty = .u 2 → code ≠ 3 →
      let t := [1, 2].foldl (fun (t : State) k => t.solicit k) { u with port := (u.port.restore true).moveAddresses u.port }
      u.commitPort 0x11F0 [{ sub := 4, ent := e, val := e.ty.wire (natLe 2 code.toNat) }] who =
        (none, { t with port := t.port.storeAsk 0xE who [code.toNat] })) := by
  refine ⟨fun e v => rfl, fun e code he hc => ?_⟩
  have hne : ¬ code.toNat = 3 := fun h => hc (BitVec.eq_of_toNat_eq h)
  intro t
  unfold State.commitPort
  refine (if_neg (by decide)).trans ((if_neg (by decide)).trans ((if_neg (by decide)).trans ((if_pos rfl).trans ?_)))
  rw [putNum_restore he code]
  exact if_neg hne

/-- A value that the checks pass is committed in realm D, and in realm P. -/
theorem exec_write_commits {s : State} {rq : Req} (hf : s.fresh rq .observer = true) {idx : Word} {sub : Octet} {v : Octets} {p : Put} {res : Option Status × State} :
    (onePut .dome idx.toNat sub.toNat v = some p → let u := (s.heard rq).waitFor (rq.ask 0x11 0xD 0xD)
      u.writeCheck .dome idx.toNat (s.actor rq.session).role none [p] true = none → u.commitDome idx.toNat [p] (some rq.session.val) = res →
      exec (.write rq .dome idx sub v) s = .next (finished (rq.ask 0x11 0xD 0xD) (writeAns res))) ∧
    (onePut .port idx.toNat sub.toNat v = some p → let u := (s.heard rq).waitFor (rq.ask 0x11 0xE 0xE)
      u.writeCheck .port idx.toNat (s.actor rq.session).role none [p] true = none → u.commitPort idx.toNat [p] (some rq.session.val) = res →
      exec (.write rq .port idx sub v) s = .next (finished (rq.ask 0x11 0xE 0xE) (writeAns res))) := by
  refine ⟨fun hput => ?_, fun hput => ?_⟩
  · intro u hck hres
    have h := (exec_write_port hf (.inl rfl) idx sub v).2.2.1 p hput hck
    rw [if_pos rfl] at h
    exact h.trans (congrArg (fun r => Host.Outcome.next (finished (rq.ask 0x11 0xD 0xD) (writeAns r))) hres)
  · intro u hck hres
    have h := (exec_write_port hf (.inr rfl) idx sub v).2.2.1 p hput hck
    rw [if_neg (by decide)] at h
    exact h.trans (congrArg (fun r => Host.Outcome.next (finished (rq.ask 0x11 0xE 0xE) (writeAns r))) hres)

/-- Settles O30: writes of the Catalogue, STORE and RESTORE. -/
theorem catalogueWrites : Obligations.CatalogueWrites := by
  unfold Obligations.CatalogueWrites
  intro s rq idx sub v n a h i ans body ctl
  refine ⟨fun r b c => by cases r <;> exact ⟨rfl, rfl⟩, fun hf => ⟨fun w hc hp => exec_write_wing hf hc hp idx sub v, fun r hr => ?_,
    fun w c p hp hd h8 hc hl hput => exec_write_paired hf hp hd h8 hc hput, fun w hc hp => exec_writeRecord_wing hf hc hp idx v, fun w hc hp => ⟨?store, ?restore⟩,
    ⟨fun hacc => ?_, fun code hacc hne => ?_⟩, ⟨fun hacc => ?_, fun code hacc hne => ?_⟩⟩⟩
  · have hr' : r = .dome ∨ r = .port := by simpa using hr
    exact exec_write_port hf hr' idx sub v
  case store =>
    intro u hacc
    obtain ⟨e, he, hput, hck⟩ := State.accepts_iff hacc
    refine ((exec_write_wing hf hc hp 0x2004 1 [1]).2.2 _ hput hck).trans ?_
    exact congrArg (fun r => Host.Outcome.next (answered w n (writeAns r))) ((State.commitWing_control w _ u).1 e [1])
  case restore =>
    intro code u hacc
    obtain ⟨e, he, hput, hck⟩ := State.accepts_iff hacc
    have hty : e.ty = .u 2 := by
      have ht := restore_entry.1 w
      rw [he] at ht
      exact Option.some.inj ht
    have hw := (exec_write_wing hf hc hp 0x2004 4 (natLe 2 code.toNat)).2.2 _ hput hck
    obtain ⟨hyes, hno⟩ := (State.commitWing_control w (some n) u).2 e code hty
    exact ⟨fun hm => hw.trans (congrArg (fun r => Host.Outcome.next (answered w n (writeAns r))) (hyes hm)),
      fun st hm => hw.trans (congrArg (fun r => Host.Outcome.next (answered w n (writeAns r))) (hno st hm))⟩
  · obtain ⟨e, he, hput, hck⟩ := State.accepts_iff hacc
    exact (exec_write_commits (idx := 0x12F0) (sub := 1) hf).1 hput hck ((State.commitDome_control _ _).1 e [1])
  · obtain ⟨e, he, hput, hck⟩ := State.accepts_iff hacc
    have hty : e.ty = .u 2 := by
      have ht := restore_entry.2.1
      rw [he] at ht
      exact Option.some.inj ht
    exact (exec_write_commits (idx := 0x12F0) (sub := 4) hf).1 hput hck ((State.commitDome_control _ _).2 e code hty hne)
  · obtain ⟨e, he, hput, hck⟩ := State.accepts_iff hacc
    exact (exec_write_commits (idx := 0x11F0) (sub := 1) hf).2 hput hck ((State.commitPort_control _ _).1 e [1])
  · obtain ⟨e, he, hput, hck⟩ := State.accepts_iff hacc
    have hty : e.ty = .u 2 := by
      have ht := restore_entry.2.2
      rw [he] at ht
      exact Option.some.inj ht
    exact (exec_write_commits (idx := 0x11F0) (sub := 4) hf).2 hput hck ((State.commitPort_control _ _).2 e code hty hne)

end Sys2Proof.Machine

namespace Sys2Proof.Machine
open Sys2Proof

/-! SUPPORT. Settings with an effect (R60, R148, R283, R395, R397, R432). -/

theorem findEnt_mem {k : Nat} {e : Ent} {ts : List (List (Nat × Ent))} (h : findEnt k ts = some e) : ∃ t ∈ ts, (k, e) ∈ t := by
  induction ts with
  | nil => exact nomatch h
  | cons t ts ih =>
    unfold findEnt at h
    split at h
    · rename_i x hx
      have hk : x.1 = k := beq_iff_eq.mp (List.find?_some (p := fun (y : Nat × Ent) => y.1 == k) hx)
      obtain rfl := Option.some.inj h
      exact ⟨t, List.mem_cons_self, hk ▸ List.mem_of_find?_eq_some hx⟩
    · obtain ⟨t', ht, hm⟩ := ih h
      exact ⟨t', List.mem_cons_of_mem t ht, hm⟩

/-- An entry has the type that the tables list for it, or is a RECORD's number of subindices (R260). -/
theorem Realm.entry_ty {r : Realm} {idx sub : Nat} {e : Ent} (h : r.entry idx sub = some e) :
    (∃ f, findEnt (catKey (r.canon idx) sub) r.tables = some f ∧ e.ty = f.ty) ∨ e.ty = .u 1 := by
  unfold Realm.entry at h
  split at h
  · rename_i f hf
    refine .inl ⟨f, hf, ?_⟩
    split at h
    · split at h <;> (obtain rfl := Option.some.inj h; rfl)
    · obtain rfl := Option.some.inj h
      rfl
    · obtain rfl := Option.some.inj h
      rfl
    · obtain rfl := Option.some.inj h
      rfl
  · split at h
    · obtain rfl := Option.some.inj h
      exact .inr rfl
    · exact nomatch h

theorem wl_types : ∀ t ∈ entsWing, ∀ x ∈ t, x.1 / 256 = 0x2200 ∨ x.1 / 256 = 0x2201 → x.2.ty ≠ .eui := by
  decide +kernel

/-- No option field of the network is an EUI-64 (R393). -/
theorem wl_entry_ty {w : WingId} {idx : Nat} {sub : Octet} {e : Ent} (h0 : 0x2200 ≤ idx) (h9 : idx < 0x2209)
    (h : (Realm.wing w).entry idx sub.toNat = some e) : e.ty ≠ .eui := by
  have hcanon : (Realm.wing w).canon idx = 0x2200 ∨ (Realm.wing w).canon idx = 0x2201 := by
    unfold Realm.canon
    dsimp only
    by_cases h1 : 0x2201 ≤ idx
    · right
      rw [if_neg (by simp; omega), if_pos (by simp; omega)]
    · left
      have : idx = 0x2200 := by omega
      subst this
      rfl
  obtain ⟨f, hf, hty⟩ | hty := Realm.entry_ty h
  · obtain ⟨t, ht, hm⟩ := findEnt_mem hf
    rw [hty]
    refine wl_types t ht _ hm ?_
    have hdiv : catKey ((Realm.wing w).canon idx) sub.toNat / 256 = (Realm.wing w).canon idx := by
      unfold catKey
      have := sub.isLt
      omega
    exact hcanon.imp hdiv.trans hdiv.trans
  · rw [hty]
    exact fun hn => nomatch hn

theorem Ty.wire_plain {t : Ty} (h : t ≠ .eui) (v : Octets) : t.wire v = v := by
  cases t with
  | eui => exact absurd rfl h
  | _ => rfl

/-- The types of the settings with an effect. -/
theorem setting_types (w : WingId) : ((Realm.wing w).entry 0x2001 3).map (fun e => e.ty) = some (.u 2) ∧
    ((Realm.wing w).entry 0x2000 2).map (fun e => e.ty) = some .bool ∧ ((Realm.wing w).entry 0x2311 2).map (fun e => e.ty) = some (.u 2) ∧
    ((Realm.wing w).entry 0x2820 2).map (fun e => e.ty) = some .bool := by
  revert w
  decide +kernel

theorem Ent.ty_of_map {o : Option Ent} {e : Ent} {t : Ty} (h : o.map (fun e => e.ty) = some t) (he : o = some e) : e.ty = t := by
  subst he
  exact Option.some.inj h

/-- A write that the checks of R267 pass is committed in its wing. -/
theorem exec_write_accepted {s : State} {rq : Req} {w : WingId} (hf : s.fresh rq .observer = true) (hc : s.canHand w rq.session = true)
    (hp : s.pairOf w = none) {idx : Word} {sub : Octet} {v : Octets} :
    let u := (s.heard rq).handed (rq.ask 0x11 w w) (natLe 2 idx.toNat ++ [sub] ++ v)
    u.accepts (.wing w) idx.toNat sub.toNat (u.port.sessions.get rq.session).role v = true →
    ∃ e, (Realm.wing w).entry idx.toNat sub.toNat = some e ∧ exec (.write rq (.wing w) idx sub v) s = .next (answered w rq.session (writeAns
      (u.commitWing w idx.toNat [{ sub := sub.toNat, ent := e, val := e.ty.wire v }] (some rq.session.val)))) := by
  intro u hacc
  have hrole : (u.port.sessions.get rq.session).role = (s.actor rq.session).role :=
    congrArg Actor.role (State.handed_actor rq 0x11 w w (natLe 2 idx.toNat ++ [sub] ++ v) s)
  rw [hrole] at hacc
  obtain ⟨e, he, hput, hck⟩ := State.accepts_iff hacc
  exact ⟨e, he, (exec_write_wing hf hc hp idx sub v).2.2 _ hput hck⟩

theorem o8_toNat (b : Octet) : o8 b.toNat = b :=
  BitVec.eq_of_toNat_eq (by rw [o8, BitVec.toNat_ofNat, Nat.mod_eq_of_lt b.isLt])

/-- What the settings with an effect commit, one value each. -/
theorem State.commitWing_settings (u : State) (w : WingId) (e : Ent) (who : Option Nat) (v : Octets) :
    u.commitWing w 0x2001 [{ sub := 3, ent := e, val := v }] who = (some .ok, if leNat v = 0xA5C3 then u.enterReset w .host else u) ∧
    u.commitWing w 0x2000 [{ sub := 2, ent := e, val := v }] who = (some .ok, u.stopWrite w (leNat v = 1)) ∧
    (leNat v ≠ 0xFFFF → u.commitWing w 0x2311 [{ sub := 2, ent := e, val := v }] who = (some .ok,
      (u.modWing w (fun x => (x.keepVal 0x2311 { sub := 2, ent := e, val := v }).push w 0x2311)).modWing w (Wing.hopSeed (leNat v)))) ∧
    u.commitWing w 0x2820 [{ sub := 2, ent := e, val := v }] who =
      (some .ok, if leNat v = 0 then u.unhalt w else if (u.wing w).debug && (u.wing w).core.run ≠ .halted then u.halt w else u) :=
  ⟨rfl, rfl, fun h => congrArg (Prod.mk (some Status.ok)) (if_neg h), rfl⟩

/-- A WL entry is rewritten through the Curator's descriptors (R395). -/
theorem State.commitWing_option {idx sub a k : Nat} (h0 : 0x2200 ≤ idx) (h9 : idx < 0x2209) (ho : optField idx sub = some (a, k))
    (u : State) (w : WingId) (e : Ent) (who : Option Nat) (v : Octets) : u.commitWing w idx [{ sub := sub, ent := e, val := v }] who =
    (none, u.modWing w (Wing.flsJob who ((u.wing w).fls.optRewrite (a / 0x800) [(a, v)]))) := by
  have hplan : (u.wing w).fls.optPlan idx [(sub, v)] = (u.wing w).fls.optRewrite (a / 0x800) [(a, v)] := by
    unfold Flash.optPlan
    rw [if_neg (by omega), if_neg (by omega)]
    simp only [List.filterMap_cons, List.filterMap_nil, ho, Option.map_some]
  have hcommit : u.commitWing w idx [{ sub := sub, ent := e, val := v }] who =
      (match (u.wing w).fls.optPlan idx [(sub, v)] with
      | [] => (some .ok, u.putWing w idx { sub := sub, ent := e, val := v })
      | ds => (none, u.modWing w (Wing.flsJob who ds))) := by
    obtain ⟨n, hn, rfl⟩ : ∃ n, n < 9 ∧ idx = 0x2200 + n := ⟨idx - 0x2200, by omega, by omega⟩
    match n, hn with
    | 0, _ | 1, _ | 2, _ | 3, _ | 4, _ | 5, _ | 6, _ | 7, _ | 8, _ => rfl
  rw [hcommit, hplan]
  rfl

/-- Settles O31: the settings with an effect. -/
theorem settingRows : Obligations.SettingRows := by
  unfold Obligations.SettingRows
  intro s rq w n job
  have hty := setting_types w
  refine ⟨fun v b idx sub l => ⟨rfl, rfl, rfl, rfl, rfl, rfl, ?_⟩, Sets.of rfl (by decide) (by decide) ?_, fun b => Sets.of rfl (by decide) (by decide) ?_,
    fun v hv => Sets.of rfl (by decide) (by decide) ?_, ?option, ?lock, Sets.of rfl (by decide) (by decide) ?_, Sets.of rfl (by decide) (by decide) ?_⟩
  · change s.ask rq 0x11 (.wing w) (natLe 2 idx.toNat ++ [o8 sub.toNat] ++ l) = s.ask rq 0x11 (.wing w) (natLe 2 idx.toNat ++ [sub] ++ l)
    rw [o8_toNat]
  · intro u e a he _
    rw [Ent.ty_of_map hty.1 he, (State.commitWing_settings u w e a.who _).1]
    rfl
  · intro u e a he _
    rw [Ent.ty_of_map hty.2.1 he, (State.commitWing_settings u w e a.who _).2.1]
    cases b <;> rfl
  · intro u e a he _
    have hval : leNat ((Ty.u 2).wire (natLe 2 v.toNat)) = v.toNat := leNat_natLe_two v.isLt
    have hne : leNat ((Ty.u 2).wire (natLe 2 v.toNat)) ≠ 0xFFFF := fun h => hv (BitVec.eq_of_toNat_eq (hval.symm.trans h))
    have hput : onePut (.wing w) 0x2311 2 (natLe 2 v.toNat) = some { sub := 2, ent := e, val := (Ty.u 2).wire (natLe 2 v.toNat) } := by
      unfold onePut
      rw [he, Option.map_some, Ent.ty_of_map hty.2.2.1 he]
    rw [Ent.ty_of_map hty.2.2.1 he, (State.commitWing_settings u w e a.who _).2.2.1 hne, hput, hval]
  case option =>
    intro idx sub v a k h0 h9 ho hf hc hp hacc
    rw [o8_toNat] at hacc ⊢
    obtain ⟨e, he, hex⟩ := exec_write_accepted hf hc hp hacc
    rw [Ty.wire_plain (wl_entry_ty h0 h9 he), State.commitWing_option h0 h9 ho] at hex
    refine Eq.trans ?_ hex
    change s.ask rq 0x11 (.wing w) (natLe 2 idx.toNat ++ [o8 sub.toNat] ++ v) = s.ask rq 0x11 (.wing w) (natLe 2 idx.toNat ++ [sub] ++ v)
    rw [o8_toNat]
  case lock =>
    intro v hf hc hp hacc
    obtain ⟨e, he, hex⟩ := exec_write_accepted (idx := 0x2702) (sub := 0) hf hc hp hacc
    exact hex
  · intro u e a he _
    rw [Ent.ty_of_map hty.2.2.2 he, (State.commitWing_settings u w e a.who _).2.2.2]
    rfl
  · intro u e a he _
    rw [Ent.ty_of_map hty.2.2.2 he, (State.commitWing_settings u w e a.who _).2.2.2]
    rfl

end Sys2Proof.Machine

namespace Sys2Proof.Machine
open Sys2Proof

/-! SUPPORT. Sessions: how they open, and how they end (R296, R298, R300 to R302). -/

/-- A message that leaves is the only trace of it. -/
theorem State.emit_eq (n : Nat) (peer msg : Octets) (s : State) : ∃ sent out, s.emit n peer msg = { s with port := { s.port with sent := sent, out := out } } := by
  unfold State.emit
  split
  · exact ⟨s.port.sent, s.port.out, rfl⟩
  · split
    · exact ⟨s.port.sent, _, rfl⟩
    · unfold State.sendFrame
      split
      · exact ⟨s.port.sent, s.port.out, rfl⟩
      · exact ⟨_, s.port.out, rfl⟩

theorem State.replyBare_eq (sess op seq realm : Nat) (peer : Octets) (st : Status) (s : State) :
    ∃ sent out, s.replyBare sess op seq realm peer st = { s with port := { s.port with sent := sent, out := out } } :=
  State.emit_eq ..

/-- A response of a session is kept in its cache. -/
theorem State.reply_eq (q : WaitReq) (st : Status) (more : Bool) (body : Octets) {s : State} {x : Session} (hx : s.port.sessions.get q.session = x)
    (ho : x.isOpen = true ∨ x.opening = true) : ∃ sent out cache waiting, s.reply q st more body =
    { s with port := { s.port with sent := sent, out := out, sessions := s.port.sessions.set q.session { x with cache := cache, waiting := waiting } } } := by
  subst hx
  have hn : ¬ (!(s.port.sessions.get q.session).isOpen && !(s.port.sessions.get q.session).opening) = true := by
    obtain h | h := ho
    · rw [h]
      exact Bool.false_ne_true
    · rw [h, Bool.not_true, Bool.and_false]
      exact Bool.false_ne_true
  unfold State.reply State.replyCode
  dsimp only
  rw [if_neg hn]
  obtain ⟨sent, out, he⟩ := State.emit_eq q.session (s.port.sessions.get q.session).peer ((s.port.sessions.get q.session).seal 1 q.session q.seq
    (feranHeader q.opcode q.session (1 + 4 * b2n more) q.seq (if st.code = 0 then body else []).length q.realm st.code) (if st.code = 0 then body else []))
    (s.modSession q.session (fun x => { x with cache := ((q.seq, (s.port.sessions.get q.session).seal 1 q.session q.seq
      (feranHeader q.opcode q.session (1 + 4 * b2n more) q.seq (if st.code = 0 then body else []).length q.realm st.code)
      (if st.code = 0 then body else [])) :: x.cache).take 8, waiting := x.waiting.filter (· ≠ q.seq) }))
  rw [he]
  exact ⟨sent, out, _, _, rfl⟩

theorem State.drawOctets_eq (s : State) (k : Nat) : ∃ free, (s.drawOctets k).2 = { s with free := free } ∧ (s.drawOctets k).1.length = k := by
  induction k with
  | zero => exact ⟨s.free, rfl, rfl⟩
  | succ k ih =>
    obtain ⟨free, hs, hl⟩ := ih
    refine ⟨free + 1, ?_, ?_⟩
    · change (s.drawOctets k).2.draw.2 = _
      rw [hs]
      rfl
    · exact congrArg (· + 1) hl

section
variable {s : State} {n : Fin 8}

/-- A session that HELLO may take. -/
def State.vacant (s : State) (n : Nat) : Bool :=
  !(s.port.sessions.get n).isOpen && !(s.port.sessions.get n).opening && !(s.port.sessions.get n).reserved

/-- The session is open, opens or is reserved. -/
def State.inUse (s : State) (k : Fin 8) : Prop :=
  (s.port.sessions.get k).isOpen = true ∨ (s.port.sessions.get k).opening = true ∨ (s.port.sessions.get k).reserved = true

theorem State.vacant_iff (k : Fin 8) : s.vacant k = true ↔ ¬ s.inUse k := by
  unfold State.vacant State.inUse
  cases (s.port.sessions.get k).isOpen <;> cases (s.port.sessions.get k).opening <;> cases (s.port.sessions.get k).reserved <;> simp

theorem State.lowest_vacant (h : ¬ s.inUse n) (hl : ∀ k : Fin 8, k < n → s.inUse k) : (List.range 8).find? s.vacant = some n.val := by
  refine List.find?_range_eq_some.mpr ⟨(State.vacant_iff n).mpr h, List.mem_range.mpr n.isLt, fun j hj => ?_⟩
  have hu := hl ⟨j, Nat.lt_trans hj n.isLt⟩ hj
  rw [Bool.not_eq_true', Bool.eq_false_iff]
  exact fun hv => (State.vacant_iff ⟨j, Nat.lt_trans hj n.isLt⟩).mp hv hu

theorem State.none_vacant (h : ∀ k : Fin 8, s.inUse k) : (List.range 8).find? s.vacant = none := by
  refine List.find?_range_eq_none.mpr fun j hj => ?_
  rw [Bool.not_eq_true', Bool.eq_false_iff]
  exact fun hv => (State.vacant_iff ⟨j, hj⟩).mp hv (h ⟨j, hj⟩)

/-- A HELLO may open a provisioning session (R301). -/
def State.mayProvision (cred : Nat) (s : State) : Bool :=
  cred = 0xFF && s.dome.bootsel.getLsbD 0 && !s.port.owned && !(List.range 8).any (fun n => (s.port.sessions.get n).prov)

theorem State.mayProvision_iff (cred : Octet) : s.mayProvision cred.toNat = true ↔ cred = 0xFF ∧ s.dome.bootsel.getLsbD 0 = true ∧ s.port.owned = false ∧
    ∀ k : Fin 8, (s.port.sessions.get k).prov = false := by
  have hany : (List.range 8).any (fun n => (s.port.sessions.get n).prov) = false ↔ ∀ k : Fin 8, (s.port.sessions.get k).prov = false := by
    rw [List.any_eq_false]
    exact ⟨fun h k => Bool.eq_false_iff.mpr (h k.val (List.mem_range.mpr k.isLt)), fun h j hj => Bool.eq_false_iff.mp (h ⟨j, List.mem_range.mp hj⟩)⟩
  have hcred : cred.toNat = 0xFF ↔ cred = 0xFF := ⟨fun h => BitVec.eq_of_toNat_eq h, fun h => congrArg BitVec.toNat h⟩
  unfold State.mayProvision
  rw [Bool.and_eq_true, Bool.and_eq_true, Bool.and_eq_true, Bool.not_eq_true', Bool.not_eq_true', hany, decide_eq_true_eq, hcred, and_assoc, and_assoc]

end

/-- A session reserved by HELLO (R298). -/
def Session.reservedFor (cred : Nat) (own nonce peer : Octets) : Session :=
  { reserved := true, cred := cred, devNonce := own, cliNonce := nonce, peer := peer }

/-- A provisioning session (R301). -/
def Session.provisioning (seq : Nat) (peer : Octets) : Session :=
  { isOpen := true, prov := true, role := .owner, peer := peer, highest := some seq, seen := [seq] }

/-- Of the sessions only `n` changes, and nothing of wings, Dome and calendar. -/
def State.onlySession (n : Fin 8) (s t : State) : Prop :=
  (∀ k : Fin 8, k ≠ n → t.port.sessions.get k = s.port.sessions.get k) ∧ t.wings = s.wings ∧ t.dome = s.dome ∧ t.cal = s.cal

theorem Oct.get_set_rest {α : Type} (o : Oct α) (n : Fin 8) (v : α) : (∀ k : Fin 8, k ≠ n → (o.set n v).get k = o.get k) ∧ (o.set n v).get n = v :=
  ⟨fun k hk => Oct.get_set_other o n k v hk, Oct.get_set_same o n v⟩

section
variable {s : State} {n : Fin 8}

/-- HELLO reserves the lowest vacant session (R298). -/
theorem State.hello_reserves (hpf : s.port.powerFail = false) (hif : s.port.imageFinal = true) (hrf : s.port.randFail = false)
    (hn : (List.range 8).find? s.vacant = some n.val) {seq cred : Nat} (hprov : ¬ s.mayProvision cred = true) (realm : Nat) (nonce peer : Octets) :
    ∃ free own sent out, own.length = 16 ∧ s.hello seq realm cred nonce peer =
      { s with free := free, port := { s.port with sent := sent, out := out, sessions := s.port.sessions.set n (Session.reservedFor cred own nonce peer) } } := by
  have hgo : s.hello seq realm cred nonce peer = (let (own, s) := s.drawOctets 16
      let (fresh, s) := s.drawOctets 16
      let kind := if cred < 32 then s.port.cred cred 1 0 else 0
      let salt := if kind = 2 then (match tget [] s.port.cat (dpKey true (0x1120 + cred) 5) with | [] => zeros 16 | os => os) else fresh
      (s.modSession n (fun _ => { reserved := true, cred := cred, devNonce := own, cliNonce := nonce, peer := peer })).emit n peer
        (feranHeader 0x01 n 1 seq 33 realm 0 ++ own ++ [o8 kind] ++ salt)) := by
    obtain ⟨f, h1, -⟩ := State.drawOctets_eq s 16
    obtain ⟨g, h2, -⟩ := State.drawOctets_eq (s.drawOctets 16).2 16
    have hport : ((s.drawOctets 16).2.drawOctets 16).2.port = s.port := by rw [h2, h1]
    unfold State.hello
    refine (if_neg (Bool.eq_false_iff.mp hpf)).trans ((if_neg ?_).trans ?_)
    · rw [hif, hrf]
      exact Bool.false_ne_true
    · rw [show (List.range 8).find? (fun n => !(s.port.sessions.get n).isOpen && !(s.port.sessions.get n).opening && !(s.port.sessions.get n).reserved)
        = some n.val from hn]
      dsimp only
      rw [hport]
      exact if_neg hprov
  obtain ⟨f, h1, hl⟩ := State.drawOctets_eq s 16
  obtain ⟨g, h2, -⟩ := State.drawOctets_eq (s.drawOctets 16).2 16
  obtain ⟨sent, out, he⟩ := State.emit_eq n peer _ (((s.drawOctets 16).2.drawOctets 16).2.modSession n (fun _ =>
    { reserved := true, cred := cred, devNonce := (s.drawOctets 16).1, cliNonce := nonce, peer := peer }))
  refine ⟨g, (s.drawOctets 16).1, sent, out, hl, hgo.trans (he.trans ?_)⟩
  rw [h2, h1]
  rfl

/-- HELLO opens a provisioning session where it may (R301). -/
theorem State.hello_provisions (hpf : s.port.powerFail = false) (hif : s.port.imageFinal = true) (hrf : s.port.randFail = false)
    (hn : (List.range 8).find? s.vacant = some n.val) {seq cred : Nat} (hprov : s.mayProvision cred = true) (realm : Nat) (nonce peer : Octets) :
    ∃ sent out cache waiting, s.hello seq realm cred nonce peer = { s with port := { s.port with
      sent := sent
      out := out
      sessions := s.port.sessions.set n { Session.provisioning seq peer with cache := cache, waiting := waiting } } } := by
  obtain ⟨sent, out, cache, waiting, hr⟩ := State.reply_eq { session := n, seq := seq, opcode := 0x01, realm := realm, wing := 0xF } .ok false
    (zeros 16 ++ [0xFF] ++ zeros 16) (s := s.modSession n (fun _ => Session.provisioning seq peer))
    (Oct.get_set_same _ n _) (.inl rfl)
  refine ⟨sent, out, cache, waiting, Eq.trans ?_ (hr.trans ?_)⟩
  · unfold State.hello
    refine (if_neg (Bool.eq_false_iff.mp hpf)).trans ((if_neg ?_).trans ?_)
    · rw [hif, hrf]
      exact Bool.false_ne_true
    · rw [show (List.range 8).find? (fun n => !(s.port.sessions.get n).isOpen && !(s.port.sessions.get n).opening && !(s.port.sessions.get n).reserved)
        = some n.val from hn]
      exact if_pos hprov
  · unfold State.modSession
    dsimp only
    rw [Oct.set_set]

/-- HELLO is refused. -/
theorem State.hello_refuses (h : s.port.imageFinal = false ∨ s.port.randFail = true ∨ (List.range 8).find? s.vacant = none)
    (seq realm cred : Nat) (nonce peer : Octets) : ∃ sent out, s.hello seq realm cred nonce peer =
      { s with port := { s.port with sent := sent, out := out } } := by
  unfold State.hello
  dsimp only
  split
  · exact ⟨s.port.sent, s.port.out, rfl⟩
  · split
    · exact State.replyBare_eq ..
    · rename_i hok
      rw [Bool.or_eq_true, not_or, Bool.not_eq_true', Bool.not_eq_false] at hok
      obtain h | h | h := h
      · exact absurd hok.1 (Bool.eq_false_iff.mp h)
      · exact absurd h hok.2
      · rw [show (List.range 8).find? (fun n => !(s.port.sessions.get n).isOpen && !(s.port.sessions.get n).opening && !(s.port.sessions.get n).reserved)
          = none from h]
        exact State.replyBare_eq ..

end

/-- A session as the right proof opens it (R298): on SPI it opens once its response has left. -/
def Session.openedBy (spi : Bool) (cred : Nat) (role : SRole) (key peer : Octets) (seq : Nat) : Session :=
  { isOpen := !spi, opening := spi, cred := cred, role := role, key := key, peer := peer, highest := some seq, seen := [seq] }

/-- The failures and the lockout after a failed OPEN of credential `c` (R300). -/
def Port.failed (c : Nat) (p : Port) : Port :=
  let k := (tget 0 p.failures c + 1) % 65536
  let q := { p with openFailures := wrap32 p.openFailures }
  if c < 32 then { q with failures := tset 0 c k p.failures, lockout := if k % 4 = 0 then c :: p.lockout else p.lockout } else q

theorem State.openFail_eq (n : Fin 8) (seq realm : Nat) (peer : Octets) (s : State) : ∃ sent out, s.openFail n seq realm peer =
    { s with port := { s.port.failed (s.port.sessions.get n).cred with sent := sent, out := out, sessions := s.port.sessions.set n {} } } := by
  have hp : (s.port.failed (s.port.sessions.get n).cred).sessions = s.port.sessions := by
    unfold Port.failed
    dsimp only
    split <;> rfl
  obtain ⟨sent, out, he⟩ := State.replyBare_eq n 0x02 seq realm peer .credential
    (({ s with port := s.port.failed (s.port.sessions.get n).cred } : State).modSession n (fun _ => {}))
  refine ⟨sent, out, Eq.trans rfl (he.trans ?_)⟩
  unfold State.modSession
  dsimp only
  rw [hp]

section
variable {s : State} {n : Fin 8} (hpf : s.port.powerFail = false) (hif : s.port.imageFinal = true)
include hpf hif

/-- OPEN on a session that is not reserved for this peer changes no session. -/
theorem State.openSession_strange {peer : Octets} (h : (s.port.sessions.get n).isOpen = true ∨ (s.port.sessions.get n).opening = true ∨
      (s.port.sessions.get n).reserved = false ∨ (s.spi = false ∧ samePeer peer (s.port.sessions.get n).peer = false))
    (seq realm : Nat) (auth : Bool) (proof : Octets) : ∃ sent out dropped, s.openSession n seq realm auth proof peer =
      { s with port := { s.port with sent := sent, out := out, dropped := dropped } } := by
  have hdrop : ∃ sent out dropped, s.feranDrop = { s with port := { s.port with sent := sent, out := out, dropped := dropped } } :=
    ⟨s.port.sent, s.port.out, _, rfl⟩
  have hbare : ∀ (k op : Nat) (st : Status), ∃ sent out dropped, s.replyBare k op seq realm peer st =
      { s with port := { s.port with sent := sent, out := out, dropped := dropped } } := by
    intro k op st
    obtain ⟨sent, out, he⟩ := State.replyBare_eq k op seq realm peer st s
    exact ⟨sent, out, s.port.dropped, he⟩
  have hagain : ∃ sent out dropped, s.openAgain n seq realm auth peer = { s with port := { s.port with sent := sent, out := out, dropped := dropped } } := by
    unfold State.openAgain
    dsimp only
    split
    · exact hdrop
    · split
      · rename_i m _
        obtain ⟨sent, out, he⟩ := State.emit_eq n peer m s
        exact ⟨sent, out, s.port.dropped, he⟩
      · split
        · exact hdrop
        · exact hbare ..
  unfold State.openSession
  dsimp only
  rw [if_neg (Bool.eq_false_iff.mp hpf), if_neg (by rw [hif]; exact Bool.false_ne_true)]
  split
  · exact hagain
  · rename_i hno
    split
    · exact hbare ..
    · rename_i hres
      have h8 : decide (n.val < 8) = true := decide_eq_true n.isLt
      rw [h8, Bool.true_and] at hno hres
      rw [Bool.or_eq_true, not_or] at hno
      obtain h | h | h | ⟨hs, hp⟩ := h
      · exact absurd h hno.1
      · exact absurd h hno.2
      · rw [h] at hres
        exact absurd rfl hres
      · rw [if_pos (by rw [hs, hp]; rfl)]
        exact hdrop

variable (hr : (s.port.sessions.get n).reserved = true) (ho : (s.port.sessions.get n).isOpen = false)
  (hop : (s.port.sessions.get n).opening = false) {peer : Octets} (hpeer : s.spi = true ∨ samePeer peer (s.port.sessions.get n).peer = true)
include hr ho hop hpeer

/-- OPEN on a session reserved for this peer, by its proof. -/
theorem State.openSession_reserved (seq realm : Nat) (auth : Bool) (proof : Octets) : s.openSession n seq realm auth proof peer =
    (let x := s.port.sessions.get n
    if proof.length ≠ 32 then s.replyBare n 0x02 seq realm peer .badMessage
    else if s.port.lockout.contains x.cred then (s.modSession n (fun _ => {})).replyBare n 0x02 seq realm peer .lockout
    else match s.port.secret x.cred with
    | none => s.openFail n seq realm peer
    | some k =>
      if proof ≠ kmac256 k (x.openInput n) 32 (ascii "FERAN-OPEN") then s.openFail n seq realm peer else
      (({ s with port := { s.port with failures := tset 0 x.cred 0 s.port.failures, opens := tmod 0 x.cred wrap32 s.port.opens } } : State).modSession n
        (fun _ => Session.openedBy s.spi x.cred (roleOf (s.port.cred x.cred 2 0)) (kmac256 k (x.openInput n) 32 (ascii "FERAN-SESSION")) peer seq)).reply
        { session := n, seq := seq, opcode := 0x02, realm := realm, wing := 0xF } .ok false
        (kmac256 k (x.openInput n) 32 (ascii "FERAN-DEVICE") ++ [o8 (roleOf (s.port.cred x.cred 2 0)).rank] ++ natLe 2 (s.port.num (dpKey true 0x1102 1) 60))) := by
  have hmine : ¬ (!s.spi && !samePeer peer (s.port.sessions.get n).peer) = true := by
    obtain h | h := hpeer
    · rw [h]
      exact Bool.false_ne_true
    · rw [h, Bool.not_true, Bool.and_false]
      exact Bool.false_ne_true
  unfold State.openSession
  refine (if_neg (Bool.eq_false_iff.mp hpf)).trans ((if_neg (by rw [hif]; exact Bool.false_ne_true)).trans ((if_neg ?_).trans ((if_neg ?_).trans
    ((if_neg hmine).trans ?_))))
  · rw [ho, hop, Bool.or_false, Bool.and_false]
    exact Bool.false_ne_true
  · rw [hr, Bool.and_true, decide_eq_true n.isLt]
    exact Bool.false_ne_true
  · rfl

end

/-- Core and states of a wing. -/
def Wing.coreSys (x : Wing) : Core × WSys :=
  (x.core, x.sys)

theorem Wing.putOctets_coreSys (a off : Nat) (os : Octets) (x : Wing) : (x.putOctets a off os).coreSys = x.coreSys := by
  obtain ⟨m, hm⟩ := Wing.putOctets_eq a off os x
  rw [hm]
  rfl

theorem Wing.cphEnd_coreSys (r : CphResult) (x : Wing) : (x.cphEnd r).coreSys = x.coreSys := by
  have hzero : ∀ (j : CphJob) (y : Wing), (y.cphZero j).coreSys = y.coreSys := by
    intro j y
    unfold Wing.cphZero
    split
    · exact Wing.putOctets_coreSys ..
    · split
      · split <;> rfl
      · split
        · exact Wing.putOctets_coreSys ..
        · split <;> exact Wing.putOctets_coreSys ..
  have hcount : ∀ (r : CphResult) (y : Wing), (y.cphCount r).coreSys = y.coreSys := by
    intro r y
    unfold Wing.cphCount
    split <;> rfl
  unfold Wing.cphEnd
  split
  · rfl
  · unfold Wing.cphFinish
    rw [hcount]
    split
    · rfl
    · exact hzero ..

theorem Wing.sessionPages_coreSys (n : Nat) (x : Wing) : (x.sessionPages n).coreSys = x.coreSys := by
  have hgone : ∀ (p : Nat) (y : Wing), (y.pageGone p).coreSys = y.coreSys := by
    intro p y
    unfold Wing.pageGone
    split
    · split
      · exact Wing.cphEnd_coreSys _ y
      · rfl
    · rfl
  unfold Wing.sessionPages
  refine Machine.foldl_keeps Wing.coreSys (fun y p => ?_) _ _
  split
  · exact hgone p y
  · rfl

theorem Wing.mbAbandon_coreSys (m : Nat) (x : Wing) : (x.mbAbandon m).coreSys = x.coreSys := by
  unfold Wing.mbAbandon
  split
  · rfl
  · unfold Wing.mbEnd Wing.raiseIf
    dsimp only
    split <;> rfl

/-- The end of a session leaves core and states of every wing. -/
theorem State.closeSession_each (n : Nat) (s : State) : (s.closeSession n).each Wing.coreSys = s.each Wing.coreSys := by
  refine (State.forWings_keeps (State.each Wing.coreSys) (fun w t => State.each_setWing ?_) _).trans rfl
  rw [Wing.sessionPages_coreSys]
  split
  · exact (Wing.mbAbandon_coreSys ..).trans rfl
  · rfl

/-- The end of a session: its place is free, and what waited for it is gone. -/
theorem State.closeSession_port (n : Nat) (s : State) : let t := s.closeSession n
    t.port.sessions = s.port.sessions.set n {} ∧ t.port.waits = s.port.waits.filter (fun q => q.session ≠ n) ∧ t.cal = s.cal := by
  refine ⟨?_, ?_, ?_⟩
  · refine congrArg Port.sessions (State.forWings_keeps State.port (fun w t => ?_) _)
    exact State.setWing_port ..
  · refine congrArg Port.waits (State.forWings_keeps State.port (fun w t => ?_) _)
    exact State.setWing_port ..
  · refine State.forWings_keeps State.cal (fun w t => ?_) _
    exact State.setWing_cal ..

theorem State.closeSession_closes (n : Fin 8) (s : State) : let t := s.closeSession n
    t.port.sessions.get n = {} ∧ t.dome = s.dome ∧ t.cal = s.cal ∧ (∀ k : Fin 8, k ≠ n → t.port.sessions.get k = s.port.sessions.get k) ∧
    (∀ q ∈ t.port.waits, q.session ≠ n.val) ∧ ∀ w : WingId, (t.wing w).core = (s.wing w).core ∧ (t.wing w).sys = (s.wing w).sys := by
  intro t
  obtain ⟨hs, hw, hc⟩ := State.closeSession_port n s
  refine ⟨?_, State.closeSession_dome n s, hc, fun k hk => ?_, fun q hq => ?_, fun w => ?_⟩
  · rw [hs, Oct.get_set_same]
  · rw [hs, Oct.get_set_other _ _ _ _ hk]
  · rw [hw] at hq
    exact of_decide_eq_true (List.mem_filter.mp hq).2
  · exact Prod.mk.inj (State.wing_of_each (State.closeSession_each n s) w)

/-- An OPEN that fails is counted, and its reservation is gone (R300). -/
theorem State.openFail_counts (n : Fin 8) (seq realm : Nat) (peer : Octets) (s : State) : let t := s.openFail n seq realm peer
    let p := s.port
    let c := (p.sessions.get n).cred
    let k := (tget 0 p.failures c + 1) % 65536
    (t.port.sessions.get n) = {} ∧ t.port.openFailures = (p.openFailures + 1) % 2 ^ 32 ∧ t.wings = s.wings ∧
    (c < 32 → t.port.failures = tset 0 c k p.failures ∧ t.port.lockout = (if k % 4 = 0 then c :: p.lockout else p.lockout)) ∧
    (32 ≤ c → t.port.failures = p.failures ∧ t.port.lockout = p.lockout) := by
  intro t p c k
  obtain ⟨sent, out, he⟩ := State.openFail_eq n seq realm peer s
  rw [show t = _ from he]
  refine ⟨Oct.get_set_same _ n _, ?_, rfl, fun hc => ?_, fun hc => ?_⟩
  · dsimp only
    unfold Port.failed
    dsimp only
    split <;> rfl
  · dsimp only
    unfold Port.failed
    dsimp only
    rw [if_pos hc]
    exact ⟨rfl, rfl⟩
  · dsimp only
    unfold Port.failed
    dsimp only
    rw [if_neg (Nat.not_lt.mpr hc)]
    exact ⟨rfl, rfl⟩

/-- Settles O34: sessions open and end. -/
theorem sessions : Obligations.Sessions := by
  unfold Obligations.Sessions
  intro s n p x used only
  refine ⟨fun seq cred nonce peer => ⟨fun hpf hif hrf hn hl => ⟨fun hprov => ?_, fun hprov => ?_⟩, fun h => ?_⟩,
    fun rq proof hrq hpf hif => ?opening, fun hpf => ⟨fun seq cred nonce peer => ?_, fun rq proof => ?_⟩, fun hr => next_if_pos hr rfl,
    fun hr => next_if_neg (Bool.eq_false_iff.mp hr) rfl, fun c => rfl, fun ho => ?_, fun ho hop => ?_⟩
  · obtain ⟨free, own, sent, out, hlen, he⟩ := State.hello_reserves hpf hif hrf (State.lowest_vacant hn hl)
      (seq := seq.toNat) (fun hm => hprov ((State.mayProvision_iff cred).mp hm)) 0xE nonce peer
    refine ⟨_, congrArg Host.Outcome.next he, ?_⟩
    obtain ⟨hother, hsame⟩ := Oct.get_set_rest p.sessions n (Session.reservedFor cred.toNat own nonce peer)
    dsimp only
    rw [hsame]
    exact ⟨rfl, rfl, rfl, rfl, rfl, hlen, rfl, hother, rfl, rfl, rfl⟩
  · obtain ⟨sent, out, cache, waiting, he⟩ := State.hello_provisions hpf hif hrf (State.lowest_vacant hn hl)
      (seq := seq.toNat) ((State.mayProvision_iff cred).mpr hprov) 0xE nonce peer
    refine ⟨_, congrArg Host.Outcome.next he, ?_⟩
    obtain ⟨hother, hsame⟩ := Oct.get_set_rest p.sessions n { Session.provisioning seq.toNat peer with cache := cache, waiting := waiting }
    dsimp only
    rw [hsame]
    exact ⟨rfl, rfl, rfl, rfl, rfl, hother, rfl, rfl, rfl⟩
  · obtain ⟨sent, out, he⟩ := State.hello_refuses (s := s) (h.imp_right (Or.imp_right State.none_vacant)) seq.toNat 0xE cred.toNat nonce peer
    exact ⟨_, congrArg Host.Outcome.next he, rfl, rfl, rfl⟩
  case opening =>
    subst hrq
    refine ⟨fun hr ho hop hpeer => ?_, fun h => ?_⟩
    · intro fails
      have hopen := State.openSession_reserved hpf hif hr ho hop hpeer rq.seq 0xE rq.auth proof
      have hfails : s.openSession rq.session rq.seq 0xE rq.auth proof rq.peer = s.openFail rq.session rq.seq 0xE rq.peer → fails :=
        fun he => ⟨_, congrArg Host.Outcome.next he, State.openFail_counts rq.session rq.seq 0xE rq.peer s⟩
      have h32 : proof.length = 32 → ¬ proof.length ≠ 32 := fun h hn => hn h
      have hlock : ¬ x.cred ∈ p.lockout → ¬ p.lockout.contains x.cred = true := fun h hc => h (List.contains_iff_mem.mp hc)
      refine ⟨fun hl => ?_, fun hl hm => ?_, fun hl hm hsec => hfails ?_, fun key hl hm hsec => ⟨fun hk => ?_, fun hk => hfails ?_⟩⟩
      · obtain ⟨sent, out, he⟩ := State.replyBare_eq rq.session 0x02 rq.seq 0xE rq.peer .badMessage s
        exact ⟨_, congrArg Host.Outcome.next (hopen.trans ((if_pos hl).trans he)), rfl, rfl, rfl⟩
      · obtain ⟨sent, out, he⟩ := State.replyBare_eq rq.session 0x02 rq.seq 0xE rq.peer .lockout (s.modSession rq.session (fun _ => {}))
        refine ⟨_, congrArg Host.Outcome.next (hopen.trans ((if_neg (h32 hl)).trans ((if_pos (List.contains_iff_mem.mpr hm)).trans he))), ?_⟩
        obtain ⟨hother, hsame⟩ := Oct.get_set_rest p.sessions rq.session {}
        exact ⟨hsame, rfl, hother, rfl, rfl, rfl⟩
      · refine hopen.trans ((if_neg (h32 hl)).trans ((if_neg (hlock hm)).trans ?_))
        rw [show s.port.secret (s.port.sessions.get rq.session).cred = none from hsec]
      · obtain ⟨sent, out, cache, waiting, he⟩ := State.reply_eq { session := rq.session, seq := rq.seq, opcode := 0x02, realm := 0xE, wing := 0xF } .ok false
          (kmac256 key (x.openInput rq.session) 32 (ascii "FERAN-DEVICE") ++ [o8 (roleOf (p.cred x.cred 2 0)).rank] ++ natLe 2 (p.num (dpKey true 0x1102 1) 60))
          (s := ({ s with port := { p with failures := tset 0 x.cred 0 p.failures, opens := tmod 0 x.cred wrap32 p.opens } } : State).modSession rq.session
            (fun _ => Session.openedBy s.spi x.cred (roleOf (p.cred x.cred 2 0)) (kmac256 key (x.openInput rq.session) 32 (ascii "FERAN-SESSION")) rq.peer rq.seq))
          (Oct.get_set_same _ rq.session _) (by cases hs : s.spi <;> simp [Session.openedBy])
        refine ⟨_, congrArg Host.Outcome.next (hopen.trans ((if_neg (h32 hl)).trans ((if_neg (hlock hm)).trans (Eq.trans ?_ he)))), ?_⟩
        · rw [show s.port.secret (s.port.sessions.get rq.session).cred = some key from hsec]
          exact if_neg (fun hn => hn hk)
        · dsimp only [State.modSession]
          rw [Oct.set_set]
          obtain ⟨hother, hsame⟩ := Oct.get_set_rest p.sessions rq.session { Session.openedBy s.spi x.cred (roleOf (p.cred x.cred 2 0))
            (kmac256 key (x.openInput rq.session) 32 (ascii "FERAN-SESSION")) rq.peer rq.seq with cache := cache, waiting := waiting }
          rw [hsame]
          exact ⟨rfl, rfl, rfl, rfl, rfl, rfl, rfl, rfl, rfl, hother, rfl, rfl, rfl⟩
      · refine hopen.trans ((if_neg (h32 hl)).trans ((if_neg (hlock hm)).trans ?_))
        rw [show s.port.secret (s.port.sessions.get rq.session).cred = some key from hsec]
        exact if_pos hk
    · obtain ⟨sent, out, dropped, he⟩ := State.openSession_strange hpf hif (n := rq.session) h rq.seq 0xE rq.auth proof
      exact ⟨_, congrArg Host.Outcome.next he, rfl, rfl, rfl⟩
  · exact congrArg Host.Outcome.next (if_pos hpf)
  · exact congrArg Host.Outcome.next (if_pos hpf)
  · refine ⟨_, next_if_pos ?_ rfl, State.closeSession_closes n s⟩
    rw [Bool.or_eq_true]
    exact ho
  · refine next_if_neg ?_ rfl
    rw [show (s.port.sessions.get n).isOpen = false from ho, show (s.port.sessions.get n).opening = false from hop]
    exact Bool.false_ne_true

end Sys2Proof.Machine

namespace Sys2Proof.Machine
open Sys2Proof

/-! SUPPORT. Frames on T1L and transfers on SPI (R289 to R291). -/

/-- An ICMPv6 packet of type `t` whose checksum is good. -/
def Ip6.isIcmp (t : Octet) (q : Ip6) : Prop :=
  q.next = 58 ∧ q.data.getD 0 0 = t ∧ ipSum q.src q.dst 58 q.data = 0

/-- The rows of one ICMPv6 type: a good packet of that type is taken as one, and any other rests. -/
theorem icmp_row {s : State} {q : Ip6} {t : Octet} : (q.isIcmp t → (if (decide (q.next = 58) && decide (q.data.getD 0 0 = t)) = true then s.icmpIn q else s) = s.icmpIn q) ∧
    (¬ q.isIcmp t → (if (decide (q.next = 58) && decide (q.data.getD 0 0 = t)) = true then s.icmpIn q else s) = s) := by
  have hc : (decide (q.next = 58) && decide (q.data.getD 0 0 = t)) = true ↔ q.next = 58 ∧ q.data.getD 0 0 = t := by
    rw [Bool.and_eq_true, decide_eq_true_eq, decide_eq_true_eq]
  refine ⟨fun ⟨hn, ht, _⟩ => if_pos (hc.mpr ⟨hn, ht⟩), fun h => ?_⟩
  split
  · rename_i hif
    obtain ⟨hn, ht⟩ := hc.mp hif
    exact if_pos (fun hsum => h ⟨hn, ht, hsum⟩)
  · rfl

theorem State.icmpIn_cases {s : State} {q : Ip6} : (q.isIcmp 128 → s.icmpIn q = s.echoIn q) ∧ (q.isIcmp 135 → s.icmpIn q = s.solicitIn q) := by
  unfold State.icmpIn
  refine ⟨fun ⟨_, ht, hs⟩ => ?_, fun ⟨_, ht, hs⟩ => ?_⟩
  · rw [if_neg (fun h => h hs), ht]
    rfl
  · rw [if_neg (fun h => h hs), ht]
    rfl

section
variable {s : State} {f : Octets}

theorem exec_frame {q : Ip6} (h : s.frameIn f = some q) : exec (.ethFrameReceived f) s = .next (s.ipIn q) ∧
    exec (.icmpEcho f) s = .next (if (decide (q.next = 58) && decide (q.data.getD 0 0 = 128)) = true then s.icmpIn q else s) ∧
    exec (.neighbourSolicitation f) s = .next (if (decide (q.next = 58) && decide (q.data.getD 0 0 = 135)) = true then s.icmpIn q else s) := by
  refine ⟨?_, ?_, ?_⟩
  · change execEthFrameReceived f s = _
    unfold execEthFrameReceived
    rw [h]
  · change execIcmpEcho f s = _
    unfold execIcmpEcho
    rw [h]
  · change execNeighbourSolicitation f s = _
    unfold execNeighbourSolicitation
    rw [h]

theorem exec_noFrame (h : s.frameIn f = none) : ∀ i ∈ ([.ethFrameReceived f, .icmpEcho f, .neighbourSolicitation f] : List Instr), Rests i s := by
  intro i hi
  obtain rfl | rfl | rfl : i = .ethFrameReceived f ∨ i = .icmpEcho f ∨ i = .neighbourSolicitation f := by simpa using hi
  · change execEthFrameReceived f s = _
    unfold execEthFrameReceived
    rw [h]
  · change execIcmpEcho f s = _
    unfold execIcmpEcho
    rw [h]
  · change execNeighbourSolicitation f s = _
    unfold execNeighbourSolicitation
    rw [h]

end

/-- The message that waits does not depend on what stands in the receive buffer. -/
theorem State.waitingMsg_held (held : Nat) (s : State) :
    (s.spiHeld held).waitingMsg.map (fun (e : Octets × State) => e.1) = s.waitingMsg.map (fun (e : Octets × State) => e.1) := by
  unfold State.waitingMsg
  change Option.map _ (if s.port.powerFail = true then none else match s.port.out with
    | m :: rest => _
    | [] => (List.range 8).findSome? _) = _
  by_cases hp : s.port.powerFail = true
  · rw [if_pos hp, if_pos hp]
  · rw [if_neg hp, if_neg hp]
    cases s.port.out with
    | cons m rest => rfl
    | nil =>
      have hmap : ∀ (l : List Nat) (g h : Nat → Option (Octets × State)), (∀ n, (g n).map (fun e => e.1) = (h n).map (fun e => e.1)) →
          (l.findSome? g).map (fun e => e.1) = (l.findSome? h).map (fun e => e.1) := by
        intro l g h hgh
        induction l with
        | nil => rfl
        | cons n l ih =>
          rw [List.findSome?_cons, List.findSome?_cons]
          have hn := hgh n
          cases hg : g n <;> cases hh : h n <;> rw [hg, hh] at hn
          · exact ih
          · exact nomatch hn
          · exact nomatch hn
          · exact hn
      refine hmap _ _ _ fun n => ?_
      rw [Option.map_map, Option.map_map]
      rfl

section
variable {s : State} (hs : s.spi = true) (held : Fin 3)

/-- The state with the receive buffer's content noted, and after an SPI transfer that gives `stat` and `d`. -/
def State.spiSent (held : Nat) (stat d : Octets) (s : State) : State :=
  { s.spiHeld held with port := { (s.spiHeld held).port with sent := s.port.sent ++ [stat ++ d], overrun := false } }

include hs

/-- The status octets (R290, R291). -/
theorem State.spiStatus_held : (s.spiHeld held).spiStatus = (if s.port.powerFail then 8 else
      o8 (b2n s.waitingMsg.isSome + 2 * b2n (decide (held.val < 2)) + 4 * b2n s.port.overrun + 16 * b2n s.port.imageFinal)) :: 0xA5 ::
    natLe 2 (match s.waitingMsg with | none => 0 | some m => m.1.length) := by
  have hw := State.waitingMsg_held held s
  have hint : (s.spiHeld held).portIntLow = s.waitingMsg.isSome := by
    unfold State.portIntLow
    rw [show (s.spiHeld held).spi = true from hs, Bool.true_and, ← Option.isSome_map (f := fun (e : Octets × State) => e.1), hw, Option.isSome_map]
  have hlen : (match (s.spiHeld held).waitingMsg with | none => 0 | some m => m.1.length) = (match s.waitingMsg with | none => 0 | some m => m.1.length) := by
    generalize (s.spiHeld held).waitingMsg = a at hw ⊢
    generalize s.waitingMsg = b at hw ⊢
    obtain _ | a := a <;> obtain _ | b := b
    · rfl
    · exact nomatch hw
    · exact nomatch hw
    · exact congrArg List.length (Option.some.inj hw)
  unfold State.spiStatus
  rw [hint]
  exact congrArg (fun b => _ :: 0xA5 :: natLe 2 b) hlen

theorem exec_spi (len clocked : Nat) (d : Octets) : exec (.spiStatus held) s = .next ((s.spiHeld held).spiOut []) ∧
    exec (.spiWrite held len d) s = .next ((s.spiHeld held).spiWrite len d) ∧
    exec (.spiRead held len clocked) s = .next ((s.spiHeld held).spiRead len clocked) := by
  have hgo : ∀ {a b : State}, a = b → (if (!s.spi) = true then s else a) = b := by
    intro a b h
    rw [hs]
    exact h
  exact ⟨congrArg Host.Outcome.next (hgo rfl), congrArg Host.Outcome.next (hgo rfl), congrArg Host.Outcome.next (hgo rfl)⟩

omit hs in
/-- A write that does not fit sets OVERRUN (R291). -/
theorem State.spiWrite_cases (u : State) (len : Nat) (d : Octets) :
    (u.port.powerFail = true → u.spiWrite len d = u.spiOut []) ∧
    (u.port.powerFail = false → (2 ≤ u.port.rxHeld ∨ len < 12 ∨ 1452 < len ∨ d.length < len) →
      u.spiWrite len d = { u.spiOut [] with port := { (u.spiOut []).port with overrun := true } }) ∧
    (u.port.powerFail = false → ¬ (2 ≤ u.port.rxHeld ∨ len < 12 ∨ 1452 < len ∨ d.length < len) →
      u.spiWrite len d = ((u.spiOut []).feranIn [] (d.take len)).pump) := by
  have hbad : (decide (2 ≤ u.port.rxHeld) || decide (len < 12) || decide (1452 < len) || decide (d.length < len)) = true ↔
      (2 ≤ u.port.rxHeld ∨ len < 12 ∨ 1452 < len ∨ d.length < len) := by
    simp only [Bool.or_eq_true, decide_eq_true_eq, or_assoc]
  unfold State.spiWrite
  refine ⟨fun hp => if_pos hp, fun hp h => ?_, fun hp h => ?_⟩
  · exact (if_neg (Bool.eq_false_iff.mp hp)).trans (if_pos (hbad.mpr h))
  · exact (if_neg (Bool.eq_false_iff.mp hp)).trans (if_neg (fun hc => h (hbad.mp hc)))

omit hs in
/-- A read of the whole message that waits takes it; a shorter one leaves it (R291). -/
theorem State.spiRead_cases (u : State) (len k : Nat) :
    (u.waitingMsg = none → u.spiRead len k = u.spiOut (zeros k)) ∧
    (∀ m t, u.waitingMsg = some (m, t) → (len < m.length → u.spiRead len k = u.spiOut (zeros k)) ∧
      (m.length ≤ len → k < m.length → u.spiRead len k = u.spiOut (m.take k)) ∧
      (m.length ≤ len → m.length ≤ k → u.spiRead len k =
        { t with port := { t.port with sent := (u.spiOut (m ++ zeros (k - m.length))).port.sent, overrun := false } })) := by
  unfold State.spiRead
  refine ⟨fun h => ?_, fun m t h => ?_⟩
  · rw [h]
  · rw [h]
    refine ⟨fun hl => if_pos hl, fun hl hk => ?_, fun hl hk => ?_⟩
    · refine (if_neg (Nat.not_lt.mpr hl)).trans ((if_neg (Nat.not_le.mpr hk)).trans ?_)
      rw [List.take_append_of_le_length (Nat.le_of_lt hk)]
    · refine (if_neg (Nat.not_lt.mpr hl)).trans ((if_pos hk).trans ?_)
      rw [List.take_of_length_le]
      rw [List.length_append, zeros, List.length_replicate]
      omega

end

/-- The oldest response waits first, and an OPEN response that leaves opens its session (R298, R307). -/
theorem State.waitingMsg_response {u : State} {m : OutMsg} {rest : List OutMsg} (hp : u.port.powerFail = false) (ho : u.port.out = m :: rest) :
    ∃ t, u.waitingMsg = some (m.data, t) ∧ t.port.out = rest ∧
      (∀ c : Fin 8, m.session = c.val → (u.port.sessions.get c).opening = true → (m.data.getD 1 0).toNat = 2 →
        (t.port.sessions.get c).isOpen = true ∧ (t.port.sessions.get c).opening = false) := by
  unfold State.waitingMsg
  rw [if_neg (Bool.eq_false_iff.mp hp), ho]
  refine ⟨_, rfl, ?_, fun c hc hopen h2 => ?_⟩
  · split <;> rfl
  · rw [hc, if_pos (by rw [hopen, decide_eq_true c.isLt, decide_eq_true h2]; rfl)]
    unfold State.modSession
    dsimp only
    rw [Oct.get_set_same]
    exact ⟨rfl, rfl⟩

/-- Settles O35: frames on T1L, and transfers on SPI. -/
theorem portFrames : Obligations.PortFrames := by
  unfold Obligations.PortFrames
  intro s p
  refine ⟨fun f q hf => ?frame, fun f hf => exec_noFrame hf, fun hs held len k d => ?_, fun hs held => ?spi⟩
  case frame =>
    obtain ⟨heth, hecho, hsol⟩ := exec_frame hf
    refine ⟨heth, fun hn hsum ht => ⟨?_, fun hown h8 hmax => ?_⟩, fun hn hsum ht => ?_, fun hno => ?_, fun hno => ?_⟩
    · rw [hecho, icmp_row.1 ⟨hn, ht, hsum⟩, State.icmpIn_cases.1 ⟨hn, ht, hsum⟩]
    · rw [hecho, icmp_row.1 ⟨hn, ht, hsum⟩, State.icmpIn_cases.1 ⟨hn, ht, hsum⟩]
      refine congrArg Host.Outcome.next (if_pos ?_)
      rw [Bool.and_eq_true, Bool.and_eq_true, decide_eq_true_eq, decide_eq_true_eq]
      exact ⟨⟨hown, h8⟩, hmax⟩
    · rw [hsol, icmp_row.1 ⟨hn, ht, hsum⟩, State.icmpIn_cases.2 ⟨hn, ht, hsum⟩]
    · exact hecho.trans (congrArg Host.Outcome.next (icmp_row.2 hno))
    · exact hsol.trans (congrArg Host.Outcome.next (icmp_row.2 hno))
  · have hrest : ∀ a : State, (if (!s.spi) = true then s else a) = s := fun a => by
      rw [hs]
      rfl
    exact ⟨congrArg Host.Outcome.next (hrest _), congrArg Host.Outcome.next (hrest _), congrArg Host.Outcome.next (hrest _)⟩
  case spi =>
    intro u wait stat out
    have hstat : (s.spiHeld held).spiStatus = stat := (State.spiStatus_held hs held).trans rfl
    have hout : ∀ d, (s.spiHeld held).spiOut d = out d := by
      intro d
      unfold State.spiOut
      rw [hstat]
      rfl
    have hheld : 2 ≤ held.val ↔ held = 2 := by
      rw [Fin.ext_iff]
      exact ⟨fun h => by have := held.isLt; omega, fun h => Nat.le_of_eq h.symm⟩
    refine ⟨?_, fun len d => ?_, fun len k => ?_, fun m rest hp ho => State.waitingMsg_response (u := u) hp ho⟩
    · rw [(exec_spi hs held 0 0 []).1, hout]
    · rw [(exec_spi hs held len 0 d).2.1]
      obtain ⟨hfail, hover, hok⟩ := State.spiWrite_cases (s.spiHeld held) len d
      rw [hout] at hfail hover hok
      refine ⟨fun hp => congrArg Host.Outcome.next (hfail hp), fun hp hb => congrArg Host.Outcome.next (hover hp (hb.imp_left hheld.mpr)),
        fun hp h2 h12 hmax hlen => congrArg Host.Outcome.next (hok hp ?_)⟩
      rintro (hb | hb | hb | hb)
      · exact h2 (hheld.mp hb)
      · omega
      · omega
      · omega
    · rw [(exec_spi hs held len k []).2.2]
      obtain ⟨hnone, hsome⟩ := State.spiRead_cases (s.spiHeld held) len k
      refine ⟨fun hw => ?_, fun m t hw => ?_⟩
      · rw [hnone, hout]
        have hm := State.waitingMsg_held held s
        rw [hw] at hm
        exact Option.map_eq_none_iff.mp hm
      · obtain ⟨hshort, hpart, hwhole⟩ := hsome m t hw
        rw [hout] at hshort hpart hwhole
        exact ⟨fun hl => congrArg Host.Outcome.next (hshort hl), fun hl hk => congrArg Host.Outcome.next (hpart hl hk),
          fun hl hk => congrArg Host.Outcome.next (hwhole hl hk)⟩

end Sys2Proof.Machine

namespace Sys2Proof.Machine
open Sys2Proof

/-! SUPPORT. What the port fetches from a wing (R304, R306, R307, R311, R312, R449, R461). -/

/-- The state once the port has taken the descriptor at the head of ring `r` from its ring. -/
def State.fetched (w r : Nat) (s : State) : State :=
  s.setWing w (((s.wing w).ringTook r).complRelease).reportPump

theorem exec_itemReportDelivery (w : WingId) (r : Fin 2) (s : State) : let g := (s.wing w).ring (4 + r)
    exec (.itemReportDelivery w r) s = .next (if (s.port.powerFail || !(s.wing w).live || decide (g.take = g.pass)) = true then s else
      ((s.fetched w (4 + r)).taken w (4 + r) ((s.wing w).lds (g.slot g.take) 8)).pump) := rfl

theorem itemReportDelivery_takes {s : State} {w : WingId} {r : Fin 2} (hp : s.port.powerFail = false) (hl : (s.wing w).live = true)
    (hg : ((s.wing w).ring (4 + r)).take ≠ ((s.wing w).ring (4 + r)).pass) : exec (.itemReportDelivery w r) s =
    .next ((s.fetched w (4 + r)).taken w (4 + r) ((s.wing w).lds (((s.wing w).ring (4 + r)).slot ((s.wing w).ring (4 + r)).take) 8)).pump := by
  refine (exec_itemReportDelivery w r s).trans (congrArg Host.Outcome.next (if_neg ?_))
  rw [hp, hl, decide_eq_false hg]
  exact Bool.false_ne_true

/-- A descriptor of ones has no effect; a MESH descriptor sends its event (R307, R452). -/
theorem State.taken_cases (w r : Nat) (d : List Word) (t : State) : (d.all (· == 0xFFFF) = true → t.taken w r d = t) ∧
    (∀ code data rest, d.all (· == 0xFFFF) = false → r = 5 → (d.getD 0 0).getLsbD 15 = true → (t.wing w).wrk.events = (code, data) :: rest →
      t.taken w r d = (t.modWing w (fun y => { y with wrk := { y.wrk with events := rest } })).event 4 w code data) := by
  unfold State.taken
  refine ⟨fun h => if_pos h, fun code data rest h hr hb he => ?_⟩
  refine (if_neg (Bool.eq_false_iff.mp h)).trans ((if_pos (by rw [hb, decide_eq_true hr]; rfl)).trans ?_)
  rw [he]

/-- The port has the notice of mailbox `m`, its response and the state of the mailbox after it. -/
def State.respond (w : WingId) (m : Nat) (s : State) : State :=
  let x := s.wing w
  let b := x.mb (4 + m)
  let n := (b.words.getD 0 0).toNat % 8
  let os := x.octets (x.exchBuf n) 0 ((b.words.getD 1 0).toNat % 2048)
  let o := fun i => (os.getD i 0).toNat
  let s := s.setWing w (x.mbEnd (4 + m) 0)
  let mine := fun (q : WaitReq) => q.session == n && q.wing == w.val && bit (o 3) 0 && q.opcode == o 1 && q.seq == leNat (slice os 4 4)
  match s.port.waits.find? mine with
  | none => s
  | some q =>
    ({ s with port := { s.port with waits := s.port.waits.filter (fun (p : WaitReq) => !mine p) } }).replyCode q (o 11) (bit (o 3) 2)
      (slice os 12 (leNat (slice os 8 2)))

/-- The next notice of a mailbox follows (R461). -/
def State.nextNotice (w m : Nat) (t : State) : State :=
  match (t.wing w).wrk.replies.find? (fun k => k / 4 == m) with
  | none => t
  | some k => (t.modWing w (fun z => { z with wrk := { z.wrk with replies := z.wrk.replies.erase k } })).postNotice w k

theorem exec_wingResponse (w : WingId) (m : Fin 2) (s : State) : let b := (s.wing w).mb (4 + m)
    exec (.wingResponse w m) s = .next (if (decide (b.state ≠ .full) || decide (b.party ≠ some .core)) = true then s else
      ((s.respond w m).nextNotice w m).pump) := rfl

theorem exec_meshRow (w : WingId) (s : State) (i : Instr) (p : Item → Octets → Bool) (he : exec i s = .next (s.meshRow w p)) :
    let hit := (s.wing w).wrk.items.find? (fun k => match (s.wing w).meshItem k with | some o => p k o | none => false)
    (∀ k o, (s.wing w).live = true → hit = some k → (s.wing w).meshItem k = some o → exec i s = .next ((s.meshFeran w k o).pump)) ∧
    ((s.wing w).live = false ∨ hit = none → Rests i s) := by
  intro hit
  have hrow : ∀ o, (if (s.wing w).live = true then hit else none) = o → s.meshRow w p =
      (match o with | none => s | some k => (s.meshFeran w k (((s.wing w).meshItem k).getD [])).pump) := by
    rintro o rfl
    rfl
  refine ⟨fun k o hl hk ho => ?_, fun h => ?_⟩
  · rw [he, hrow (some k) ((if_pos hl).trans hk)]
    dsimp only
    rw [ho, Option.getD_some]
  · refine he.trans (congrArg Host.Outcome.next (hrow none ?_))
    obtain h | h := h
    · exact if_neg (Bool.eq_false_iff.mp h)
    · rw [h, ite_self]

/-- Settles O36: what the port fetches from a wing. -/
theorem portFetch : Obligations.PortFetch := by
  unfold Obligations.PortFetch
  intro s w x
  refine ⟨fun h => next_if_pos h rfl, fun h => next_if_neg h rfl, fun r => ?delivery, fun m => ?response, ?mesh⟩
  case delivery =>
    intro g t d takes
    refine ⟨fun h => ?_, fun hp hl hg => ⟨itemReportDelivery_takes hp hl hg, fun hd => ?_, fun code data rest hd hr hb he => ?_⟩⟩
    · refine (exec_itemReportDelivery w r s).trans (congrArg Host.Outcome.next (if_pos ?_))
      rw [Bool.or_eq_true, Bool.or_eq_true, Bool.not_eq_true', decide_eq_true_eq, or_assoc]
      exact h
    · refine (itemReportDelivery_takes hp hl hg).trans (congrArg (fun u => Host.Outcome.next (State.pump u)) ?_)
      exact (State.taken_cases w (4 + r) d t).1 hd
    · refine (itemReportDelivery_takes hp hl hg).trans (congrArg (fun u => Host.Outcome.next (State.pump u)) ?_)
      exact (State.taken_cases w (4 + r) d t).2 code data rest hd (by rw [hr]; rfl) hb he
  case response =>
    intro b n os o y mine next
    have hgo : b.state = .full → b.party = some .core → exec (.wingResponse w m) s = .next ((s.respond w m).nextNotice w m).pump := by
      intro hb hp
      refine (exec_wingResponse w m s).trans (congrArg Host.Outcome.next (if_neg ?_))
      rw [Bool.or_eq_true, decide_eq_true_eq, decide_eq_true_eq]
      rintro (h | h)
      · exact h hb
      · exact h hp
    have hnext : ∀ t, State.nextNotice w m t = next t := fun t => rfl
    refine ⟨fun h => ?_, fun hb hp hn => ?_, fun q hb hp hn => ?_⟩
    · refine (exec_wingResponse w m s).trans (congrArg Host.Outcome.next (if_pos ?_))
      rw [Bool.or_eq_true, decide_eq_true_eq, decide_eq_true_eq]
      exact h
    · have hr : s.respond w m = y := by
        unfold State.respond
        dsimp only
        rw [show (s.setWing w ((s.wing w).mbEnd (4 + m.val) 0)).port.waits.find? _ = none from hn]
      rw [hgo hb hp, hr, hnext]
    · have hr : s.respond w m = ({ y with port := { y.port with waits := y.port.waits.filter (fun p => !mine p) } } : State).replyCode q (o 11) (bit (o 3) 2)
          (slice os 12 (leNat (slice os 8 2))) := by
        unfold State.respond
        dsimp only
        rw [show (s.setWing w ((s.wing w).mbEnd (4 + m.val) 0)).port.waits.find? _ = some q from hn]
      rw [hgo hb hp, hr, hnext]
  case mesh =>
    intro runs
    exact ⟨fun a => exec_meshRow w s _ _ rfl, fun n => exec_meshRow w s _ _ rfl⟩

end Sys2Proof.Machine

namespace Sys2Proof.Machine
open Sys2Proof

/-! SUPPORT. What the host port does about twin pairs (R249 to R253, R257, R310). -/

theorem Pair.formed_iff (q : Pair) : q.formed = true ↔ q.a < 8 ∧ q.b < 8 := by
  unfold Pair.formed
  rw [Bool.and_eq_true, decide_eq_true_eq, decide_eq_true_eq]

theorem State.twinBeat_pair {s : State} {w p : Nat} (h : s.pairOf w = some p) : s.twinBeat w = s.setPair p
    (if s.role w = .active then { s.port.pair p with beat := some (s.wing w).now } else { s.port.pair p with standbyBeat := some (s.wing w).now }) := by
  unfold State.twinBeat
  rw [h]

theorem State.twinBeat_single {s : State} {w : Nat} (h : s.pairOf w = none) : s.twinBeat w = s := by
  unfold State.twinBeat
  rw [h]

/-- A failure with a cause resets the active (R250). -/
theorem State.failPair_cause {s : State} {p a c : Nat} (ht : (s.port.pair p).token = some a) (hc : c ≠ 0) : s.failPair p c =
    (s.setPair p { s.port.pair p with failed := some c, switching := false }).hostReset a := by
  unfold State.failPair
  dsimp only
  rw [ht]
  exact if_neg hc

theorem State.hostReset_up {s : State} {a : Nat} (hr : (s.wing a).sys.state ≠ .reset) (hf : (s.wing a).sys.state ≠ .faulted) :
    s.hostReset a = s.enterReset a .host := by
  unfold State.hostReset
  rw [decide_eq_false hr, decide_eq_false hf]
  rfl

theorem State.hostReset_inReset {s : State} {a : Nat} (hr : (s.wing a).sys.state = .reset) : s.hostReset a = s := by
  unfold State.hostReset
  rw [decide_eq_true hr]
  rfl

/-- The wing that is left takes over from the holder of the token (R250). -/
theorem State.takeover_other {s : State} {p a : Nat} (c : Nat) (ht : (s.port.pair p).token = some a)
    (hl : (s.wing ((s.port.pair p).other a)).live = true) :
    let b := (s.port.pair p).other a
    let u := (((s.setPair p { s.port.pair p with token := none, failed := some c }).putPairState p .degraded)).countTakeover p
    s.takeover p c = ((u.giveToken p b c).modWing b (Wing.bump 0 0x252010)).takeWork b := by
  intro b u
  unfold State.takeover
  dsimp only
  rw [ht]
  dsimp only
  rw [List.filter_cons_of_pos (by exact hl)]
  rfl

/-- What TAKEOVER asks of a pair whose token is with a wing, and of one whose token is with nobody (R249, R250). -/
theorem exec_takeover_held {s : State} {p : Fin 4} {a : Nat} (ht : (s.port.pair p).token = some a) : exec (.takeover p) s = .next
    (if (!(s.port.pair p).formed || !(s.port.pair p).chosen) = true then s else
      if (!(s.wing a).live) = true then s.takeover p ((s.port.pair p).failed.getD 0) else s) := by
  change execTakeover p s = _
  unfold execTakeover
  dsimp only
  rw [ht]

theorem exec_takeover_failed {s : State} {p : Fin 4} {c : Nat} (ht : (s.port.pair p).token = none) (hf : (s.port.pair p).failed = some c) :
    exec (.takeover p) s = .next (if (!(s.port.pair p).formed || !(s.port.pair p).chosen) = true then s else
      if (!(s.wing (s.port.pair p).a).live && !(s.wing (s.port.pair p).b).live) = true then s else s.takeover p c) := by
  change execTakeover p s = _
  unfold execTakeover
  dsimp only
  rw [ht, hf]

theorem exec_takeover_free {s : State} {p : Fin 4} (ht : (s.port.pair p).token = none) (hf : (s.port.pair p).failed = none) :
    Rests (.takeover p) s := by
  change execTakeover p s = _
  unfold execTakeover
  dsimp only
  rw [ht, hf]
  exact congrArg Host.Outcome.next (ite_self s)

theorem Pair.out_iff (q : Pair) : (!q.formed || !q.chosen) = true ↔ ¬(q.a < 8 ∧ q.b < 8) ∨ q.chosen = false := by
  rw [Bool.or_eq_true, Bool.not_eq_true', Bool.not_eq_true', ← q.formed_iff, Bool.not_eq_true]

/-- TAKEOVER leaves a pair that is not formed, or whose first token is not given, as it was. -/
theorem takeover_rests_out {s : State} {p : Fin 4} (h : (!(s.port.pair p).formed || !(s.port.pair p).chosen) = true) : Rests (.takeover p) s :=
  next_if_pos h rfl

theorem takeover_rests {s : State} {p : Fin 4} (h : ¬((s.port.pair p).a < 8 ∧ (s.port.pair p).b < 8) ∨ (s.port.pair p).chosen = false ∨
    (∃ a, (s.port.pair p).token = some a ∧ (s.wing a).live = true) ∨ ((s.port.pair p).token = none ∧ (s.port.pair p).failed = none) ∨
    ((s.port.pair p).token = none ∧ (s.wing (s.port.pair p).a).live = false ∧ (s.wing (s.port.pair p).b).live = false)) : Rests (.takeover p) s := by
  rcases h with h | h | ⟨a, ht, hl⟩ | ⟨ht, hf⟩ | ⟨ht, ha, hb⟩
  · exact takeover_rests_out ((Pair.out_iff _).mpr (.inl h))
  · exact takeover_rests_out ((Pair.out_iff _).mpr (.inr h))
  · refine (exec_takeover_held ht).trans (congrArg Host.Outcome.next ?_)
    rw [hl, if_neg (c := (!true) = true) Bool.false_ne_true, ite_self]
  · exact exec_takeover_free ht hf
  · cases hf : (s.port.pair p).failed with
    | none => exact exec_takeover_free ht hf
    | some c =>
      refine (exec_takeover_failed ht hf).trans (congrArg Host.Outcome.next ?_)
      rw [ha, hb, if_pos (c := (!false && !false) = true) rfl, ite_self]

/-- The wings of pair `p` that are RUNNING (R251). -/
def State.pairUp (p : Nat) (s : State) : List Nat :=
  [(s.port.pair p).a, (s.port.pair p).b].filter (fun w => (s.wing w).isRunning)

/-- What keeps the power-on choice of pair `p` from being made (R251, R278). -/
def State.noChoice (p : Nat) (s : State) : Bool :=
  !(s.port.pair p).formed || (s.port.pair p).chosen || (s.port.pair p).token.isSome || !s.port.imageFinal

theorem State.noChoice_iff (p : Nat) (s : State) : s.noChoice p = true ↔ ¬((s.port.pair p).a < 8 ∧ (s.port.pair p).b < 8) ∨
    (s.port.pair p).chosen = true ∨ (s.port.pair p).token ≠ none ∨ s.port.imageFinal = false := by
  unfold State.noChoice
  rw [Bool.or_eq_true, Bool.or_eq_true, Bool.or_eq_true, Bool.not_eq_true', Bool.not_eq_true', ← Pair.formed_iff, Bool.not_eq_true,
    Option.isSome_iff_ne_none, or_assoc, or_assoc]

/-- The choice made: the token goes to the wing with the newest active record (R251). -/
def State.chooseToken (p : Nat) (s : State) : State :=
  match s.newestActive (s.pairUp p) with
  | none => s
  | some v => ((s.giveToken p v 3).takeWork v).holdItems ((s.port.pair p).other v)

theorem exec_tokenPowerOnChoice (p : Fin 4) (s : State) :
    exec (.tokenPowerOnChoice p) s = .next (if s.noChoice p = true then s else s.chooseToken p) := rfl

/-- What RELEASE_TOKEN asks of the active of a pair (R252). -/
theorem exec_releaseToken {s : State} {w : WingId} {p : Nat} (h : s.pairOf w = some p) : exec (.releaseToken w) s = .next
    (if ((s.wing w).live && s.role w = .active && (s.port.pair p).switching && !s.pairStopped (s.port.pair p) && (s.wing w).tx.run.isNone &&
      (s.wing w).tx.next.isNone && (s.wing w).tx.reqs.isEmpty) = true
    then (s.setWing w { s.wing w with wrk := { (s.wing w).wrk with release := true } }).failPair p 2 else s) := by
  change execReleaseToken w s = _
  unfold execReleaseToken
  dsimp only
  rw [h]
  rfl

theorem releaseToken_may (x : Wing) (a b c : Bool) : (x.live && a && b && !c && x.tx.run.isNone && x.tx.next.isNone && x.tx.reqs.isEmpty) = true ↔
    x.live = true ∧ a = true ∧ b = true ∧ ¬c = true ∧ x.quiet = true := by
  unfold Wing.quiet
  simp only [Bool.and_eq_true, Bool.not_eq_true', Bool.not_eq_true, and_assoc]

/-- Settles O37: what the port does about its pairs. -/
theorem pairEvents : Obligations.PairEvents := by
  unfold Obligations.PairEvents
  intro s p w q formed idle
  refine ⟨fun ha hp => ?_, fun h => ?_, fun hf ht hi => ?_, fun h b => ?_, fun a c ht hr hf hc => ?_, fun a ht hw => ?_, fun h => ?_, fun h => ?_,
    fun ha hb => ?_, fun a hf hc ht hl => ?_, fun c hf hc ht hq hl => ?_, fun a c ht hl => ?_, fun h => takeover_rests h, ?choice, ?release,
    fun h => ?_, fun hq hi => ?_, fun h => ?_, fun a ht hq hi hr => ?_⟩
  · exact next_if_pos ha (State.twinBeat_pair hp)
  · obtain h | h := h
    · exact next_if_neg (Bool.eq_false_iff.mp h) rfl
    · exact congrArg Host.Outcome.next ((congrArg (fun t => if (s.wing w).awake = true then t else s) (State.twinBeat_single h)).trans (ite_self s))
  · have hn : ¬(!q.formed || q.token.isNone || s.pairStopped q) = true := by
      rw [q.formed_iff.mpr hf, Option.isNone_eq_false_iff.mpr (Option.isSome_iff_ne_none.mpr ht), Bool.eq_false_iff.mpr hi]
      exact Bool.false_ne_true
    exact ⟨next_if_neg hn rfl, next_if_neg hn rfl⟩
  · have hn : (!q.formed || q.token.isNone || s.pairStopped q) = true := by
      rw [Bool.or_eq_true, Bool.or_eq_true, Bool.not_eq_true', Option.isNone_iff_eq_none, or_assoc, ← Bool.not_eq_true, q.formed_iff]
      exact h
    exact next_if_pos hn rfl
  · exact (State.failPair_cause ht hc).trans (State.hostReset_up hr hf)
  · change execSealedTimeout p s = _
    unfold execSealedTimeout
    rw [ht]
    exact next_if_neg (fun h => hw (List.isEmpty_iff.mp h)) rfl
  · change execSealedTimeout p s = _
    unfold execSealedTimeout
    obtain ht | ⟨a, ht, hw⟩ := h
    · rw [ht]
    · rw [ht]
      exact next_if_pos (List.isEmpty_iff.mpr hw) rfl
  · refine next_if_neg ?_ rfl
    rw [Bool.and_eq_true, List.isEmpty_iff, List.isEmpty_iff, Classical.not_and_iff_not_or_not]
    exact h
  · exact next_if_pos ((Bool.and_eq_true _ _).mpr ⟨List.isEmpty_iff.mpr ha, List.isEmpty_iff.mpr hb⟩) rfl
  · refine (exec_takeover_held ht).trans (next_if_neg ?_ (if_pos (by rw [hl]; rfl)))
    rw [Pair.out_iff, show (s.port.pair p).chosen = true from hc]
    rintro (h | h)
    · exact h hf
    · exact Bool.noConfusion h
  · refine (exec_takeover_failed ht hq).trans (next_if_neg ?_ (if_neg ?_))
    · rw [Pair.out_iff, show (s.port.pair p).chosen = true from hc]
      rintro (h | h)
      · exact h hf
      · exact Bool.noConfusion h
    · rw [Bool.and_eq_true, Bool.not_eq_true', Bool.not_eq_true', Classical.not_and_iff_not_or_not, Bool.not_eq_false, Bool.not_eq_false]
      exact hl
  · exact State.takeover_other c ht hl
  case choice =>
    intro up
    refine ⟨fun v hf hc ht hi hv => ?_, fun h => ?_⟩
    · refine (exec_tokenPowerOnChoice p s).trans (next_if_neg ?_ ?_)
      · rw [State.noChoice_iff]
        rintro (h | h | h | h)
        · exact h hf
        · exact Bool.noConfusion (hc.symm.trans h)
        · exact h ht
        · exact Bool.noConfusion (hi.symm.trans h)
      · unfold State.chooseToken
        rw [show s.newestActive (s.pairUp p) = some v from hv]
    · refine (exec_tokenPowerOnChoice p s).trans (congrArg Host.Outcome.next ?_)
      by_cases hn : s.noChoice p = true
      · exact if_pos hn
      · rw [if_neg hn]
        have hu : s.pairUp p = [] := by
          rw [State.noChoice_iff] at hn
          rcases h with h | h | h | h | h
          · exact absurd (.inl h) hn
          · exact absurd (.inr (.inl h)) hn
          · exact absurd (.inr (.inr (.inl h))) hn
          · exact absurd (.inr (.inr (.inr h))) hn
          · exact h
        unfold State.chooseToken
        rw [hu]
        rfl
  case release =>
    intro hp may
    refine ⟨fun h => ?_, fun h => ?_⟩
    · refine (exec_releaseToken hp).trans (next_if_pos ?_ rfl)
      obtain ⟨hl, hr, hq, hi, hx⟩ := h
      exact (releaseToken_may _ _ _ _).mpr ⟨hl, decide_eq_true hr, hq, hi, hx⟩
    · refine (exec_releaseToken hp).trans (next_if_neg (fun hm => h ?_) rfl)
      obtain ⟨hl, hr, hq, hi, hx⟩ := (releaseToken_may _ _ _ _).mp hm
      exact ⟨hl, of_decide_eq_true hr, hq, hi, hx⟩
  · change execReleaseToken w s = _
    unfold execReleaseToken
    dsimp only
    rw [h]
  · exact next_if_pos ((Bool.and_eq_true _ _).mpr ⟨hq, (Bool.not_eq_true' _).mpr (Bool.eq_false_iff.mpr hi)⟩) rfl
  · refine next_if_neg ?_ rfl
    rw [Bool.and_eq_true, Bool.not_eq_true', Classical.not_and_iff_not_or_not, Bool.not_eq_true, Bool.not_eq_false]
    exact h
  · refine next_if_pos ((Bool.and_eq_true _ _).mpr ⟨hq, (Bool.not_eq_true' _).mpr (Bool.eq_false_iff.mpr hi)⟩) ?_
    exact (State.failPair_cause ht (by decide)).trans (State.hostReset_inReset hr)

end Sys2Proof.Machine

namespace Sys2Proof.Machine
open Sys2Proof

/-! SUPPORT. The relay messages of a twin pair (R244 to R247, R253, R310). -/

/-- A wing that is not the standby, or whose flash takes no pulses, takes no BIND. -/
theorem State.twinBind_rests {s : State} {w : Nat} (h : s.role w ≠ .standby ∨ (s.wing w).fls.blocked = true ∨ (s.wing w).relayIn 6 1 = none) :
    s.twinBind w = s := by
  unfold State.twinBind
  by_cases hc : (s.role w ≠ .standby || (s.wing w).fls.blocked) = true
  · exact if_pos hc
  · rw [Bool.or_eq_true, decide_eq_true_eq] at hc
    obtain h | h | h := h
    · exact absurd (.inl h) hc
    · exact absurd (.inr h) hc
    · dsimp only
      rw [h]
      exact ite_self s

/-- A standby whose flash takes pulses is no other. -/
theorem standby_free {r : Role} {b : Bool} (hr : r = .standby) (hb : b = false) : ¬(r ≠ .standby || b) = true := by
  rw [hr, hb]
  decide

theorem State.twinBind_without {s : State} {w : Nat} {ws : List Word} (hr : s.role w = .standby) (hb : (s.wing w).fls.blocked = false)
    (hm : (s.wing w).relayIn 6 1 = some ws)
    (ht : ((s.relayOk w 6).wing w).takeTo (wordsNat ws 1 1 % 4) (wordsNat ws 2 1) = none) : s.twinBind w = s.relayOk w 6 := by
  unfold State.twinBind
  dsimp only
  rw [if_neg (standby_free hr hb), hm]
  dsimp only
  rw [ht]

/-- The standby with the identical item journaled and its SEALED on the way (R246). -/
def State.bindItem (w : Nat) (ws d : List Word) (f : Octets) (y : Wing) (s : State) : State :=
  let n := fun i k => wordsNat ws i k
  let word := fun (k : Nat) => (d.getD k 0).toNat
  let body := itemBody (n 3 3) (n 1 1 % 4) (n 2 1) (n 6 1) (n 7 2) (if word 4 / 256 = 0 then y.num 0x250102 4 else word 4 / 256)
    (if word 7 = 0 then y.num 0x250103 64 else word 7) (y.nb (word 0 % 1024)).eui d f
  let item := { itemOf { typ := 1, seq := 0, at_ := 0, body := body } y.now y.sfTicks with waits := true }
  (((s.setWing w y).jWrite w 1 body).modWing w (fun z =>
    { z with wrk := { z.wrk with next := max z.wrk.next (n 3 3 + 1), items := z.wrk.items ++ [item] } })).relaySend w [sealedMsg (n 3 3) 1]

theorem State.twinBind_with {s : State} {w : Nat} {ws d : List Word} {f : Octets} {y : Wing} (hr : s.role w = .standby)
    (hb : (s.wing w).fls.blocked = false) (hm : (s.wing w).relayIn 6 1 = some ws)
    (ht : ((s.relayOk w 6).wing w).takeTo (wordsNat ws 1 1 % 4) (wordsNat ws 2 1) = some (d, f, y)) :
    s.twinBind w = (s.relayOk w 6).bindItem w ws d f y := by
  unfold State.twinBind
  dsimp only
  rw [if_neg (standby_free hr hb), hm]
  dsimp only
  rw [ht]
  rfl

/-- The octets of a record's parts so far, with the part that message `ws` brings (R247). -/
def recordOctets (ws : List Word) (x : Wing) : Octets :=
  (if (ws.getD 0 0).toNat / 256 = 0 then [] else x.wrk.parts) ++ unpackW (ws.drop 2)

/-- The standby after a part of a record (R244, R246, R247). -/
def State.takeRecord (w : Nat) (ws : List Word) (s : State) : State :=
  let os := recordOctets ws (s.wing w)
  if (ws.getD 0 0).toNat / 256 + 1 < (ws.getD 1 0).toNat then (s.relayOk w 6).modWing w (fun z => { z with wrk := { z.wrk with parts := os } }) else
  let typ := (os.getD 0 0).toNat
  let rcd : JRec := { typ := typ, seq := 0, at_ := 0, body := slice os 16 (16 * ((os.getD 1 0).toNat - 1)) }
  let u := (s.relayOk w 6).modWing w (fun z => ({ z with wrk := { z.wrk with parts := [] } }).follow rcd)
  if u.pairState w = .dual then u.relaySend w [sealedMsg (sealedAcc typ rcd.body) typ] else u

theorem twinRecord_takes {s : State} {w : WingId} {ws : List Word} (hr : s.role w = .standby) (hb : (s.wing w).fls.blocked = false)
    (hm : (s.wing w).relayIn 6 2 = some ws) : exec (.twinRecord w) s = .next (s.takeRecord w ws) := by
  change execTwinRecord w s = _
  unfold execTwinRecord
  dsimp only
  rw [if_neg (standby_free hr hb), hm]
  rfl

theorem twinRecord_rests {s : State} {w : WingId} (h : s.role w ≠ .standby ∨ (s.wing w).fls.blocked = true ∨ (s.wing w).relayIn 6 2 = none) :
    Rests (.twinRecord w) s := by
  by_cases hc : (s.role w ≠ .standby || (s.wing w).fls.blocked) = true
  · exact next_if_pos hc rfl
  · rw [Bool.or_eq_true, decide_eq_true_eq] at hc
    obtain h | h | h := h
    · exact absurd (.inl h) hc
    · exact absurd (.inr h) hc
    · change execTwinRecord w s = _
      unfold execTwinRecord
      dsimp only
      rw [h, ite_self]

theorem twinState_rests {s : State} {w : WingId} (h : s.role w ≠ .standby ∨ (s.wing w).relayIn 6 4 = none) : Rests (.twinState w) s := by
  obtain h | h := h
  · exact next_if_pos h rfl
  · change execTwinState w s = _
    unfold execTwinState
    dsimp only
    rw [h, ite_self]

/-- The standby with the words of a state message in its neighbour record (R245). -/
def State.takeState (w : Nat) (ws : List Word) (s : State) : State :=
  (s.modWing w (Wing.modNb ((ws.getD 1 0).toNat % 1024) (fun z => (List.range 13).foldl (fun (z : Nb) k =>
    if (ws.getD 2 0).toNat + k < 32 then z.putWord ((ws.getD 2 0).toNat + k) (ws.getD (3 + k) 0) else z) z))).relayOk w 6

theorem twinState_takes {s : State} {w : WingId} {ws : List Word} (hr : s.role w = .standby) (hm : (s.wing w).relayIn 6 4 = some ws) :
    exec (.twinState w) s = .next (s.takeState w ws) := by
  change execTwinState w s = _
  unfold execTwinState
  dsimp only
  rw [if_neg (Classical.not_not.mpr hr), hm]
  rfl

theorem twinSealed_rests {s : State} {w : WingId} (h : s.role w ≠ .active ∨ (s.wing w).relayIn 7 3 = none) : Rests (.twinSealed w) s := by
  obtain h | h := h
  · exact next_if_pos h rfl
  · change execTwinSealed w s = _
    unfold execTwinSealed
    dsimp only
    rw [h, ite_self]

/-- The active with one awaited SEALED the less (R246). -/
def State.sealTaken (w : Nat) (e : Nat × Nat) (s : State) : State :=
  (s.relayOk w 7).modWing w (fun y => { y with wrk := { y.wrk with sealWait := dropFirst e y.wrk.sealWait } })

theorem State.sealTaken_pairOf (w : Nat) (e : Nat × Nat) (s : State) : (s.sealTaken w e).pairOf w = (s.relayOk w 7).pairOf w := rfl

/-- The active after SEALED of its SEED_END (R253). -/
def State.seedSealed (w : Nat) (x : Wing) (s : State) : State :=
  match x.wrk.seeding, s.pairOf w with
  | some j, some p =>
    if !(x.seedRecords j).isEmpty then s.seedOn w j
    else (s.modWing w (fun y => { y with wrk := { y.wrk with seeding := none } })).putPairState p .dual
  | _, _ => s

theorem State.seedSealed_pair {s : State} {w p j : Nat} {x : Wing} (hj : x.wrk.seeding = some j) (hp : s.pairOf w = some p) : s.seedSealed w x =
    if (!(x.seedRecords j).isEmpty) = true then s.seedOn w j
    else (s.modWing w (fun y => { y with wrk := { y.wrk with seeding := none } })).putPairState p .dual := by
  unfold State.seedSealed
  rw [hj, hp]

theorem twinSealed_takes {s : State} {w : WingId} {ws : List Word} (hr : s.role w = .active) (hm : (s.wing w).relayIn 7 3 = some ws) :
    exec (.twinSealed w) s = .next (
      if (!(s.wing w).wrk.sealWait.contains (wordsNat ws 4 1, wordsNat ws 1 3)) = true then s.relayOk w 7
      else if wordsNat ws 4 1 ≠ 0 then (s.sealTaken w (wordsNat ws 4 1, wordsNat ws 1 3)).sealResolve w (wordsNat ws 4 1) (wordsNat ws 1 3) false
      else (s.sealTaken w (wordsNat ws 4 1, wordsNat ws 1 3)).seedSealed w (s.wing w)) := by
  change execTwinSealed w s = _
  unfold execTwinSealed
  dsimp only
  rw [if_neg (Classical.not_not.mpr hr), hm]
  rfl

theorem twinSealed_other {s : State} {w : WingId} {ws : List Word} (hr : s.role w = .active) (hm : (s.wing w).relayIn 7 3 = some ws)
    (hn : ¬(wordsNat ws 4 1, wordsNat ws 1 3) ∈ (s.wing w).wrk.sealWait) : exec (.twinSealed w) s = .next (s.relayOk w 7) := by
  refine (twinSealed_takes hr hm).trans (next_if_pos ?_ rfl)
  rw [Bool.not_eq_true', ← Bool.not_eq_true, List.contains_iff_mem]
  exact hn

theorem twinSealed_awaited {s : State} {w : WingId} {ws : List Word} (hr : s.role w = .active) (hm : (s.wing w).relayIn 7 3 = some ws)
    (hn : (wordsNat ws 4 1, wordsNat ws 1 3) ∈ (s.wing w).wrk.sealWait) : exec (.twinSealed w) s = .next (
      if wordsNat ws 4 1 ≠ 0 then (s.sealTaken w (wordsNat ws 4 1, wordsNat ws 1 3)).sealResolve w (wordsNat ws 4 1) (wordsNat ws 1 3) false
      else (s.sealTaken w (wordsNat ws 4 1, wordsNat ws 1 3)).seedSealed w (s.wing w)) := by
  refine (twinSealed_takes hr hm).trans (next_if_neg ?_ rfl)
  rw [Bool.not_eq_true', ← Bool.not_eq_true, Classical.not_not, List.contains_iff_mem]
  exact hn

/-- SEALED of the end of a seeding makes the pair DUAL, or sends what has been written meanwhile (R253). -/
theorem twinSealed_seeding {s : State} {w : WingId} {ws : List Word} {j p : Nat} (hr : s.role w = .active) (hm : (s.wing w).relayIn 7 3 = some ws)
    (hn : (wordsNat ws 4 1, wordsNat ws 1 3) ∈ (s.wing w).wrk.sealWait) (h0 : wordsNat ws 4 1 = 0) (hj : (s.wing w).wrk.seeding = some j)
    (hp : (s.relayOk w 7).pairOf w = some p) : let u := s.sealTaken w (wordsNat ws 4 1, wordsNat ws 1 3)
    exec (.twinSealed w) s = .next (if (!((s.wing w).seedRecords j).isEmpty) = true then u.seedOn w j
      else (u.modWing w (fun y => { y with wrk := { y.wrk with seeding := none } })).putPairState p .dual) :=
  (twinSealed_awaited hr hm hn).trans (next_if_neg (Classical.not_not.mpr h0) (State.seedSealed_pair hj hp))

theorem seedBegin_standby {s : State} {w : WingId} (hr : s.role w = .standby) :
    ((s.wing w).fls.blocked = true ∨ (s.wing w).relayIn 6 5 = none → Rests (.seedBegin w) s) ∧
    (∀ ws, (s.wing w).fls.blocked = false → (s.wing w).relayIn 6 5 = some ws →
      exec (.seedBegin w) s = .next ((s.modWing w Wing.jErase).relayOk w 6)) := by
  refine ⟨fun h => ?_, fun ws hb hm => ?_⟩
  · change execSeedBegin w s = _
    unfold execSeedBegin
    dsimp only
    rw [hr]
    dsimp only
    obtain h | h := h
    · rw [h, if_pos rfl]
    · rw [h, ite_self]
  · change execSeedBegin w s = _
    unfold execSeedBegin
    dsimp only
    rw [hr]
    dsimp only
    rw [hb, hm, if_neg Bool.false_ne_true]

theorem seedBegin_active {s : State} {w : WingId} {b : Nat} (hr : s.role w = .active) (hb : s.twin w = some b)
    (hw : (s.wing w).isRunning = true) (hv : (s.wing b).isRunning = true) (hd : s.pairState w ≠ .dual) : let x := s.wing w
    let j := x.wrk.jseq
    let nbs := (x.msh.nbs.filter (fun (e : Nat × Nb) => e.2.valid)).flatMap (fun e => e.2.stateMsgs e.1)
    exec (.seedBegin w) s = .next ((s.modWing w (fun y => { y with wrk := { y.wrk with outbox := [], sealWait := [], seeding := some j } })).relaySend w
      ([5, w16 j, w16 (j / 2 ^ 16), w16 (j / 2 ^ 32)] :: (nbs ++ seedMsgs (x.seedRecords 0)))) := by
  intro x j nbs
  change execSeedBegin w s = _
  unfold execSeedBegin
  dsimp only
  rw [hr, hb]
  refine congrArg Host.Outcome.next (if_neg ?_)
  rw [hw, hv, decide_eq_false hd]
  exact Bool.false_ne_true

theorem seedEnd_active {s : State} {w : WingId} {j : Nat} (hr : s.role w = .active) (hj : (s.wing w).wrk.seeding = some j)
    (hl : (s.wing w).live = true) (ho : (s.wing w).wrk.outbox = []) (hs : (s.wing w).wrk.sealWait = []) :
    exec (.seedEnd w) s = .next (s.seedOn w j) := by
  change execSeedEnd w s = _
  unfold execSeedEnd
  dsimp only
  rw [hr, hj]
  refine congrArg Host.Outcome.next (if_pos ?_)
  rw [hl, ho, hs]
  rfl

theorem seedEnd_standby {s : State} {w : WingId} (hr : s.role w = .standby) : ((s.wing w).relayIn 6 6 = none → Rests (.seedEnd w) s) ∧
    (∀ ws, (s.wing w).relayIn 6 6 = some ws → exec (.seedEnd w) s = .next ((s.relayOk w 6).relaySend w [sealedMsg 0 0])) := by
  refine ⟨fun h => ?_, fun ws h => ?_⟩ <;>
  · change execSeedEnd w s = _
    unfold execSeedEnd
    dsimp only
    rw [hr, h]

theorem seed_single {s : State} {w : WingId} (hr : s.role w = .single) : Rests (.seedBegin w) s ∧ Rests (.seedEnd w) s := by
  constructor
  · change execSeedBegin w s = _
    unfold execSeedBegin
    dsimp only
    rw [hr]
  · change execSeedEnd w s = _
    unfold execSeedEnd
    dsimp only
    rw [hr]

/-- The sender of the message in mailbox `m` after the port has taken it (R310). -/
def State.relayTook (w m : Nat) (u : State) : State := (u.modWing w (Wing.mbEnd m 0)).relayPump w

/-- The message goes on, to the mailbox of the twin (R310). -/
def State.relayMoved (w t m : Nat) (s : State) : State :=
  let u := s.modWing t (Wing.mbDeliver m (.relay w) (o8 (0x20 + w)) ((s.wing w).mb m).words)
  { u with port := { u.port with relayed := wrap32 u.port.relayed } }

/-- The port holds the message for the twin (R310). -/
def State.relayHeld (w t p m : Nat) (s : State) : State :=
  let q := s.port.pair p
  let u := s.setPair p (q.setHeld t (q.heldTo t ++ [(m, ((s.wing w).mb m).words)]))
  { u with port := { u.port with relayHolds := wrap32 u.port.relayHolds } }

theorem State.relayForward_pair {s : State} {w m p t : Nat} (hp : s.pairOf w = some p) (ht : s.twin w = some t) : s.relayForward w m =
    if (decide (((s.wing w).mb m).state ≠ .full) || decide (((s.wing w).mb m).party ≠ some .core)) = true then s
    else if (decide (((s.wing t).mb m).state = .free) && ((s.port.pair p).heldTo t).isEmpty && (s.wing t).isRunning) = true then
      (s.relayMoved w t m).relayTook w m
    else if ((s.port.pair p).heldTo t).length < 4 then (s.relayHeld w t p m).relayTook w m else s := by
  unfold State.relayForward
  rw [hp, ht]
  rfl

theorem State.relayForward_posted {s : State} {w m p t : Nat} (hp : s.pairOf w = some p) (ht : s.twin w = some t)
    (hb : ((s.wing w).mb m).state = .full) (hc : ((s.wing w).mb m).party = some .core) : s.relayForward w m =
    if (decide (((s.wing t).mb m).state = .free) && ((s.port.pair p).heldTo t).isEmpty && (s.wing t).isRunning) = true then
      (s.relayMoved w t m).relayTook w m
    else if ((s.port.pair p).heldTo t).length < 4 then (s.relayHeld w t p m).relayTook w m else s := by
  refine (State.relayForward_pair hp ht).trans (if_neg ?_)
  rw [hb, hc]
  decide

/-- The mailbox of the twin takes no message now (R310). -/
theorem relay_shut {f : MbxState} {l : List (Nat × List Word)} {r : Bool} : f ≠ .free ∨ l ≠ [] ∨ r = false →
    ¬(decide (f = .free) && l.isEmpty && r) = true := by
  rw [Bool.and_eq_true, Bool.and_eq_true, decide_eq_true_eq, List.isEmpty_iff]
  rintro h ⟨⟨hf, hl⟩, hr⟩
  obtain h | h | h := h
  · exact h hf
  · exact h hl
  · exact Bool.noConfusion (hr.symm.trans h)

theorem State.relayForward_idle {s : State} {w m : Nat}
    (h : s.pairOf w = none ∨ ((s.wing w).mb m).state ≠ .full ∨ ((s.wing w).mb m).party ≠ some .core) : s.relayForward w m = s := by
  cases hp : s.pairOf w with
  | none =>
    unfold State.relayForward
    rw [hp]
  | some p =>
    have ht : s.twin w = some (if (s.port.pair p).a = w then (s.port.pair p).b else (s.port.pair p).a) := by
      unfold State.twin
      rw [hp]
      rfl
    refine (State.relayForward_pair hp ht).trans (if_pos ?_)
    rw [Bool.or_eq_true, decide_eq_true_eq, decide_eq_true_eq]
    exact h.resolve_left (hp ▸ Option.some_ne_none p)

/-- Settles O38: the relay messages of a pair. -/
theorem pairMessages : Obligations.PairMessages := by
  unfold Obligations.PairMessages
  intro s w x n
  refine ⟨fun h => ?_, fun h => twinRecord_rests h, fun h => twinState_rests h, fun h => twinSealed_rests h, fun h => seed_single h,
    fun hr => ⟨(seedBegin_standby hr).1, (seedEnd_standby hr).1⟩, ?standby, ?active, ?forward, fun m h => ?_⟩
  · exact congrArg (fun t => Host.Outcome.next (State.queryPump w t)) (State.twinBind_rests h)
  case standby =>
    intro hr free
    refine ⟨fun ws hm ht hb => ?_, ?bind, ?part, ?last, fun ws hm => twinState_takes hr hm, fun ws hm hb => (seedBegin_standby hr).2 ws hb hm,
      fun ws hm => (seedEnd_standby hr).2 ws hm⟩
    · exact congrArg (fun t => Host.Outcome.next (State.queryPump w t)) (State.twinBind_without hr hb hm ht)
    case bind =>
      intro ws d f y hm ht hb word body item
      exact congrArg (fun t => Host.Outcome.next (State.queryPump w t)) (State.twinBind_with hr hb hm ht)
    case part =>
      intro ws hm part os hp hb
      exact (twinRecord_takes hr hb hm).trans (congrArg Host.Outcome.next (if_pos hp))
    case last =>
      intro ws hm part os typ rcd u hp hb
      exact (twinRecord_takes hr hb hm).trans (congrArg Host.Outcome.next (if_neg (Nat.not_lt.mpr hp)))
  case active =>
    intro hr
    refine ⟨fun ws hm hn => twinSealed_other hr hm hn, fun ws hm hn h0 => (twinSealed_awaited hr hm hn).trans (next_if_pos h0 rfl), ?seeding,
      fun b hb hw hv hd => seedBegin_active hr hb hw hv hd, fun j hj hl ho hs => seedEnd_active hr hj hl ho hs⟩
    case seeding =>
      intro ws j p hm hn h0 hj hp u
      refine ⟨fun hne => ?_, fun he => ?_⟩
      · refine (twinSealed_seeding hr hm hn h0 hj hp).trans (next_if_pos ?_ rfl)
        rw [Bool.not_eq_true', ← Bool.not_eq_true, List.isEmpty_iff]
        exact hne
      · refine (twinSealed_seeding hr hm hn h0 hj hp).trans (next_if_neg ?_ rfl)
        rw [Bool.not_eq_true', ← Bool.not_eq_true, Classical.not_not, List.isEmpty_iff]
        exact he
  case forward =>
    intro m p t b q hp ht hb hc
    have hgo := State.relayForward_posted (m := 6 + m.val) hp ht hb hc
    refine ⟨fun hf hq hr => ?_, fun h h4 => ?_, fun h h4 => ?_⟩
    · refine congrArg Host.Outcome.next (hgo.trans (if_pos ?_))
      rw [hf, show ((s.port.pair p).heldTo t) = [] from hq, hr]
      rfl
    · exact congrArg Host.Outcome.next (hgo.trans ((if_neg (relay_shut h)).trans (if_neg (Nat.not_lt.mpr h4))))
    · exact congrArg Host.Outcome.next (hgo.trans ((if_neg (relay_shut h)).trans (if_pos h4)))
  · exact congrArg Host.Outcome.next (State.relayForward_idle h)

end Sys2Proof.Machine

namespace Sys2Proof.Machine
open Sys2Proof

/-! SUPPORT. The timebase, LF running and the LF edge (R318, R321, R323, R336, R337, R340, R346, R363). -/

theorem Docent.raise_pend {n : Nat} (h : n < 128) (d : Docent) : (d.raise n).pend.getLsbD n = true := by
  simp [Docent.raise, h]

/-- The reason for LF running that the wing has at hand (R336). -/
def Wing.lfDue (refLost : Bool) (x : Wing) : Bool :=
  (x.core.run == .asleep && (match x.rx.radio with | .off => true | .standby => true | _ => false) && !x.bellNear) || x.core.run == .halted ||
    !x.car.pllLocked || refLost

theorem radio_still (r : RadioState) : (match r with | .off => true | .standby => true | _ => false) = true ↔ r = .standby ∨ r = .off := by
  cases r <;> decide

theorem Wing.lfDue_iff (refLost : Bool) (x : Wing) : x.lfDue refLost = true ↔ x.car.pllLocked = false ∨ refLost = true ∨ x.core.run = .halted ∨
    (x.core.run = .asleep ∧ (x.rx.radio = .standby ∨ x.rx.radio = .off) ∧ x.bellNear = false) := by
  unfold Wing.lfDue
  rw [Bool.or_eq_true, Bool.or_eq_true, Bool.or_eq_true, Bool.and_eq_true, Bool.and_eq_true, beq_iff_eq, beq_iff_eq, Bool.not_eq_true', Bool.not_eq_true',
    radio_still, and_assoc]
  constructor
  · rintro (((h | h) | h) | h)
    · exact .inr (.inr (.inr h))
    · exact .inr (.inr (.inl h))
    · exact .inl h
    · exact .inr (.inl h)
  · rintro (h | h | h | h)
    · exact .inl (.inr h)
    · exact .inr h
    · exact .inl (.inl (.inr h))
    · exact .inl (.inl (.inl h))

theorem exec_lfRunningEntry (w : WingId) (dt : Nat) (s : State) : let y := (s.wing w).advance dt
    exec (.lfRunningEntry w dt) s = .next (if (y.car.started && y.car.fine && y.lfDue s.dome.refLost) = true then s.setWing w (y.lfEnter y.rx.calLf) else s) := rfl

theorem Wing.lfEnter_fine {x : Wing} (err : Int) (h : x.car.fine = true) : (x.lfEnter err).car =
    { x.car with fine := false, wakeReq := false, trimAcc := 0, lfError := err } ∧ (x.lfEnter err).core = x.core := by
  unfold Wing.lfEnter
  rw [if_pos h]
  exact ⟨rfl, rfl⟩

/-- The entry to LF running asks for what it says of the wing before its time went on. -/
theorem lfRunningEntry_may {x : Wing} (refLost : Bool) (dt : Nat) : let y := x.advance dt
    (y.car.started && y.car.fine && y.lfDue refLost) = true ↔ x.car.started = true ∧ x.car.fine = true ∧
      (x.car.pllLocked = false ∨ refLost = true ∨ x.core.run = .halted ∨
        (x.core.run = .asleep ∧ (x.rx.radio = .standby ∨ x.rx.radio = .off) ∧ y.bellNear = false)) := by
  intro y
  rw [Bool.and_eq_true, Bool.and_eq_true, Wing.lfDue_iff, and_assoc]
  obtain ⟨tb, hy⟩ := Wing.advance_eq dt x
  rw [show y = _ from hy]

theorem rephase_may (c : Carillon) (a b d : Bool) {v : Nat} : (c.started && !c.fine && c.pllLocked && !a && decide (750 ≤ v) && (b || d)) = true ↔
    c.started = true ∧ c.fine = false ∧ c.pllLocked = true ∧ a = false ∧ 750 ≤ v ∧ (b = true ∨ d = true) := by
  simp only [Bool.and_eq_true, Bool.or_eq_true, Bool.not_eq_true', decide_eq_true_eq, and_assoc]

/-- The core and the phase, which the bells and the lap leave as they are. -/
def Wing.corePhase (x : Wing) : Core × Nat := (x.core, x.car.phase)

theorem Wing.corePhase_lapUp (x : Wing) : x.lapUp.corePhase = x.corePhase := rfl

theorem Wing.corePhase_fireBell (b m : Nat) (coarse : Bool) (x : Wing) : (x.fireBell b m coarse).corePhase = x.corePhase := rfl

theorem Wing.wdtTick_core (x : Wing) : x.wdtTick.core = x.core ∧ x.wdtTick.car = x.car := by
  unfold Wing.wdtTick
  split <;> exact ⟨rfl, rfl⟩

/-- The phase counts every LF edge; the core does not see it (R337). -/
theorem Wing.corePhase_lfEdge (refLost : Bool) (x : Wing) : (x.lfEdge refLost).corePhase = (x.core, (x.car.phase + 1) % 32) := by
  have hset : ∀ (y : Wing) (c : Bool), (if c = true then { y with car := { y.car with wakeReq := true } } else y).corePhase = y.corePhase := by
    intro y c
    cases c <;> rfl
  unfold Wing.lfEdge
  dsimp only
  split
  · rfl
  · split
    · rfl
    · refine (hset _ _).trans ((Machine.foldl_keeps Wing.corePhase (fun y b => ?_) _ _).trans ?_)
      · split
        · exact Wing.corePhase_fireBell ..
        · rfl
      · split <;> rfl

/-- In fine running an LF edge moves the phase alone (R337). -/
theorem Wing.lfEdge_fine {refLost : Bool} {x : Wing} (hs : x.car.started = true) (hf : x.car.fine = true) :
    x.lfEdge refLost = { x with car := { x.car with phase := (x.car.phase + 1) % 32 } } := by
  unfold Wing.lfEdge
  dsimp only
  rw [hs, hf]
  rfl

theorem State.wingsLf_wing (s : State) (v : WingId) : s.wingsLf.wing v = ((s.wing v).lfEdge s.dome.refLost).wdtTick := by
  have h : s.wingsLf = s.forWings (fun w t => t.modWing w (fun x => (x.lfEdge s.dome.refLost).wdtTick)) := by
    unfold State.wingsLf State.forWings
    suffices ∀ (l : List Nat) (t : State), t.dome = s.dome → l.foldl (fun t w => t.modWing w (fun x => (x.lfEdge t.dome.refLost).wdtTick)) t =
        l.foldl (fun t w => t.modWing w (fun x => (x.lfEdge s.dome.refLost).wdtTick)) t from this _ s rfl
    intro l
    induction l with
    | nil => exact fun t _ => rfl
    | cons w l ih =>
      intro t ht
      rw [List.foldl_cons, List.foldl_cons, ← ht]
      rw [ht]
      exact ih _ ht
  rw [h]
  exact State.wing_forWings_modWing (fun _ x => (x.lfEdge s.dome.refLost).wdtTick) v s

theorem State.wingsLf_cal (s : State) : s.wingsLf.cal = s.cal := State.forWings_keeps State.cal (fun _ _ => State.setWing_cal ..) s
theorem State.wingsLf_dome (s : State) : s.wingsLf.dome = s.dome := State.forWings_keeps State.dome (fun _ _ => State.setWing_dome ..) s
theorem State.wingsLf_port (s : State) : s.wingsLf.port = s.port := State.forWings_keeps State.port (fun _ _ => State.setWing_port ..) s

/-- What a wing sees of the carry: its core and its time. -/
def Wing.coreCar (x : Wing) : Core × Carillon := (x.core, x.car)

/-- What the carry into the fields leaves: the divider, the Dome, the port, and core and time of every wing. -/
def State.carryFrame (s : State) : Nat × Dome × Port × Oct (Core × Carillon) := (s.cal.divider, s.dome, s.port, s.each Wing.coreCar)

theorem State.carryFrame_parts {t : State} {n : Nat} {d : Dome} {p : Port} {o : Oct (Core × Carillon)} (h : t.carryFrame = (n, d, p, o)) :
    t.cal.divider = n ∧ t.dome = d ∧ t.port = p ∧ t.each Wing.coreCar = o := by
  simpa only [State.carryFrame, Prod.mk.injEq] using h

theorem State.carryFrame_alarmMatch (s : State) : s.alarmMatch.carryFrame = s.carryFrame := by
  unfold State.alarmMatch
  dsimp only
  split
  · rfl
  · refine (State.forWings_keeps State.carryFrame (fun w t => ?_) _).trans rfl
    split
    · unfold State.carryFrame State.raise State.modWing
      rw [State.setWing_cal, State.setWing_dome, State.setWing_port, State.each_setWing (f := Wing.coreCar) (y := (t.wing w).raise 61) rfl]
    · rfl

theorem State.carryFrame_applyCarry (s : State) : s.applyCarry.carryFrame = s.carryFrame := by
  unfold State.applyCarry
  dsimp only
  split
  · exact (State.carryFrame_alarmMatch _).trans rfl
  · rfl

theorem State.carryFrame_carry (s : State) : s.carry.carryFrame = s.carryFrame := by
  unfold State.carry
  dsimp only
  split
  · split <;> rfl
  · exact (State.carryFrame_applyCarry _).trans rfl

/-- The calendar with its divider moved to `n`, and the carry where it wraps (R346, R363). -/
def State.edgeBy (n : Nat) (s : State) : State :=
  let s := { s with cal := { s.cal with divider := n % 32768, corrections := s.cal.corrections - 1 } }
  if n < 32768 then s else s.carry

/-- The step of the divider at an LF edge (R363). -/
def Calendar.edgeStep (c : Calendar) : Nat := if c.corrections = 0 || c.trim = 0 then 1 else if 0 < c.trim then 0 else 2

theorem Calendar.edgeStep_eq (c : Calendar) : c.edgeStep = if c.corrections = 0 ∨ c.trim = 0 then 1 else if 0 < c.trim then 0 else 2 := by
  unfold Calendar.edgeStep
  simp only [Bool.or_eq_true, decide_eq_true_eq]

theorem State.carryFrame_edgeBy (n : Nat) (s : State) : (s.edgeBy n).carryFrame = (n % 32768, s.dome, s.port, s.each Wing.coreCar) := by
  unfold State.edgeBy
  dsimp only
  split
  · rfl
  · exact (State.carryFrame_carry _).trans rfl

theorem State.edgeBy_cal {n : Nat} (h : n < 32768) (s : State) : (s.edgeBy n).cal = { s.cal with divider := n, corrections := s.cal.corrections - 1 } := by
  unfold State.edgeBy
  rw [if_pos h, Nat.mod_eq_of_lt h]

theorem exec_lfEdge (s : State) : exec .lfEdge s =
    .next (if s.lfRuns = true then s.wingsLf.edgeBy (s.wingsLf.cal.divider + s.wingsLf.cal.edgeStep) else s) := rfl

theorem lfEdge_runs {s : State} (h : s.lfRuns = true) : exec .lfEdge s = .next (s.wingsLf.edgeBy (s.cal.divider + s.cal.edgeStep)) := by
  rw [exec_lfEdge, State.wingsLf_cal, if_pos h]

/-- Settles O39: the wrap, the 64-bit time, LF running, re-phasing and the LF edge. -/
theorem timebase : Obligations.Timebase := by
  unfold Obligations.Timebase
  intro s w dt x y c
  refine ⟨fun hs hf => ?_, fun h => ?_, fun ap => ?_, ?entry, ?rephase, fun h => ?_, fun h => next_if_neg (Bool.eq_false_iff.mp h) rfl⟩
  · refine ⟨s.setWing w ({ x with car := { x.car with tb := 0 } } : Wing).lapUp, next_if_pos ((Bool.and_eq_true _ _).mpr ⟨hs, hf⟩) rfl, _, rfl, rfl, ?_, rfl⟩
    exact Docent.raise_pend (by decide) x.doc
  · refine next_if_neg ?_ rfl
    rw [Bool.and_eq_true, Classical.not_and_iff_not_or_not, Bool.not_eq_true, Bool.not_eq_true]
    exact h
  · refine ⟨fun ha => ?_, fun ha => next_if_neg (Bool.eq_false_iff.mp ha) rfl⟩
    intro v z
    cases ap <;> exact next_if_pos ha rfl
  case entry =>
    intro may
    refine ⟨fun h => ?_, fun h => ?_⟩
    · have hm := (lfRunningEntry_may s.dome.refLost dt).mpr h
      have hf : y.car.fine = true := ((Bool.and_eq_true _ _).mp ((Bool.and_eq_true _ _).mp hm).1).2
      have hr : y.rx = x.rx ∧ y.core = x.core := by
        obtain ⟨tb, hy⟩ := Wing.advance_eq dt x
        rw [show y = _ from hy]
        exact ⟨rfl, rfl⟩
      obtain ⟨hcar, hcore⟩ := Wing.lfEnter_fine y.rx.calLf hf
      refine ⟨_, (exec_lfRunningEntry w dt s).trans (next_if_pos hm rfl), _, rfl, ?_, hcore.trans hr.2⟩
      rw [← hr.1]
      exact hcar
    · exact (exec_lfRunningEntry w dt s).trans (next_if_neg (fun hm => h ((lfRunningEntry_may s.dome.refLost dt).mp hm)) rfl)
  case rephase =>
    intro may
    have hiff := rephase_may c s.dome.refLost c.wakeReq (x.core.run == .running) (v := s.dome.vcore)
    rw [beq_iff_eq] at hiff
    exact ⟨fun h => ⟨_, next_if_pos (hiff.mpr h) rfl, _, rfl, rfl, rfl⟩, fun h => next_if_neg (fun hm => h (hiff.mp hm)) rfl⟩
  · intro step
    have hstep : s.cal.divider + step = s.cal.divider + s.cal.edgeStep := congrArg (s.cal.divider + ·) (Calendar.edgeStep_eq s.cal).symm
    have hframe := State.carryFrame_edgeBy (s.cal.divider + step) s.wingsLf
    rw [State.wingsLf_dome, State.wingsLf_port] at hframe
    obtain ⟨hdiv, hdome, hport, heach⟩ := State.carryFrame_parts hframe
    refine ⟨_, (lfEdge_runs h).trans (congrArg (fun n => Host.Outcome.next (s.wingsLf.edgeBy n)) hstep.symm), hdiv,
      fun hn => (State.edgeBy_cal hn _).trans (by rw [State.wingsLf_cal]), hdome, hport, fun v => ?_⟩
    have hv := State.wing_of_each heach v
    rw [State.wingsLf_wing] at hv
    obtain ⟨hcore, hcar⟩ := Wing.wdtTick_core ((s.wing v).lfEdge s.dome.refLost)
    have hphase := Wing.corePhase_lfEdge s.dome.refLost (s.wing v)
    generalize s.wingsLf.edgeBy (s.cal.divider + step) = t at hv ⊢
    have htc : (t.wing v).core = ((s.wing v).lfEdge s.dome.refLost).core := (congrArg (fun r => r.1) hv).trans hcore
    have hta : (t.wing v).car = ((s.wing v).lfEdge s.dome.refLost).car := (congrArg (fun r => r.2) hv).trans hcar
    refine ⟨htc.trans (congrArg (fun r => r.1) hphase), ?_, fun hs hf => ?_⟩
    · rw [hta]
      exact (congrArg (fun r => r.2) hphase :)
    · rw [hta, Wing.lfEdge_fine hs hf]

end Sys2Proof.Machine

namespace Sys2Proof.Machine
open Sys2Proof

/-! SUPPORT. The bells (R326 to R332). -/

/-- Of the wing's bells only bell `b` differs between `x` and `z`, and its core and state do not. -/
structure OneBell (b : Nat) (x z : Wing) : Prop where
  rising : trising z.car.bells = true
  others : ∀ k, k ≠ b → z.bell k = x.bell k
  core : z.core = x.core
  sys : z.sys = x.sys

theorem OneBell.of_bells {b : Nat} {x z : Wing} (h : trising x.car.bells = true) (hb : z.car.bells = x.car.bells) (hc : z.core = x.core)
    (hs : z.sys = x.sys) : OneBell b x z :=
  ⟨hb ▸ h, fun k _ => congrArg (fun t => tget ({} : Bell) t k) hb, hc, hs⟩

theorem OneBell.trans {b : Nat} {x y z : Wing} (h : OneBell b x y) (g : OneBell b y z) : OneBell b x z :=
  ⟨g.rising, fun k hk => (g.others k hk).trans (h.others k hk), g.core.trans h.core, g.sys.trans h.sys⟩

theorem OneBell.setBell {b : Nat} {x y : Wing} (h : OneBell b x y) (v : Bell) : OneBell b x (y.setBell b v) :=
  h.trans ⟨trising_tset _ _ _ h.rising, fun _ hk => tget_tset_other _ _ hk h.rising, rfl, rfl⟩

theorem OneBell.bell_setBell {b : Nat} {x y : Wing} (h : OneBell b x y) (v : Bell) : (y.setBell b v).bell b = v :=
  tget_tset_same _ _ _ h.rising

theorem OneBell.advance {b : Nat} {x : Wing} (h : trising x.car.bells = true) (dt : Nat) : OneBell b x (x.advance dt) := by
  obtain ⟨tb, hy⟩ := Wing.advance_eq dt x
  rw [hy]
  exact .of_bells h rfl rfl rfl

theorem Wing.advance_bell (dt : Nat) (x : Wing) (k : Nat) : (x.advance dt).bell k = x.bell k := by
  obtain ⟨tb, hy⟩ := Wing.advance_eq dt x
  rw [hy]
  rfl

theorem Wing.advance_doc (dt : Nat) (x : Wing) : (x.advance dt).doc = x.doc := by
  obtain ⟨tb, hy⟩ := Wing.advance_eq dt x
  rw [hy]

/-- The bell after its fire at tick `m` (R328, R329). -/
def Bell.fired (m : Nat) (v : Bell) : Bell :=
  let v := if v.d = 1 && v.late && !false then { v with v := m } else v
  ({ v with overrun := v.overrun || v.matched, matched := true, coarse := v.coarse || false }).autoAdd m

theorem Wing.fireBell_eq (b m : Nat) (x : Wing) :
    ∃ g, x.fireBell b m false = { (x.setBell b ((x.bell b).fired m)).raise b with gpio := g } := ⟨_, rfl⟩

theorem OneBell.fire {b : Nat} {x y : Wing} (h : OneBell b x y) (m : Nat) : OneBell b x (y.fireBell b m false) := by
  obtain ⟨g, hy⟩ := Wing.fireBell_eq b m y
  rw [hy]
  exact (h.setBell ((y.bell b).fired m)).trans (.of_bells (h.setBell _).rising rfl rfl rfl)

/-- The bell of a fire, and its source (R328). -/
theorem OneBell.fired {b : Nat} {x y : Wing} (h : OneBell b x y) (hb : b < 128) (m : Nat) : (y.fireBell b m false).bell b = (y.bell b).fired m ∧
    (y.fireBell b m false).doc.pend.getLsbD b = true ∧ (y.fireBell b m false).car.tb = y.car.tb := by
  obtain ⟨g, hy⟩ := Wing.fireBell_eq b m y
  rw [hy]
  exact ⟨h.bell_setBell _, Docent.raise_pend hb _, rfl⟩

/-- The value of V that a fire at tick `m` goes on from: the tick itself after an IMMEDIATE fire (R329). -/
def Bell.firedFrom (m : Nat) (v : Bell) : Nat := if v.d = 1 && v.late && !false then m else v.v

/-- The bell before its increase, with the match noted (R328, R329). -/
def Bell.matching (m : Nat) (v : Bell) : Bell :=
  { v with v := v.firedFrom m, overrun := v.overrun || v.matched, matched := true, coarse := v.coarse || false }

theorem Bell.fired_eq (m : Nat) (v : Bell) : v.fired m = (v.matching m).autoAdd m := by
  unfold Bell.fired Bell.matching Bell.firedFrom
  dsimp only
  split <;> rfl

theorem Bell.fired_single {v : Bell} (m : Nat) (h : v.interval = 0) : v.fired m = { v.matching m with armed := false } :=
  (Bell.fired_eq m v).trans (if_pos h)

theorem Bell.fired_again {v : Bell} (m : Nat) (h : v.interval ≠ 0) : let past := (m + lapTicks - v.firedFrom m) % lapTicks
    let k := past / v.interval + 1
    let nv := (v.firedFrom m + k * v.interval) % lapTicks
    v.fired m = { v.matching m with v := nv, c := m, d := k * v.interval - past, overrun := (v.matching m).overrun || decide (1 < k),
                                    st0 := w16 nv, st1 := w16 (nv / 2 ^ 16) } :=
  (Bell.fired_eq m v).trans (if_neg h)

theorem Bell.fired_cfg (m : Nat) (v : Bell) : (v.fired m).cfg = v.cfg ∧ (v.fired m).matched = true := by
  by_cases h : v.interval = 0
  · rw [Bell.fired_single m h]
    exact ⟨rfl, rfl⟩
  · rw [Bell.fired_again m h]
    exact ⟨rfl, rfl⟩

/-- What a fire notes of a bell that waits (R328). -/
theorem Bell.fired_flags {v : Bell} (m : Nat) (ha : v.armed = true) :
    (v.fired m).overrun = (v.overrun || v.matched || (decide (v.interval ≠ 0) && (v.fired m).overrun)) ∧ (v.fired m).armed = decide (v.interval ≠ 0) := by
  by_cases h : v.interval = 0
  · rw [decide_eq_false (Classical.not_not.mpr h), Bool.false_and, Bool.or_false, Bell.fired_single m h]
    exact ⟨rfl, rfl⟩
  · rw [decide_eq_true h, Bool.true_and, Bell.fired_again m h]
    refine ⟨?_, ha⟩
    dsimp only [Bell.matching]
    rw [← Bool.or_assoc, Bool.or_self]

/-- With an interval the bell is aimed that far on (R328). -/
theorem Bell.fired_interval {v : Bell} {m : Nat} (hi : v.interval ≠ 0) (hv : v.v = m ∨ (v.d = 1 ∧ v.late = true)) :
    (v.fired m).v = (m + v.interval) % 2 ^ 48 ∧ (v.fired m).c = m ∧ (v.fired m).d = v.interval := by
  have hat : v.firedFrom m = m := by
    unfold Bell.firedFrom
    obtain hv | ⟨hd, hl⟩ := hv
    · rw [hv, ite_self]
    · rw [hd, hl]
      rfl
  have hpast : (m + lapTicks - m) % lapTicks = 0 := by rw [Nat.add_sub_cancel_left, Nat.mod_self]
  rw [Bell.fired_again m hi, hat]
  dsimp only
  rw [hpast, Nat.zero_div, Nat.zero_add, Nat.one_mul]
  exact ⟨rfl, rfl, rfl⟩

/-- The bell with V committed at count `c` (R327, R329). -/
def Bell.committed (v2 : Word) (c : Nat) (o : Bell) : Bell :=
  let v := ({ o with v := o.st0.toNat + o.st1.toNat * 2 ^ 16 + v2.toNat * 2 ^ 32, armed := true }).aim c
  if v.late && bit v.cfg.toNat 9 then { v with d := 1 } else v

theorem Bell.committed_eq (v2 : Word) (c : Nat) (o : Bell) : let v := o.st0.toNat + o.st1.toNat * 2 ^ 16 + v2.toNat * 2 ^ 32
    let r := (v + 2 ^ 48 - c) % 2 ^ 48
    let d := if r = 0 then 2 ^ 48 else r
    let late := decide (2 ^ 48 - 2 ^ 20 < d)
    o.committed v2 c = { o with v := v, armed := true, c := c, d := if late && bit o.cfg.toNat 9 then 1 else d, late := late } := by
  intro v r d late
  have haim : ({ o with v := v, armed := true } : Bell).aim c = { o with v := v, armed := true, c := c, d := d, late := late } := rfl
  unfold Bell.committed
  dsimp only
  rw [haim]
  dsimp only
  split <;> rfl

theorem Wing.bellCommit_other {b : Nat} {x : Wing} (v2 : Word) (h : (x.bell b).mode ≠ .compare) : x.bellCommit b v2 = x := if_neg h

theorem Wing.bellCommit_eq {b : Nat} {x : Wing} (v2 : Word) (h : (x.bell b).mode = .compare) :
    ∃ q, x.bellCommit b v2 = { x.setBell b ((x.bell b).committed v2 x.car.tb) with
      car := { (x.setBell b ((x.bell b).committed v2 x.car.tb)).car with wakeReq := q } } := by
  refine ⟨if !x.car.fine && (x.setBell b ((x.bell b).committed v2 x.car.tb)).bellNear then true else x.car.wakeReq, (if_pos h).trans ?_⟩
  change (if (!x.car.fine && (x.setBell b ((x.bell b).committed v2 x.car.tb)).bellNear) = true then _ else _) = _
  split <;> rfl

theorem OneBell.commit {b : Nat} {x y : Wing} (h : OneBell b x y) (v2 : Word) (hm : (y.bell b).mode = .compare) : OneBell b x (y.bellCommit b v2) ∧
    (y.bellCommit b v2).bell b = (y.bell b).committed v2 y.car.tb ∧ (y.bellCommit b v2).doc = y.doc := by
  obtain ⟨q, hy⟩ := Wing.bellCommit_eq v2 hm
  rw [hy]
  exact ⟨(h.setBell _).trans (.of_bells (h.setBell _).rising rfl rfl rfl), h.bell_setBell _, rfl⟩

/-- The previous value of the bell matches at this very count (R327). -/
def Wing.matchesNow (b : Nat) (x : Wing) : Bool :=
  x.car.fine && (x.bell b).waits && decide (((x.bell b).c + (x.bell b).d) % lapTicks = x.car.tb) && decide ((x.bell b).c ≠ x.car.tb)

theorem Wing.matchesNow_iff (b : Nat) (x : Wing) : x.matchesNow b = true ↔
    x.car.fine = true ∧ (x.bell b).waits = true ∧ ((x.bell b).c + (x.bell b).d) % 2 ^ 48 = x.car.tb ∧ (x.bell b).c ≠ x.car.tb := by
  unfold Wing.matchesNow
  rw [Bool.and_eq_true, Bool.and_eq_true, Bool.and_eq_true, decide_eq_true_eq, decide_eq_true_eq, and_assoc, and_assoc]

theorem Wing.matchNow_not {b : Nat} {x : Wing} (h : ¬x.matchesNow b = true) : x.matchNow b = x := if_neg h

/-- The bell after a fire at the commit count, with its staged words (R327). -/
def Bell.refired (m : Nat) (v : Bell) : Bell := { v.fired m with st0 := v.st0, st1 := v.st1 }

theorem OneBell.matchNow {b : Nat} {x y : Wing} (h : OneBell b x y) (hb : b < 128) (hm : y.matchesNow b = true) : OneBell b x (y.matchNow b) ∧
    (y.matchNow b).bell b = (y.bell b).refired y.car.tb ∧ (y.matchNow b).doc.pend.getLsbD b = true ∧ (y.matchNow b).car.tb = y.car.tb := by
  have hy : y.matchNow b = (y.fireBell b y.car.tb false).setBell b
      { (y.fireBell b y.car.tb false).bell b with st0 := (y.bell b).st0, st1 := (y.bell b).st1 } := if_pos hm
  obtain ⟨hbell, hdoc, htb⟩ := h.fired hb y.car.tb
  rw [hy]
  refine ⟨(h.fire _).setBell _, ((h.fire _).bell_setBell _).trans ?_, hdoc, htb⟩
  rw [hbell]
  rfl

theorem Bell.refired_kept (m : Nat) (v : Bell) : (v.refired m).mode = v.mode ∧ (v.refired m).cfg = v.cfg ∧ (v.refired m).st0 = v.st0 ∧
    (v.refired m).st1 = v.st1 ∧ (v.refired m).matched = true := by
  obtain ⟨hcfg, hmatched⟩ := Bell.fired_cfg m v
  exact ⟨congrArg (fun c => ({ cfg := c } : Bell).mode) hcfg, hcfg, rfl, rfl, hmatched⟩

/-- The commit reads only the staged words and the configuration of the bell before it. -/
theorem Bell.committed_refired (v2 : Word) (c m : Nat) (o : Bell) : let n := (o.refired m).committed v2 c
    let k := o.committed v2 c
    n.armed = k.armed ∧ n.v = k.v ∧ n.c = k.c ∧ n.d = k.d ∧ n.late = k.late ∧ n.cfg = k.cfg ∧ n.matched = true := by
  obtain ⟨hmode, hcfg, h0, h1, hm⟩ := Bell.refired_kept m o
  intro n k
  have hn : n = _ := Bell.committed_eq v2 c (o.refired m)
  have hk : k = _ := Bell.committed_eq v2 c o
  rw [hn, hk, h0, h1, hcfg]
  exact ⟨rfl, rfl, rfl, rfl, rfl, rfl, hm⟩

/-- A capture of the bell's own source (R330, R333). -/
theorem OneBell.capture {b : Nat} {x y : Wing} (h : OneBell b x y) (hb : b < 128) (hm : (y.bell b).mode = .capture) (hs : (y.bell b).source < 10) :
    let z := y.bellEvent (y.bell b).source b
    OneBell b x z ∧ z.bell b = { y.bell b with capture := y.car.tb, overrun := (y.bell b).overrun || (y.bell b).capfull, capfull := true,
                                               coarse := (y.bell b).coarse || !y.car.fine } ∧ z.doc.pend.getLsbD b = true := by
  intro z
  have hz : z = (y.setBell b { y.bell b with capture := y.car.tb, overrun := (y.bell b).overrun || (y.bell b).capfull, capfull := true,
                                             coarse := (y.bell b).coarse || !y.car.fine }).raise b := by
    change Wing.bellEvent _ _ _ = _
    unfold Wing.bellEvent
    dsimp only
    rw [if_pos (by rw [decide_eq_true hs, decide_eq_true rfl]; rfl), hm]
  rw [hz]
  exact ⟨(h.setBell _).trans (.of_bells (h.setBell _).rising rfl rfl rfl), h.bell_setBell _, Docent.raise_pend hb _⟩

theorem Wing.bellEvent_none {b : Nat} {y : Wing} {src : Nat} (hs : 10 ≤ src) : y.bellEvent src b = y := by
  unfold Wing.bellEvent
  refine if_neg ?_
  rw [decide_eq_false (Nat.not_lt.mpr hs), Bool.and_false]
  exact Bool.false_ne_true

/-- A tally of the bell's own source (R332, R333). -/
theorem Wing.bellEvent_tally {b : Nat} {y : Wing} (hm : (y.bell b).mode = .tally) (hs : (y.bell b).source < 10) :
    y.bellEvent (y.bell b).source b = if (y.bell b).tally = 2 ^ 32 - 1 then
        (y.setBell b { y.bell b with tally := 0, overrun := (y.bell b).overrun || (y.bell b).tallyWrap, tallyWrap := true }).raise b
      else y.setBell b { y.bell b with tally := (y.bell b).tally + 1 } := by
  unfold Wing.bellEvent
  dsimp only
  rw [if_pos (by rw [decide_eq_true hs, decide_eq_true rfl]; rfl), hm]

/-- The read of word 0 of a capture frees the bell for the next (R331). -/
theorem Wing.bellRead_capture {b : Nat} {x : Wing} (hm : (x.bell b).mode = .capture) : ∃ l, x.bellRead 0 b 2 =
    (w16 (x.bell b).capture, { x.setBell b { x.bell b with capfull := false } with latch := l }) := by
  unfold Wing.bellRead
  dsimp only
  rw [hm]
  exact ⟨_, rfl⟩

theorem exec_bellCaptureRead (w : WingId) (b : Fin 32) (s : State) : exec (.bellCaptureRead w b) s = byCore w s
    (if ((s.wing w).bell b).mode = .capture then
      s.setWing w { ((s.wing w).bellRead 0 b 2).2 with rdata := ((s.wing w).bellRead 0 b 2).1 } else s) := rfl

/-- A command that leaves the wing as `z`, with the other bells as they were. -/
theorem does_oneBell {s : State} {w : WingId} {b : Fin 32} {i : Instr} {z : Wing} {P : Bell → Wing → Prop} (he : exec i s = .next (s.setWing w z))
    (h : OneBell b (s.wing w) z) (hp : P (z.bell b) z) : Does i s (fun t => ∃ z : Wing, t = s.setWing w z ∧ P (z.bell b) z ∧
      (∀ k : Fin 32, k ≠ b → z.bell k = (s.wing w).bell k) ∧ z.core = (s.wing w).core ∧ z.sys = (s.wing w).sys) :=
  ⟨_, he, z, rfl, hp, fun k hk => h.others k (Fin.val_ne_of_ne hk), h.core, h.sys⟩

/-- A new mode or source clears the bell's values (R326). -/
theorem Wing.bellCfg_new {b : Nat} {v : Word} {x : Wing} (h : bits (v &&& 0x7FFF).toNat 5 0 ≠ bits (x.bell b).cfg.toNat 5 0) : x.bellCfg b v =
    x.setBell b { x.bell b with cfg := v &&& 0x7FFF, armed := false, capfull := false, st0 := 0, st1 := 0, v := 0, c := (x.bell b).c, d := 0,
                                capture := 0, tally := 0 } :=
  if_neg h

theorem Wing.bellCfg_same {b : Nat} {v : Word} {x : Wing} (h : bits (v &&& 0x7FFF).toNat 5 0 = bits (x.bell b).cfg.toNat 5 0) : x.bellCfg b v =
    x.setBell b { x.bell b with cfg := v &&& 0x7FFF } :=
  if_pos h

/-- Settles O40: what each command does to its bell. -/
theorem bells : Obligations.Bells := by
  unfold Obligations.Bells
  intro s w b dt x y o hr gives
  have hb : b.val < 128 := Nat.lt_trans b.isLt (by decide)
  have hx : OneBell b x x := .of_bells hr rfl rfl rfl
  have hy : OneBell b x y := .advance hr dt
  have ho : y.bell b = o := Wing.advance_bell dt x b
  have hgive : ∀ {i : Instr} {z : Wing} {P : Bell → Wing → Prop}, exec i s = .next (s.setWing w z) → OneBell b x z → P (z.bell b) z → gives i P :=
    fun he h hp => does_oneBell he h hp
  clear_value gives
  refine ⟨fun ha => ?_, fun v ha => ⟨fun hc => ?_, fun hc => ?_⟩, ?commit, fun v2 ha hm => ?_, ?fire, fun h => ?_, fun hm hs => ?_, fun hm hs => ?_, fun hm => ?_,
    fun ha hm => ?_, fun hm hs => ⟨fun ht => ?_, fun ht => ?_⟩, fun h => ?_⟩
  · have hn : ¬x.awake = true := Bool.eq_false_iff.mp ha
    exact ⟨fun v => ⟨next_if_neg hn rfl, next_if_neg hn rfl⟩, next_if_neg hn rfl⟩
  · refine hgive (next_if_pos ha (congrArg (s.setWing w) (Wing.bellCfg_new hc))) (hx.setBell _) ?_
    rw [hx.bell_setBell]
    exact ⟨rfl, rfl, rfl, rfl, rfl, rfl, rfl, rfl⟩
  · exact hgive (next_if_pos ha (congrArg (s.setWing w) (Wing.bellCfg_same hc))) (hx.setBell _) (hx.bell_setBell _)
  case commit =>
    intro v2 ha hm v r d late now
    have he : exec (.bellCompareCommit w b v2 dt) s = .next (s.setWing w ((y.matchNow b).bellCommit b v2)) := next_if_pos ha rfl
    have hco : o.committed v2 y.car.tb = { o with v := v, armed := true, c := y.car.tb, d := if late && bit o.cfg.toNat 9 then 1 else d, late := late } :=
      Bell.committed_eq v2 y.car.tb o
    have hnow : y.matchesNow b = true ↔ now := by
      rw [Wing.matchesNow_iff, ho]
    by_cases hn : y.matchesNow b = true
    · obtain ⟨hone, hbell, hdoc, htb⟩ := hy.matchNow hb hn
      rw [ho] at hbell
      obtain ⟨hmode, -⟩ := Bell.refired_kept y.car.tb o
      obtain ⟨hc, hcb, hcd⟩ := hone.commit v2 (by rw [hbell]; exact hmode.trans hm)
      obtain ⟨harmed, hv, hcc, hd, hlate, hcfg, hmatched⟩ := Bell.committed_refired v2 y.car.tb y.car.tb o
      refine hgive he hc ?_
      rw [hcb, hbell, htb, hcd, harmed, hv, hcc, hd, hlate, hcfg, hmatched, hco]
      exact ⟨rfl, rfl, rfl, rfl, rfl, rfl, fun _ => ⟨rfl, hdoc⟩, fun h => absurd (hnow.mp hn) h⟩
    · rw [Wing.matchNow_not hn] at he
      obtain ⟨hc, hcb, hcd⟩ := hy.commit v2 (by rw [ho]; exact hm)
      refine hgive he hc ?_
      rw [hcb, ho, hco, hcd]
      exact ⟨rfl, rfl, rfl, rfl, rfl, rfl, fun h => absurd (hnow.mpr h) hn, fun _ => ⟨rfl, Wing.advance_doc dt x⟩⟩
  · have hn : ¬y.matchesNow b = true := by
      rw [Wing.matchesNow_iff, ho]
      rintro ⟨-, hw, -⟩
      exact hm (of_decide_eq_true ((Bool.and_eq_true _ _).mp hw).2)
    refine hgive (z := y) (next_if_pos ha (congrArg (s.setWing w) ?_)) hy ho
    exact (Wing.bellCommit_other v2 (by rw [Wing.matchNow_not hn, ho]; exact hm)).trans (Wing.matchNow_not hn)
  case fire =>
    intro hs hf hw m
    have hat : OneBell b x { x with car := { x.car with tb := m } } := .of_bells hr rfl rfl rfl
    obtain ⟨hbell, hdoc, htb⟩ := hat.fired hb m
    have hfired : (({ x with car := { x.car with tb := m } } : Wing).fireBell b m false).bell b = o.fired m := hbell
    obtain ⟨hover, harmed⟩ := Bell.fired_flags m ((Bool.and_eq_true _ _).mp hw).1
    refine hgive (next_if_pos (by rw [hs, hf]; exact hw) rfl) (hat.fire m) ?_
    rw [hfired]
    exact ⟨(Bell.fired_cfg m o).2, hover, harmed, htb, hdoc, fun hi hv => Bell.fired_interval hi hv⟩
  · refine next_if_neg ?_ rfl
    rw [Bool.and_eq_true, Bool.and_eq_true]
    rintro ⟨⟨hs, hf⟩, hw⟩
    obtain h | h | h := h
    · exact Bool.noConfusion (h.symm.trans hs)
    · exact Bool.noConfusion (h.symm.trans hf)
    · exact Bool.noConfusion (h.symm.trans hw)
  · obtain ⟨hone, hbell, hdoc⟩ := hy.capture hb (by rw [ho]; exact hm) (by rw [ho]; exact hs)
    refine hgive (next_if_pos (by rw [show ((s.wing w).advance dt).bell b = o from ho]; exact hm) rfl) hone ?_
    rw [show (((s.wing w).advance dt).bellEvent _ b).bell b = _ from hbell]
    exact ⟨rfl, rfl, congrArg (fun n : Bell => n.overrun || n.capfull) ho, hdoc⟩
  · have hev : y.bellEvent (y.bell b).source b = y := Wing.bellEvent_none (by rw [ho]; exact hs)
    exact hgive (next_if_pos (by rw [show ((s.wing w).advance dt).bell b = o from ho]; exact hm) (congrArg (s.setWing w) hev)) hy
      ⟨ho, Wing.advance_doc dt x⟩
  · refine ⟨next_if_neg (by rw [show ((s.wing w).advance dt).bell b = o from ho]; exact hm) rfl, ?_⟩
    refine (exec_bellCaptureRead w b s).trans (congrArg Host.Outcome.next ?_)
    rw [if_neg hm, ite_self]
  · obtain ⟨l, hl⟩ := Wing.bellRead_capture hm
    have he : exec (.bellCaptureRead w b) s = .next (s.setWing w { x.setBell b { x.bell b with capfull := false } with
        latch := l, rdata := w16 (x.bell b).capture }) := by
      refine (exec_bellCaptureRead w b s).trans (next_if_pos ha ?_)
      rw [if_pos hm, hl]
    exact hgive he ((hx.setBell _).trans (.of_bells (hx.setBell _).rising rfl rfl rfl)) ⟨hx.bell_setBell _, rfl⟩
  · have hev := (Wing.bellEvent_tally (y := x) hm hs).trans (if_neg ht)
    exact hgive (next_if_pos hm (congrArg (s.setWing w) hev)) (hx.setBell _) ⟨hx.bell_setBell _, rfl⟩
  · have hev := (Wing.bellEvent_tally (y := x) hm hs).trans (if_pos ht)
    refine hgive (next_if_pos hm (congrArg (s.setWing w) hev)) ((hx.setBell _).trans (.of_bells (hx.setBell _).rising rfl rfl rfl)) ?_
    rw [show ((x.setBell b _).raise b).bell b = _ from hx.bell_setBell _]
    exact ⟨rfl, rfl, rfl, Docent.raise_pend hb _⟩
  · by_cases hm : o.mode = .tally
    · have hev : x.bellEvent (x.bell b).source b = x := Wing.bellEvent_none (h.resolve_left (Classical.not_not.mpr hm))
      exact next_if_pos hm ((congrArg (s.setWing w) hev).trans (State.setWing_wing s w))
    · exact next_if_neg hm rfl

end Sys2Proof.Machine

namespace Sys2Proof.Machine
open Sys2Proof

/-! SUPPORT. The calendar's shadows and its halt (R352 to R358). -/

theorem Calendar.port_modPort_same (p : Fin 9) (f : CalPort → CalPort) (c : Calendar) : (c.modPort p f).port p = f (c.port p) := by
  unfold Calendar.port Calendar.modPort
  by_cases h : p.val < 8
  · rw [if_pos h, if_pos h, if_pos h]
    exact Oct.get_set_same c.ports ⟨p, h⟩ _
  · rw [if_neg h, if_neg h, if_neg h]

theorem Calendar.port_modPort_other {p q : Fin 9} (h : q ≠ p) (f : CalPort → CalPort) (c : Calendar) : (c.modPort p f).port q = c.port q := by
  unfold Calendar.port Calendar.modPort
  by_cases hp : p.val < 8
  · rw [if_pos hp]
    by_cases hq : q.val < 8
    · rw [if_pos hq, if_pos hq]
      exact Oct.get_set_other c.ports ⟨p, hp⟩ ⟨q, hq⟩ _ (fun he => h (Fin.ext (Fin.mk.inj he)))
    · rw [if_neg hq, if_neg hq]
  · rw [if_neg hp]
    by_cases hq : q.val < 8
    · rw [if_pos hq, if_pos hq]
    · exact absurd (Fin.ext (by omega)) h

/-- A change of a reader port leaves the rest of the calendar. -/
theorem Calendar.modPort_eq (p : Nat) (f : CalPort → CalPort) (c : Calendar) : ∃ ports host, c.modPort p f = { c with ports := ports, hostPort := host } := by
  unfold Calendar.modPort
  split
  · exact ⟨_, c.hostPort, rfl⟩
  · exact ⟨c.ports, _, rfl⟩

@[simp] theorem Calendar.modPort_time (p : Nat) (f : CalPort → CalPort) (c : Calendar) : (c.modPort p f).time = c.time := by
  obtain ⟨a, b, h⟩ := c.modPort_eq p f
  rw [h]

@[simp] theorem Calendar.modPort_bram (p : Nat) (f : CalPort → CalPort) (c : Calendar) : (c.modPort p f).bram = c.bram := by
  obtain ⟨a, b, h⟩ := c.modPort_eq p f
  rw [h]

@[simp] theorem Calendar.modPort_owner (p : Nat) (f : CalPort → CalPort) (c : Calendar) : (c.modPort p f).owner = c.owner := by
  obtain ⟨a, b, h⟩ := c.modPort_eq p f
  rw [h]

@[simp] theorem Calendar.modPort_invalid (p : Nat) (f : CalPort → CalPort) (c : Calendar) : (c.modPort p f).invalid = c.invalid := by
  obtain ⟨a, b, h⟩ := c.modPort_eq p f
  rw [h]

@[simp] theorem Calendar.modPort_divider (p : Nat) (f : CalPort → CalPort) (c : Calendar) : (c.modPort p f).divider = c.divider := by
  obtain ⟨a, b, h⟩ := c.modPort_eq p f
  rw [h]

/-- Port `p` may be used: the host's always, a wing's while the wing is out of RESET. -/
def PortFree (p : Fin 9) (s : State) : Prop := p = 8 ∨ ∃ w : WingId, w.val = p.val ∧ (s.wing w).awake = true

theorem byPort_free {p : Fin 9} {s : State} (h : PortFree p s) (t : State) : byPort p s t = .next t := by
  unfold byPort
  obtain rfl | ⟨w, hw, ha⟩ := h
  · rfl
  · rw [← hw, if_pos w.isLt]
    exact next_if_pos ha rfl

theorem byPort_shut {p : Fin 9} {s : State} (h : ¬PortFree p s) (t : State) : byPort p s t = .next s := by
  unfold byPort
  have hp : p.val < 8 := by
    refine Classical.byContradiction fun hp => ?_
    exact h (.inl (Fin.ext (by omega)))
  rw [if_pos hp]
  exact next_if_neg (fun ha => h (.inr ⟨⟨p, hp⟩, rfl, ha⟩)) rfl

/-- The calendar after a read of register `r` through port `p`, and the value read (R352, R353). -/
theorem Calendar.port_freeze (p : Fin 9) (c : Calendar) : (c.freeze p).port p =
    { c.port p with shadow := some ((c.port p).shadow.getD (c.divider, c.time)) } := by
  unfold Calendar.freeze
  rw [Calendar.port_modPort_same]
  rcases c.port p with ⟨_ | sh, _⟩ <;> rfl

theorem Calendar.read_value (p : Fin 9) (r : Nat) (c : Calendar) : (c.read p r).1 =
    w16 (calField ((c.port p).shadow.getD (c.divider, c.time)) r) := by
  unfold Calendar.read
  dsimp only
  rw [Calendar.port_freeze]
  rfl

/-- A read of a register leaves the time and the other ports. -/
theorem Calendar.read_kept {p : Fin 9} {r : Nat} {c : Calendar} : (∀ q : Fin 9, q ≠ p → (c.read p r).2.port q = c.port q) ∧
    (c.read p r).2.time = c.time ∧ (c.read p r).2.bram = c.bram := by
  unfold Calendar.read Calendar.release Calendar.freeze
  dsimp only
  split
  · refine ⟨fun q hq => ?_, ?_, ?_⟩
    · rw [Calendar.port_modPort_other hq, Calendar.port_modPort_other hq]
    · rw [Calendar.modPort_time, Calendar.modPort_time]
    · rw [Calendar.modPort_bram, Calendar.modPort_bram]
  · exact ⟨fun q hq => Calendar.port_modPort_other hq _ _, Calendar.modPort_time .., Calendar.modPort_bram ..⟩

theorem Calendar.read_port {p : Fin 9} {r : Nat} {c : Calendar} (h : r ≠ 7) : (c.read p r).2.port p =
    { c.port p with shadow := some ((c.port p).shadow.getD (c.divider, c.time)) } := by
  unfold Calendar.read
  dsimp only
  rw [if_neg h, Calendar.port_freeze]

theorem Calendar.read_year (p : Fin 9) (c : Calendar) : ((c.read p 7).2.port p).shadow = none := by
  unfold Calendar.read Calendar.release
  dsimp only
  rw [if_pos rfl, Calendar.port_modPort_same]

/-- The state after a read through port `p`; a wing's core has the value (R352). -/
def State.calPortRead (p : Fin 9) (r : Nat) (s : State) : State :=
  let t := { s with cal := (s.cal.read p r).2 }
  if p.val < 8 then t.modWing p (fun x => { x with rdata := (s.cal.read p r).1 }) else t

theorem State.calPortRead_frame (p : Fin 9) (r : Nat) (s : State) : (s.calPortRead p r).cal = (s.cal.read p r).2 ∧ (s.calPortRead p r).dome = s.dome ∧
    (s.calPortRead p r).port = s.port := by
  unfold State.calPortRead
  dsimp only
  split <;> exact ⟨rfl, rfl, rfl⟩

theorem State.calPortRead_wing {p : Fin 9} {w : WingId} (h : w.val = p.val) (r : Nat) (s : State) :
    ((s.calPortRead p r).wing w).rdata = w16 (calField ((s.cal.port p).shadow.getD (s.cal.divider, s.cal.time)) r) := by
  unfold State.calPortRead
  dsimp only
  rw [if_pos (h ▸ w.isLt), ← h, State.wing_modWing]
  rw [h]
  exact Calendar.read_value p r s.cal

theorem exec_calShadowFreeze (p : Fin 9) (r : Fin 8) (s : State) : exec (.calShadowFreeze p r) s = byPort p s (s.calPortRead p r) := rfl
theorem exec_calYearRead (p : Fin 9) (s : State) : exec (.calYearRead p) s = byPort p s (s.calPortRead p 7) := rfl

/-- The writes of the halt and of a field while the backup domain is frozen (R51). -/
theorem calWrites_frozen {s : State} (p : Fin 9) (h : s.dome.writeFrozen = true) : let t : State :=
      { s with cal := s.cal.release p, dome := { s.dome with frozenWrites := min (s.dome.frozenWrites + 1) 0xFFFF } }
    s.calHalt p = t ∧ (∀ dz, s.calUnhalt p dz = t) ∧ ∀ (r : Nat) (v : Word), r ≠ 0 → r ≠ 4 → s.calFieldWrite p r v = t := by
  refine ⟨if_pos h, fun dz => if_pos h, fun r v h0 h4 => (if_neg ?_).trans (if_pos h)⟩
  rw [decide_eq_false h0, decide_eq_false h4]
  exact Bool.false_ne_true

/-- The write of HALT = 1 (R355). -/
theorem State.calHalt_cases {s : State} (p : Fin 9) (h : s.dome.writeFrozen = false) : let rel := s.cal.release p
    (s.cal.owner = none → s.calHalt p = { s with cal := { rel with owner := some p.val, halted := false, releasing := none } }) ∧
    (s.cal.owner = some p.val → s.calHalt p = { s with cal := rel }) ∧
    (∀ q, s.cal.owner = some q → q ≠ p.val → s.calHalt p = { s with cal := rel.ignore p }) := by
  intro rel
  have howner : rel.owner = s.cal.owner := Calendar.modPort_owner ..
  have hgo : s.calHalt p = _ := if_neg (Bool.eq_false_iff.mp h)
  refine ⟨fun ho => hgo.trans ?_, fun ho => hgo.trans ?_, fun q ho hq => hgo.trans ?_⟩
  · rw [show ({ s with cal := s.cal.release p } : State).cal.owner = none from howner.trans ho]
  · rw [show ({ s with cal := s.cal.release p } : State).cal.owner = some p.val from howner.trans ho]
    exact if_pos rfl
  · rw [show ({ s with cal := s.cal.release p } : State).cal.owner = some q from howner.trans ho]
    exact if_neg hq

/-- The write of HALT = 0 (R355, R358). -/
theorem State.calUnhalt_cases {s : State} (p : Fin 9) (dz : Bool) (h : s.dome.writeFrozen = false) : let rel := s.cal.release p
    (s.cal.owner = some p.val → s.calUnhalt p dz = { s with cal := { rel with releasing := some dz } }) ∧
    (s.cal.owner ≠ some p.val → s.calUnhalt p dz = { s with cal := rel.ignore p }) := by
  intro rel
  have howner : rel.owner = s.cal.owner := Calendar.modPort_owner ..
  have hgo : s.calUnhalt p dz = _ := if_neg (Bool.eq_false_iff.mp h)
  exact ⟨fun ho => hgo.trans (if_pos (howner.trans ho)), fun ho => hgo.trans (if_neg (fun hr => ho (howner.symm.trans hr)))⟩

/-- The write of a calendar field (R356). -/
theorem State.calFieldWrite_cases {s : State} (p : Fin 9) {r : Nat} (v : Word) (h0 : r ≠ 0) (h4 : r ≠ 4) (h : s.dome.writeFrozen = false) :
    let rel := s.cal.release p
    (s.cal.owner ≠ some p.val → s.calFieldWrite p r v = { s with cal := rel.ignore p }) ∧
    (∀ t, s.cal.owner = some p.val → s.cal.time.put r v.toNat = some t → s.calFieldWrite p r v = { s with cal := { rel with time := t } }) ∧
    (s.cal.owner = some p.val → s.cal.time.put r v.toNat = none →
      s.calFieldWrite p r v = { s with cal := { rel with invalid := min (s.cal.invalid + 1) 0xFFFF } }) := by
  intro rel
  have howner : rel.owner = s.cal.owner := Calendar.modPort_owner ..
  have hput : ({ s with cal := s.cal.release p } : State).cal.time.put r v.toNat = s.cal.time.put r v.toNat :=
    congrArg (fun t : CalTime => t.put r v.toNat) (Calendar.modPort_time ..)
  have hinv : rel.invalid = s.cal.invalid := Calendar.modPort_invalid ..
  have hr : ¬(decide (r = 0) || decide (r = 4)) = true := by
    rw [decide_eq_false h0, decide_eq_false h4]
    exact Bool.false_ne_true
  have hgo : s.calFieldWrite p r v = _ := (if_neg hr).trans (if_neg (Bool.eq_false_iff.mp h))
  refine ⟨fun ho => hgo.trans (if_pos (fun hr => ho (howner.symm.trans hr))), fun t ho ht => hgo.trans ((if_neg (Classical.not_not.mpr (howner.trans ho))).trans ?_),
    fun ho ht => hgo.trans ((if_neg (Classical.not_not.mpr (howner.trans ho))).trans ?_)⟩
  · rw [hput, ht]
  · rw [hput, ht, ← hinv]
    rfl

/-- Settles O42: shadows, halt and field writes. -/
theorem calendarHalt : Obligations.CalendarHalt := by
  unfold Obligations.CalendarHalt
  intro s p c free gives rel at_
  have hread : ∀ (r : Nat) (P : CalPort → Prop), P ((c.read p r).2.port p) → at_ (s.calPortRead p r) P := by
    intro r P h
    obtain ⟨hcal, hdome, hport⟩ := State.calPortRead_frame p r s
    obtain ⟨hother, htime, hbram⟩ := Calendar.read_kept (p := p) (r := r) (c := s.cal)
    change P ((s.calPortRead p r).cal.port p) ∧ _ ∧ (s.calPortRead p r).cal.time = _ ∧ (s.calPortRead p r).cal.bram = _ ∧ _
    rw [hcal]
    exact ⟨h, hother, htime, hbram, hdome, hport⟩
  have hmod : ∀ (f : CalPort → CalPort) (P : CalPort → Prop), P (f (c.port p)) → at_ { s with cal := c.modPort p f } P := by
    intro f P h
    refine ⟨?_, fun q hq => Calendar.port_modPort_other hq f c, Calendar.modPort_time .., Calendar.modPort_bram .., rfl, rfl⟩
    rw [show ({ s with cal := c.modPort p f } : State).cal.port p = f (c.port p) from Calendar.port_modPort_same p f c]
    exact h
  clear_value at_
  refine ⟨fun h r v dz i hi => ?_, rfl, fun r w hw h => ?_, fun r h hr => ?_, fun h => ?_, fun h => ⟨byPort_free h _, ?_⟩, fun h => ?_, fun h => ?_,
    fun h hw => ⟨fun ho => ?_, fun ho => ⟨?_, fun dz => ?_⟩, fun q ho hq => ⟨?_, fun dz => ?_⟩, fun ho dz => ?_⟩, fun h hw r v dz h0 h4 i hi => ?_,
    fun h => ?_, fun h => ?_, fun dz h => ?_, fun h => ?_, fun r v h => ⟨fun hr => ?_, fun h0 h4 hw => ?_⟩, fun h => next_if_pos h rfl,
    fun h => next_if_neg (Bool.eq_false_iff.mp h) rfl⟩
  · simp only [List.mem_cons, List.not_mem_nil, or_false] at hi
    rcases hi with rfl | rfl | rfl | rfl | rfl | rfl <;> exact byPort_shut h _
  · exact ⟨_, (exec_calShadowFreeze p r s).trans (byPort_free h _), State.calPortRead_wing hw r s⟩
  · refine ⟨_, (exec_calShadowFreeze p r s).trans (byPort_free h _), hread r (fun q => q.shadow = some ((c.port p).shadow.getD (c.divider, c.time)) ∧ q.timeout = (c.port p).timeout) ?_⟩
    rw [Calendar.read_port (fun he => hr (Fin.ext he))]
    exact ⟨rfl, rfl⟩
  · exact ⟨_, (exec_calYearRead p s).trans (byPort_free h _), hread 7 (fun q => q.shadow = none) (Calendar.read_year p c)⟩
  · exact ⟨_, byPort_free h _, hmod (fun q => { q with shadow := none }) (fun q => q = { c.port p with shadow := none }) rfl⟩
  · exact ⟨_, next_if_pos (Option.isSome_iff_ne_none.mpr h) rfl,
      hmod (fun q => { q with shadow := none, timeout := true }) (fun q => q = { c.port p with shadow := none, timeout := true }) rfl⟩
  · refine next_if_neg ?_ rfl
    rw [show s.cal.port p = c.port p from rfl, h]
    exact Bool.false_ne_true
  · exact (byPort_free h _).trans (congrArg Host.Outcome.next ((State.calHalt_cases p hw).1 ho))
  · exact (byPort_free h _).trans (congrArg Host.Outcome.next ((State.calHalt_cases p hw).2.1 ho))
  · exact (byPort_free h _).trans (congrArg Host.Outcome.next ((State.calUnhalt_cases p dz hw).1 ho))
  · exact (byPort_free h _).trans (congrArg Host.Outcome.next ((State.calHalt_cases p hw).2.2 q ho hq))
  · exact (byPort_free h _).trans (congrArg Host.Outcome.next ((State.calUnhalt_cases p dz hw).2 (fun he => hq (Option.some.inj (ho.symm.trans he)))))
  · exact (byPort_free h _).trans (congrArg Host.Outcome.next ((State.calUnhalt_cases p dz hw).2 (fun he => nomatch ho.symm.trans he)))
  · obtain ⟨hhalt, hunhalt, hfield⟩ := calWrites_frozen p hw
    simp only [List.mem_cons, List.not_mem_nil, or_false] at hi
    rcases hi with rfl | rfl | rfl
    · exact (byPort_free h _).trans (congrArg Host.Outcome.next hhalt)
    · exact (byPort_free h _).trans (congrArg Host.Outcome.next (hunhalt dz))
    · exact (byPort_free h _).trans (congrArg Host.Outcome.next (hfield r v (fun he => h0 (Fin.ext he)) (fun he => h4 (Fin.ext he))))
  · exact next_if_pos (Option.isSome_iff_ne_none.mpr h) rfl
  · refine next_if_neg ?_ rfl
    rw [show s.cal.owner = none from h]
    exact Bool.false_ne_true
  · change execReleaseEdge s = _
    unfold execReleaseEdge
    rw [h]
  · change execReleaseEdge s = _
    unfold execReleaseEdge
    rw [h]
  · refine (byPort_free h _).trans (congrArg Host.Outcome.next (if_pos ?_))
    obtain rfl | rfl := hr <;> rfl
  · obtain ⟨hother, hvalid, hinvalid⟩ := State.calFieldWrite_cases (s := s) p v (fun he => h0 (Fin.ext he)) (fun he => h4 (Fin.ext he)) hw
    exact ⟨fun ho => (byPort_free h _).trans (congrArg Host.Outcome.next (hother ho)),
      fun t ho ht => (byPort_free h _).trans (congrArg Host.Outcome.next (hvalid t ho ht)),
      fun ho ht => (byPort_free h _).trans (congrArg Host.Outcome.next (hinvalid ho ht))⟩

end Sys2Proof.Machine

namespace Sys2Proof.Machine
open Sys2Proof

/-! SUPPORT. The Docent, the rings and the mailboxes as the core uses them (R442 to R447, R451 to R459). -/

theorem byCore_awake {w : WingId} {s : State} (h : (s.wing w).awake = true) (t : State) : byCore w s t = .next t := next_if_pos h rfl

theorem bit_toNat (v : Word) (i : Nat) : bit v.toNat i = v.getLsbD i := by
  unfold bit BitVec.getLsbD
  rw [Nat.testBit_eq_decide_div_mod_eq]
  rfl

/-- Of the sixteen sources of group `g`, the one that `i` names and `p` takes. -/
theorem any_group (p : Nat → Bool) (g i : Nat) :
    ((List.range 16).any fun k => p k && decide (16 * g + k = i)) = (decide (i / 16 = g) && p (i % 16)) := by
  rw [Bool.eq_iff_iff, List.any_eq_true, Bool.and_eq_true, decide_eq_true_eq]
  constructor
  · rintro ⟨k, hk, h⟩
    rw [Bool.and_eq_true, decide_eq_true_eq] at h
    have hlt := List.mem_range.mp hk
    obtain ⟨hp, rfl⟩ := h
    exact ⟨by omega, by rw [show (16 * g + k) % 16 = k by omega]; exact hp⟩
  · rintro ⟨hg, hp⟩
    refine ⟨i % 16, List.mem_range.mpr (Nat.mod_lt i (by decide)), ?_⟩
    rw [hp, decide_eq_true (by omega)]
    rfl

theorem docBits_getLsbD (g : Fin 8) (v : Word) (i : Fin 128) : (docBits g v).getLsbD i = (decide (i.val / 16 = g.val) && v.getLsbD (i.val % 16)) := by
  unfold docBits
  rw [BitVec.getLsbD_ofNat, decide_eq_true i.isLt, Bool.true_and, Nat.testBit_mul_two_pow]
  change (decide (16 * g.val ≤ i.val) && v.getLsbD (i.val - 16 * g.val)) = _
  by_cases h : i.val / 16 = g.val
  · rw [decide_eq_true h, decide_eq_true (by omega), show i.val - 16 * g.val = i.val % 16 by omega]
  · rw [decide_eq_false h, Bool.false_and, Bool.and_eq_false_imp]
    intro hle
    exact BitVec.getLsbD_of_ge _ _ (by have := of_decide_eq_true hle; omega)

/-! The Docent's pending bits. -/

theorem Docent.raise_getLsbD (n : Nat) (d : Docent) (i : Fin 128) : (d.raise n).pend.getLsbD i = (d.pend.getLsbD i || decide (n = i.val)) := by
  unfold Docent.raise
  dsimp only
  rw [BitVec.getLsbD_or, BitVec.getLsbD_twoPow]
  by_cases h : n = i.val
  · rw [h, decide_eq_true i.isLt, decide_eq_true rfl]
    rfl
  · rw [decide_eq_false h, Bool.and_false]

theorem Docent.clear_getLsbD (n : Nat) (d : Docent) (i : Fin 128) : (d.clear n).pend.getLsbD i = (d.pend.getLsbD i && !decide (n = i.val)) := by
  unfold Docent.clear
  dsimp only
  rw [BitVec.getLsbD_and, BitVec.getLsbD_not, BitVec.getLsbD_twoPow, decide_eq_true i.isLt, Bool.true_and]
  by_cases h : n = i.val
  · rw [h, decide_eq_true i.isLt, decide_eq_true rfl]
    rfl
  · rw [decide_eq_false h, Bool.and_false]

/-- The sources that a write of 1s makes pending (R444). -/
theorem Wing.pend_foldl_raise (p : Nat → Bool) (g : Nat) (i : Fin 128) (l : List Nat) (x : Wing) :
    (l.foldl (fun y k => if p k = true then y.raise (16 * g + k) else y) x).doc.pend.getLsbD i =
      (x.doc.pend.getLsbD i || l.any fun k => p k && decide (16 * g + k = i.val)) := by
  induction l generalizing x with
  | nil => exact (Bool.or_false _).symm
  | cons k l ih =>
    rw [List.foldl_cons, ih, List.any_cons, ← Bool.or_assoc]
    congr 1
    cases p k with
    | true => exact Docent.raise_getLsbD ..
    | false => exact (Bool.or_false _).symm

theorem Wing.pendSet_getLsbD (g : Fin 8) (v : Word) (x : Wing) (i : Fin 128) : (x.pendSet g v).doc.pend.getLsbD i =
    (x.doc.pend.getLsbD i || (decide (64 ≤ i.val) && decide (i.val / 16 = g.val) && v.getLsbD (i.val % 16))) := by
  refine (Wing.pend_foldl_raise (fun k => bit v.toNat k && decide (4 ≤ g.val)) g i (List.range 16) x).trans (congrArg (x.doc.pend.getLsbD i || ·) ?_)
  rw [any_group, bit_toNat]
  by_cases h : i.val / 16 = g.val
  · rw [decide_eq_true h, Bool.true_and, Bool.and_true, Bool.and_comm, decide_eq_decide.mpr (by omega : 4 ≤ g.val ↔ 64 ≤ i.val)]
  · rw [decide_eq_false h, Bool.false_and, Bool.and_false, Bool.false_and]

/-- The bits of a group that a write of 1s sets, or clears. -/
theorem group_set (o b : Bool) (p : Prop) [Decidable p] : (o || (decide p && b)) = if p ∧ b = true then true else o := by
  by_cases hp : p <;> cases b <;> simp [hp]

theorem group_clear (o b : Bool) (p : Prop) [Decidable p] : (o && !(decide p && b)) = if p ∧ b = true then false else o := by
  by_cases hp : p <;> cases b <;> simp [hp]

theorem State.docClear_wing (w : WingId) (n : Nat) (s : State) : (s.docClear w n).wing w = { s.wing w with doc := (s.wing w).doc.clear n } := by
  have hw : (s.docClear w n).wings = (s.modWing w (fun x => { x with doc := x.doc.clear n })).wings := by
    unfold State.docClear
    dsimp only
    split <;> rfl
  exact (congrArg (fun o => Oct.get o w.val) hw).trans (State.wing_modWing s w _)

theorem State.docClear_latches (w n : Nat) (s : State) : (n = 61 → w ∉ (s.docClear w n).cal.alarmLatch) ∧ (n = 62 → w ∉ (s.docClear w n).cal.osfLatch) := by
  constructor <;>
  · rintro rfl hw
    exact of_decide_eq_true (List.mem_filter.mp hw).2 rfl

/-- The sources that a write of 1s clears, and the mask (R444). -/
theorem State.pend_foldl_clear (p : Nat → Bool) (w : WingId) (g : Nat) (l : List Nat) (s : State) :
    let t := l.foldl (fun t k => if p k = true then t.docClear w (16 * g + k) else t) s
    (∀ i : Fin 128, (t.wing w).doc.pend.getLsbD i = ((s.wing w).doc.pend.getLsbD i && !l.any fun k => p k && decide (16 * g + k = i.val))) ∧
    (t.wing w).doc.mask = (s.wing w).doc.mask := by
  induction l generalizing s with
  | nil => exact ⟨fun i => (Bool.and_true _).symm, rfl⟩
  | cons k l ih =>
    rw [List.foldl_cons]
    cases hp : p k with
    | true =>
      obtain ⟨hpend, hmask⟩ := ih (s.docClear w (16 * g + k))
      rw [State.docClear_wing] at hpend hmask
      refine ⟨fun i => (hpend i).trans ?_, hmask⟩
      dsimp only
      rw [Docent.clear_getLsbD, List.any_cons, hp, Bool.true_and, Bool.not_or, Bool.and_assoc]
    | false =>
      obtain ⟨hpend, hmask⟩ := ih s
      refine ⟨fun i => (hpend i).trans ?_, hmask⟩
      rw [List.any_cons, hp, Bool.false_and, Bool.false_or]

/-- The blocks of the Docent's registers (R462). -/
theorem State.docWrite_groups (w : Nat) (g : Fin 8) (v : Word) (s : State) :
    s.docWrite false w (0x18 + g) v = s.modWing w (Wing.pendSet g v) ∧
    s.docWrite false w (0x20 + g) v = s.pendClr w g v ∧
    s.docWrite false w (0x30 + g) v = s.modWing w (fun x => { x with doc := { x.doc with mask := x.doc.mask ||| docBits g v } }) ∧
    s.docWrite false w (0x38 + g) v = s.modWing w (fun x => { x with doc := { x.doc with mask := x.doc.mask &&& ~~~ docBits g v } }) := by
  match g with
  | 0 => exact ⟨rfl, rfl, rfl, rfl⟩
  | 1 => exact ⟨rfl, rfl, rfl, rfl⟩
  | 2 => exact ⟨rfl, rfl, rfl, rfl⟩
  | 3 => exact ⟨rfl, rfl, rfl, rfl⟩
  | 4 => exact ⟨rfl, rfl, rfl, rfl⟩
  | 5 => exact ⟨rfl, rfl, rfl, rfl⟩
  | 6 => exact ⟨rfl, rfl, rfl, rfl⟩
  | 7 => exact ⟨rfl, rfl, rfl, rfl⟩

/-- The state after the claim of `n` (R447). -/
theorem docentClaim_winner {w : WingId} {s : State} {n : Nat} (ha : (s.wing w).awake = true) (h : (s.wing w).doc.winner = some n) :
    exec (.docentClaim w) s = .next (((s.docClear w n).modWing w (fun x =>
      { x with doc := { x.doc with service := x.doc.service ||| BitVec.twoPow 128 n } })).modWing w (fun x => { x with rdata := (s.wing w).doc.peek })) := by
  change execDocentClaim w s = _
  unfold execDocentClaim State.docClaim
  dsimp only
  rw [h]
  exact byCore_awake ha _

theorem docentClaim_none {w : WingId} {s : State} (ha : (s.wing w).awake = true) (h : (s.wing w).doc.winner = none) :
    exec (.docentClaim w) s = .next (s.setWing w { s.wing w with rdata := 0 }) := by
  change execDocentClaim w s = _
  unfold execDocentClaim State.docClaim
  dsimp only
  rw [h]
  exact byCore_awake ha _

theorem Docent.peek_winner {d : Docent} {n : Nat} (h : d.winner = some n) : d.peek = BitVec.ofNat 16 (0x8000 + tget 0 d.arrivals n * 128 + n) := by
  unfold Docent.peek
  rw [h]
  rfl

theorem Docent.winner_lt {d : Docent} {n : Nat} (h : d.winner = some n) : n < 128 := by
  have he := d.winner_eligible h
  unfold Docent.eligible at he
  rw [Bool.and_eq_true, Bool.and_eq_true, Bool.and_eq_true] at he
  exact BitVec.lt_of_getLsbD he.1.1.1

/-- What an event of the bells leaves of the Docent (R333). -/
theorem Wing.carEvent_doc (src : Nat) (x : Wing) : ((x.carEvent src).doc.mask, (x.carEvent src).doc.service) = (x.doc.mask, x.doc.service) := by
  refine Machine.foldl_keeps (fun y : Wing => (y.doc.mask, y.doc.service)) (fun y b => ?_) _ x
  unfold Wing.bellEvent
  dsimp only
  split
  · split
    · rfl
    · split <;> rfl
    · rfl
  · rfl

/-! The rings. -/

theorem exec_ringPublish {w : WingId} {s : State} {r : Fin 16} (ha : (s.wing w).awake = true) (v : Word) (h : r.val ≠ 15) :
    exec (.ringPublish w r v) s = .next (s.setWing w ((s.wing w).corePublish r v)) := by
  refine (byCore_awake ha _).trans (congrArg Host.Outcome.next ?_)
  unfold State.ringRegWrite
  rw [if_pos (by omega), if_neg (by omega), show (0x20 * r.val + 0xF) / 0x20 = r.val by omega, show (0x20 * r.val + 0xF) % 0x20 = 0xF by omega]
  rfl

theorem exec_ringPublish_bridge {w : WingId} {s : State} (ha : (s.wing w).awake = true) (v : Word)
    (h : ((s.wing w).corePublish 15 v).flag 0x2A0200 true = false) :
    exec (.ringPublish w 15 v) s = .next (s.setWing w ((s.wing w).corePublish 15 v)) := by
  have hfl : (!((s.setWing w ((s.wing w).corePublish 15 v)).wing w).flag 0x2A0200 true) = true := by
    rw [State.wing_setWing, h]
    rfl
  exact (byCore_awake ha _).trans (congrArg Host.Outcome.next (if_pos hfl))

theorem Wing.flag_of_cat {x y : Wing} (h : y.cat = x.cat) (k : Nat) (d : Bool) : y.flag k d = x.flag k d := by
  unfold Wing.flag Wing.num
  rw [h]

theorem corePuts_iff (r : Nat) (h : r < 16) : corePuts r = true ↔ r = 4 ∨ r = 5 ∨ r = 10 ∨ r = 11 ∨ 14 ≤ r := by
  unfold corePuts
  simp only [Bool.or_eq_true, beq_iff_eq]
  omega

/-- The words of the descriptor that the write of IN7 completes (R452). -/
theorem Wing.corePublish_puts {r : Nat} {x : Wing} (v : Word) (h : corePuts r = true) :
    x.corePublish r v = (x.publish r (decide (14 ≤ r)) (tgets 0 (x.ring r).stage 0 7 ++ [v])).2 := if_pos h

theorem Wing.publish_put {r : Nat} {x : Wing} (src : Bool) (d : List Word) (h : ((x.ring r).put - (x.ring r).take).toNat < (x.ring r).depth) :
    (x.publish r src d).2 = ((x.sts ((x.ring r).slot (x.ring r).put) d).setRing r { x.ring r with put := (x.ring r).put + 1 }).raiseIf src (ringSource r) :=
  congrArg Prod.snd (if_neg (fun hf => Nat.not_lt.mpr (of_decide_eq_true hf) h))

theorem Wing.publish_refused {r : Nat} {x : Wing} (src : Bool) (d : List Word) (h : (x.ring r).depth ≤ ((x.ring r).put - (x.ring r).take).toNat) :
    (x.publish r src d).2 = x.ringRefuse r :=
  congrArg Prod.snd (if_pos (decide_eq_true h))

theorem coreTakes_iff (r : Nat) : coreTakes r = true ↔ r < 4 ∨ (6 ≤ r ∧ r ≤ 9) ∨ 13 ≤ r := by
  unfold coreTakes
  rw [Bool.or_eq_true, Bool.or_eq_true, Bool.and_eq_true, decide_eq_true_eq, decide_eq_true_eq, decide_eq_true_eq, decide_eq_true_eq, or_assoc]

theorem Ring.count_eq_zero (g : Ring) : g.count = 0 ↔ g.put = g.take := by
  unfold Ring.count
  constructor <;> intro h <;> bv_omega

theorem Wing.flsRelease_none {x : Wing} (h : x.fls.held = []) : x.flsRelease = x := by
  unfold Wing.flsRelease
  rw [h]

/-- The core takes a descriptor of a ring whose source does not stand for room (R453). -/
theorem Wing.coreTake_one {r : Nat} {x : Wing} (hr : r < 4 ∨ (6 ≤ r ∧ r ≤ 9) ∨ 14 ≤ r) (hq : (x.ring r).put ≠ (x.ring r).take) (hh : x.fls.held = []) :
    x.coreTake r = x.setRing r { x.ring r with take := (x.ring r).take + 1 } := by
  have ht : coreTakes r = true := by
    unfold coreTakes
    rw [Bool.or_eq_true, Bool.or_eq_true, Bool.and_eq_true, decide_eq_true_eq, decide_eq_true_eq, decide_eq_true_eq, decide_eq_true_eq]
    omega
  have hs : (r == 4 || r == 5 || r == 10 || r == 11) = false := by
    simp only [Bool.or_eq_false_iff, beq_eq_false_iff_ne]
    omega
  have htook : x.ringTook r = x.setRing r { x.ring r with take := (x.ring r).take + 1 } := by
    refine (if_neg (fun hc => hq ((Ring.count_eq_zero _).mp hc))).trans ?_
    rw [hs]
    rfl
  refine (if_pos ht).trans ?_
  rw [htook]
  exact Wing.flsRelease_none hh

theorem Wing.coreTake_none {r : Nat} {x : Wing} (hq : (x.ring r).put = (x.ring r).take) (hh : x.fls.held = []) : x.coreTake r = x := by
  unfold Wing.coreTake
  rw [show x.ringTook r = x from if_pos ((Ring.count_eq_zero _).mpr hq), Wing.flsRelease_none hh, ite_self]

theorem corePass_may {r : Nat} {g : Ring} : ((r == 4 || r == 5) && g.pass != g.put) = true ↔ (r = 4 ∨ r = 5) ∧ g.pass ≠ g.put := by
  rw [Bool.and_eq_true, Bool.or_eq_true, beq_iff_eq, beq_iff_eq, bne_iff_ne]

/-! The mailboxes. -/

theorem exec_mbxLock {w : WingId} {s : State} {m : Fin 8} (ha : (s.wing w).awake = true) : exec (.mbxLock w m) s =
    .next (s.setWing w { ((s.wing w).mbLock (s.role w) m).2 with rdata := ((s.wing w).mbLock (s.role w) m).1 }) := by
  have hread : s.mbxRead w (0x20 * m + 0x10) = (((s.wing w).mbLock (s.role w) m).1, s.setWing w ((s.wing w).mbLock (s.role w) m).2) := by
    unfold State.mbxRead
    dsimp only
    rw [if_neg (by omega), if_neg (by omega), show (0x20 * m.val + 0x10) / 0x20 = m.val by omega, show (0x20 * m.val + 0x10) % 0x20 = 0x10 by omega]
    rfl
  change execMbxLock w m s = _
  unfold execMbxLock
  rw [hread]
  refine (byCore_awake ha _).trans (congrArg Host.Outcome.next ?_)
  unfold State.modWing
  rw [State.wing_setWing, State.setWing_setWing]

/-- What the lock attempt reads, by the state of the mailbox (R457). -/
theorem Wing.mbLock_cases (r : Role) (m : Nat) (x : Wing) :
    (coreMaySend r m = true → (x.mb m).state = .free →
      x.mbLock r m = (0, x.setMb m { x.mb m with state := .locked, party := some .core, data := [], sender := 0 })) ∧
    (coreMaySend r m = true → (x.mb m).state = .locked → (x.mb m).party = some .core → x.mbLock r m = (3, x)) ∧
    (coreMaySend r m = true → ((x.mb m).state = .locked ∧ (x.mb m).party ≠ some .core ∨ (x.mb m).state = .full) → x.mbLock r m = (1, x.mbRefuse m 2)) ∧
    (¬coreMaySend r m = true → x.mbLock r m = (2, x.mbRefuse m 2)) := by
  have hgo : coreMaySend r m = true → ¬(!coreMaySend r m) = true := by
    intro h
    rw [h]
    exact Bool.false_ne_true
  unfold Wing.mbLock
  dsimp only
  refine ⟨fun hm hf => ?_, fun hm hl hp => ?_, fun hm h => ?_, fun hm => ?_⟩
  · rw [if_neg (hgo hm), hf]
  · rw [if_neg (hgo hm), hl]
    exact if_pos hp
  · rw [if_neg (hgo hm)]
    obtain ⟨hl, hp⟩ | hf := h
    · rw [hl]
      exact if_neg hp
    · rw [hf]
  · rw [if_pos ((Bool.not_eq_true' _).mpr (Bool.eq_false_iff.mpr hm))]

/-- A receiver that acknowledges a full mailbox is not refused (R459). -/
theorem mbAck_taken {a : Bool} {f : MbxState} (hr : a = true) (hf : f = .full) : ¬(!a || decide (f ≠ .full)) = true := by
  rw [hr, hf]
  decide

/-- The acknowledgement of a twin's message frees the mailbox, and the next one may follow (R310, R459). -/
theorem State.mbAck_relay {w m n : Nat} {s : State} (code : Octet) (hr : coreReceives (s.role w) m = true) (hf : ((s.wing w).mb m).state = .full)
    (hp : ((s.wing w).mb m).party = some (.relay n)) : s.mbAck w m code = (s.modWing w (Wing.mbEnd m (ackStored code))).relayDrain w := by
  unfold State.mbAck
  dsimp only
  rw [if_neg (mbAck_taken hr hf), hp]

/-- The acknowledgement of a session's notice: one that is not taken is answered (R459). -/
theorem State.mbAck_session {w m n : Nat} {s : State} (code : Octet) (hr : coreReceives (s.role w) m = true) (hf : ((s.wing w).mb m).state = .full)
    (hp : ((s.wing w).mb m).party = some (.session n)) : let t := s.modWing w (Wing.mbEnd m (ackStored code))
    s.mbAck w m code = if ackStored code = 1 then t.answer w n .busy [] else if ackStored code = 2 then t.answer w n .badMessage [] else t := by
  unfold State.mbAck
  dsimp only
  rw [if_neg (mbAck_taken hr hf), hp]

theorem State.mbAck_other {w m : Nat} {s : State} (code : Octet) (h : ¬(coreReceives (s.role w) m = true ∧ ((s.wing w).mb m).state = .full)) :
    s.mbAck w m code = s.modWing w (Wing.mbRefuse m 3) := by
  refine if_pos ?_
  rw [Bool.or_eq_true, Bool.not_eq_true', decide_eq_true_eq, ← Bool.not_eq_true, ← Classical.not_and_iff_not_or_not]
  exact h

/-- The end of a message that another party sent frees the mailbox alone (R459). -/
theorem Wing.mbEnd_received {m : Nat} {x : Wing} (code : Octet) (h : (x.mb m).party ≠ some .core) : x.mbEnd m code =
    x.setMb m { x.mb m with state := .free, party := none, data := [], acked := true, code := code } := by
  unfold Wing.mbEnd
  dsimp only
  rw [decide_eq_false h, Bool.or_false]
  rfl

theorem ackStored_eq (c : Octet) : ackStored c = if 3 ≤ c.toNat ∧ c.toNat < 0x80 then 2 else c := by
  unfold ackStored
  simp only [Bool.and_eq_true, decide_eq_true_eq]

/-- Settles O58: the Docent, the rings and the mailboxes of an awake core. -/
theorem docentRingsMailboxes : Obligations.DocentRingsMailboxes := by
  unfold Obligations.DocentRingsMailboxes
  intro w v g m r code s x d b q group raised ha
  have hgo : ∀ t, byCore w s t = .next t := byCore_awake ha
  obtain ⟨hset, hclr, hmset, hmclr⟩ := State.docWrite_groups w g v s
  refine ⟨docentClaim_none ha, fun n hn => ?claim, fun applet => ?doorbell, ?pendset, ?pendclr, ?maskset, ?maskclr, ?publish, ?rings, ?lock, ?ack⟩
  case claim =>
    refine ⟨_, docentClaim_winner ha hn, ?_⟩
    dsimp only
    have hlt := Docent.winner_lt hn
    rw [State.wing_modWing, State.wing_modWing, State.docClear_wing]
    refine ⟨Docent.peek_winner hn, ?_, ?_, rfl, (State.docClear_latches w n s).1, (State.docClear_latches w n s).2, fun i hi => ⟨?_, ?_⟩⟩
    · exact (Docent.clear_getLsbD n d ⟨n, hlt⟩).trans (by rw [decide_eq_true rfl, Bool.not_true, Bool.and_false])
    · change (d.service ||| BitVec.twoPow 128 n).getLsbD n = true
      rw [BitVec.getLsbD_or, BitVec.getLsbD_twoPow, decide_eq_true hlt, decide_eq_true rfl]
      exact Bool.or_true _
    · exact (Docent.clear_getLsbD n d i).trans (by rw [decide_eq_false (Ne.symm hi), Bool.not_false, Bool.and_true])
    · change (d.service ||| BitVec.twoPow 128 n).getLsbD i = d.service.getLsbD i
      rw [BitVec.getLsbD_or, BitVec.getLsbD_twoPow, decide_eq_false (Ne.symm hi), Bool.and_false, Bool.or_false]
  case doorbell =>
    intro low
    have he : exec (.doorbell w applet v) s = .next (s.setWing w (x.doorbell applet v)) := hgo _
    refine ⟨fun hl hh => ⟨_, he, ?_⟩, fun h => ⟨_, he, ?_⟩⟩
    · dsimp only
      rw [State.wing_setWing, show x.doorbell applet v = (x.carEvent 8).raise v.toNat from
        if_pos ((Bool.and_eq_true _ _).mpr ⟨decide_eq_true hl, decide_eq_true hh⟩)]
      have hkept := Wing.carEvent_doc 8 x
      exact ⟨Docent.raise_pend hh _, (congrArg Prod.fst hkept :), (congrArg Prod.snd hkept :)⟩
    · have hn : ¬(decide (low ≤ v.toNat) && decide (v.toNat < 128)) = true := by
        rw [Bool.and_eq_true, decide_eq_true_eq, decide_eq_true_eq]
        omega
      dsimp only
      rw [State.wing_setWing, show x.doorbell applet v = (x.carEvent 8).bump 0xFF0006 0x290002 from if_neg hn]
      exact ⟨rfl, rfl⟩
  case pendset =>
    refine ⟨_, (hgo _).trans (congrArg Host.Outcome.next hset), fun i => ?_⟩
    rw [State.wing_modWing]
    exact Wing.pendSet_getLsbD g v x i
  case pendclr =>
    obtain ⟨hpend, hmask⟩ := State.pend_foldl_clear (fun k => bit v.toNat k) w g (List.range 16) s
    refine ⟨_, (hgo _).trans (congrArg Host.Outcome.next hclr), fun i => (hpend i).trans ?_, hmask⟩
    rw [any_group, bit_toNat, group_clear]
  case maskset =>
    refine ⟨d.mask ||| docBits g v, fun i => ?_, (hgo _).trans (congrArg Host.Outcome.next hmset)⟩
    rw [BitVec.getLsbD_or, docBits_getLsbD, group_set]
  case maskclr =>
    refine ⟨d.mask &&& ~~~ docBits g v, fun i => ?_, (hgo _).trans (congrArg Host.Outcome.next hmclr)⟩
    rw [BitVec.getLsbD_and, BitVec.getLsbD_not, decide_eq_true i.isLt, Bool.true_and, docBits_getLsbD, group_clear]
  case publish =>
    intro puts ws put
    have hputs : corePuts r.val = true ↔ puts := corePuts_iff r.val r.isLt
    refine ⟨fun hp => ?_, fun hp hr hq => ?_, fun hp hr hq => ?_, fun hr hf hq => ?_⟩
    · have hr : r.val ≠ 15 := fun h => hp (by omega)
      refine (exec_ringPublish ha v hr).trans (congrArg Host.Outcome.next ?_)
      rw [show (s.wing w).corePublish r v = s.wing w from if_neg (fun h => hp (hputs.mp h)), State.setWing_wing]
    · refine (exec_ringPublish ha v hr).trans (congrArg (fun y => Host.Outcome.next (s.setWing w y)) ?_)
      rw [Wing.corePublish_puts v (hputs.mpr hp), Wing.publish_put _ _ hq]
      by_cases h14 : r.val = 14
      · rw [if_pos h14, decide_eq_true (by omega), show ringSource r.val = 42 by rw [h14]; rfl]
        rfl
      · rw [if_neg h14, decide_eq_false (by omega)]
        rfl
    · refine ⟨_, exec_ringPublish ha v hr, ?_⟩
      dsimp only
      rw [State.wing_setWing, Wing.corePublish_puts v (hputs.mpr hp), Wing.publish_refused _ _ hq]
      exact ⟨rfl, rfl, rfl⟩
    · obtain rfl : r = 15 := Fin.ext hr
      have hput : (s.wing w).corePublish 15 v = put.raise 43 := (Wing.corePublish_puts v rfl).trans (Wing.publish_put _ _ hq)
      have hcat : (put.raise 43).cat = x.cat := by
        obtain ⟨mem, rings, doc, c, e, h⟩ := Wing.publish_eq 15 true (tgets 0 (x.ring 15).stage 0 7 ++ [v]) x
        exact (congrArg Wing.cat (hput.symm.trans ((Wing.corePublish_puts v rfl).trans h)) :)
      have hflag : ((s.wing w).corePublish 15 v).flag 0x2A0200 true = false := by
        rw [hput, Wing.flag_of_cat hcat]
        exact hf
      exact (exec_ringPublish_bridge ha v hflag).trans (congrArg (fun y => Host.Outcome.next (s.setWing w y)) hput)
  case rings =>
    intro takes
    refine ⟨fun ht hq hh => ?_, fun ht hq hh => ?_, fun ht h13 => ?_, fun hr hq => ?_, fun h => ?_⟩
    · refine (hgo _).trans (congrArg (fun y => Host.Outcome.next (s.setWing w y)) ?_)
      exact Wing.coreTake_one (by omega) hq hh
    · refine (hgo _).trans (congrArg Host.Outcome.next ?_)
      rw [State.modWing, Wing.coreTake_none hq hh, State.setWing_wing]
    · refine (hgo _).trans (congrArg Host.Outcome.next ?_)
      rw [State.modWing, show (s.wing w).coreTake r = s.wing w from if_neg (fun h => ?_), State.setWing_wing]
      rw [coreTakes_iff r.val] at h
      omega
    · exact (hgo _).trans (congrArg (fun y => Host.Outcome.next (s.setWing w y)) (if_pos (corePass_may.mpr ⟨hr, hq⟩)))
    · refine (hgo _).trans (congrArg Host.Outcome.next ?_)
      rw [State.modWing, show (s.wing w).corePass r = s.wing w from if_neg (fun hm => ?_), State.setWing_wing]
      obtain ⟨hr, hq⟩ := corePass_may.mp hm
      obtain ⟨h4, h5⟩ | h := h
      · exact hr.elim h4 h5
      · exact hq h
  case lock =>
    intro may reads
    obtain ⟨hfree, hown, hbusy, hno⟩ := Wing.mbLock_cases (s.role w) m x
    have he : ∀ k y, x.mbLock (s.role w) m = (k, y) → exec (.mbxLock w m) s = .next (s.setWing w { y with rdata := k }) := by
      intro k y h
      refine (exec_mbxLock ha).trans ?_
      rw [h]
    refine ⟨fun hm hf => he _ _ (hfree hm hf), fun hm hl hp => he _ _ (hown hm hl hp), fun hm h => ⟨_, he _ _ (hbusy hm h), ?_⟩,
      fun hm => ⟨_, he _ _ (hno hm), ?_⟩, fun hb => ⟨⟨_, hgo _, ?_⟩, (hgo _).trans ?_⟩, fun hb => ⟨(hgo _).trans ?_, (hgo _).trans ?_⟩⟩
    · dsimp only [reads]
      rw [State.wing_setWing]
      exact ⟨rfl, rfl⟩
    · dsimp only [reads]
      rw [State.wing_setWing]
      exact ⟨rfl, rfl⟩
    · dsimp only
      rw [State.wing_modWing, show (s.wing w).mbPost m = _ from if_pos hb]
      exact ⟨rfl, rfl⟩
    · exact congrArg (fun y => Host.Outcome.next (s.setWing w y)) (if_pos hb)
    · rw [State.modWing, show (s.wing w).mbPost m = s.wing w from if_neg (Bool.eq_false_iff.mp hb), State.setWing_wing]
    · rw [State.modWing, show (s.wing w).mbRelease m = s.wing w from if_neg (Bool.eq_false_iff.mp hb), State.setWing_wing]
  case ack =>
    intro mine stored
    refine ⟨fun hm => ⟨_, hgo _, ?_⟩, ?_⟩
    · dsimp only
      rw [State.mbAck_other code hm, State.wing_modWing]
      exact ⟨rfl, rfl⟩
    · intro freed
      have hfreed : b.party ≠ some .core → s.modWing w (Wing.mbEnd m (ackStored code)) = freed := by
        intro hp
        refine congrArg (s.setWing w) ((Wing.mbEnd_received _ hp).trans ?_)
        rw [ackStored_eq]
      refine ⟨fun hm n hp => ?_, fun hm n hp => ?_⟩
      · refine (hgo _).trans (congrArg Host.Outcome.next ((State.mbAck_relay code hm.1 hm.2 hp).trans ?_))
        rw [hfreed (by rw [hp]; simp)]
      · refine (hgo _).trans (congrArg Host.Outcome.next ((State.mbAck_session code hm.1 hm.2 hp).trans ?_))
        rw [hfreed (by rw [hp]; simp), ackStored_eq]

end Sys2Proof.Machine

namespace Sys2Proof.Machine
open Sys2Proof

/-! SUPPORT. A received frame that still waits for its delivery when its wing stops (R160, R220, R283). -/

/-- A unicast frame whose checks have passed and that asks for no acknowledgement. -/
def checkedFrame : RxFrame :=
  { id := 0, desc := [0x1234], psdu := [], kind := 0, nb := 0, cls := .new, epoch := 0, fc := 0, ar := false, endT := 0, dur := 0, ch := 0, prof := 0,
    coded := false, mic := some true, jrn := some true }

/-- A RUNNING wing with its stop request, nothing to transmit and that frame in its link engine. -/
def stoppingWing : Wing := { sys := { state := .running, stopReq := true }, lnk := { rx := [checkedFrame] } }

/-- The device with that wing. -/
def stoppingState : State := State.reset.setWing 0 stoppingWing

/-- As the wing enters STOPPED the frame's descriptor goes to ring 7, at the first word of its place in SRAM. -/
theorem stoppingState_delivers : ∃ t, exec (.wingEnterStopped 0) stoppingState = .next t ∧ tget 0 (t.wing 0).sram 0x109A00 = 0x1234 :=
  ⟨_, rfl, by decide +kernel⟩

/-- Refutes O60: a wing that enters STOPPED sweeps the frames whose checks have passed, and a frame that waits there is delivered to its ring, so that
SRAM does not stay as it was. -/
theorem not_bootAndTrust : ¬ Obligations.BootAndTrust := by
  unfold Obligations.BootAndTrust
  intro h
  obtain ⟨-, -, hstop, -⟩ := h 0 0 stoppingState
  obtain ⟨t, he, -, -, hsram, -⟩ := hstop (by decide +kernel) (by decide +kernel) (by decide +kernel) (by decide +kernel)
  obtain ⟨u, hu, hword⟩ := stoppingState_delivers
  obtain rfl : t = u := Host.Outcome.next.inj (he.symm.trans hu)
  have hkept : tget 0 (stoppingState.wing 0).sram 0x109A00 = 0x1234 := (congrArg (fun m => tget 0 m 0x109A00) hsram).symm.trans hword
  exact absurd hkept (by decide +kernel)

end Sys2Proof.Machine
